-- ==== Sys2Proof/Word.lean ====
section
/-! DEFINITION. Words and sparse tables: the 32-bit register word (R7), the byte, and the list of
key and value pairs that holds every sparse piece of state. -/

namespace Sys2Proof

/-- R7: registers are 32 bits wide. -/
abbrev Word := BitVec 32

/-- One byte of memory or of a frame. -/
abbrev Byte := BitVec 8

/-- A sparse table: pairs of a key and a value, keys strictly rising, no value equal to the
value that an unlisted key reads as. -/
abbrev KV (α : Type) := List (Nat × α)

end Sys2Proof
end

