-- ==== Sys2Proof/Config.lean ====
section
/-! DEFINITION. What one device fixes and the spec leaves open: straps and fuses, the contents of
the boot ROM, and the free values. None has a body, so nothing can be proved of a value of it. -/

namespace Sys2Proof

/-- Where an EVX0640 microcode word puts its result: nowhere, an accumulator, an element of its data space, a
word of its command record with or without FIN; or it ends its graph, or is illegal. -/
inductive EvxDst where
  | quiet
  | acc (r : Fin 8)
  | data (a : BitVec 17)
  | out (w : BitVec 10) (fin : Bool)
  | graphEnd
  | illegal
deriving DecidableEq, Repr, Inhabited

/-- What an EVX0640 word names (R76 to R78): its destination, its issue slots less one, the data addresses of
its multiplicands and the accumulators that it reads. -/
structure EvxForm where
  dst : EvxDst
  slots1 : Fin 4
  x : Option (BitVec 17)
  y : Option (BitVec 17)
  accs : List (Fin 8)
deriving DecidableEq, Repr, Inhabited

/-- What an EVX0640 word names, at a value of the model's own counter. The spec names the EVX0640 instruction
set and does not give it, so this is free (log entry 6). -/
opaque Config.evxForm : Nat → Nat → EvxForm

/-- The result and the arithmetic status flags, bits 5:0 of Table 2-7, of an EVX0640 word on its multiplicands and accumulators, at a value of the
model's own counter: free likewise (log entry 6). -/
opaque Config.evxResult : Nat → Nat → Nat → List Nat → Nat → BitVec 32 × BitVec 6

/-- The free values: what the spec calls undefined, or states no result for, is the value of this
function at the model's own counter (log entry 3). -/
opaque Config.freeValue : Nat → BitVec 64

/-- Phase of the symbol clock of a ring port against TBCLK, in 1/80 of its period, at a value of the model's own
counter: one value from power-on of PD_NET to the next, which the spec leaves open (R217, log entry 3). -/
opaque Config.symbolPhase : Nat → Nat → BitVec 8

/-- Relative error of Marrow's oscillator at an instant of the time that always passes, in parts per million above
−3 %, modulo 60,001: one at any instant, and free within ±3 % (R480, log entry 15). -/
opaque Config.marrowError : Nat → Nat

/-- Contents of the boot ROM, by byte offset; the spec gives no contents (log entry 4). -/
opaque Config.romByte : Nat → Byte

/-- Fuse GRADE of PCR_DEVID (R3). -/
opaque Config.grade : Bool

/-- Fuse DBGLK: debug lock (R471). -/
opaque Config.dbgLock : Bool

/-- Fuse map of the repairs of macro n (R402): bit 5 its entry fails its check, bits 4:3 spare
symbol-columns assigned, bits 2:0 spare rows assigned. -/
opaque Config.fuseMap : Nat → BitVec 6

/-- R402: position (bits 6:3) and segment (bits 2:0) of the i-th spare symbol-column that the fuse map assigns in macro n. -/
opaque Config.fuseColumn : Nat → Nat → BitVec 7

/-- Size of the external flash in bytes, as Glipor's flash description gives it (R423, R444). -/
opaque Config.flashSize : Nat

/-- Key slots programmed: slot 0 at production test (R426), the others as bits 3:1 say. -/
opaque Config.keyProg : BitVec 3

/-- SHA-256 of the public key of a key slot, in one-time fuses (R426). -/
opaque Config.keyHash : Nat → BitVec 256

/-- Anti-rollback counter as it was before the first FW_COMMIT (R426). -/
opaque Config.svnFuse : Nat

/-- Key slots revoked before the first KEY_REVOKE (R426). -/
opaque Config.revFuse : BitVec 4

/-- The request layout of a Glipor command allows a LEN (R422); the layouts are not in the spec. -/
opaque Config.lenOk : Nat → Nat → Bool

/-- R416: two requests, by the bytes of their mailboxes, write shadows of a common commit group; the layouts are not in
the spec (log entry 224). -/
opaque Config.shadowClash : List Nat → List Nat → Bool

/-- Response payload that Glipor lays out for a command from the values it returns (R422). -/
opaque Config.layout : Nat → List Nat → List (BitVec 8)

/-- Where Glipor stages image chunks in tightly coupled memory (Table 15-6). -/
opaque Config.stageBase : Nat

/-- Contents of the boundary register when the boundary is sampled (R468); the cells are not in the spec. -/
opaque Config.boundary : Nat → Nat

/-- What a boundary scan shifts into the boundary register (R468); the cells are not in the spec. -/
opaque Config.boundaryIn : Nat → Nat

end Sys2Proof
end

