-- ==== Sys2Proof/Syntax.lean ====
section
/-! DEFINITION. The commands of the block: one constructor per row of the opcode table. The table
gives its rows no operand bits, so the operands here are what the rule of each row speaks of. -/

namespace Sys2Proof

/-- A frame of a ring or a record of a cascade port as it is on the wire (Tables 7-5 and 10-2): the data
byte of a notice in its lead pair, header bytes h0 to h7 with h0 lowest, payload in 32-bit words, CRC,
whether a K30.7 stands between SD and ED, the invalid code groups there, the wire byte of ED. -/
structure Frame where
  lead : Option Byte
  head : BitVec 64
  words : List Word
  crc : Word
  abort : Bool
  cv : Nat
  edAt : Nat
deriving DecidableEq, Repr


/-- Levels at the release of reset: the FREEZE ball (R472), the straps HOSTSEL (1 is quad-SPI, R405) and CASID (R278). -/
structure Straps where
  freeze : Bool
  hostSel : Bool
  cid : Fin 4
deriving DecidableEq, Repr

/-- PCI Express configuration space as the host has written it (R406): Bus Master Enable, MSI and MSI-X
enables, function mask of MSI-X, the binary logarithm of the MSI vectors enabled, maximum payload 256 bytes,
maximum read request of 128 × 2^mrrs bytes, D3hot, MSI address, data and mask, BAR0 and BAR2. -/
structure PcieCfg where
  bme : Bool
  msiEn : Bool
  msixEn : Bool
  msixMask : Bool
  msiLog : Fin 6
  mps256 : Bool
  mrrs : Fin 6
  d3hot : Bool
  msiAddr : BitVec 64
  msiData : BitVec 16
  msiMask : Word
  bar0 : Word
  bar2 : BitVec 64
deriving DecidableEq, Repr

/-- What the receivers DA, DB and DZ of a local channel gave in the sysclk that end with the present one, oldest
first (R174). -/
structure LineSamples where
  ch : Fin 8
  a : List Bool
  b : List Bool
  z : List Bool
deriving DecidableEq, Repr

/-- The three lines sysclk by sysclk, the first one in bit 2. -/
def lineLevels (a b z : List Bool) : List (BitVec 3) :=
  List.zipWith (fun x (yz : Bool × Bool) => BitVec.ofNat 3 (x.toNat * 4 + yz.1.toNat * 2 + yz.2.toNat)) a (List.zip b z)

/-- What a receiver has of its link (R201): signal, clock-data recovery lock, comma alignment. -/
structure RxHas where
  signal : Bool
  lock : Bool
  align : Bool
deriving DecidableEq, Repr

/-- A ring receiver: CTLE code and DFE saturation of its equaliser (R200), what it has of its link. -/
structure RxEq where
  ctle : Fin 16
  dfesat : Bool
  has : RxHas
deriving DecidableEq, Repr

/-- What a ring receiver has seen (R201, R202): errors outside frames since the last report, symbols in a row without
signal and without a comma, which of the last 16 symbols were invalid, RFAULT pairs in a row. -/
structure RxFail where
  cv : Fin 65536
  absent : Nat
  silent : Nat
  bad : BitVec 16
  rfault : Nat
deriving DecidableEq, Repr

/-- What a cascade receiver shows of its eye and has of its link, and the symbols in a row without an error since it has
signal, lock and alignment (R201, R279). -/
structure CasUp where
  eye : Fin 256
  has : RxHas
  clean : Nat
deriving DecidableEq, Repr

/-- A cascade port and what its receiver has seen (R201, R279, R281). -/
structure CasLoss where
  port : Fin 3
  rx : RxFail
deriving DecidableEq, Repr

/-- An output channel and for how many ticks what the command names has acted on it (R344, R347). -/
structure ChanTime where
  ch : Fin 8
  dur : Nat
deriving DecidableEq, Repr

/-- A trigger pin and the direction of its edge (R327). -/
structure PinEdge where
  pin : Fin 2
  rising : Bool
deriving DecidableEq, Repr

/-- Whether the rewrites of the two confirmation copies succeed (R377). -/
structure FlashOk where
  first : Bool
  second : Bool
deriving DecidableEq, Repr

/-- Kind of a processor access. -/
inductive AccessKind where
  | fetch
  | load
  | store
deriving DecidableEq, Repr

/-- The commands, in the order of the opcode table. -/
inductive Instr where
  /-- CYCLE_START (R253): The time base reaches a multiple of the cycle length and a new network cycle starts; this is also the sampling instant of the cycle. -/
  | cycleStart
  /-- COMMIT_CUTOFF (R35): 1,000 ns before the next cycle start, every requested commit group is copied to staging and checked. -/
  | commitCutoff
  /-- CMT_REQ (R36): A write to xx_CMT_REQ sets request bits for commit groups. -/
  | cmtReq (blk : Fin 17) (w : Word)
  /-- COMMIT_APPLY_IDLE (R39): While no cycles run, a requested group is checked and applied within 64 sysclk of the request. -/
  | commitApplyIdle
  /-- REGISTER_WRITE (R32): A write to a register with no row of its own stores shadows or fields, with the access checks of R8, R30 and R31. -/
  | registerWrite (addr : Word) (be : BitVec 4) (w : Word)
  /-- RC_FIELD_READ (R9): A read of a read-to-clear counter field returns and clears it. -/
  | rcFieldRead (addr : Word) (be : BitVec 4)
  /-- PROCESSOR_ABORT (R28): A processor access to an unmapped address, a boot ROM write, a bad fetch or an uncorrectable read raises a precise abort. -/
  | processorAbort (addr : Word) (kind : AccessKind) (ordinary : Bool)
  /-- NOP (R60): A pea issues NOP. -/
  | nop (pod pea ctx : Fin 4)
  /-- FMA (R60): A pea issues a fused multiply-add with one rounding. -/
  | fma (pod pea ctx : Fin 4)
  /-- MUL (R60): A pea issues a multiply. -/
  | mul (pod pea ctx : Fin 4)
  /-- ADD (R60): A pea issues an add. -/
  | add (pod pea ctx : Fin 4)
  /-- MOV (R64): A pea issues a bit copy of X. -/
  | mov (pod pea ctx : Fin 4)
  /-- LDZ (R64): A pea issues a bit copy of Z. -/
  | ldz (pod pea ctx : Fin 4)
  /-- IADD (R60): A pea issues a 32-bit integer add. -/
  | iadd (pod pea ctx : Fin 4)
  /-- ISUB (R60): A pea issues a 32-bit integer subtract. -/
  | isub (pod pea ctx : Fin 4)
  /-- MIN (R60): A pea issues a floating-point minimum. -/
  | fmin (pod pea ctx : Fin 4)
  /-- MAX (R60): A pea issues a floating-point maximum. -/
  | fmax (pod pea ctx : Fin 4)
  /-- MINX (R70): A pea issues a minimum search with index. -/
  | minx (pod pea ctx : Fin 4)
  /-- MAXX (R70): A pea issues a maximum search with index. -/
  | maxx (pod pea ctx : Fin 4)
  /-- CLT (R64): A pea issues a less-than compare into C. -/
  | clt (pod pea ctx : Fin 4)
  /-- CLE (R64): A pea issues a less-or-equal compare into C. -/
  | cle (pod pea ctx : Fin 4)
  /-- CEQ (R64): A pea issues an equality compare into C. -/
  | ceq (pod pea ctx : Fin 4)
  /-- SEL (R64): A pea issues a select on C. -/
  | sel (pod pea ctx : Fin 4)
  /-- ABS (R60): A pea issues an absolute value. -/
  | abs (pod pea ctx : Fin 4)
  /-- CVTFQ (R67): A pea converts binary32 to fixed point by truncation. -/
  | cvtfq (pod pea ctx : Fin 4)
  /-- CVTQF (R69): A pea converts fixed point to binary32 with rounding. -/
  | cvtqf (pod pea ctx : Fin 4)
  /-- RCP (R61): A pea issues a reciprocal over two slots. -/
  | rcp (pod pea ctx : Fin 4)
  /-- DIV (R61): A pea issues a divide over three slots. -/
  | div (pod pea ctx : Fin 4)
  /-- SQRT (R61): A pea issues a square root over three slots. -/
  | sqrt (pod pea ctx : Fin 4)
  /-- RSQ (R61): A pea issues a reciprocal square root over three slots. -/
  | rsq (pod pea ctx : Fin 4)
  /-- SINCOS (R61): A pea issues sine and cosine of 2πX into a register pair. -/
  | sincos (pod pea ctx : Fin 4)
  /-- LOOP (R71): A pea starts a loop over the next N words repeated M times from the loop cache. -/
  | opLoop (pod pea ctx : Fin 4)
  /-- OUT (R63): A pea writes X to the network buffer at OB + YOFF, optionally with FIN. -/
  | opOut (pod pea ctx : Fin 4)
  /-- END (R92): A graph ends, its context is freed, its CHAIN releases are registered and the AX and PG blocks take its results. -/
  | opEnd (pod pea ctx : Fin 4)
  /-- ILLEGAL_WORD (R75): A reserved opcode or illegal field ends the graph as by END and sets ILL. -/
  | illegalWord (pod pea ctx : Fin 4)
  /-- EVX0640_INSTRUCTION (R78): A pea in a COMPAT pod issues an EVX0640 microcode word at half rate. -/
  | evx0640Instruction (pod pea ctx : Fin 4)
  /-- RELEASE_REGISTRATION (R86): The release stage registers a release into the pod's ready queue, possibly in a later tick when the stage is full. -/
  | releaseRegistration (pod : Fin 4)
  /-- CYCLE_RELEASE (R85): A CYCLE source descriptor is released at its tick offset after cycle start. -/
  | cycleRelease (pod : Fin 4) (idx : Fin 256)
  /-- DISPATCH (R90): In each tick the pod dispatches the highest-ranked admissible entry into a suitable free context. -/
  | dispatch (pod : Fin 4)
  /-- SLOT_BOUND (R101): A graph reaches issue slot SLOTS without END, or ends early, and is ended as BND. -/
  | slotBound (pod pea ctx : Fin 4)
  /-- DEADLINE (R102): At the pod's deadline instant, remaining work of the cycle is ended as OVR and the dispatch signature is latched. -/
  | deadline (pod : Fin 4) (back : Fin 3)
  /-- POD_SLEEP (R451): A pod idle for 64 ticks power-gates its peas and scheduler datapath. -/
  | podSleep (pod : Fin 4)
  /-- POD_WAKE (R451): A window opening, relay record, WOFS instant or release triggers a sleeping pod to wake. -/
  | podWake (pod : Fin 4)
  /-- POD_WAKE_COMPLETE (R451): A pod wake completes within 64 ticks of its trigger. -/
  | podWakeComplete (pod : Fin 4)
  /-- ACK (R129): A write to AX_ACK_n requests acknowledgement of the latched reaction state, evaluated at the next cycle start. -/
  | axAck (axis : Fin 256)
  /-- PG_TAPP (R157): A write to PG_TAPP_n appends COUNT table points, or is refused. -/
  | pgTapp (axis : Fin 256) (count : Fin 32768)
  /-- PG_TAPP_SKIP (R159): An append with SKIP sets the wrap mark and appends from index 0 while a geometry change is pending. -/
  | pgTappSkip (axis : Fin 256) (count : Fin 32768)
  /-- OUTPUT_PHASE (R23): At the output phase the step generators take their records and the encoder emulators take their source values. -/
  | outputPhase
  /-- STEP_ISSUE (R161): The step interval timer expires and a step starts on its pair. -/
  | stepIssue (pair : Fin 8)
  /-- STEP_PULSE_END (R191): PW ticks after a step start, STEP_OUT returns to its inactive level. -/
  | stepPulseEnd (pair : Fin 8)
  /-- LOCAL_RECORD_COMPLETE (R171): A local channel's sample record is complete at its fixed offset and its LOCAL release registers. -/
  | localRecordComplete (ch : Fin 8) (rawS rawC : BitVec 14)
  /-- QUADRATURE_EDGE (R174, R175): A filtered A or B change counts ±1 or is an illegal transition. `a`, `b`, `z`: what
  the receivers DA, DB and DZ gave in the sysclk that end with the present one, oldest first. -/
  | quadratureEdge (ch : Fin 8) (a b z : List Bool)
  /-- INDEX_LATCH (R174, R176): A rising filtered Z or reference mark latches the count into ZPOS. `levels` as in
  QUADRATURE_EDGE. -/
  | indexLatch (lines : LineSamples)
  /-- MAGNETIC_SWITCH_EDGE (R174, R178): A change of the U, V, W state counts or flags ILLT or HALLERR. `levels` as in
  QUADRATURE_EDGE. -/
  | magneticSwitchEdge (ch : Fin 8) (u v w : List Bool)
  /-- QUARTER_COUNT (R180): A sine/cosine comparator change moves the quarter counter. -/
  | quarterCount (ch : Fin 8) (quad : Fin 4)
  /-- FREE_CONVERSION (R181): A free-running sine/cosine conversion is checked against the amplitude limits. -/
  | freeConversion (ch : Fin 8) (rawS rawC : BitVec 14)
  /-- LOS (R177): A receiver below the loss threshold for 1 µs sets LOS. -/
  | losEdge (ch : Fin 8)
  /-- EMULATION_EDGE (R190): The emulator's edge timer expires and one quadrature edge is issued. -/
  | emulationEdge (out : Fin 2)
  /-- UPLINK_FRAME (R211): A frame arriving at a port is checked by the hub guardian and admitted, cut or discarded. -/
  | uplinkFrame (port : Fin 8) (sd : Nat) (fr : Frame)
  /-- FRAME_ACCEPT (R213): 32 ticks after ED an admitted frame's payload is written to its record and its ARRIVAL release registers. -/
  | frameAccept (ring : Fin 4) (slot : Fin 80)
  /-- UPLINK_MISS (R246): 32 ticks after a window end with no admitted frame, the record is aged and the release registers. -/
  | uplinkMiss (ring : Fin 4) (slot : Fin 80)
  /-- RELAY_COPY (R214): 24 ticks after acceptance the hub's relay copies are ready for their downlink slot or cascade port. -/
  | relayCopy (ring : Fin 4) (slot : Fin 80)
  /-- ECHO (R211): A DATA-DN frame returning at port B is checked against its echo window. -/
  | netEcho (ring : Fin 4) (sd : Nat) (fr : Frame)
  /-- PROBE_SEND (R239): A PROBE leaves port A or B at its scheduled instant in the round. -/
  | probeSend (port : Fin 8)
  /-- PROBE_RETURN (R240): A returning probe is timed and updates RTTA, RTTB or TAUB. -/
  | probeReturn (port : Fin 8) (sd : Nat) (fr : Frame)
  /-- PROBE_LOST (R240): A probe not returned within two cycle lengths is lost; four losses mark the value invalid. -/
  | probeLost (port : Fin 8) (num : Fin 65536)
  /-- LOOP_NOTICE (R219): A LOOP notice at a port sets JA or JB. -/
  | loopNotice (port : Fin 8) (pos : Fin 80)
  /-- SEGOK_NOTICE (R219): A SEGOK notice sets SEGOKA or SEGOKB. -/
  | segokNotice (port : Fin 8) (pos : Fin 80)
  /-- LINK_UP (R201): A ring receiver declares its link up after 1,024 clean symbols. `clean`: symbols in a row without
  an error since signal, lock and alignment. -/
  | linkUp (port : Fin 8) (eye : Fin 256) (eq : RxEq) (clean : Nat)
  /-- LINK_LOSS (R201): A ring receiver declares its link lost. -/
  | linkLoss (port : Fin 8) (rx : RxFail)
  /-- DOWNLINK_DEPARTURE (R247): At a downlink slot's departure the command record is sent, repeated aged or omitted. -/
  | downlinkDeparture (ring : Fin 4) (slot : Fin 80)
  /-- BEACON_SEND (R236): A beacon leaves port A at BDEP. -/
  | beaconSend (ring : Fin 4)
  /-- SYNC_SEND (R259): A downlink SYNC frame leaves its port at its slot instant. -/
  | syncSend (port : Fin 8)
  /-- PROBE (R239): A write of PROBE to NET_RING_CMD_r inserts a probe round over the integrated positions. -/
  | netProbe (ring : Fin 4)
  /-- RESTORE (R222): A write of RESTORE orders the ring restored through UNLOOP. -/
  | netRestore (ring : Fin 4)
  /-- AUTO_RESTORE (R222): Both SEGOK notices held for 1,024 cycles with AUTORST set orders restoration. -/
  | autoRestore (ring : Fin 4)
  /-- START (R231): START in SLT_CS_CMD moves the controller from OFF to LISTEN. -/
  | csStart
  /-- STOP (R231): STOP in SLT_CS_CMD moves the controller to OFF. -/
  | csStop (withStart : Bool)
  /-- LISTEN_TIMEOUT (R233): Two cycle lengths in LISTEN without a beacon end with entry to COLD. -/
  | listenTimeout
  /-- BEACON_RECEIVE (R233): A beacon on a cascade port moves the controller to FOLLOW, HALTED or BACKOFF. -/
  | beaconReceive (port : Fin 3) (sd : Nat) (fr : Frame)
  /-- COLDSTART_WINDOW_END (R234): At the end of a coldstart window after a collision the controller enters BACKOFF. -/
  | coldstartWindowEnd
  /-- BACKOFF_END (R234): BACKOFF ends after (CID + 1) × 3 cycle lengths and the controller enters LISTEN. -/
  | backoffEnd
  /-- COLD_END (R235): After 8 cycles of COLD the controller enters INTEG. -/
  | coldEnd
  /-- INTEG_END (R235): After 162 cycles of INTEG the controller enters RUN. -/
  | integEnd
  /-- GRANT (R243): Firmware grants the pending claim a spare slot. -/
  | claimGrant (ring : Fin 4) (slot : Fin 128)
  /-- REFUSE (R243): Firmware refuses the pending claim. -/
  | claimRefuse (ring : Fin 4)
  /-- RELEASE (R245): Firmware releases a granted spare slot. -/
  | claimRelease (ring : Fin 4) (slot : Fin 128)
  /-- SPARE_AUTO_RELEASE (R245): A granted spare slot missed for SPAREREL × 256 cycles is released. -/
  | spareAutoRelease (ring : Fin 4) (slot : Fin 80)
  /-- MUTE_END (R250): After MUTECYC cycles a muted slot's window opens again. -/
  | muteEnd (n : Fin 324)
  /-- TSET (R255): A write of TSET loads NS while no cycles run, or is refused. -/
  | tset
  /-- TIME_READ (R254): A read of SYN_TIME_LO latches the time and cycle registers. -/
  | timeRead
  /-- CORRECTION_APPLY (R271): 1,000 ns after cycle start the new offset step and rate take effect. -/
  | correctionApply
  /-- FOLLOW_LOCK_TIMEOUT (R274): A controller in FOLLOW not locked within 1,024 cycles sets SLOST. -/
  | followLockTimeout
  /-- CASCADE_SYNC (R265): A partner's cascade SYNC record gives the deviation θ and link delay δ. -/
  | cascadeSync (port : Fin 3) (sd : Nat) (fr : Frame)
  /-- CASCADE_LINK_UP (R279): A cascade port's link comes up after 1,024 clean symbols. -/
  | cascadeLinkUp (port : Fin 3) (rx : CasUp)
  /-- CASCADE_LINK_LOSS (R287): A cascade link is lost and the port leaves the joined state. -/
  | cascadeLinkLoss (rx : CasLoss)
  /-- LINK_RECORD (R282): A LINK record is checked and two consecutive good ones join the port. -/
  | linkRecord (port : Fin 3) (sd : Nat) (fr : Frame)
  /-- CASCADE_RECORD_SEND (R283): At a free pair boundary a cascade port starts its highest-ranked ready record. -/
  | cascadeRecordSend (port : Fin 3)
  /-- CASCADE_RECORD (R284): A received cascade record is checked and discarded if bad. -/
  | cascadeRecord (port : Fin 3) (sd : Nat) (fr : Frame)
  /-- RELAY_ACCEPT (R285): 32 ticks after ED a RELAY record is written and its CASCADE release registers. -/
  | relayAccept (port : Fin 3) (idx : Fin 256)
  /-- RELAY_MISS (R286): 32 ticks after RXDL, unreceived relay records are aged and released. -/
  | relayMiss (port : Fin 3)
  /-- MODE_RECORD (R290): An accepted MODE record carries an announcement or a participant's state. -/
  | modeRecord (port : Fin 3) (sd : Nat) (fr : Frame)
  /-- MABORT (R291): A received MABORT notice abandons the pending change. -/
  | mabort (port : Fin 3)
  /-- ANNOUNCE (R288): The coordinator announces a mode change, taken at the cutoff. -/
  | mcAnnounce
  /-- CANCEL (R291): A write of CANCEL abandons the pending mode change. -/
  | mcCancel
  /-- MIRROR_RECORD (R303): The standby compares and applies mirrored state from an accepted MIRROR record. -/
  | mirrorRecord (port : Fin 3) (sd : Nat) (fr : Frame)
  /-- PAIR_RECORD (R306): An accepted PAIR record delivers the partner's health word, signatures and TAUB. -/
  | pairRecord (port : Fin 3) (sd : Nat) (fr : Frame)
  /-- PAIR_TIMEOUT (R306): No PAIR record for 8 cycles while joined sets HEALTHX. -/
  | pairTimeout
  /-- CAPTURE_INSTANT (R312): At CAPI the ACQ block takes read indices and reads comparator sources and signals. -/
  | captureInstant
  /-- SPROUT_EVALUATE (R323): 256 ticks after the capture instant Sprout evaluates its state's branches. -/
  | sproutEvaluate
  /-- RECORD_STORE (R317): 8 ticks after the evaluation each armed area's record and status line enter the writer FIFO. -/
  | recordStore
  /-- FIFO_DRAIN (R310): In a writer slot of the access wheel one FIFO line is stored in capture memory. -/
  | fifoDrain
  /-- REFRESH_SLOT (R396): In wheel slot 15 capture memory is refreshed or one line scrubbed. -/
  | refreshSlot
  /-- BAR2_READ (R411): A host read of BAR2 is served one line per host slot. -/
  | bar2Read (ofs : Fin 4194304) (len : Fin 4097)
  /-- ACQ_ARM (R320): A write of ARM requests arming at the next cycle start. -/
  | acqArm
  /-- ACQ_STOP (R325): A write of STOP returns Sprout to IDLE at the next cycle start. -/
  | acqStop
  /-- TRIGGER_EDGE (R327): An active edge on ACQ_TRIG_0 or ACQ_TRIG_1 is timestamped and latched. -/
  | triggerEdge (edge : PinEdge) (ofs : Nat)
  /-- XTRIG_DRIVE (R328): 32 ticks after a FIRE evaluation the unit drives ACQ_XTRIG_N low. -/
  | xtrigDrive
  /-- XTRIG_RELEASE (R328): After 1 µs the unit releases ACQ_XTRIG_N. -/
  | xtrigRelease
  /-- XTRIG_EDGE (R329): A falling edge on ACQ_XTRIG_N is latched as a cascade trigger. -/
  | xtrigEdge (ofs : Nat)
  /-- FILTERED_LEVEL_CHANGE (R339): A field input's filter counter reaches FLIM or 0 and its filtered level changes. -/
  | filteredLevelChange (i : Fin 16)
  /-- WIRE_BREAK (R341): An input current at or below 0.30 mA for 10 ms declares a break. -/
  | wireBreak (i : Fin 16)
  /-- WIRE_BREAK_CLEAR (R341): An input current at or above 0.45 mA for 10 ms clears a break. -/
  | wireBreakClear (i : Fin 16)
  /-- THRESHOLD_RECOMPUTE (R338): Every 1 ms the tracked thresholds move toward their targets. -/
  | thresholdRecompute
  /-- FIO_OUT (R343): A write to FIO_OUT sets all eight output commands. -/
  | fioOut (w : Word)
  /-- FIO_OUT_SET (R343): A write to FIO_OUT_SET sets output commands. -/
  | fioOutSet (w : Word)
  /-- FIO_OUT_CLR (R343): A write to FIO_OUT_CLR clears output commands. -/
  | fioOutClr (w : Word)
  /-- OVERLOAD (R344): A current limit acting for OLT ms latches the channel off. -/
  | overload (chan : ChanTime)
  /-- OVER_TEMPERATURE (R345): A channel sensor at 165 °C latches the channel off. -/
  | overTemperature (ch : Fin 8)
  /-- OPEN_WIRE (R346): An open-wire condition for 50 ms sets OW and OWNOW. -/
  | openWire (ch : Fin 8)
  /-- EXTERNAL_DRIVE (R347): A ball above 0.5 × VF for 1 ms after blanking latches the channel off. -/
  | externalDrive (chan : ChanTime)
  /-- FAULT_CLEAR (R349): A W1C write to FIO_OUT_FLT clears fault bits whose condition is absent. -/
  | faultClear (w : Word) (lim hot ext : BitVec 8)
  /-- HEARTBEAT (R350): The die-to-die interface sends a heartbeat every 62.5 µs and the supervisor accepts it. -/
  | heartbeat
  /-- HEARTBEAT_LOSS (R350): 2 ms without an accepted heartbeat sets HBLOSS and turns every output off. -/
  | heartbeatLoss
  /-- HBACK (R351): A write of HBACK acknowledges HBLOSS or is refused. -/
  | hback
  /-- UVACK (R353): A write of UVACK acknowledges UVCUT or is refused. -/
  | uvack
  /-- VFIELD_MEASURE (R352): Every 10 µs the supervisor measures VFIELD and acts on the thresholds. -/
  | vfieldMeasure (mv : BitVec 16)
  /-- SUPERVISOR_POWER_UP (R353): The field supervisor powers up with UVCUT and HBLOSS set. -/
  | supervisorPowerUp
  /-- SAFETY_PERIOD (R359): At each safety period start the safety task evaluates demands, speeds and diagnostics. -/
  | safetyPeriod
  /-- HDLY_EXPIRY (R367): A demand held for HDLY_g in RUN makes Husk clear A_g. -/
  | hdlyExpiry (g : Fin 2)
  /-- DISCREPANCY (R364): Paired inputs differing for DISC ms set DISCF. -/
  | discrepancy (pair : Fin 8)
  /-- STOK (R369): A write of STOK records that the start-up self-tests passed. -/
  | safStok
  /-- TEST (R370): A write of TEST enters TEST from START-UP. -/
  | safTest
  /-- ENDTEST (R370): A write of ENDTEST leaves TEST. -/
  | endtest
  /-- RUNREQ (R369): A write of RUNREQ requests RUN at the next accepted reset. -/
  | runreq
  /-- REQ_WRITE (R358): The safety task writes REQ_g. -/
  | reqWrite (req : BitVec 2)
  /-- PFM (R372): A checkpoint identity written to SAF_PFM is folded into the flow signature. -/
  | safPfm (id : BitVec 16)
  /-- PFM_END (R372): A write of PFM_END sends the signature to Husk and restarts it. -/
  | pfmEnd
  /-- FLOW_WATCHDOG (R372): No accepted signature within 1.25 × TS is PFMX. -/
  | flowWatchdog
  /-- LOCKSTEP_MISMATCH (R371): The lockstep checker reports a mismatch (LSX). -/
  | lockstepMismatch
  /-- HSELF (R371): Husk's self-test of its logic or oscillator fails. -/
  | hself
  /-- STO_FEEDBACK_CHECK (R374): STOFB cycles after a permit change the drives' STO_ACTIVE is checked. -/
  | stoFeedbackCheck (g : Fin 2)
  /-- TEST_PULSE (R373): Every TPP × 10 ms Husk switches a permitted safety output off briefly and checks the ball. -/
  | testPulse (g : Fin 2) (low : Bool)
  /-- CHECK_COMPUTE (R375): After an application of a covered group the SAF block recomputes CHECK. -/
  | checkCompute
  /-- SCRUB_READ (R394): The scrubber reads one word of a macro and writes back or marks it. -/
  | scrubRead (macroNo : Fin 40)
  /-- MEM_WZERO (R392): A write to MEM_WZERO clears the addressed word with valid check symbols. -/
  | memWzero (w : Word)
  /-- SREP_GO (R403): A write of GO to MEM_SREP assigns a spare symbol-column or is refused. -/
  | srepGo (w : Word)
  /-- MEMORY_INIT (R393): At power-on of a memory's domain the fuse repairs are applied and initialisation starts. -/
  | memoryInit (m : Fin 8)
  /-- INIT_DONE (R393): A memory's initialisation completes and its DONE bit is set. -/
  | initDone (m : Fin 8)
  /-- DOORBELL (R413): A host write to HDB rings a mailbox, which is queued if free. -/
  | doorbell (w : Word)
  /-- MAILBOX_WRITE (R415): A host or processor write to a mailbox is stored or discarded by ownership. -/
  | mailboxWrite (host : Bool) (ofs : Fin 65536) (data : Word) (be : BitVec 4)
  /-- HDONE_CLEAR (R414): The host clears an HDONE bit, freeing the mailbox. -/
  | hdoneClear (w : Word)
  /-- HNOTE_SET (R418): Glipor sets an HNOTE bit and its vector is signalled. -/
  | hnoteSet (w : Word)
  /-- HNOTE_CLEAR (R418): The host clears an HNOTE bit. -/
  | hnoteClear (w : Word)
  /-- DBQ_READ (R414): A read of HIF_DBQ returns and removes the next queued mailbox. -/
  | dbqRead
  /-- FACC (R417): A write to HIF_FACC accepts a mailbox and reloads its timer. -/
  | facc (mb : Fin 32) (bound : BitVec 16)
  /-- FDONE (R414): A write to HIF_FDONE completes a mailbox. -/
  | fdone (mb : Fin 32)
  /-- MAILBOX_TIMEOUT (R417): A mailbox timer expires and the hardware completes it with 0x00FE. -/
  | mailboxTimeout (m : Fin 32)
  /-- HOST_RESET (R407): PERST_N, a hot reset or a link loss resets the PCI Express core and BAR0 control words. -/
  | hostReset
  /-- SPI_READ (R408): A quad-SPI READ transaction reads bytes from BAR0 or BAR2. -/
  | spiRead (addr : BitVec 24) (len : Nat) (late : List Nat)
  /-- SPI_WRITE (R408): A quad-SPI WRITE transaction writes whole words. -/
  | spiWrite (addr : BitVec 24) (data : List (BitVec 8))
  /-- SPI_STATUS (R408): A quad-SPI STATUS command returns the status byte. -/
  | spiStatus
  /-- SPI_CS_RISE (R409): A rising HSPI_CS_N makes the transaction's writes take effect. -/
  | spiCsRise
  /-- BAR2_WRITE (R410): A host write to BAR2 is discarded and sets B2WR. -/
  | bar2Write
  /-- DMA_GO (R421): A write of GO starts a DMA channel transfer. -/
  | dmaGo (ch : Fin 4) (dir : Bool) (len : BitVec 22)
  /-- DMA_RST (R421): A write of RST stops a busy channel and clears its state. -/
  | dmaRst (ch : Fin 4)
  /-- DMA_DONE (R421): A DMA transfer completes or halts on a fault. -/
  | dmaDone (ch : Fin 4) (words : List Word) (refusal : Bool)
  /-- DMA_COMPLETION_TIMEOUT (R421): A read completion not received within 10 ms halts the channel. -/
  | dmaCompletionTimeout (ch : Fin 4) (words : List Word)
  /-- FLASH_GO (R423): A write of GO to HIF_FL_CMD runs one flash operation. -/
  | flashGo (w : Word)
  /-- FLASH_DONE (R423): A flash operation completes. -/
  | flashDone (data : List (BitVec 8))
  /-- PING (R422): Glipor echoes the payload. -/
  | glPing (m : Fin 32)
  /-- INFO (R422): Glipor returns firmware and device identification. -/
  | glInfo (m : Fin 32)
  /-- STATUS (R422): Glipor returns start-up, safety, health, sync, ring and power state. -/
  | glStatus (m : Fin 32)
  /-- ABORT (R422): Glipor ends the command of the named mailbox. -/
  | glAbort (m named : Fin 32)
  /-- DMA_RESET (R422): Glipor resets a halted DMA channel. -/
  | dmaReset (m : Fin 32) (ch : Fin 4)
  /-- CFG_READ (R422): Glipor reads up to 30 registers. -/
  | cfgRead (m : Fin 32) (regs : List (Fin 17 × BitVec 16))
  /-- CFG_WRITE (R422): Glipor writes up to 30 shadowed fields. -/
  | cfgWrite (m : Fin 32) (entries : List (Fin 17 × BitVec 16 × Word × Word))
  /-- COMMIT (R422): Glipor requests group commits of up to 17 blocks together and reports the outcome. -/
  | glCommit (m : Fin 32) (groups : List (Fin 17 × Word))
  /-- SCHED_LOAD (R422): Glipor loads and commits a schedule image. -/
  | schedLoad (m : Fin 32) (dma : Option (Fin 4 × BitVec 64 × BitVec 22)) (regs : List (Fin 17 × BitVec 16 × Word)) (words : List (Word × Word)) (groups : List (Fin 17 × Word))
  /-- SCHED_CHUNK (R422): Glipor stages a chunk of an image. -/
  | schedChunk (m : Fin 32) (ofs : BitVec 32) (data : List (BitVec 8))
  /-- NET_START (R422): Glipor starts the network and completes at RUN or HALTED. -/
  | netStart (m : Fin 32)
  /-- NET_STOP (R422): Glipor stops the network and completes at OFF. -/
  | netStop (m : Fin 32)
  /-- AXIS_CONFIG (R135): Glipor commits a template change with its graph table at one cutoff. -/
  | axisConfig (m : Fin 32) (axis : Fin 256) (pod : Fin 4) (regs : List (Fin 17 × BitVec 16 × Word)) (words : List (Word × Word))
  /-- COMMUTATE (R117): Glipor writes EZERO of a disabled axis. -/
  | commutate (m : Fin 32) (axis : Fin 256) (pod : Fin 4) (xb : BitVec 17) (value : Word)
  /-- MOTION (R422): Glipor writes and commits PG fields of up to 8 axes. -/
  | glMotion (m : Fin 32) (writes : List (Fin 256 × Fin 13 × Word))
  /-- TABLE_APPEND (R422): Glipor writes up to 14 table points and appends them. -/
  | tableAppend (m : Fin 32) (axis : Fin 256) (pod : Fin 4) (skip : Bool) (points : List (Word × Word × Word × Word))
  /-- AXIS_ACK (R422): Glipor acknowledges up to 32 axes. -/
  | axisAck (m : Fin 32) (axes : List (Fin 256))
  /-- MODE_CHANGE (R288): Glipor arms groups and, at the coordinator, announces a mode change. -/
  | modeChange (m : Fin 32) (groups : List (Fin 17 × Word)) (mid : BitVec 16) (cyc : Word)
  /-- CLAIM_DECIDE (R422): Glipor grants, refuses or releases a spare slot. -/
  | claimDecide (m : Fin 32) (ring : Fin 4) (what : Fin 3) (slot : Fin 128)
  /-- ACQ_CMD (R422): Glipor arms or stops Sprout. -/
  | acqCmd (m : Fin 32) (arm : Bool)
  /-- SAFETY_STATUS (R422): Glipor returns the safety registers. -/
  | safetyStatus (m : Fin 32)
  /-- SAFETY_CONFIRM (R377): Glipor writes both flash confirmation copies and then CONFIRM. -/
  | safetyConfirm (m : Fin 32) (value : Word) (flash : FlashOk)
  /-- SAFETY_CMD (R422): Glipor writes TEST, ENDTEST or RUNREQ. -/
  | safetyCmd (m : Fin 32) (cmd : Fin 3)
  /-- EVL_READ (R437): Glipor returns up to 7 valid event records and WSEQ. -/
  | evlRead (m : Fin 32) (seq : Word)
  /-- FW_WRITE (R422): Glipor writes bytes to the inactive image slot. -/
  | fwWrite (m : Fin 32) (ofs : BitVec 32) (data : List (BitVec 8)) (flashOk : Bool)
  /-- FW_VERIFY (R426): Glipor checks the inactive image slot. -/
  | fwVerify (m : Fin 32) (img : Option (List (BitVec 8)))
  /-- FW_COMMIT (R422): Glipor raises the anti-rollback counter. -/
  | fwCommit (m : Fin 32)
  /-- KEY_REVOKE (R422): Glipor revokes a key slot. -/
  | keyRevoke (m : Fin 32) (slot : Fin 4)
  /-- MEM_REPAIR (R422): Glipor makes a soft repair through MEM_SREP. -/
  | memRepair (m : Fin 32) (w : Word)
  /-- POWER (R446): Glipor requests a power state. -/
  | glPower (m : Fin 32) (tgt : Fin 4)
  /-- LOAD_CHUNK (R427): The boot ROM stores a chunk of a host-loaded image. -/
  | loadChunk (ofs : BitVec 32) (data : List (BitVec 8))
  /-- LOAD_GO (R427): The boot ROM verifies and starts a host-loaded image. -/
  | loadGo (header : List (BitVec 8))
  /-- IMAGE_BOOT (R426): The boot ROM checks both image slots and boots the best one. -/
  | imageBoot (a b : Option (List (BitVec 8)))
  /-- EVENT_ACCEPT (R432): The recorder accepts one event per sysclk from its input queue and writes its record. -/
  | eventAccept
  /-- RATE_WINDOW_END (R435): At each RLWIN window end pairs with suppressed counts produce SUPPRESSED records. -/
  | rateWindowEnd
  /-- BACKGROUND_FLUSH (R439): 8 unflushed records or an age of FLTMO starts a background flush. -/
  | backgroundFlush
  /-- FLUSH (R439): A write of FLUSH, a FAULT record or the VDD_IO warning starts a forced flush. -/
  | evlFlush
  /-- FLUSH_COMPLETE (R439): A forced flush ends, writes FLUSHED and resumes a suspended erase. -/
  | flushComplete
  /-- FWEV_GO (R430): A write of GO to EVL_FWEV_CTL enters a firmware event. -/
  | fwevGo (w : Word)
  /-- POWER_STATE_REQUEST (R446): A write of TGT in PCR_PSTATE requests a power state, accepted or refused. -/
  | powerStateRequest (tgt : Fin 4)
  /-- TRANSITION_COMPLETE (R448): A power transition completes. -/
  | transitionComplete
  /-- WAKE (R449): A wake source moves the controller from STANDBY or DORMANT to IDLE. -/
  | pcrWake (src : Fin 4)
  /-- PD_CTL_WRITE (R466): A write to PCR_PD_CTL switches domains on or off at once, or is refused. -/
  | pdCtlWrite (w : Word)
  /-- SUPPLY_WARNING (R459): VDD_IO falling below 3.05 V sets VIOW and starts a forced flush. -/
  | supplyWarning
  /-- SUPPLY_RESET (R459): A rail falling below its reset threshold starts a reset of its scope. -/
  | supplyReset (rail : Fin 6)
  /-- POWER_ON_RESET (R460): A power-on reset resets every domain. -/
  | powerOnReset
  /-- SYSTEM_RESET (R460): A system reset resets every domain except PD_AO. -/
  | systemReset
  /-- RESET_RELEASE (R462): Every rail is good and RESET_N has been high 10 µs; the reset sequence runs. -/
  | resetRelease (pins : Straps)
  /-- RST_SYS (R461): SYS in PCR_RST_CMD with the key starts a system reset. -/
  | rstSys (key : BitVec 16)
  /-- RST_CPU (R461): CPU in PCR_RST_CMD with the key starts a processor reset. -/
  | rstCpu (key : BitVec 16)
  /-- PROCESSOR_RESET (R463): A processor reset completes owned mailboxes, empties the queue and resumes or reboots Glipor. -/
  | processorReset
  /-- CRYSTAL_FAILURE (R455): The crystal leaves ±2 % or stops and a system reset follows. -/
  | crystalFailure
  /-- AO_CLOCK_FAILURE (R455): The always-on clock deviates beyond ±1 % and is replaced by the refresh oscillator. -/
  | aoClockFailure
  /-- AVS_EVALUATE (R456): Every 1 ms the worst slack is evaluated and a voltage code chosen. -/
  | avsEvaluate (mworst : BitVec 8)
  /-- VREQ_FRAME (R457): A voltage request frame is sent to the regulator and acknowledged or repeated. -/
  | vreqFrame (acks : BitVec 3)
  /-- WDT_KICK (R465): A write of 0x6B1D kicks the watchdog. -/
  | wdtKick (key : BitVec 16)
  /-- WATCHDOG_EXPIRY (R465): The watchdog expires on no kick for WDTO ms or STRMAX strikes in 1 s. -/
  | watchdogExpiry
  /-- RESTART_TIMEOUT (R464): No STAGE 3 within 500 ms of a processor reset starts a system reset. -/
  | restartTimeout
  /-- TAP_RESET (R467): TRST_N or five TMS-high clocks select Test-Logic-Reset. -/
  | tapReset
  /-- EXTEST (R468): The EXTEST instruction selects boundary scan driving. -/
  | tapExtest
  /-- SAMPLE_PRELOAD (R468): The SAMPLE/PRELOAD instruction samples the boundary. -/
  | tapSamplePreload
  /-- IDCODE (R468): The IDCODE instruction selects the identification register. -/
  | tapIdcode
  /-- DBGACC (R469): The DBGACC instruction selects the debug access register. -/
  | dbgacc
  /-- DBGACC_READ (R470): A debug read of a processor address starts at Update-DR. -/
  | dbgaccRead (addr : Word)
  /-- DBGACC_WRITE (R470): A debug write of a processor address starts at Update-DR. -/
  | dbgaccWrite (addr : Word) (w : Word)
  /-- DBGACC_READ_NEXT (R470): A debug read at ADDR + 4 starts at Update-DR. -/
  | dbgaccReadNext
  /-- FRZ (R468): The FRZ instruction selects the freeze register. -/
  | tapFrz (hold : Bool)
  /-- HIGHZ (R468): The HIGHZ instruction floats the outputs. -/
  | tapHighz
  /-- CLAMP (R468): The CLAMP instruction holds the boundary outputs. -/
  | tapClamp
  /-- SYSRST (R468): The SYSRST instruction starts a system reset at Update-IR. -/
  | tapSysrst
  /-- BYPASS (R468): The BYPASS instruction selects the bypass register. -/
  | tapBypass
  /-- FREEZE_REQUEST (R472): A rising FREEZE ball or FRZ = 1 requests a freeze. -/
  | freezeRequest
  /-- FREEZE_STOP (R473): Within 16 sysclk the clocks are gated and the snapshot latched. -/
  | freezeStop
  /-- FREEZE_RELEASE (R475): Both freeze requests fall to 0 and the controller resumes. -/
  | freezeRelease (ball : Bool)
  /-- FILTER_SAMPLE (R339): Every FTB period a field input's filter samples the raw level and moves its counter up or down. -/
  | filterSample (i : Fin 16)
  /-- RAW_LEVEL_CHANGE (R341): A field input's comparator changes its raw level; a raw level of 1 stops the wire-break measurement and clears a break at once. -/
  | rawLevelChange (i : Fin 16) (mv : BitVec 16)
  /-- OPEN_WIRE_CLEAR (R346): OWNOW of a channel clears once the open-wire condition has been absent for 50 ms. -/
  | openWireClear (ch : Fin 8)
  /-- VFOFF (R352): VFIELD falls below 12 V, the field supervisor goes unpowered, outputs go off and inputs report INVAL. -/
  | vfoff
  /-- SUPPLY_WARNING_CLEARED (R459): VDD_IO rises back to 3.10 V and the VDD_IO warning (VIOW) clears, letting a suspended erase resume. -/
  | supplyWarningCleared
  /-- ALWAYS_ON_REFRESH (R452): Every 8 (or 4) always-on periods the always-on sequencer refreshes capture memory rows and scrubs one line per bank while PD_ACQ is off. -/
  | alwaysOnRefresh
  /-- SSI_CLOCK_EDGE (R182): The SSI clock on the DZ driver makes its next scheduled falling or rising edge and the bit of the previous edge is sampled SPH ticks later. `data`: the level
  that the data line takes at a rising edge; `delay`: how many ticks after the edge it changes, none where it stands
  already. -/
  | ssiClockEdge (ch : Fin 8) (data : Bool) (delay : Option (Fin 65536))
  /-- PCIE_LINK_UP (R406): The PCI Express data link trains and becomes active, setting LINKUP, SPEED and WIDTH. -/
  | pcieLinkUp (gen2 x2 : Bool)
  /-- PCIE_CONFIG_WRITE (R406): The host writes PCI Express configuration space, changing Bus Master Enable, MSI or MSI-X enables, the payload size or D0/D3hot. -/
  | pcieConfigWrite (cfg : PcieCfg)
  /-- PROCESSOR_STORE (R390): The control processor writes a word of tightly coupled, pod, network buffer, recorder or capture memory, merging and re-encoding a partial word. -/
  | processorStore (addr : Word) (be : BitVec 4) (w : Word)
deriving DecidableEq, Repr

end Sys2Proof
end

