-- ==== Sys2Proof/WellFormed.lean ====
section
/-! DEFINITION. Which commands describe something that can happen at the device. The types of the
operands already bound most of them; the checks here are those on lists and on plain numbers. -/

namespace Sys2Proof

/-- Payload words of the longest frame or record, and the furthest wire byte at which its ED is still
looked for (Tables 7-5, 7-7 and 10-2). -/
def Frame.wf (f : Frame) : Bool := f.words.length ≤ 64 && f.edAt < 4096

/-- R8: an access names at least one byte. -/
def lanesWf (be : BitVec 4) : Bool := decide (be ≠ 0)

/-- Bytes of the request payload of a mailbox (Table 15-5). -/
def payloadMax : Nat := 240

/-- A list of request entries fits its command (Table 15-6). -/
def entriesWf {α : Type} (n : Nat) (xs : List α) : Bool := decide (1 ≤ xs.length) && decide (xs.length ≤ n)

/-- Chunk data beside the offset in a request payload. -/
def chunkWf (xs : List (BitVec 8)) : Bool := decide (1 ≤ xs.length) && decide (xs.length + 4 ≤ payloadMax)

/-- Axes named by the entries of a MOTION command (Table 15-6: up to 8). -/
def motionAxes (ws : List (Fin 256 × Fin 13 × Word)) : List (Fin 256) := (ws.map (·.1)).dedup

/-- The frame of a command that carries one. -/
def Instr.frame? : Instr → Option Frame
  | .uplinkFrame _ _ f => some f
  | .netEcho _ _ f => some f
  | .probeReturn _ _ f => some f
  | .beaconReceive _ _ f => some f
  | .cascadeSync _ _ f => some f
  | .linkRecord _ _ f => some f
  | .cascadeRecord _ _ f => some f
  | .modeRecord _ _ f => some f
  | .mirrorRecord _ _ f => some f
  | .pairRecord _ _ f => some f
  | _ => none

/-- The byte lanes of a command that carries them. -/
def Instr.lanes? : Instr → Option (BitVec 4)
  | .registerWrite _ be _ => some be
  | .rcFieldRead _ be => some be
  | .processorStore _ be _ => some be
  | .mailboxWrite _ _ _ be => some be
  | _ => none

/-- The bounds on the lists and lengths of the other commands. -/
def Instr.sizesWf : Instr → Bool
  | .bar2Read _ len => decide (1 ≤ len.val)
  | .spiRead _ len late => decide (1 ≤ len) && late.all (fun i => decide (i < len))
  | .spiWrite _ data => decide (1 ≤ data.length)
  | .cfgRead _ regs => entriesWf 30 regs
  | .cfgWrite _ es => entriesWf 30 es
  | .glCommit _ gs => entriesWf 17 gs
  | .schedChunk _ _ data => chunkWf data
  | .fwWrite _ _ data _ => chunkWf data
  | .loadChunk _ data => chunkWf data
  | .glMotion _ ws => decide (1 ≤ ws.length) && decide ((motionAxes ws).length ≤ 8)
  | .tableAppend _ _ _ _ ps => entriesWf 14 ps
  | .axisAck _ axes => entriesWf 32 axes
  | .modeChange _ gs _ _ => decide (gs.length ≤ 17)
  | _ => true

/-- A command that can happen. -/
def Instr.wellFormed (i : Instr) : Bool :=
  i.frame?.all Frame.wf && i.lanes?.all lanesWf && i.sizesWf

end Sys2Proof
end

