-- ==== Sys2Proof/Machine/State.lean ====
section
/-! DEFINITION. The state of the controller as plain data: the register windows, the shadow, staging
and active copies, the memories, and for each block the state its chapter gives it beyond its
registers. -/

namespace Sys2Proof.Machine

/-- Access code of a register field (Table 0-3). -/
inductive Acc where
  | rw | ro | wo | w1c | w1s | rc
deriving DecidableEq, Repr

/-- One field of a register row: bits high:low, access code, and for a shadowed field its commit
group, `some (b, d)` being group b of a register with no index or with d = 0, and b + n / d of
register n. -/
structure Fld where
  hi : Nat
  lo : Nat
  acc : Acc
  grp : Option (Nat × Nat)
deriving DecidableEq, Repr

/-- One row of a chapter's register tables: offset in the block window, distance between the
registers of a repeated unit, their number, the reset value, its step from one to the next. -/
structure RegSpec where
  off : Nat
  stride : Nat
  count : Nat
  reset : Nat
  rstep : Nat
  flds : List Fld
deriving DecidableEq, Repr

/-- Why the machine stops with a fault. No meaning of this model raises one: the spec gives every
command of the table an effect, and an access to an address that does not exist aborts or is
logged as the spec says (R28, R30). The type stands for the interface. Safe. -/
inductive Fault where
  /-- Raised by nobody. Safe. -/
  | noSuchAddress (a : Nat)
deriving DecidableEq, Repr

/-- Why the machine refuses a command. -/
inductive Refusal where
  /-- Raised by the dispatch for a command that has no meaning yet. Safe. -/
  | notModelled (mnemonic : String)
deriving DecidableEq, Repr

/-- What hardware has done to one register in the present sysclk (Table 0-3): its value before, what its
events would have left in a register of zeros, and the bits that hardware has written. -/
structure HwNote where
  was : Word := 0
  ev : Word := 0
  upd : Word := 0
deriving DecidableEq, Repr

/-- The sysclk that the notes belong to and the notes by register address; those of an earlier sysclk are
void. -/
structure SameClk where
  sclk : Nat := 0
  notes : KV HwNote := []
deriving DecidableEq, Repr

/-- A commit group in staging (R35): its block and group, the member registers with the bits that
belong to it, and the outcome of its check, `none` for passed, else REASON and DETAIL. -/
structure Staged where
  blk : Nat
  grp : Nat
  vals : List (Nat × Word × Word)
  bad : Option (Nat × Nat)
deriving DecidableEq, Repr

/-- An event on its way to the recorder (R429, R432): code, class, INST, arguments, the time stamp
taken in the sysclk of the event, and that sysclk. -/
structure Ev where
  code : Nat
  cls : Nat
  inst : Nat
  arg0 : Nat
  arg1 : Nat
  ns : Nat
  cyc : Nat
  sclk : Nat
deriving DecidableEq, Repr

/-- The clocks and the time base: the tick count (R48) and NS in units of 2^−32 ns (R252), and the
tick in which the present cycle started and NS of the next cycle start, in the same unit (R253, R272);
the time that passes whatever clocks run, in 1/64 tick, by which Marrow's timers are held (R18); what NS stands above its
value at the present tick, inside the tick, or below it, held at a cycle start; the ticks in which recent cycles started,
newest first (R85). -/
structure TimeSt where
  tick : Nat := 0
  ns : Nat := 0
  startTick : Nat := 0
  nextNs : Nat := 0
  mono : Nat := 0
  ahead : Int := 0
  starts : List Nat := []
deriving DecidableEq, Repr

/-- The memories: data bytes by processor address, and for each word the difference of its stored
check symbols from the pair that encodes its data (R384, R385, R391). -/
structure MemSt where
  cells : List Host.Cell := []
  chk : KV (Byte × Byte) := []
deriving DecidableEq, Repr

/-- Interrupts to firmware: the loop engine's (pod, flag), the memory interrupt of a MEM_ERR bit,
the field input's, the mailbox's and the supply's. -/
inductive FwIrq where
  | loopEngine (pod flag : Nat)
  | memory (bit : Nat)
  | fieldInput
  | mailbox
  | supply
deriving DecidableEq, Repr

/-- Commit requests not yet taken, in the order of their writes, those of one sysclk together: the sysclk, none while
sysclk stands, and block and mask of each (R39, R512); groups of LE_ requested while cycles ran (R79); the cycle whose
cutoff has been taken; the cycle in which the network stopped, whose configuration is that of the previous copies
(R26). -/
structure CmtSt where
  asked : List (Option Nat × List (Nat × Nat)) := []
  ran : Nat := 0
  cut : Option Nat := none
  ended : Option Nat := none
deriving DecidableEq, Repr

/-- Kind of a binary32 operand after R64's flush. -/
inductive FpKind where
  | nan | inf | zero | fin
deriving DecidableEq, Repr

/-- A binary32 operand: kind, sign, and for a finite nonzero one the value m × 2^e. -/
structure Fp where
  kind : FpKind
  neg : Bool
  m : Nat
  e : Int
deriving DecidableEq, Repr

/-- The fields of a native instruction word (Table 2-3). -/
structure PeaWord where
  op : Nat
  sat : Bool
  np : Bool
  nz : Bool
  zsel : Nat
  dst : Nat
  xm : Nat
  xoff : Nat
  ym : Nat
  yoff : Nat
  zfield : Nat
  xstr : Nat
  ystr : Nat
  rsv : Nat
deriving DecidableEq, Repr

/-- What an operation gives: values for its destinations, C for a compare, flags (Table 2-7). -/
structure PeaRes where
  val : Nat := 0
  val2 : Nat := 0
  c : Bool := false
  flags : Nat := 0
deriving DecidableEq, Repr

/-- The loop cache of a context while a LOOP runs (R71): the PC of the first body word, N, M and the
position in the body; `n = 0` when no loop runs. -/
structure LoopSt where
  start : Nat := 0
  n : Nat := 0
  m : Nat := 0
  pos : Nat := 0
  words : List Nat := []
deriving DecidableEq, Repr

/-- A graph descriptor (Table 3-1). -/
structure Desc where
  xb : Nat := 0
  lb : Nat := 0
  yb : Nat := 0
  axis : Nat := 0
  prio : Nat := 0
  timed : Bool := false
  pb : Nat := 0
  ib : Nat := 0
  ob : Nat := 0
  flow : Nat := 0
  flowen : Bool := false
  src : Nat := 0
  srcarg : Nat := 0
  lat : Nat := 0
  fpos : Nat := 0
  nat : Bool := false
  slots : Nat := 0
  next0 : Nat := 0x1FF
  next1 : Nat := 0x1FF
deriving DecidableEq, Repr

/-- A context (R49, Table 2-1): whether it is in service, its graph's descriptor and cycle, locals with
poison bits, C with its poison bit, LC, PC, FLAGS, the issue slots used, the tick from which it may
issue again, its loop cache, whether a FIN OUT has executed and whether an OUT was poisoned. -/
structure Ctx where
  live : Bool := false
  idx : Nat := 0
  desc : Desc := {}
  cyc : Nat := 0
  locals : KV (Nat × Bool) := []
  c : Bool := false
  cPsn : Bool := false
  lc : Nat := 0
  pc : Nat := 0
  flags : Nat := 0
  slot : Nat := 0
  next : Nat := 0
  loop : LoopSt := {}
  fin : Bool := false
  psnOut : Bool := false
  gen : Bool := false
deriving DecidableEq, Repr

/-- Where a pea write goes: an element of its pod, a word of network buffer memory with its FIN
information (graph's axis, cycle and whether FIN is set), or the flags of its pod; and, in the tick after a word
written with FIN, the command record that becomes ready with it (R63). -/
inductive WrTarget where
  | elem (e : Nat)
  | net (w : Nat) (axis : Nat) (cyc : Nat) (ob : Nat) (fin : Bool)
  | flags (ctx : Nat)
  | ready (axis : Nat) (cyc : Nat) (ob : Nat)
deriving DecidableEq, Repr

/-- A write on its way (R53): tick of effect, pod, pea, target, value, poison. -/
structure PendWr where
  due : Nat
  pod : Nat
  pea : Nat
  tgt : WrTarget
  val : Nat
  psn : Bool
deriving DecidableEq, Repr

/-- The loop engine beyond its registers: contexts by 16 × pod + 4 × pea + context, writes on their
way in the order of their ticks, issue slots used by each pod in this cycle (R81), the tick of the last pea
writes and their addresses (R55, R390). -/
structure LeSt where
  ctxs : KV Ctx := []
  writes : List PendWr := []
  issued : KV Nat := []
  hitTick : Nat := 0
  hits : List Nat := []
deriving DecidableEq, Repr

/-- A release on its way to the release stage (R85, R86): descriptor index, source, place in the
source order, cycle, tick of arrival; for a CHAIN release whether NEXT0 named it (then it is the
axis's profile generator, R137), and the feedback record and the axis of the graph that ended. -/
structure RelReq where
  idx : Nat
  src : Nat
  ord : Nat
  cyc : Nat
  at_ : Nat
  gen : Bool
  ib : Nat
  axis : Nat
deriving DecidableEq, Repr

/-- An entry of a ready queue (R87 to R90). -/
structure QEnt where
  idx : Nat
  desc : Desc
  src : Nat
  ord : Nat
  cyc : Nat
  rel : Nat
  elig : Nat
  dec : Nat
  late : Bool
  gen : Bool
deriving DecidableEq, Repr

/-- The scheduler of one pod beyond its registers: the match copy (R510), the ready queue in order of
registration, releases not yet registered, the tick of the release stage and what it has registered
in it, what has been released in which cycle (R88), the signature of each open cycle (R100), running
maxima, the last dispatch tick, cycles whose deadline has passed, cycles with OVR in a row, the pod's
sleep (R451): asleep, the tick its wake completes, the tick since which it has been idle or asleep; the last
signatures with their cycles (R305). -/
structure PodSt where
  mtch : List (Nat × Nat × Nat) := []
  queue : List QEnt := []
  carry : List RelReq := []
  stageTick : Nat := 0
  stageCnt : Nat := 0
  seen : List (Nat × Nat × Nat) := []
  crc : KV Nat := []
  waitMax : Nat := 0
  qMax : Nat := 0
  lastDisp : Option Nat := none
  closed : List Nat := []
  ovrCycs : List Nat := []
  pgDue : List (Nat × Nat) := []
  asleep : Bool := false
  waking : Option Nat := none
  idleSince : Nat := 0
  sigLog : List (Nat × Nat) := []
deriving DecidableEq, Repr

/-- Supervision of one axis beyond its registers (R109 to R110, R124 to R129): the latched state, the
reaction state of this cycle and of the one before, sources tripped since the last cycle start, HOLD
cycles, a pending ACK, the retained words 1 to 4, the cycle and tick in which its command became
ready and where it stands, the cycle in which it was poisoned, where its law
graph was last dispatched, the cycle whose law graph ended last and the last one in which a law or profile graph
ended with PSN or ILL (R302), cycle and POS of its last fresh feedback record (R189), cycle and POS of its valid
samples, newest first, as far back as a safety period reaches (R107, R360), cycle and DSTAT of its last fresh record (R374). -/
structure AxSt where
  latched : Nat := 0
  rs : Nat := 0
  rsPrev : Nat := 0
  trips : Nat := 0
  hold : Nat := 0
  ack : Bool := false
  copy : Nat × Nat × Nat × Nat := (0, 0, 0, 0)
  ready : Option (Nat × Nat) := none
  ob : Option Nat := none
  psnCyc : Option Nat := none
  lawIb : Option Nat := none
  lawXb : Option Nat := none
  lawPod : Nat := 0
  lawEnd : Option Nat := none
  badEnd : Option Nat := none
  fbPos : Option (Nat × Nat) := none
  valid : List (Nat × Nat) := []
  dstat : Option (Nat × Nat) := none
deriving DecidableEq, Repr

/-- An append to a motion table (R157, R159): its sysclk, SKIP, COUNT, PG_TPTR_n and PG_TACT_n before it, and
whether it set TREF and TOVF. -/
structure PgApp where
  sclk : Nat
  skip : Bool
  count : Nat
  tptr : Word
  tact : Word
  tref : Bool
  tovf : Bool
deriving DecidableEq, Repr

/-- One axis of the PG block beyond its registers (R138, R144, R157 to R159): the pending geometry, the
active BASE, the cycles whose starts brought motion commands, newest first, a command that waits for the first
cycle start after an idle application, the cycle of one that no input record has shown yet, and earlier
geometries, newest first: the first cycle without it, word 10 and TEND; the appends of the last sysclk with one,
newest first. -/
structure PgSt where
  nlen : Nat := 0
  nbase : Nat := 0
  abase : Nat := 0
  cmds : List Nat := []
  cmdWait : Bool := false
  cmdOwed : Option Nat := none
  geos : List (Nat × Nat × Nat) := []
  apps : List PgApp := []
deriving DecidableEq, Repr

/-- One local step generator (R161 to R163, R191): SACC and the issued count, carried steps by
direction, steps of the record not yet issued and their direction, DIR, the time of the next step and
the earliest time of the record's first step in 1/256 tick, the next interval, DIV, the start of the
last step, the tick at which a running pulse ends, the time of the last change of DIR in 1/256 tick, the level of
STEP_DIR. STEP_OUT is at its active level while a pulse runs. -/
structure StepSt where
  sacc : Nat := 0
  spos : Nat := 0
  carried : List (Bool × Nat) := []
  left : Nat := 0
  neg : Bool := false
  dir : Bool := false
  t : Nat := 0
  ph : Nat := 0
  iv : Int := 0
  div : Int := 0
  last : Nat := 0
  pulseEnd : Option Nat := none
  chg : Option Nat := none
  pin : Bool := false
deriving DecidableEq, Repr

/-- What a local channel latched at a sampling instant (R170): count, quarter counter, line levels,
CSTAT bits collected since the instant before, the index latch, whether the record is still due, the sysclk
that contains the instant (R176). -/
structure ChanSmp where
  due : Bool := false
  sclk : Nat := 0
  count : Nat := 0
  q : Int := 0
  lines : Nat := 0
  stat : Nat := 0
  zpos : Nat := 0
deriving DecidableEq, Repr

/-- One local channel beyond its registers (R170 to R188): position count, filtered line levels (bit 2
A or U, bit 1 B or V, bit 0 Z or W), the first sysclk whose levels have not been sampled, the levels sampled last
and for how many samples in a row each line has stood (R174), the last valid U V W state, ZPOS, CSTAT bits collected
since the last sampling instant, INIT of the next sample, quarter counter and the quadrant of its comparators;
of an SSI transfer the next clock edge, the tick of its first edge, the levels that the data line has taken with
their ticks, newest first, DF of the frame and DF so far, SPH, whether SPH takes its target at once, the previous
position field, the cycle of the last transfer, the tick of its last rising edge; what the last
sampling instant latched; POS, FBINV and cycle of the last record, and whether one has been complete (R189). -/
structure ChanSt where
  count : Nat := 0
  lines : Nat := 0
  sampled : Nat := 0
  raw : Nat := 0
  runs : Nat × Nat × Nat := (0, 0, 0)
  hall : Nat := 0
  zpos : Nat := 0
  stat : Nat := 0
  init : Bool := false
  q : Int := 0
  cmp : Nat := 0
  edge : Nat := 0
  edge0 : Nat := 0
  data : List (Nat × Bool) := []
  dfFrame : Option Nat := none
  df : Nat := 0
  sph : Nat := 0
  sphNew : Bool := false
  field : Option Nat := none
  xfer : Option Nat := none
  rise : Option Nat := none
  smp : ChanSmp := {}
  pos : Nat := 0
  fbinv : Bool := true
  recCyc : Option Nat := none
  recd : Bool := false
deriving DecidableEq, Repr

/-- One emulated encoder (R189, R190): the last source value, acc, the target count, edges carried by
direction, edges of this cycle not yet issued with their direction and spacing, the tick of the next
edge, the emulated count. -/
structure EmuSt where
  src : Option Nat := none
  acc : Int := 0
  target : Int := 0
  carried : List (Bool × Nat) := []
  left : Nat := 0
  neg : Bool := false
  gap : Nat := 0
  t : Nat := 0
  count : Int := 0
deriving DecidableEq, Repr

/-- A probe on its way (R240): number, port expected, key of the value it measures, departure of its
SD in 1/16 ns. -/
structure ProbePend where
  num : Nat
  port : Nat
  key : Nat
  dep : Nat
deriving DecidableEq, Repr

/-- One ring beyond its registers (R215 to R222, R239, R260): the map in force (JA, JB, arms that are
empty) and the one built at the cutoff, positions unreachable, TAUB held and one to be held from the next cycle start on, V and DMODE by position held
from the intact ring, an ordered restoration and the cycles M of those that run, cycles with both SEGOK notices, the place
in the probe round, the position that stands first in this round and the one asked for, positions left
of an inserted round and whether this cycle's position is one of it, this cycle's probe positions, the last probe
number, probes on their way, the number of the probe that stood first for a claim (R243). -/
structure RingSt where
  ja : Option Nat := none
  jb : Option Nat := none
  emptyA : Bool := false
  emptyB : Bool := false
  next : Option (Option Nat × Option Nat × Bool × Bool) := none
  unr : List Nat := []
  taub : Option Nat := none
  taubNew : Option Nat := none
  heldV : KV (Nat × Nat) := []
  restore : Bool := false
  unloop : List Nat := []
  segCnt : Nat := 0
  round : Nat := 0
  head : Option Nat := none
  wantHead : Option Nat := none
  ins : List Nat := []
  insRun : Bool := false
  probeA : Option Nat := none
  probeB : Option Nat := none
  num : Nat := 0
  pend : List ProbePend := []
  headNum : Option Nat := none
deriving DecidableEq, Repr

/-- An admitted frame on its way to acceptance (R213): slot, cycle, tick, payload, AGE. -/
structure AccPend where
  n : Nat
  cyc : Nat
  due : Nat
  words : List Nat
  age : Nat
deriving DecidableEq, Repr

/-- An echo that port B waits for (R211): ring, slot, SEQ, expected SD and end of its window in 1/80 ns. -/
structure EchoPend where
  ring : Nat
  slot : Nat
  seq : Nat
  sd : Nat
  fin : Nat
deriving DecidableEq, Repr

/-- A window of the present cycle (R211, R212): slot (data n, claim 320 + r, sync 324 + 8r + j), expected
SD, tolerance and end in 1/80 ns, TYPE, SLOT. -/
structure Window where
  n : Nat
  sd : Nat
  tol : Nat
  fin : Nat
  type : Nat
  slot : Nat
deriving DecidableEq, Repr

/-- Outcome of the guardian (Table 7-8): a failed check with its bit of NET_ERR_r and whether it is an
edge violation, an admission, or a frame that no check concerns. -/
inductive Verdict where
  | ignored
  | fail (bit : Nat) (edge : Bool)
  | admits
deriving DecidableEq, Repr

/-- A slot or a cascade port whose miss tick lies beyond the start of the next cycle (R246, R286, R26): slot or port, cycle,
miss tick. -/
structure LateMiss where
  n : Nat
  cyc : Nat
  due : Nat
deriving DecidableEq, Repr

/-- Word 5 of a source record before a cycle's record took its place (R138): address, that cycle, value, whether it
read well. -/
structure OldUq where
  addr : Nat
  cyc : Nat
  val : Nat
  ok : Bool
deriving DecidableEq, Repr

/-- The rings beyond their registers (R211 to R216, R246, R247): rings, round-trip values latched at
cycle start (value plus 1 by key, 0 for invalid) and keys changed since, samples and lost probes by
key, windows that admitted a frame in this cycle, slots accepted or missed and downlinks departed in
it, misses of the cycle before that are still due (R26), admitted frames, relay copies on their way and relay copies
ready by downlink slot with cycle and AGE, payload and AGE last sent since the entry into RUN, echoes expected; the free value that fixes the phases of
the ports' symbol clocks (R217), and by port the tick of the receiver's last adaptation step (R200). -/
structure NetSt where
  rings : KV RingSt := []
  lat : KV Nat := []
  changed : List Nat := []
  samples : KV (List Nat) := []
  lost : KV Nat := []
  got : List Nat := []
  served : List Nat := []
  departed : List Nat := []
  late : List LateMiss := []
  accepts : List AccPend := []
  relays : List AccPend := []
  relayRdy : KV (Nat × Nat) := []
  lastSent : KV (List Nat × Nat) := []
  echoes : List EchoPend := []
  phase : Nat := 0
  adapt : KV Nat := []
deriving DecidableEq, Repr

/-- A pending claim of one ring beyond SLT_CLAIM_r (R243, R244): POS in full, the low half of the serial, whether its
probe has returned or been lost, whether hardware has evaluated it, firmware's answer (`some s` grants
slot s, `none` refuses), the answer in the beacons (GSLOT, GSER, granted position, first cycle), and a
grant that the next cycle start applies (slot, position). -/
structure ClaimSt where
  pos : Nat := 0
  ser : Nat := 0
  probed : Bool := false
  judged : Bool := false
  fw : Option (Option Nat) := none
  answer : Option (Nat × Nat × Nat × Nat) := none
  grant : Option (Nat × Nat) := none
deriving DecidableEq, Repr

/-- Start-up and slots beyond their registers (R231 to R250): a STOP that waits for the cycle start,
instants of entry into LISTEN and BACKOFF in units of 2^−32 ns, first cycle of COLD, the coldstart
window's start and whether a collision was seen in it, claims, cycle from which a granted slot is
served, cycles missed in a row by spare slots with the last of them, slots whose mute starts and slots to be released at the
next cycle start. -/
structure SltSt where
  stop : Bool := false
  since : Nat := 0
  cold0 : Nat := 0
  window : Option Nat := none
  collided : Bool := false
  claims : KV ClaimSt := []
  served : KV Nat := []
  missed : KV (Nat × Nat) := []
  muteNext : List Nat := []
  release : List Nat := []
deriving DecidableEq, Repr

/-- The time base and its synchronisation beyond their registers (R252, R256, R264 to R274): RATE and the one before
it, the correction step with its remainder, the counts of TBCLK at which RATE and the spread begin and at which the
spread ends (R269), values averaged in the last correction (R264), TBCLK stopped; deviations of this cycle in 2^−16 ns with their source's flag, by
cascade port and by sync slot; deviations of valid sources by cycle and source; corrections by cycle;
the correction and rate that wait for 1,000 ns; evaluations beyond DEVLIM and inside it by source;
evaluations beyond SLIM and within LOCKLIM; in FOLLOW the port followed, cycles in it, whether NS has
been stepped and RATE set, cycles within LOCKLIM; by cascade port the own SYNC departures (cycle,
instant) of this cycle and the one before, and the partner's arrivals. -/
structure SynSt where
  rate : Int := 0
  rate0 : Int := 0
  oc : Int := 0
  ocRem : Int := 0
  beg : Nat := 0
  fin : Nat := 0
  nsrc : Nat := 0
  stopped : Bool := false
  casDev : KV (Int × Bool) := []
  refDev : KV (Int × Bool) := []
  hist : List (Nat × Nat × Int) := []
  cLog : List (Nat × Int) := []
  pendC : Option Int := none
  pendRate : Option Int := none
  beyond : KV Nat := []
  inside : KV Nat := []
  lossCnt : Nat := 0
  okCnt : Nat := 0
  followPort : Nat := 0
  followCnt : Nat := 0
  stepped : Bool := false
  rated : Bool := false
  lockCnt : Nat := 0
  sent : KV (List (Nat × Nat)) := []
  arrived : KV (List (Nat × Nat)) := []
deriving DecidableEq, Repr

/-- A relayed payload that a cascade port has to send (R214): record index, SEQ, AGE, payload. -/
structure RelayOut where
  idx : Nat
  seq : Nat
  age : Nat
  words : List Nat
deriving DecidableEq, Repr

/-- One cascade port beyond its registers (R282 to R287): good LINK records in a row, whether it has joined
in the present cycle, RELAY records to send, accepted RELAY records on their way, indices accepted since
it joined and in this cycle, the cycle of the last miss tick, a miss tick of the cycle before that is still due and its
indices (R26), cycles in which SYNC, BEACON, MODE and
PAIR were last sent (by rank), the cycle and next RIDX of MIRROR, the instant at which the record in progress
ends in 1/80 TBCLK, ABANDON records still to send, LOCKED and SLOST of the partner's last SYNC. -/
structure CasPort where
  good : Nat := 0
  fresh : Bool := false
  relays : List RelayOut := []
  accepts : List AccPend := []
  known : List Nat := []
  now : List Nat := []
  missCyc : Option Nat := none
  late : Option (LateMiss × List Nat) := none
  sent : KV (Option Nat) := []
  mirror : Nat × Nat := (0, 0)
  busy : Nat := 0
  abandons : Nat := 0
  locked : Bool := false
  slost : Bool := false
deriving DecidableEq, Repr

/-- A pending mode change (R288): identity, commit cycle, participants, whether this unit announces it. -/
structure McPend where
  mid : Nat
  c : Nat
  pmask : Nat
  ann : Bool
deriving DecidableEq, Repr

/-- Cascade and pair beyond their registers (R282 to R306): ports, the pending change, an announcement to
be taken or read at the next cutoff, what MODE records say of it since the last cutoff, STATE with it (R290), the held
copies, what each participant last said (STATE, cycle,
MID, C), the cycle to whose end MABORT is sent, MODEX, axes mirrored in the last cycle and in this one, the axes that differed, the
partner's signatures with their cycle, mismatches of this cycle (R305), changes abandoned so far, and joined cycles
in a row without a PAIR record and whether this cycle has had one (R306). -/
structure CasSt where
  ports : KV CasPort := []
  mc : Option McPend := none
  annReq : Option Nat := none
  annIn : Option McPend := none
  said : Option (McPend × Nat) := none
  held : List Staged := []
  votes : KV (Nat × Nat × Nat × Nat) := []
  abortUntil : Option Nat := none
  modex : Bool := false
  mirrored : List Nat := []
  mirroring : List Nat := []
  mirx : Bool := false
  psig : Option (Nat × List Nat) := none
  lsx : Bool := false
  gone : Nat := 0
  gap : Nat := 0
  heard : Bool := false
deriving DecidableEq, Repr

/-- One capture area beyond its registers (R314 to R319, R331 to R333): a refusal since the last stored
record, records refused and stored since arming, bits 31:0 of the cycle of the last stored record, the
pending record count (0 for none), the read index taken, whether the writer has wrapped since a length
change became pending, POST records still to store, the signals taken in this cycle and whether one of
them was poisoned. -/
structure AreaSt where
  gap : Bool := false
  lost : Nat := 0
  cnt : Nat := 0
  lastCyc : Nat := 0
  nalen : Nat := 0
  rp : Nat := 0
  wrapped : Bool := false
  postLeft : Nat := 0
  sigs : List Nat := []
  psn : Bool := false
deriving DecidableEq, Repr

/-- Capture and Sprout beyond their registers (R309 to R334): areas, requests to arm and to stop at the next
cycle start, the cycle of the last capture instant and the ticks of the evaluation and of the storing
that follow it, the comparator values of this cycle and of the evaluation before (a poisoned one is
`none`), running and expired timers, latched pin edges and cascade edge in 1/16 ns of NS, the tick at
which the cascade line is to be driven and the tick at which it is released, lines in the writer FIFO,
the last wheel slots used by the writer, the host, the refresh and the processor. -/
structure AcqSt where
  areas : KV AreaSt := []
  arm : Bool := false
  stop : Bool := false
  capCyc : Option Nat := none
  evalAt : Option Nat := none
  recAt : Option Nat := none
  cmp : List (Option Nat) := []
  cmpPrev : List (Option Nat) := []
  tmrRun : List Nat := []
  tmrExp : List Nat := []
  edges : KV (Option Nat) := []
  xedge : Option Nat := none
  xDue : Option Nat := none
  xDrive : Option Nat := none
  fifo : List (Nat × List Nat) := []
  slotW : Nat := 0
  slotH : Nat := 0
  slotR : Nat := 0
  slotP : Nat := 0
deriving DecidableEq, Repr

/-- One field input (R339): raw level, filter counter, filtered level before INV, time of its last sample. -/
structure FinSt where
  raw : Bool := false
  cnt : Nat := 0
  filt : Bool := false
  at_ : Option Nat := none
deriving DecidableEq, Repr

/-- Field inputs and outputs beyond their registers (R338 to R352, R434): inputs, the last 100
measurements of VFIELD in mV, newest first, the tracked thresholds in mV/256, the count of the last
heartbeat sent and of the last accepted, heartbeats accepted in a row since the loss, Marrow's time of
the last accepted one, the link down since a loss, events held by Marrow, and the bits of registers of
the logic die that it has to deliver, by address. While PD_FIELD is off the supervisor goes by the commands,
the words of FIO_OUT_CFG and the latched channels that it last had; channels driven high, Marrow's time of the
last change of each, of the last turning on and of the change before that, and of the start of the current
measurement. -/
structure FioSt where
  ins : KV FinSt := []
  vlog : List Nat := []
  thr1 : Nat := 2816000
  thr3 : Nat := 2048000
  hbSent : Nat := 0
  hbLast : Nat := 0
  hbRow : Nat := 0
  hbAt : Nat := 0
  linkDown : Bool := false
  held : List Ev := []
  heldBits : KV Nat := []
  cmd : Nat := 0
  cfg : List Word := []
  latch : Nat := 0
  drive : Nat := 0
  since : KV Nat := []
  onAt : KV (Nat × Nat) := []
  curAt : Nat := 0
deriving DecidableEq, Repr

/-- Safe stop 1 of a group (R362): period start s in quarter milliseconds, v0 of each axis, periods in a
row with every axis at standstill. -/
structure Ss1St where
  s : Nat
  v0 : List (Nat × Nat)
  still : Nat
deriving DecidableEq, Repr

/-- The safety task's view of one group (R359 to R363): SS1 if it runs, decisions for the next period
start (STO, SS1, setting REQ), an accepted reset to be evaluated, an SLS violation pending, a demand that has
arisen since the last period start while the group was not in STO, SLS in force from the next one on (R361). -/
structure SafGrp where
  ss1 : Option Ss1St := none
  stoNext : Bool := false
  ss1Next : Bool := false
  reqNext : Bool := false
  reset : Bool := false
  slsPend : Bool := false
  arose : Bool := false
  sls : Bool := false
deriving DecidableEq, Repr

/-- Safety beyond its registers: STOK and RUNREQ, Marrow's times of the entries to RECOVERY in the 60 s
window, CHECK to be computed, Husk's copy of the parameters (R378), Marrow's time of the last fall of
each input, the tick since which each pair differs, pairs whose discrepancy holds, the tick of the reset
input's rising edge as the safety task has it and Marrow's time of it as Husk has it, Marrow's time of the last
accepted signature or of the entry and whether none has been accepted since the entry, failed test pulses in a row
by group, Marrow's time of the start of a test pulse under way and of the start of the last one, groups whose last
STO feedback check failed, groups, the last period evaluated, whether an axis's speed was known in the last period evaluated and whether one has been, groups for which reaction code 4 asks
STO, the cycle in which each permit changed last with its checks to come, and what the logic die has yet to take
over from Husk: REQ cleared, CAUSE, RECCNT. -/
structure SafSt where
  stok : Bool := false
  runreq : Bool := false
  recs : List Nat := []
  checkDue : Bool := false
  husk : List Word := [0x000A8002, 0, 0, 0x00140000, 0x00140000, 0x00C80A00, 0]
  zeroAt : KV Nat := []
  diffAt : KV (Option Nat) := []
  disc : List Nat := []
  riseAt : Option Nat := none
  huskRise : Option Nat := none
  wdRef : Nat := 0
  wdFirst : Bool := true
  tpFail : KV Nat := []
  pulse : KV (Option Nat) := []
  pulseAt : KV Nat := []
  stoBad : List Nat := []
  groups : KV SafGrp := []
  period : Option Nat := none
  known : KV Bool := []
  ran : Bool := false
  react4 : List Nat := []
  permAt : KV (Option Nat) := []
  heldReq : Bool := false
  heldCause : Option Nat := none
  heldRec : Bool := false
deriving DecidableEq, Repr

/-- Outcome of the decoder (Table 14-2); a corrected read names the symbol position. -/
inductive DecOut where
  | clean
  | corrected (pos : Nat)
  | poisoned
  | uncorrectable
deriving DecidableEq, Repr

/-- What a read of one 64-bit word delivers (R386): the data, the outcome, the syndromes. -/
structure RdOut where
  data : Nat
  out : DecOut
  s0 : Byte
  s1 : Byte
deriving DecidableEq, Repr

/-- Memory integrity beyond its registers: the next word of each scrubber by global number of the
memory part (R394), the parts that have wrapped since the last completed pass, the tick at which
the pass of memory m began and the ticks that m's most recent pass took (R397), the replaced
symbol-columns (part × 256 + position × 16 + segment, R403), the refresh row (R396), an
uncorrectable read in this cycle (R399), memories being initialised and the tick of its end; the tick of the last
functional writes of hardware to memories 0 to 6 and the words they reached (R392); corrected and bad words that the
always-on scrub has found in a freeze and the times of its passes, to be logged at the resume (Table 18-3). -/
structure MemIntSt where
  scrubAt : KV Nat := []
  scrubPos : KV Nat := []
  wrapped : List Nat := []
  passStart : KV Nat := []
  passTime : KV Nat := []
  replaced : List Nat := []
  refreshRow : Nat := 0
  refreshTick : Nat := 0
  ueCycle : Bool := false
  initUntil : KV Nat := []
  hitTick : Nat := 0
  hits : List Nat := []
  found : List (Nat × RdOut) := []
  passes : List Nat := []
deriving DecidableEq, Repr

/-- The timer of a mailbox (R417): tick of its last start, its length in ms, accepted or not. -/
structure MbTimer where
  since : Nat
  ms : Nat
  accepted : Bool
deriving DecidableEq, Repr

/-- A DMA transfer in progress (R421): host address, local address, length, direction (true from local
memory to the host). -/
structure DmaJob where
  haddr : Nat
  laddr : Nat
  len : Nat
  out : Bool
  since : Nat
deriving DecidableEq, Repr

/-- One confirmation copy in flash (R377); erased flash reads as ones. -/
structure ConfCopy where
  magic : Word := 0xFFFFFFFF
  count : Word := 0xFFFFFFFF
  value : Word := 0xFFFFFFFF
  crc : Word := 0xFFFFFFFF
deriving DecidableEq, Repr

/-- A flash operation (R423): the words of HIF_FL_CMD, HIF_FL_ADDR and HIF_FL_LADR at its GO. Of one that Glipor makes for
a command (number of its job, 0x100 for Glipor's start-up) the bytes that it has staged, or that it is an erase; and
the confirmation copy that it rewrites (R377). -/
structure FlashOp where
  cmd : Word
  addr : Nat
  ladr : Nat
  task : Option Nat := none
  bytes : List Nat := []
  erase : Bool := false
  conf : Option (Bool × ConfCopy) := none
deriving DecidableEq, Repr

/-- A Glipor command that waits for its outcome: OPC, tick at which it was accepted, groups whose commit it has
requested by block, axes or another argument, DMA channel it uses, effective timeout in ms (R417), whether it has
begun: one that has not was accepted before its mailbox was taken away (R407), and the request that such a one has
read. -/
structure GlJob where
  opc : Nat
  since : Nat
  groups : List (Nat × Nat) := []
  axes : List Nat := []
  arg : Nat := 0
  chan : Option Nat := none
  ms : Nat := 0
  begun : Bool := true
  req : List Nat := []
deriving DecidableEq, Repr

/-- Host interface beyond its registers (R405 to R427): the control words of BAR0, the MSI-X table by word and
its pending bits, the MSI mask, pending bits, address and data, the function mask of MSI-X, doorbells
queued, mailbox timers, Glipor's commands under way, bytes written in the present quad-SPI transaction
by address, UNDERRUN and ERROR of the status byte, DMA transfers, the flash operation that runs, the
one that waits for the master and those that Glipor's tasks have still to start, the order in which Glipor has taken the mailboxes that it has not completed (R416), the
sysclk in which bits of HDONE and HNOTE were last set and those bits (R9), the tick since which BEAT counts, an abort
of the task that runs, the status byte that a quad-SPI transaction repeats, base addresses and maximum read request
size of PCI Express. Jobs from 32 on are those of commands whose mailbox, the number modulo 32, a reset of the interface has
taken away. -/
structure HifSt where
  hown : Nat := 0
  hdone : Nat := 0
  hnote : Nat := 0
  hstate : Word := 0
  msix : KV Word := []
  msixPend : Nat := 0
  msixMask : Bool := false
  msiMask : Nat := 0
  msiPend : Nat := 0
  msiAddr : Nat := 0
  msiData : Nat := 0
  queue : List Nat := []
  timers : KV (Option MbTimer) := []
  jobs : KV (Option GlJob) := []
  spi : List (Nat × Nat) := []
  spiUnder : Bool := false
  spiErr : Bool := false
  dma : KV (Option DmaJob) := []
  flash : Option FlashOp := none
  flashWait : Option FlashOp := none
  flashTasks : List FlashOp := []
  order : List Nat := []
  setAt : Nat := 0
  doneSet : Nat := 0
  noteSet : Nat := 0
  beatAt : Nat := 0
  struck : Bool := false
  spiShown : Option Nat := none
  bar0 : Nat := 0
  bar2 : Nat := 0
  mrrs : Nat := 2
deriving DecidableEq, Repr

/-- Images and what outlives a reset (R376, R424 to R427, R463): the anti-rollback counter and the revoked
keys as burnt since manufacture, the two confirmation copies in flash, SVN, BUILD, ENTRY and LEN of the
running image, the digest that PD_AO holds, the highest end of the chunks loaded by the host. -/
structure BootSt where
  svnBurn : Nat := 0
  revBurn : Nat := 0
  confA : ConfCopy := {}
  confB : ConfCopy := {}
  svn : Nat := 0
  build : Nat := 0
  entry : Nat := 0
  len : Nat := 0
  digest : Option Nat := none
  loaded : Nat := 0
deriving DecidableEq, Repr

/-- Budget of one pair of hardware CODE and INST in the present window (R435). -/
structure EvBudget where
  key : Nat
  used : Nat
  supp : Nat
deriving DecidableEq, Repr

/-- The event recorder beyond its registers (R432 to R440): the input queue, the sysclk in which an event
was last accepted, RCAUSE of a BOOT record still to write, events held before DONE, budgets by CODE,
INST and ring, the window's first tick, events lost and not yet reported with the SEQ before the loss, a
forced flush with the SEQ up to which it goes and the tick at which it began, an erase in progress and the slot at
which its sector begins, the slots of sectors whose erase is still to begin (R438), events that debug accesses have
raised in a freeze (R470). -/
structure EvlSt where
  queue : List Ev := []
  acceptAt : Option Nat := none
  boot : Option Nat := some 1
  held : List Ev := []
  budgets : List EvBudget := []
  winStart : Nat := 0
  lostNow : Nat := 0
  lostSeq : Nat := 0
  forced : Option (Nat × Nat) := none
  erasing : Bool := false
  eraseAt : Nat := 0
  eraseDue : List Nat := []
  late : List Ev := []
deriving DecidableEq, Repr

/-- Power, clocks and reset beyond the PCR_ registers (R446 to R465): a transition in progress from one
state to another, the voltage code requested, the code held at an entry to a low state, evaluations in a
row above MHI, the tick of the last kick, ticks of the strikes, whether STRMAX of them have come within 1 s, times of the processor resets
within 10 s by Marrow's clock, the tick since which STAGE 3 is awaited, the cause of a processor reset that is to happen,
whether reset is held, and the first power or power-on reset among these, the always-on period and the power state
of the last wake taken (R450), a warning to be logged and an always-on clock failure to be flagged as the clocks
start, wakes held through a freeze (Table 18-3), the PD_CTL value in effect (Table 17-4),
the straps HOSTSEL (true is quad-SPI) and CASID as sampled at the last release of reset (R405, R495). -/
structure PcrSt where
  trans : Option (Nat × Nat) := none
  code : Nat := 30
  heldCode : Nat := 30
  aboveHi : Nat := 0
  kickAt : Nat := 0
  strikes : List Nat := []
  struck : Bool := false
  prAt : List Nat := []
  awaitStage : Option Nat := none
  procReset : Option Nat := none
  inReset : Bool := true
  first : Bool := true
  wokeAt : Option (Nat × Nat) := none
  heldViow : Bool := false
  heldAox : Bool := false
  heldWakes : List Nat := []
  pdAct : Nat := 0x83
  hostSel : Bool := false
  cid : Fin 4 := 0
deriving DecidableEq, Repr

/-- What a processor address names (R27 to R31, R393): the register window of a block whose domain is on or
off, the mailbox window likewise, a memory that can be accessed or one that cannot (domain off, or not yet
initialised), or nothing. -/
inductive BusDest where
  | reg (k : Nat)
  | regOff (k : Nat)
  | box
  | boxOff
  | mem (m : Nat)
  | memOff
  | hole
deriving DecidableEq, Repr

/-- A debug access: OP, the address it reaches, write data (Table 18-2). -/
structure DbgAcc where
  op : Nat
  addr : Nat
  data : Word := 0
deriving DecidableEq, Repr

/-- The debug port and FREEZE beyond the DBG_ registers (R467 to R475): the current instruction, the cells of the
boundary register that drive the balls (R468), the FREEZE ball seen low since the release of reset, the access
register as captured next, accesses that continue (R469), a freeze request whose stop is to come, the elapsed time
(in 1/64 tick) and the time base at the stop, the processor's registers at the stop: R_0 to R_31, PC and PSR. -/
structure DbgSt where
  ir : Nat := 2
  bound : Nat := 0
  ballSeen : Bool := true
  acc : Nat := 0
  waiting : List DbgAcc := []
  stopping : Bool := false
  stopAt : Nat := 0
  stopNs : Nat := 0
  cpu : List Word := []
deriving DecidableEq, Repr

/-- What left the device: a frame of a ring port or a record of a cascade port with the departure of
its SD in 1/16 ns, a notice, the bytes of a host read, an interrupt message to the host (MSI vector or
MSI-X address and data), DMA requests, programs, erases and operations of the flash, a voltage request,
what a register read returned, what a data register of the debug port shifts out, what boundary scan puts on the digital
balls: the cells of the boundary register, or high impedance (R468). -/
inductive Out where
  | frame (port sd : Nat) (f : Frame)
  | record (port sd : Nat) (f : Frame)
  | notice (port byte : Nat)
  | casNotice (port byte : Nat)
  | hostData (bytes : List Nat)
  | msi (vec : Nat)
  | msix (addr data : Nat)
  | dmaRead (ch addr len : Nat)
  | dmaWrite (ch addr : Nat) (bytes : List Nat)
  | flashProg (addr : Nat) (words : List Nat)
  | flashErase (addr : Nat)
  | flashSuspend
  | flashResume
  | flashOp (op : Word) (addr : Nat) (bytes : List Nat)
  | vreq (bits : List Bool)
  | pins (cells : Option Nat)
  | value (v : Nat)
  | tdo (v : Nat)
deriving DecidableEq, Repr

/-- The state of the machine. -/
structure State where
  /-- Registers by processor address: shadows of shadowed fields, values of the others (R32, R33). -/
  regs : KV Word := []
  /-- Hardware's work on registers in the present sysclk (R9). -/
  clk : SameClk := {}
  /-- Active copies (R32). -/
  actv : KV Word := []
  /-- Active copies of the previous cycle, for work that outlives its cycle (R26). -/
  prev : KV Word := []
  /-- Staging copies that wait for the next cycle start (R35, R39). -/
  staged : List Staged := []
  time : TimeSt := {}
  mem : MemSt := {}
  cmt : CmtSt := {}
  le : LeSt := {}
  pods : KV PodSt := []
  /-- Loop-overrun alarm of each pod raised to firmware (R102). -/
  ovrAlarm : List Nat := []
  /-- OVR, BND or DSC has been set in this cycle (R305). -/
  dsBad : Bool := false
  axes : KV AxSt := []
  pg : KV PgSt := []
  steps : KV StepSt := []
  chans : KV ChanSt := []
  emus : KV EmuSt := []
  /-- Word 5 of source records before the records of the last cycles, newest first (R138). -/
  uqs : List OldUq := []
  net : NetSt := {}
  slt : SltSt := {}
  syn : SynSt := {}
  cas : CasSt := {}
  acq : AcqSt := {}
  fio : FioSt := {}
  saf : SafSt := {}
  mi : MemIntSt := {}
  hif : HifSt := {}
  boot : BootSt := {}
  evl : EvlSt := {}
  pcr : PcrSt := {}
  dbg : DbgSt := {}
  /-- Interrupts to firmware not yet taken. -/
  fwIrq : List FwIrq := []
  /-- What left the device, oldest first: the model's own record, nothing reads it. -/
  outs : List Out := []
  /-- Counter of the free values; the model's own. -/
  free : Nat := 0
  /-- Commands that wait, first in first out; the model's own. -/
  pending : List Instr := []
deriving DecidableEq, Repr

/-- The machine right after a power-on reset: every register at its reset value, so that no table
lists an entry, memory with nothing listed, no command waiting. -/
def State.reset : State := {}

end Sys2Proof.Machine
end

