-- ==== Sys2Proof/Machine/RegTable.lean ====
section
/-! DEFINITION. The register windows (R27, R29, R30): the address of every register under the
spec's own name, and one table row per register with its reset value, its fields, their access
codes (Table 0-3) and their commit groups, as the register tables of each chapter give them. -/

namespace Sys2Proof.Machine

/-- R29: base of the register window of block k. -/
def winBase (k : Nat) : Nat := 0x40000000 + 0x10000 * k

/-! Register addresses of the LE_ block. -/

/-- LE_POD_CTL_p: R81 of 02_loop_engine_datapath.md. -/
def Reg.LE_POD_CTL (p : Nat) : Nat := 0x40000000 + 256 * p

/-- LE_FLAG_EN_p: R81 of 02_loop_engine_datapath.md. -/
def Reg.LE_FLAG_EN (p : Nat) : Nat := 0x40000004 + 256 * p

/-- LE_POD_STAT_p: R81 of 02_loop_engine_datapath.md. -/
def Reg.LE_POD_STAT (p : Nat) : Nat := 0x40000008 + 256 * p

/-- LE_FLAGS_p: R81 of 02_loop_engine_datapath.md. -/
def Reg.LE_FLAGS (p : Nat) : Nat := 0x4000000C + 256 * p

/-- LE_ILL_INFO_p: R81 of 02_loop_engine_datapath.md. -/
def Reg.LE_ILL_INFO (p : Nat) : Nat := 0x40000010 + 256 * p

/-- LE_PSN_INFO_p: R81 of 02_loop_engine_datapath.md. -/
def Reg.LE_PSN_INFO (p : Nat) : Nat := 0x40000014 + 256 * p

/-- LE_ISSUE_CNT_p: R81 of 02_loop_engine_datapath.md. -/
def Reg.LE_ISSUE_CNT (p : Nat) : Nat := 0x40000018 + 256 * p

/-- LE_CTX_STAT_n: R81 of 02_loop_engine_datapath.md. -/
def Reg.LE_CTX_STAT (n : Nat) : Nat := 0x40001000 + 4 * n

/-! Register addresses of the DS_ block. -/

/-- DS_POD_CTL_p: R103 of 03_dataflow_scheduler.md. -/
def Reg.DS_POD_CTL (p : Nat) : Nat := 0x40010000 + 256 * p

/-- DS_GTAB_A_p: R103 of 03_dataflow_scheduler.md. -/
def Reg.DS_GTAB_A (p : Nat) : Nat := 0x40010004 + 256 * p

/-- DS_GTAB_B_p: R103 of 03_dataflow_scheduler.md. -/
def Reg.DS_GTAB_B (p : Nat) : Nat := 0x40010008 + 256 * p

/-- DS_DEADLINE_p: R103 of 03_dataflow_scheduler.md. -/
def Reg.DS_DEADLINE (p : Nat) : Nat := 0x4001000C + 256 * p

/-- DS_SIG_REF_p: R103 of 03_dataflow_scheduler.md. -/
def Reg.DS_SIG_REF (p : Nat) : Nat := 0x40010010 + 256 * p

/-- DS_STAT_p: R103 of 03_dataflow_scheduler.md. -/
def Reg.DS_STAT (p : Nat) : Nat := 0x40010014 + 256 * p

/-- DS_ERR_p: R103 of 03_dataflow_scheduler.md. -/
def Reg.DS_ERR (p : Nat) : Nat := 0x40010018 + 256 * p

/-- DS_CNT_p: R103 of 03_dataflow_scheduler.md. -/
def Reg.DS_CNT (p : Nat) : Nat := 0x4001001C + 256 * p

/-- DS_FLT_INFO_p: R103 of 03_dataflow_scheduler.md. -/
def Reg.DS_FLT_INFO (p : Nat) : Nat := 0x40010020 + 256 * p

/-- DS_SIG_p: R103 of 03_dataflow_scheduler.md. -/
def Reg.DS_SIG (p : Nat) : Nat := 0x40010024 + 256 * p

/-! Register addresses of the AX_ block. -/

/-- AX_MODE_n: R136 of 04_control_laws.md. -/
def Reg.AX_MODE (n : Nat) : Nat := 0x40020000 + 4 * n

/-- AX_REACT_n: R136 of 04_control_laws.md. -/
def Reg.AX_REACT (n : Nat) : Nat := 0x40020400 + 4 * n

/-- AX_STAT_n: R136 of 04_control_laws.md. -/
def Reg.AX_STAT (n : Nat) : Nat := 0x40020800 + 4 * n

/-- AX_FAULT_n: R136 of 04_control_laws.md. -/
def Reg.AX_FAULT (n : Nat) : Nat := 0x40020C00 + 4 * n

/-- AX_ACK_n: R136 of 04_control_laws.md. -/
def Reg.AX_ACK (n : Nat) : Nat := 0x40021000 + 4 * n

/-- AX_CBANK_OFS_p: R136 of 04_control_laws.md. -/
def Reg.AX_CBANK_OFS (p : Nat) : Nat := 0x40021400 + 4 * p

/-! Register addresses of the PG_ block. -/

/-- PG_MODE_n: R167 of 05_motion_profiles.md. -/
def Reg.PG_MODE (n : Nat) : Nat := 0x40030000 + 4 * n

/-- PG_TGT_n: R167 of 05_motion_profiles.md. -/
def Reg.PG_TGT (n : Nat) : Nat := 0x40030400 + 4 * n

/-- PG_VMAX_n: R167 of 05_motion_profiles.md. -/
def Reg.PG_VMAX (n : Nat) : Nat := 0x40030800 + 4 * n

/-- PG_AMAX_n: R167 of 05_motion_profiles.md. -/
def Reg.PG_AMAX (n : Nat) : Nat := 0x40030C00 + 4 * n

/-- PG_DMAX_n: R167 of 05_motion_profiles.md. -/
def Reg.PG_DMAX (n : Nat) : Nat := 0x40031000 + 4 * n

/-- PG_DHARD_n: R167 of 05_motion_profiles.md. -/
def Reg.PG_DHARD (n : Nat) : Nat := 0x40031800 + 4 * n

/-- PG_QSDEC_n: R167 of 05_motion_profiles.md. -/
def Reg.PG_QSDEC (n : Nat) : Nat := 0x40031C00 + 4 * n

/-- PG_JMAX_n: R167 of 05_motion_profiles.md. -/
def Reg.PG_JMAX (n : Nat) : Nat := 0x40031400 + 4 * n

/-- PG_QSJRK_n: R167 of 05_motion_profiles.md. -/
def Reg.PG_QSJRK (n : Nat) : Nat := 0x40032000 + 4 * n

/-- PG_TAB_n: R167 of 05_motion_profiles.md. -/
def Reg.PG_TAB (n : Nat) : Nat := 0x40032400 + 4 * n

/-- PG_TAPP_n: R167 of 05_motion_profiles.md. -/
def Reg.PG_TAPP (n : Nat) : Nat := 0x40032800 + 4 * n

/-- PG_TPTR_n: R167 of 05_motion_profiles.md. -/
def Reg.PG_TPTR (n : Nat) : Nat := 0x40032C00 + 4 * n

/-- PG_LACFG_n: R167 of 05_motion_profiles.md. -/
def Reg.PG_LACFG (n : Nat) : Nat := 0x40033000 + 4 * n

/-- PG_LAK_n: R167 of 05_motion_profiles.md. -/
def Reg.PG_LAK (n : Nat) : Nat := 0x40033400 + 4 * n

/-- PG_LAL_n: R167 of 05_motion_profiles.md. -/
def Reg.PG_LAL (n : Nat) : Nat := 0x40033800 + 4 * n

/-- PG_STAT_n: R167 of 05_motion_profiles.md. -/
def Reg.PG_STAT (n : Nat) : Nat := 0x40033C00 + 4 * n

/-- PG_LAR_n: R167 of 05_motion_profiles.md. -/
def Reg.PG_LAR (n : Nat) : Nat := 0x40034000 + 4 * n

/-- PG_TACT_n: R167 of 05_motion_profiles.md. -/
def Reg.PG_TACT (n : Nat) : Nat := 0x40034400 + 4 * n

/-! Register addresses of the FB_ block. -/

/-- FB_CH_CTL_c: R193 of 06_local_feedback.md. -/
def Reg.FB_CH_CTL (c : Nat) : Nat := 0x40040000 + 64 * c

/-- FB_CH_REC_c: R193 of 06_local_feedback.md. -/
def Reg.FB_CH_REC (c : Nat) : Nat := 0x40040004 + 64 * c

/-- FB_SC_OFS_c: R193 of 06_local_feedback.md. -/
def Reg.FB_SC_OFS (c : Nat) : Nat := 0x40040008 + 64 * c

/-- FB_SC_GAIN_c: R193 of 06_local_feedback.md. -/
def Reg.FB_SC_GAIN (c : Nat) : Nat := 0x4004000C + 64 * c

/-- FB_SSI_CFG_c: R193 of 06_local_feedback.md. -/
def Reg.FB_SSI_CFG (c : Nat) : Nat := 0x40040010 + 64 * c

/-- FB_SSI_TIM_c: R193 of 06_local_feedback.md. -/
def Reg.FB_SSI_TIM (c : Nat) : Nat := 0x40040014 + 64 * c

/-- FB_SSI_SPH_c: R193 of 06_local_feedback.md. -/
def Reg.FB_SSI_SPH (c : Nat) : Nat := 0x40040018 + 64 * c

/-- FB_CH_STAT_c: R193 of 06_local_feedback.md. -/
def Reg.FB_CH_STAT (c : Nat) : Nat := 0x40040020 + 64 * c

/-- FB_CH_POS_c: R193 of 06_local_feedback.md. -/
def Reg.FB_CH_POS (c : Nat) : Nat := 0x40040024 + 64 * c

/-- FB_CH_CNT_c: R193 of 06_local_feedback.md. -/
def Reg.FB_CH_CNT (c : Nat) : Nat := 0x40040028 + 64 * c

/-- FB_EMU_CTL_e: R193 of 06_local_feedback.md. -/
def Reg.FB_EMU_CTL (e : Nat) : Nat := 0x40040400 + 32 * e

/-- FB_EMU_RATIO_e: R193 of 06_local_feedback.md. -/
def Reg.FB_EMU_RATIO (e : Nat) : Nat := 0x40040404 + 32 * e

/-- FB_EMU_TIM_e: R193 of 06_local_feedback.md. -/
def Reg.FB_EMU_TIM (e : Nat) : Nat := 0x40040408 + 32 * e

/-- FB_EMU_STAT_e: R193 of 06_local_feedback.md. -/
def Reg.FB_EMU_STAT (e : Nat) : Nat := 0x4004040C + 32 * e

/-- FB_STEP_CFG_s: R193 of 06_local_feedback.md. -/
def Reg.FB_STEP_CFG (s : Nat) : Nat := 0x40040600 + 16 * s

/-- FB_STEP_TIM_s: R193 of 06_local_feedback.md. -/
def Reg.FB_STEP_TIM (s : Nat) : Nat := 0x40040604 + 16 * s

/-! Register addresses of the NET_ block. -/

/-- NET_RING_CTL_r: R223 of 07_oparo_link.md. -/
def Reg.NET_RING_CTL (r : Nat) : Nat := 0x40050000 + 256 * r

/-- NET_RING_CMD_r: R223 of 07_oparo_link.md. -/
def Reg.NET_RING_CMD (r : Nat) : Nat := 0x40050004 + 256 * r

/-- NET_RING_STAT_r: R223 of 07_oparo_link.md. -/
def Reg.NET_RING_STAT (r : Nat) : Nat := 0x40050008 + 256 * r

/-- NET_TAUB_r: R223 of 07_oparo_link.md. -/
def Reg.NET_TAUB (r : Nat) : Nat := 0x4005000C + 256 * r

/-- NET_ERR_r: R223 of 07_oparo_link.md. -/
def Reg.NET_ERR (r : Nat) : Nat := 0x40050010 + 256 * r

/-- NET_CNT_FRM_r: R223 of 07_oparo_link.md. -/
def Reg.NET_CNT_FRM (r : Nat) : Nat := 0x40050014 + 256 * r

/-- NET_CNT_SEQ_r: R223 of 07_oparo_link.md. -/
def Reg.NET_CNT_SEQ (r : Nat) : Nat := 0x40050018 + 256 * r

/-- NET_PORT_CTL_n: R223 of 07_oparo_link.md. -/
def Reg.NET_PORT_CTL (n : Nat) : Nat := 0x40050400 + 16 * n

/-- NET_PORT_STAT_n: R223 of 07_oparo_link.md. -/
def Reg.NET_PORT_STAT (n : Nat) : Nat := 0x40050404 + 16 * n

/-- NET_PORT_CNT_n: R223 of 07_oparo_link.md. -/
def Reg.NET_PORT_CNT (n : Nat) : Nat := 0x40050408 + 16 * n

/-- NET_RTTA_n: R223 of 07_oparo_link.md. -/
def Reg.NET_RTTA (n : Nat) : Nat := 0x40051000 + 4 * n

/-- NET_RTTB_n: R223 of 07_oparo_link.md. -/
def Reg.NET_RTTB (n : Nat) : Nat := 0x40051800 + 4 * n

/-- NET_RLY_n: R223 of 07_oparo_link.md. -/
def Reg.NET_RLY (n : Nat) : Nat := 0x40052000 + 4 * n

/-! Register addresses of the SLT_ block. -/

/-- SLT_CFG: R251 of 08_slots_and_startup.md. -/
def Reg.SLT_CFG : Nat := 0x40060000

/-- SLT_IMG: R251 of 08_slots_and_startup.md. -/
def Reg.SLT_IMG : Nat := 0x40060004

/-- SLT_OPH: R251 of 08_slots_and_startup.md. -/
def Reg.SLT_OPH : Nat := 0x40060008

/-- SLT_GUARD: R251 of 08_slots_and_startup.md. -/
def Reg.SLT_GUARD : Nat := 0x4006000C

/-- SLT_CS_CMD: R251 of 08_slots_and_startup.md. -/
def Reg.SLT_CS_CMD : Nat := 0x40060010

/-- SLT_CS_STAT: R251 of 08_slots_and_startup.md. -/
def Reg.SLT_CS_STAT : Nat := 0x40060014

/-- SLT_AGELIM_m: R251 of 08_slots_and_startup.md. -/
def Reg.SLT_AGELIM (m : Nat) : Nat := 0x40060080 + 4 * m

/-- SLT_BCN_r: R251 of 08_slots_and_startup.md. -/
def Reg.SLT_BCN (r : Nat) : Nat := 0x40060200 + 32 * r

/-- SLT_PRA_r: R251 of 08_slots_and_startup.md. -/
def Reg.SLT_PRA (r : Nat) : Nat := 0x40060204 + 32 * r

/-- SLT_PRB_r: R251 of 08_slots_and_startup.md. -/
def Reg.SLT_PRB (r : Nat) : Nat := 0x40060208 + 32 * r

/-- SLT_CLM_r: R251 of 08_slots_and_startup.md. -/
def Reg.SLT_CLM (r : Nat) : Nat := 0x4006020C + 32 * r

/-- SLT_CLAIM_r: R251 of 08_slots_and_startup.md. -/
def Reg.SLT_CLAIM (r : Nat) : Nat := 0x40060210 + 32 * r

/-- SLT_CLID_r: R251 of 08_slots_and_startup.md. -/
def Reg.SLT_CLID (r : Nat) : Nat := 0x40060214 + 32 * r

/-- SLT_CLSER_r: R251 of 08_slots_and_startup.md. -/
def Reg.SLT_CLSER (r : Nat) : Nat := 0x40060218 + 32 * r

/-- SLT_GRANT_r: R251 of 08_slots_and_startup.md. -/
def Reg.SLT_GRANT (r : Nat) : Nat := 0x4006021C + 32 * r

/-- SLT_SLOT_n: R251 of 08_slots_and_startup.md. -/
def Reg.SLT_SLOT (n : Nat) : Nat := 0x40061000 + 4 * n

/-- SLT_UE_n: R251 of 08_slots_and_startup.md. -/
def Reg.SLT_UE (n : Nat) : Nat := 0x40061800 + 4 * n

/-- SLT_DD_n: R251 of 08_slots_and_startup.md. -/
def Reg.SLT_DD (n : Nat) : Nat := 0x40062000 + 4 * n

/-- SLT_SST_n: R251 of 08_slots_and_startup.md. -/
def Reg.SLT_SST (n : Nat) : Nat := 0x40062800 + 4 * n

/-- SLT_MCNT_n: R251 of 08_slots_and_startup.md. -/
def Reg.SLT_MCNT (n : Nat) : Nat := 0x40063000 + 4 * n

/-- SLT_ECNT_n: R251 of 08_slots_and_startup.md. -/
def Reg.SLT_ECNT (n : Nat) : Nat := 0x40063800 + 4 * n

/-! Register addresses of the SYN_ block. -/

/-- SYN_CFG: R277 of 09_time_synchronisation.md. -/
def Reg.SYN_CFG : Nat := 0x40070000

/-- SYN_LIM: R277 of 09_time_synchronisation.md. -/
def Reg.SYN_LIM : Nat := 0x40070004

/-- SYN_LIM2: R277 of 09_time_synchronisation.md. -/
def Reg.SYN_LIM2 : Nat := 0x40070008

/-- SYN_SRC_j: R277 of 09_time_synchronisation.md. -/
def Reg.SYN_SRC (j : Nat) : Nat := 0x40070010 + 4 * j

/-- SYN_CINST: R277 of 09_time_synchronisation.md. -/
def Reg.SYN_CINST : Nat := 0x40070030

/-- SYN_TIME_LO: R277 of 09_time_synchronisation.md. -/
def Reg.SYN_TIME_LO : Nat := 0x40070040

/-- SYN_TIME_HI: R277 of 09_time_synchronisation.md. -/
def Reg.SYN_TIME_HI : Nat := 0x40070044

/-- SYN_TIME_FR: R277 of 09_time_synchronisation.md. -/
def Reg.SYN_TIME_FR : Nat := 0x40070048

/-- SYN_CYC_LO: R277 of 09_time_synchronisation.md. -/
def Reg.SYN_CYC_LO : Nat := 0x4007004C

/-- SYN_CYC_HI: R277 of 09_time_synchronisation.md. -/
def Reg.SYN_CYC_HI : Nat := 0x40070050

/-- SYN_TSET_LO: R277 of 09_time_synchronisation.md. -/
def Reg.SYN_TSET_LO : Nat := 0x40070054

/-- SYN_TSET_HI: R277 of 09_time_synchronisation.md. -/
def Reg.SYN_TSET_HI : Nat := 0x40070058

/-- SYN_CMD: R277 of 09_time_synchronisation.md. -/
def Reg.SYN_CMD : Nat := 0x4007005C

/-- SYN_RATE: R277 of 09_time_synchronisation.md. -/
def Reg.SYN_RATE : Nat := 0x40070060

/-- SYN_OFS: R277 of 09_time_synchronisation.md. -/
def Reg.SYN_OFS : Nat := 0x40070064

/-- SYN_STAT: R277 of 09_time_synchronisation.md. -/
def Reg.SYN_STAT : Nat := 0x40070068

/-- SYN_ERR: R277 of 09_time_synchronisation.md. -/
def Reg.SYN_ERR : Nat := 0x4007006C

/-- SYN_DEV_j: R277 of 09_time_synchronisation.md. -/
def Reg.SYN_DEV (j : Nat) : Nat := 0x40070080 + 4 * j

/-- SYN_DEVQ_j: R277 of 09_time_synchronisation.md. -/
def Reg.SYN_DEVQ (j : Nat) : Nat := 0x400700A0 + 4 * j

/-- SYN_CASDLY_p: R277 of 09_time_synchronisation.md. -/
def Reg.SYN_CASDLY (p : Nat) : Nat := 0x400700C0 + 4 * p

/-- SYN_SS_n: R277 of 09_time_synchronisation.md. -/
def Reg.SYN_SS (n : Nat) : Nat := 0x40070100 + 4 * n

/-! Register addresses of the CAS_ block. -/

/-- CAS_ID: R307 of 10_cascade_and_redundancy.md. -/
def Reg.CAS_ID : Nat := 0x40080000

/-- CAS_CFG: R307 of 10_cascade_and_redundancy.md. -/
def Reg.CAS_CFG : Nat := 0x40080004

/-- CAS_MIR_SEL0: R307 of 10_cascade_and_redundancy.md. -/
def Reg.CAS_MIR_SEL0 : Nat := 0x40080008

/-- CAS_MIR_SEL1: R307 of 10_cascade_and_redundancy.md. -/
def Reg.CAS_MIR_SEL1 : Nat := 0x4008000C

/-- CAS_MIR_TIM: R307 of 10_cascade_and_redundancy.md. -/
def Reg.CAS_MIR_TIM : Nat := 0x40080010

/-- CAS_PAIR_TIM: R307 of 10_cascade_and_redundancy.md. -/
def Reg.CAS_PAIR_TIM : Nat := 0x40080014

/-- CAS_MIR_MAPB: R307 of 10_cascade_and_redundancy.md. -/
def Reg.CAS_MIR_MAPB : Nat := 0x40080018

/-- CAS_MC_ARG: R307 of 10_cascade_and_redundancy.md. -/
def Reg.CAS_MC_ARG : Nat := 0x40080020

/-- CAS_MC_CYC: R307 of 10_cascade_and_redundancy.md. -/
def Reg.CAS_MC_CYC : Nat := 0x40080024

/-- CAS_MC_CMD: R307 of 10_cascade_and_redundancy.md. -/
def Reg.CAS_MC_CMD : Nat := 0x40080028

/-- CAS_MC_STAT: R307 of 10_cascade_and_redundancy.md. -/
def Reg.CAS_MC_STAT : Nat := 0x4008002C

/-- CAS_MC_ACT: R307 of 10_cascade_and_redundancy.md. -/
def Reg.CAS_MC_ACT : Nat := 0x40080030

/-- CAS_MC_CYCS: R307 of 10_cascade_and_redundancy.md. -/
def Reg.CAS_MC_CYCS : Nat := 0x40080034

/-- CAS_MC_MASK_k: R307 of 10_cascade_and_redundancy.md. -/
def Reg.CAS_MC_MASK (k : Nat) : Nat := 0x40080040 + 4 * k

/-- CAS_MIR_EN_m: R307 of 10_cascade_and_redundancy.md. -/
def Reg.CAS_MIR_EN (m : Nat) : Nat := 0x40080100 + 4 * m

/-- CAS_PORT_CTL_p: R307 of 10_cascade_and_redundancy.md. -/
def Reg.CAS_PORT_CTL (p : Nat) : Nat := 0x40080200 + 32 * p

/-- CAS_RXCFG_p: R307 of 10_cascade_and_redundancy.md. -/
def Reg.CAS_RXCFG (p : Nat) : Nat := 0x40080204 + 32 * p

/-- CAS_RXDL_p: R307 of 10_cascade_and_redundancy.md. -/
def Reg.CAS_RXDL (p : Nat) : Nat := 0x40080208 + 32 * p

/-- CAS_PORT_STAT_p: R307 of 10_cascade_and_redundancy.md. -/
def Reg.CAS_PORT_STAT (p : Nat) : Nat := 0x4008020C + 32 * p

/-- CAS_PORT_CNT_p: R307 of 10_cascade_and_redundancy.md. -/
def Reg.CAS_PORT_CNT (p : Nat) : Nat := 0x40080210 + 32 * p

/-- CAS_HEALTH: R307 of 10_cascade_and_redundancy.md. -/
def Reg.CAS_HEALTH : Nat := 0x40080300

/-- CAS_PHEALTH: R307 of 10_cascade_and_redundancy.md. -/
def Reg.CAS_PHEALTH : Nat := 0x40080304

/-- CAS_PSTAT: R307 of 10_cascade_and_redundancy.md. -/
def Reg.CAS_PSTAT : Nat := 0x40080308

/-- CAS_ERR: R307 of 10_cascade_and_redundancy.md. -/
def Reg.CAS_ERR : Nat := 0x4008030C

/-- CAS_MIRCNT: R307 of 10_cascade_and_redundancy.md. -/
def Reg.CAS_MIRCNT : Nat := 0x40080310

/-! Register addresses of the ACQ_ block. -/

/-- ACQ_CFG: R335 of 11_capture_and_trigger.md. -/
def Reg.ACQ_CFG : Nat := 0x40090000

/-- ACQ_WHEEL_0: R335 of 11_capture_and_trigger.md. -/
def Reg.ACQ_WHEEL_0 : Nat := 0x40090004

/-- ACQ_WHEEL_1: R335 of 11_capture_and_trigger.md. -/
def Reg.ACQ_WHEEL_1 : Nat := 0x40090008

/-- ACQ_TIN_CFG: R335 of 11_capture_and_trigger.md. -/
def Reg.ACQ_TIN_CFG : Nat := 0x4009000C

/-- ACQ_SQ_CTL: R335 of 11_capture_and_trigger.md. -/
def Reg.ACQ_SQ_CTL : Nat := 0x40090010

/-- ACQ_SQ_CLIM: R335 of 11_capture_and_trigger.md. -/
def Reg.ACQ_SQ_CLIM : Nat := 0x40090014

/-- ACQ_SQ_TLIM: R335 of 11_capture_and_trigger.md. -/
def Reg.ACQ_SQ_TLIM : Nat := 0x40090018

/-- ACQ_SQ_CVAL: R335 of 11_capture_and_trigger.md. -/
def Reg.ACQ_SQ_CVAL : Nat := 0x40090020

/-- ACQ_SQ_TVAL: R335 of 11_capture_and_trigger.md. -/
def Reg.ACQ_SQ_TVAL : Nat := 0x40090024

/-- ACQ_SQ_CMD: R335 of 11_capture_and_trigger.md. -/
def Reg.ACQ_SQ_CMD : Nat := 0x4009001C

/-- ACQ_SQ_STAT: R335 of 11_capture_and_trigger.md. -/
def Reg.ACQ_SQ_STAT : Nat := 0x40090028

/-- ACQ_TRG_CYC_LO: R335 of 11_capture_and_trigger.md. -/
def Reg.ACQ_TRG_CYC_LO : Nat := 0x40090030

/-- ACQ_TRG_CYC_HI: R335 of 11_capture_and_trigger.md. -/
def Reg.ACQ_TRG_CYC_HI : Nat := 0x40090034

/-- ACQ_TRG_TOFS: R335 of 11_capture_and_trigger.md. -/
def Reg.ACQ_TRG_TOFS : Nat := 0x40090038

/-- ACQ_ERR: R335 of 11_capture_and_trigger.md. -/
def Reg.ACQ_ERR : Nat := 0x4009003C

/-- ACQ_SQ_ST_s: R335 of 11_capture_and_trigger.md. -/
def Reg.ACQ_SQ_ST (s : Nat) : Nat := 0x40090100 + 4 * s

/-- ACQ_CMP_SRC_k: R335 of 11_capture_and_trigger.md. -/
def Reg.ACQ_CMP_SRC (k : Nat) : Nat := 0x40090200 + 16 * k

/-- ACQ_CMP_CTL_k: R335 of 11_capture_and_trigger.md. -/
def Reg.ACQ_CMP_CTL (k : Nat) : Nat := 0x40090204 + 16 * k

/-- ACQ_CMP_THR_k: R335 of 11_capture_and_trigger.md. -/
def Reg.ACQ_CMP_THR (k : Nat) : Nat := 0x40090208 + 16 * k

/-- ACQ_CMP_MSK_k: R335 of 11_capture_and_trigger.md. -/
def Reg.ACQ_CMP_MSK (k : Nat) : Nat := 0x4009020C + 16 * k

/-- ACQ_AREA_GEO_a: R335 of 11_capture_and_trigger.md. -/
def Reg.ACQ_AREA_GEO (a : Nat) : Nat := 0x40090400 + 32 * a

/-- ACQ_AREA_CTL_a: R335 of 11_capture_and_trigger.md. -/
def Reg.ACQ_AREA_CTL (a : Nat) : Nat := 0x40090404 + 32 * a

/-- ACQ_AREA_PP_a: R335 of 11_capture_and_trigger.md. -/
def Reg.ACQ_AREA_PP (a : Nat) : Nat := 0x40090408 + 32 * a

/-- ACQ_AREA_RP_a: R335 of 11_capture_and_trigger.md. -/
def Reg.ACQ_AREA_RP (a : Nat) : Nat := 0x4009040C + 32 * a

/-- ACQ_AREA_STAT_a: R335 of 11_capture_and_trigger.md. -/
def Reg.ACQ_AREA_STAT (a : Nat) : Nat := 0x40090410 + 32 * a

/-- ACQ_AREA_LEN_a: R335 of 11_capture_and_trigger.md. -/
def Reg.ACQ_AREA_LEN (a : Nat) : Nat := 0x40090414 + 32 * a

/-- ACQ_AREA_CNT_a: R335 of 11_capture_and_trigger.md. -/
def Reg.ACQ_AREA_CNT (a : Nat) : Nat := 0x40090418 + 32 * a

/-- ACQ_SIG_n: R335 of 11_capture_and_trigger.md. -/
def Reg.ACQ_SIG (n : Nat) : Nat := 0x40091000 + 4 * n

/-! Register addresses of the FIO_ block. -/

/-- FIO_IN_CFG_i: R356 of 12_field_io.md. -/
def Reg.FIO_IN_CFG (i : Nat) : Nat := 0x400A0000 + 4 * i

/-- FIO_IN_TRK: R356 of 12_field_io.md. -/
def Reg.FIO_IN_TRK : Nat := 0x400A0040

/-- FIO_IN_IEN: R356 of 12_field_io.md. -/
def Reg.FIO_IN_IEN : Nat := 0x400A0044

/-- FIO_IN_LVL: R356 of 12_field_io.md. -/
def Reg.FIO_IN_LVL : Nat := 0x400A0048

/-- FIO_IN_EDGE: R356 of 12_field_io.md. -/
def Reg.FIO_IN_EDGE : Nat := 0x400A004C

/-- FIO_IN_WB: R356 of 12_field_io.md. -/
def Reg.FIO_IN_WB : Nat := 0x400A0050

/-- FIO_IN_THR: R356 of 12_field_io.md. -/
def Reg.FIO_IN_THR : Nat := 0x400A0054

/-- FIO_VF: R356 of 12_field_io.md. -/
def Reg.FIO_VF : Nat := 0x400A0058

/-- FIO_SUP: R356 of 12_field_io.md. -/
def Reg.FIO_SUP : Nat := 0x400A005C

/-- FIO_SUP_CMD: R356 of 12_field_io.md. -/
def Reg.FIO_SUP_CMD : Nat := 0x400A0060

/-- FIO_OUT: R356 of 12_field_io.md. -/
def Reg.FIO_OUT : Nat := 0x400A0100

/-- FIO_OUT_SET: R356 of 12_field_io.md. -/
def Reg.FIO_OUT_SET : Nat := 0x400A0104

/-- FIO_OUT_CLR: R356 of 12_field_io.md. -/
def Reg.FIO_OUT_CLR : Nat := 0x400A0108

/-- FIO_OUT_CFG_k: R356 of 12_field_io.md. -/
def Reg.FIO_OUT_CFG (k : Nat) : Nat := 0x400A0110 + 4 * k

/-- FIO_OUT_STAT: R356 of 12_field_io.md. -/
def Reg.FIO_OUT_STAT : Nat := 0x400A0130

/-- FIO_OUT_FLT: R356 of 12_field_io.md. -/
def Reg.FIO_OUT_FLT : Nat := 0x400A0134

/-- FIO_OUT_CUR_k: R356 of 12_field_io.md. -/
def Reg.FIO_OUT_CUR (k : Nat) : Nat := 0x400A0140 + 4 * k

/-! Register addresses of the SAF_ block. -/

/-- SAF_CFG: R382 of 13_safety.md. -/
def Reg.SAF_CFG : Nat := 0x400B0000

/-- SAF_GMASK_g: R382 of 13_safety.md. -/
def Reg.SAF_GMASK (g : Nat) : Nat := 0x400B0010 + 4 * g

/-- SAF_GCTL_g: R382 of 13_safety.md. -/
def Reg.SAF_GCTL (g : Nat) : Nat := 0x400B0018 + 4 * g

/-- SAF_GTIM_g: R382 of 13_safety.md. -/
def Reg.SAF_GTIM (g : Nat) : Nat := 0x400B0020 + 4 * g

/-- SAF_INPAIR: R382 of 13_safety.md. -/
def Reg.SAF_INPAIR : Nat := 0x400B0030

/-- SAF_RST: R382 of 13_safety.md. -/
def Reg.SAF_RST : Nat := 0x400B0034

/-- SAF_PFM_EXP: R382 of 13_safety.md. -/
def Reg.SAF_PFM_EXP : Nat := 0x400B0038

/-- SAF_STATE: R382 of 13_safety.md. -/
def Reg.SAF_STATE : Nat := 0x400B0040

/-- SAF_REQ: R382 of 13_safety.md. -/
def Reg.SAF_REQ : Nat := 0x400B0044

/-- SAF_CMD: R382 of 13_safety.md. -/
def Reg.SAF_CMD : Nat := 0x400B0048

/-- SAF_CHECK: R382 of 13_safety.md. -/
def Reg.SAF_CHECK : Nat := 0x400B004C

/-- SAF_HCHECK: R382 of 13_safety.md. -/
def Reg.SAF_HCHECK : Nat := 0x400B0050

/-- SAF_CONFIRM: R382 of 13_safety.md. -/
def Reg.SAF_CONFIRM : Nat := 0x400B0054

/-- SAF_PFM: R382 of 13_safety.md. -/
def Reg.SAF_PFM : Nat := 0x400B0058

/-- SAF_PFM_END: R382 of 13_safety.md. -/
def Reg.SAF_PFM_END : Nat := 0x400B005C

/-- SAF_PFM_SIG: R382 of 13_safety.md. -/
def Reg.SAF_PFM_SIG : Nat := 0x400B0060

/-- SAF_ERR: R382 of 13_safety.md. -/
def Reg.SAF_ERR : Nat := 0x400B0064

/-- SAF_FLT: R382 of 13_safety.md. -/
def Reg.SAF_FLT : Nat := 0x400B0068

/-- SAF_AXGRP_m: R382 of 13_safety.md. -/
def Reg.SAF_AXGRP (m : Nat) : Nat := 0x400B0100 + 4 * m

/-- SAF_SLSLIM_n: R382 of 13_safety.md. -/
def Reg.SAF_SLSLIM (n : Nat) : Nat := 0x400B0400 + 4 * n

/-! Register addresses of the MEM_ block. -/

/-- MEM_SCRUB_m: R404 of 14_memory_integrity.md. -/
def Reg.MEM_SCRUB (m : Nat) : Nat := 0x400C0000 + 4 * m

/-- MEM_SSTAT_m: R404 of 14_memory_integrity.md. -/
def Reg.MEM_SSTAT (m : Nat) : Nat := 0x400C0020 + 4 * m

/-- MEM_INIT: R404 of 14_memory_integrity.md. -/
def Reg.MEM_INIT : Nat := 0x400C0040

/-- MEM_CE_CNT_m: R404 of 14_memory_integrity.md. -/
def Reg.MEM_CE_CNT (m : Nat) : Nat := 0x400C0080 + 4 * m

/-- MEM_UE_CNT_m: R404 of 14_memory_integrity.md. -/
def Reg.MEM_UE_CNT (m : Nat) : Nat := 0x400C00A0 + 4 * m

/-- MEM_ROM_CNT: R404 of 14_memory_integrity.md. -/
def Reg.MEM_ROM_CNT : Nat := 0x400C00C8

/-- MEM_ERR: R404 of 14_memory_integrity.md. -/
def Reg.MEM_ERR : Nat := 0x400C00C0

/-- MEM_IEN: R404 of 14_memory_integrity.md. -/
def Reg.MEM_IEN : Nat := 0x400C00C4

/-- MEM_CLOG: R404 of 14_memory_integrity.md. -/
def Reg.MEM_CLOG : Nat := 0x400C00D0

/-- MEM_ELOG: R404 of 14_memory_integrity.md. -/
def Reg.MEM_ELOG : Nat := 0x400C00D4

/-- MEM_ELOG_SYN: R404 of 14_memory_integrity.md. -/
def Reg.MEM_ELOG_SYN : Nat := 0x400C00D8

/-- MEM_WZERO: R404 of 14_memory_integrity.md. -/
def Reg.MEM_WZERO : Nat := 0x400C00E0

/-- MEM_SREP: R404 of 14_memory_integrity.md. -/
def Reg.MEM_SREP : Nat := 0x400C00E4

/-- MEM_REP_n: R404 of 14_memory_integrity.md. -/
def Reg.MEM_REP (n : Nat) : Nat := 0x400C0100 + 4 * n

/-! Register addresses of the HIF_ block. -/

/-- HIF_CFG: R428 of 15_host_interface.md. -/
def Reg.HIF_CFG : Nat := 0x400D0000

/-- HIF_VEC_k: R428 of 15_host_interface.md. -/
def Reg.HIF_VEC (k : Nat) : Nat := 0x400D0010 + 4 * k

/-- HIF_NVEC_k: R428 of 15_host_interface.md. -/
def Reg.HIF_NVEC (k : Nat) : Nat := 0x400D0030 + 4 * k

/-- HIF_DBQ: R428 of 15_host_interface.md. -/
def Reg.HIF_DBQ : Nat := 0x400D0040

/-- HIF_FACC: R428 of 15_host_interface.md. -/
def Reg.HIF_FACC : Nat := 0x400D0044

/-- HIF_FDONE: R428 of 15_host_interface.md. -/
def Reg.HIF_FDONE : Nat := 0x400D0048

/-- HIF_MTO: R428 of 15_host_interface.md. -/
def Reg.HIF_MTO : Nat := 0x400D004C

/-- HIF_ERR: R428 of 15_host_interface.md. -/
def Reg.HIF_ERR : Nat := 0x400D0050

/-- HIF_LINK: R428 of 15_host_interface.md. -/
def Reg.HIF_LINK : Nat := 0x400D0054

/-- HIF_DMA_HLO_c: R428 of 15_host_interface.md. -/
def Reg.HIF_DMA_HLO (c : Nat) : Nat := 0x400D0100 + 32 * c

/-- HIF_DMA_HHI_c: R428 of 15_host_interface.md. -/
def Reg.HIF_DMA_HHI (c : Nat) : Nat := 0x400D0104 + 32 * c

/-- HIF_DMA_LADR_c: R428 of 15_host_interface.md. -/
def Reg.HIF_DMA_LADR (c : Nat) : Nat := 0x400D0108 + 32 * c

/-- HIF_DMA_CTL_c: R428 of 15_host_interface.md. -/
def Reg.HIF_DMA_CTL (c : Nat) : Nat := 0x400D010C + 32 * c

/-- HIF_DMA_STAT_c: R428 of 15_host_interface.md. -/
def Reg.HIF_DMA_STAT (c : Nat) : Nat := 0x400D0110 + 32 * c

/-- HIF_FL_CMD: R428 of 15_host_interface.md. -/
def Reg.HIF_FL_CMD : Nat := 0x400D0200

/-- HIF_FL_ADDR: R428 of 15_host_interface.md. -/
def Reg.HIF_FL_ADDR : Nat := 0x400D0204

/-- HIF_FL_LADR: R428 of 15_host_interface.md. -/
def Reg.HIF_FL_LADR : Nat := 0x400D0208

/-- HIF_FL_STAT: R428 of 15_host_interface.md. -/
def Reg.HIF_FL_STAT : Nat := 0x400D020C

/-- HIF_BOOT: R428 of 15_host_interface.md. -/
def Reg.HIF_BOOT : Nat := 0x400D0300

/-! Register addresses of the EVL_ block. -/

/-- EVL_CFG: R444 of 16_event_recorder.md. -/
def Reg.EVL_CFG : Nat := 0x400E0000

/-- EVL_RL: R444 of 16_event_recorder.md. -/
def Reg.EVL_RL : Nat := 0x400E0004

/-- EVL_FLBASE: R444 of 16_event_recorder.md. -/
def Reg.EVL_FLBASE : Nat := 0x400E0008

/-- EVL_FLLEN: R444 of 16_event_recorder.md. -/
def Reg.EVL_FLLEN : Nat := 0x400E000C

/-- EVL_FLWP: R444 of 16_event_recorder.md. -/
def Reg.EVL_FLWP : Nat := 0x400E0010

/-- EVL_WSEQ: R444 of 16_event_recorder.md. -/
def Reg.EVL_WSEQ : Nat := 0x400E0014

/-- EVL_FSEQ: R444 of 16_event_recorder.md. -/
def Reg.EVL_FSEQ : Nat := 0x400E0018

/-- EVL_RDSEQ: R444 of 16_event_recorder.md. -/
def Reg.EVL_RDSEQ : Nat := 0x400E001C

/-- EVL_CMD: R444 of 16_event_recorder.md. -/
def Reg.EVL_CMD : Nat := 0x400E0020

/-- EVL_STAT: R444 of 16_event_recorder.md. -/
def Reg.EVL_STAT : Nat := 0x400E0024

/-- EVL_LOST: R444 of 16_event_recorder.md. -/
def Reg.EVL_LOST : Nat := 0x400E0028

/-- EVL_FWEV_CTL: R444 of 16_event_recorder.md. -/
def Reg.EVL_FWEV_CTL : Nat := 0x400E0030

/-- EVL_FWEV_A0: R444 of 16_event_recorder.md. -/
def Reg.EVL_FWEV_A0 : Nat := 0x400E0034

/-- EVL_FWEV_A1: R444 of 16_event_recorder.md. -/
def Reg.EVL_FWEV_A1 : Nat := 0x400E0038

/-! Register addresses of the PCR_ block. -/

/-- PCR_DEVID: R466 of 17_power_clocks_reset.md. -/
def Reg.PCR_DEVID : Nat := 0x400F0000

/-- PCR_RST_CAUSE: R466 of 17_power_clocks_reset.md. -/
def Reg.PCR_RST_CAUSE : Nat := 0x400F0004

/-- PCR_RST_CMD: R466 of 17_power_clocks_reset.md. -/
def Reg.PCR_RST_CMD : Nat := 0x400F0008

/-- PCR_PSTATE: R466 of 17_power_clocks_reset.md. -/
def Reg.PCR_PSTATE : Nat := 0x400F0010

/-- PCR_PD_CTL: R466 of 17_power_clocks_reset.md. -/
def Reg.PCR_PD_CTL : Nat := 0x400F0014

/-- PCR_PD_STAT: R466 of 17_power_clocks_reset.md. -/
def Reg.PCR_PD_STAT : Nat := 0x400F0018

/-- PCR_RET: R466 of 17_power_clocks_reset.md. -/
def Reg.PCR_RET : Nat := 0x400F001C

/-- PCR_WAKE_EN: R466 of 17_power_clocks_reset.md. -/
def Reg.PCR_WAKE_EN : Nat := 0x400F0020

/-- PCR_WAKE_STAT: R466 of 17_power_clocks_reset.md. -/
def Reg.PCR_WAKE_STAT : Nat := 0x400F0024

/-- PCR_ALARM_LO: R466 of 17_power_clocks_reset.md. -/
def Reg.PCR_ALARM_LO : Nat := 0x400F0028

/-- PCR_ALARM_HI: R466 of 17_power_clocks_reset.md. -/
def Reg.PCR_ALARM_HI : Nat := 0x400F002C

/-- PCR_CLK_CTL: R466 of 17_power_clocks_reset.md. -/
def Reg.PCR_CLK_CTL : Nat := 0x400F0030

/-- PCR_CLK_STAT: R466 of 17_power_clocks_reset.md. -/
def Reg.PCR_CLK_STAT : Nat := 0x400F0034

/-- PCR_AVS_CTL: R466 of 17_power_clocks_reset.md. -/
def Reg.PCR_AVS_CTL : Nat := 0x400F0040

/-- PCR_AVS_STAT: R466 of 17_power_clocks_reset.md. -/
def Reg.PCR_AVS_STAT : Nat := 0x400F0044

/-- PCR_SUP_STAT: R466 of 17_power_clocks_reset.md. -/
def Reg.PCR_SUP_STAT : Nat := 0x400F0050

/-- PCR_WDT_CTL: R466 of 17_power_clocks_reset.md. -/
def Reg.PCR_WDT_CTL : Nat := 0x400F0060

/-- PCR_WDT_KICK: R466 of 17_power_clocks_reset.md. -/
def Reg.PCR_WDT_KICK : Nat := 0x400F0064

/-- PCR_WDT_STAT: R466 of 17_power_clocks_reset.md. -/
def Reg.PCR_WDT_STAT : Nat := 0x400F0068

/-- PCR_ERR: R466 of 17_power_clocks_reset.md. -/
def Reg.PCR_ERR : Nat := 0x400F0070

/-- PCR_PODSLP_p: R466 of 17_power_clocks_reset.md. -/
def Reg.PCR_PODSLP (p : Nat) : Nat := 0x400F0100 + 16 * p

/-- PCR_PODERR: R466 of 17_power_clocks_reset.md. -/
def Reg.PCR_PODERR : Nat := 0x400F0140

/-! Register addresses of the DBG_ block. -/

/-- DBG_CTL: R479 of 18_debug_and_freeze.md. -/
def Reg.DBG_CTL : Nat := 0x40100000

/-- DBG_STAT: R479 of 18_debug_and_freeze.md. -/
def Reg.DBG_STAT : Nat := 0x40100004

/-- DBG_FRZ_NS_LO: R479 of 18_debug_and_freeze.md. -/
def Reg.DBG_FRZ_NS_LO : Nat := 0x40100010

/-- DBG_FRZ_NS_HI: R479 of 18_debug_and_freeze.md. -/
def Reg.DBG_FRZ_NS_HI : Nat := 0x40100014

/-- DBG_FRZ_CYC_LO: R479 of 18_debug_and_freeze.md. -/
def Reg.DBG_FRZ_CYC_LO : Nat := 0x40100018

/-- DBG_FRZ_CYC_HI: R479 of 18_debug_and_freeze.md. -/
def Reg.DBG_FRZ_CYC_HI : Nat := 0x4010001C

/-- DBG_FRZ_TICK: R479 of 18_debug_and_freeze.md. -/
def Reg.DBG_FRZ_TICK : Nat := 0x40100020

/-- DBG_FRZ_DUR: R479 of 18_debug_and_freeze.md. -/
def Reg.DBG_FRZ_DUR : Nat := 0x40100024

/-- DBG_CPU_R_n: R479 of 18_debug_and_freeze.md. -/
def Reg.DBG_CPU_R (n : Nat) : Nat := 0x40100100 + 4 * n

/-- DBG_CPU_PC: R479 of 18_debug_and_freeze.md. -/
def Reg.DBG_CPU_PC : Nat := 0x40100180

/-- DBG_CPU_PSR: R479 of 18_debug_and_freeze.md. -/
def Reg.DBG_CPU_PSR : Nat := 0x40100184


/-! The register rows: offset, stride, instances, reset value, reset step per instance, fields. -/

/-- Rows of the loop engine, part 0. -/
def rowsLE0 : List RegSpec := [
  -- LE_POD_CTL
  ⟨0x0000, 256, 4, 0x00000000, 0x0,
    [ ⟨0, 0, .rw, some (0, 1)⟩ ]⟩,
  -- LE_FLAG_EN
  ⟨0x0004, 256, 4, 0x000001C7, 0x0,
    [ ⟨8, 0, .rw, some (4, 1)⟩ ]⟩,
  -- LE_POD_STAT
  ⟨0x0008, 256, 4, 0x00000000, 0x0,
    [ ⟨9, 9, .ro, none⟩, ⟨8, 8, .ro, none⟩, ⟨4, 0, .ro, none⟩ ]⟩,
  -- LE_FLAGS
  ⟨0x000C, 256, 4, 0x00000000, 0x0,
    [ ⟨8, 0, .w1c, none⟩ ]⟩,
  -- LE_ILL_INFO
  ⟨0x0010, 256, 4, 0x00000000, 0x0,
    [ ⟨30, 23, .ro, none⟩, ⟨22, 8, .ro, none⟩, ⟨5, 4, .ro, none⟩, ⟨1, 0, .ro, none⟩ ]⟩,
  -- LE_PSN_INFO
  ⟨0x0014, 256, 4, 0x00000000, 0x0,
    [ ⟨30, 23, .ro, none⟩, ⟨19, 19, .ro, none⟩, ⟨18, 18, .ro, none⟩, ⟨17, 0, .ro, none⟩ ]⟩,
  -- LE_ISSUE_CNT
  ⟨0x0018, 256, 4, 0x00000000, 0x0,
    [ ⟨21, 0, .ro, none⟩ ]⟩,
  -- LE_CTX_STAT
  ⟨0x1000, 4, 64, 0x00000000, 0x0,
    [ ⟨31, 31, .ro, none⟩, ⟨30, 23, .ro, none⟩, ⟨22, 8, .ro, none⟩, ⟨7, 0, .ro, none⟩ ]⟩ ]

/-- All rows of the loop engine. -/
def rowsLE : List RegSpec := rowsLE0

/-- Rows of the dataflow scheduler, part 0. -/
def rowsDS0 : List RegSpec := [
  -- DS_POD_CTL
  ⟨0x0000, 256, 4, 0x00000000, 0x0,
    [ ⟨1, 1, .rw, some (0, 1)⟩, ⟨0, 0, .rw, some (0, 1)⟩ ]⟩,
  -- DS_GTAB_A
  ⟨0x0004, 256, 4, 0x00000000, 0x0,
    [ ⟨24, 16, .rw, some (0, 1)⟩, ⟨14, 0, .rw, some (0, 1)⟩ ]⟩,
  -- DS_GTAB_B
  ⟨0x0008, 256, 4, 0x00000000, 0x0,
    [ ⟨24, 16, .rw, some (0, 1)⟩, ⟨14, 0, .rw, some (0, 1)⟩ ]⟩,
  -- DS_DEADLINE
  ⟨0x000C, 256, 4, 0x00000000, 0x0,
    [ ⟨20, 0, .rw, some (0, 1)⟩ ]⟩,
  -- DS_SIG_REF
  ⟨0x0010, 256, 4, 0x00000000, 0x0,
    [ ⟨31, 0, .rw, some (0, 1)⟩ ]⟩,
  -- DS_STAT
  ⟨0x0014, 256, 4, 0x00000000, 0x0,
    [ ⟨30, 16, .ro, none⟩, ⟨6, 0, .ro, none⟩ ]⟩,
  -- DS_ERR
  ⟨0x0018, 256, 4, 0x00000000, 0x0,
    [ ⟨6, 6, .w1c, none⟩, ⟨5, 5, .w1c, none⟩, ⟨4, 4, .w1c, none⟩, ⟨3, 3, .w1c, none⟩,
      ⟨2, 2, .w1c, none⟩, ⟨1, 1, .w1c, none⟩, ⟨0, 0, .w1c, none⟩ ]⟩,
  -- DS_CNT
  ⟨0x001C, 256, 4, 0x00000000, 0x0,
    [ ⟨31, 16, .rc, none⟩, ⟨15, 0, .rc, none⟩ ]⟩,
  -- DS_FLT_INFO
  ⟨0x0020, 256, 4, 0x00000000, 0x0,
    [ ⟨19, 17, .ro, none⟩, ⟨16, 8, .ro, none⟩, ⟨7, 0, .ro, none⟩ ]⟩ ]

/-- Rows of the dataflow scheduler, part 1. -/
def rowsDS1 : List RegSpec := [
  -- DS_SIG
  ⟨0x0024, 256, 4, 0x00000000, 0x0,
    [ ⟨31, 0, .ro, none⟩ ]⟩ ]

/-- All rows of the dataflow scheduler. -/
def rowsDS : List RegSpec := rowsDS0 ++ rowsDS1

/-- Rows of the axis configuration, part 0. -/
def rowsAX0 : List RegSpec := [
  -- AX_MODE
  ⟨0x0000, 4, 256, 0x00000000, 0x0,
    [ ⟨9, 9, .rw, some (0, 16)⟩, ⟨8, 8, .rw, some (0, 16)⟩, ⟨7, 5, .rw, some (0, 16)⟩,
      ⟨4, 4, .rw, some (0, 16)⟩, ⟨2, 1, .rw, some (0, 16)⟩, ⟨0, 0, .rw, some (0, 16)⟩ ]⟩,
  -- AX_REACT
  ⟨0x0400, 4, 256, 0x2365B4DA, 0x0,
    [ ⟨31, 27, .rw, some (0, 16)⟩, ⟨26, 24, .rw, some (0, 16)⟩, ⟨23, 21, .rw, some (0, 16)⟩,
      ⟨20, 18, .rw, some (0, 16)⟩, ⟨17, 15, .rw, some (0, 16)⟩, ⟨14, 12, .rw, some (0, 16)⟩,
      ⟨11, 9, .rw, some (0, 16)⟩, ⟨8, 6, .rw, some (0, 16)⟩, ⟨5, 3, .rw, some (0, 16)⟩,
      ⟨2, 0, .rw, some (0, 16)⟩ ]⟩,
  -- AX_STAT
  ⟨0x0800, 4, 256, 0x00000000, 0x0,
    [ ⟨24, 16, .ro, none⟩, ⟨15, 8, .ro, none⟩, ⟨6, 6, .ro, none⟩, ⟨5, 5, .ro, none⟩,
      ⟨4, 4, .ro, none⟩, ⟨3, 3, .ro, none⟩, ⟨2, 0, .ro, none⟩ ]⟩,
  -- AX_FAULT
  ⟨0x0C00, 4, 256, 0x00000000, 0x0,
    [ ⟨8, 0, .w1c, none⟩ ]⟩,
  -- AX_ACK
  ⟨0x1000, 4, 256, 0x00000000, 0x0,
    [ ⟨0, 0, .wo, none⟩ ]⟩,
  -- AX_CBANK_OFS
  ⟨0x1400, 4, 4, 0x00000000, 0x0,
    [ ⟨15, 0, .rw, some (16, 1)⟩ ]⟩ ]

/-- All rows of the axis configuration. -/
def rowsAX : List RegSpec := rowsAX0

/-- Rows of the profile generators, part 0. -/
def rowsPG0 : List RegSpec := [
  -- PG_MODE
  ⟨0x0000, 4, 256, 0x00000000, 0x0,
    [ ⟨22, 20, .rw, some (0, 16)⟩, ⟨19, 8, .rw, some (0, 16)⟩, ⟨3, 3, .rw, some (0, 16)⟩,
      ⟨2, 0, .rw, some (0, 16)⟩ ]⟩,
  -- PG_TGT
  ⟨0x0400, 4, 256, 0x00000000, 0x0,
    [ ⟨31, 0, .rw, some (0, 16)⟩ ]⟩,
  -- PG_VMAX
  ⟨0x0800, 4, 256, 0x3F800000, 0x0,
    [ ⟨31, 0, .rw, some (0, 16)⟩ ]⟩,
  -- PG_AMAX
  ⟨0x0C00, 4, 256, 0x3F800000, 0x0,
    [ ⟨31, 0, .rw, some (0, 16)⟩ ]⟩,
  -- PG_DMAX
  ⟨0x1000, 4, 256, 0x3F800000, 0x0,
    [ ⟨31, 0, .rw, some (0, 16)⟩ ]⟩,
  -- PG_DHARD
  ⟨0x1800, 4, 256, 0x3F800000, 0x0,
    [ ⟨31, 0, .rw, some (0, 16)⟩ ]⟩,
  -- PG_QSDEC
  ⟨0x1C00, 4, 256, 0x3F800000, 0x0,
    [ ⟨31, 0, .rw, some (0, 16)⟩ ]⟩,
  -- PG_JMAX
  ⟨0x1400, 4, 256, 0x00000000, 0x0,
    [ ⟨31, 0, .rw, some (0, 16)⟩ ]⟩,
  -- PG_QSJRK
  ⟨0x2000, 4, 256, 0x00000000, 0x0,
    [ ⟨31, 0, .rw, some (0, 16)⟩ ]⟩ ]

/-- Rows of the profile generators, part 1. -/
def rowsPG1 : List RegSpec := [
  -- PG_TAB
  ⟨0x2400, 4, 256, 0x00000000, 0x0,
    [ ⟨30, 16, .rw, some (0, 16)⟩, ⟨14, 0, .rw, some (0, 16)⟩ ]⟩,
  -- PG_TAPP
  ⟨0x2800, 4, 256, 0x00000000, 0x0,
    [ ⟨31, 31, .wo, none⟩, ⟨14, 0, .wo, none⟩ ]⟩,
  -- PG_TPTR
  ⟨0x2C00, 4, 256, 0x00000000, 0x0,
    [ ⟨30, 16, .ro, none⟩, ⟨14, 0, .ro, none⟩ ]⟩,
  -- PG_LACFG
  ⟨0x3000, 4, 256, 0x00000000, 0x0,
    [ ⟨31, 24, .rw, some (0, 16)⟩, ⟨23, 16, .rw, some (0, 16)⟩, ⟨15, 8, .rw, some (0, 16)⟩,
      ⟨6, 4, .rw, some (0, 16)⟩, ⟨3, 2, .rw, some (0, 16)⟩, ⟨1, 0, .rw, some (0, 16)⟩ ]⟩,
  -- PG_LAK
  ⟨0x3400, 4, 256, 0x00000000, 0x0,
    [ ⟨31, 0, .rw, some (0, 16)⟩ ]⟩,
  -- PG_LAL
  ⟨0x3800, 4, 256, 0x00000000, 0x0,
    [ ⟨31, 0, .rw, some (0, 16)⟩ ]⟩,
  -- PG_STAT
  ⟨0x3C00, 4, 256, 0x00000000, 0x0,
    [ ⟨19, 19, .ro, none⟩, ⟨18, 18, .w1c, none⟩, ⟨17, 17, .w1c, none⟩, ⟨16, 16, .w1c, none⟩,
      ⟨15, 15, .w1c, none⟩, ⟨14, 14, .w1c, none⟩, ⟨13, 13, .w1c, none⟩, ⟨12, 12, .w1c, none⟩,
      ⟨11, 11, .w1c, none⟩, ⟨10, 10, .w1c, none⟩, ⟨9, 9, .w1c, none⟩, ⟨8, 8, .w1c, none⟩,
      ⟨3, 3, .ro, none⟩, ⟨2, 0, .ro, none⟩ ]⟩,
  -- PG_LAR
  ⟨0x4000, 4, 256, 0x00000000, 0x0,
    [ ⟨31, 0, .ro, none⟩ ]⟩,
  -- PG_TACT
  ⟨0x4400, 4, 256, 0x00000000, 0x0,
    [ ⟨30, 16, .ro, none⟩, ⟨14, 0, .ro, none⟩ ]⟩ ]

/-- All rows of the profile generators. -/
def rowsPG : List RegSpec := rowsPG0 ++ rowsPG1

/-- Rows of local feedback, part 0. -/
def rowsFB0 : List RegSpec := [
  -- FB_CH_CTL
  ⟨0x0000, 64, 8, 0x00030300, 0x0,
    [ ⟨19, 16, .rw, some (0, 1)⟩, ⟨15, 8, .rw, some (0, 1)⟩, ⟨7, 7, .rw, some (0, 1)⟩,
      ⟨6, 6, .rw, some (0, 1)⟩, ⟨5, 5, .rw, some (0, 1)⟩, ⟨4, 4, .rw, some (0, 1)⟩,
      ⟨2, 0, .rw, some (0, 1)⟩ ]⟩,
  -- FB_CH_REC
  ⟨0x0004, 64, 8, 0x00000000, 0x0,
    [ ⟨16, 0, .rw, some (0, 1)⟩ ]⟩,
  -- FB_SC_OFS
  ⟨0x0008, 64, 8, 0x00000000, 0x0,
    [ ⟨31, 16, .rw, some (0, 1)⟩, ⟨15, 0, .rw, some (0, 1)⟩ ]⟩,
  -- FB_SC_GAIN
  ⟨0x000C, 64, 8, 0xA6400000, 0x0,
    [ ⟨31, 24, .rw, some (0, 1)⟩, ⟨23, 16, .rw, some (0, 1)⟩, ⟨15, 0, .rw, some (0, 1)⟩ ]⟩,
  -- FB_SSI_CFG
  ⟨0x0010, 64, 8, 0x00000000, 0x0,
    [ ⟨23, 23, .rw, some (0, 1)⟩, ⟨22, 22, .rw, some (0, 1)⟩, ⟨21, 16, .rw, some (0, 1)⟩,
      ⟨13, 13, .rw, some (0, 1)⟩, ⟨12, 7, .rw, some (0, 1)⟩, ⟨5, 0, .rw, some (0, 1)⟩ ]⟩,
  -- FB_SSI_TIM
  ⟨0x0014, 64, 8, 0x00000000, 0x0,
    [ ⟨31, 16, .rw, some (0, 1)⟩, ⟨15, 0, .rw, some (0, 1)⟩ ]⟩,
  -- FB_SSI_SPH
  ⟨0x0018, 64, 8, 0x00000000, 0x0,
    [ ⟨31, 16, .rw, some (0, 1)⟩, ⟨15, 0, .rw, some (0, 1)⟩ ]⟩,
  -- FB_CH_STAT
  ⟨0x0020, 64, 8, 0x00000000, 0x0,
    [ ⟨31, 16, .ro, none⟩, ⟨10, 0, .w1c, none⟩ ]⟩,
  -- FB_CH_POS
  ⟨0x0024, 64, 8, 0x00000000, 0x0,
    [ ⟨31, 0, .ro, none⟩ ]⟩ ]

/-- Rows of local feedback, part 1. -/
def rowsFB1 : List RegSpec := [
  -- FB_CH_CNT
  ⟨0x0028, 64, 8, 0x00000000, 0x0,
    [ ⟨31, 16, .rc, none⟩, ⟨15, 0, .rc, none⟩ ]⟩,
  -- FB_EMU_CTL
  ⟨0x0400, 32, 2, 0x00000000, 0x0,
    [ ⟨31, 16, .rw, some (8, 1)⟩, ⟨15, 8, .rw, some (8, 1)⟩, ⟨3, 3, .rw, some (8, 1)⟩,
      ⟨2, 2, .rw, some (8, 1)⟩, ⟨1, 1, .rw, some (8, 1)⟩, ⟨0, 0, .rw, some (8, 1)⟩ ]⟩,
  -- FB_EMU_RATIO
  ⟨0x0404, 32, 2, 0x00010001, 0x0,
    [ ⟨31, 16, .rw, some (8, 1)⟩, ⟨15, 0, .rw, some (8, 1)⟩ ]⟩,
  -- FB_EMU_TIM
  ⟨0x0408, 32, 2, 0x00000050, 0x0,
    [ ⟨31, 12, .rw, some (8, 1)⟩, ⟨11, 0, .rw, some (8, 1)⟩ ]⟩,
  -- FB_EMU_STAT
  ⟨0x040C, 32, 2, 0x00000000, 0x0,
    [ ⟨0, 0, .w1c, none⟩ ]⟩,
  -- FB_STEP_CFG
  ⟨0x0600, 16, 8, 0x00000000, 0x0,
    [ ⟨23, 23, .rw, some (10, 1)⟩, ⟨22, 22, .rw, some (10, 1)⟩, ⟨21, 21, .rw, some (10, 1)⟩,
      ⟨20, 12, .rw, some (10, 1)⟩, ⟨11, 0, .rw, some (10, 1)⟩ ]⟩,
  -- FB_STEP_TIM
  ⟨0x0604, 16, 8, 0x00000000, 0x0,
    [ ⟨15, 0, .rw, some (10, 1)⟩ ]⟩ ]

/-- All rows of local feedback. -/
def rowsFB : List RegSpec := rowsFB0 ++ rowsFB1

/-- Rows of the Oparo rings, part 0. -/
def rowsNET0 : List RegSpec := [
  -- NET_RING_CTL
  ⟨0x0000, 256, 4, 0x00102810, 0x0,
    [ ⟨23, 16, .rw, some (0, 1)⟩, ⟨15, 8, .rw, some (0, 1)⟩, ⟨4, 4, .rw, some (0, 1)⟩,
      ⟨3, 3, .rw, some (0, 1)⟩, ⟨2, 1, .rw, some (0, 1)⟩, ⟨0, 0, .rw, some (0, 1)⟩ ]⟩,
  -- NET_RING_CMD
  ⟨0x0004, 256, 4, 0x00000000, 0x0,
    [ ⟨1, 1, .wo, none⟩, ⟨0, 0, .wo, none⟩ ]⟩,
  -- NET_RING_STAT
  ⟨0x0008, 256, 4, 0x00000000, 0x0,
    [ ⟨23, 23, .ro, none⟩, ⟨22, 16, .ro, none⟩, ⟨15, 15, .ro, none⟩, ⟨14, 8, .ro, none⟩,
      ⟨7, 7, .ro, none⟩, ⟨6, 6, .ro, none⟩, ⟨2, 0, .ro, none⟩ ]⟩,
  -- NET_TAUB
  ⟨0x000C, 256, 4, 0x00000000, 0x0,
    [ ⟨31, 31, .ro, none⟩, ⟨23, 0, .ro, none⟩ ]⟩,
  -- NET_ERR
  ⟨0x0010, 256, 4, 0x00000000, 0x0,
    [ ⟨8, 8, .w1c, none⟩, ⟨7, 7, .w1c, none⟩, ⟨6, 6, .w1c, none⟩, ⟨5, 5, .w1c, none⟩,
      ⟨4, 4, .w1c, none⟩, ⟨3, 3, .w1c, none⟩, ⟨2, 2, .w1c, none⟩, ⟨1, 1, .w1c, none⟩,
      ⟨0, 0, .w1c, none⟩ ]⟩,
  -- NET_CNT_FRM
  ⟨0x0014, 256, 4, 0x00000000, 0x0,
    [ ⟨31, 16, .rc, none⟩, ⟨15, 0, .rc, none⟩ ]⟩,
  -- NET_CNT_SEQ
  ⟨0x0018, 256, 4, 0x00000000, 0x0,
    [ ⟨31, 16, .rc, none⟩, ⟨15, 0, .rc, none⟩ ]⟩,
  -- NET_PORT_CTL
  ⟨0x0400, 16, 8, 0x00000005, 0x0,
    [ ⟨7, 7, .rw, some (4, 1)⟩, ⟨6, 6, .rw, some (4, 1)⟩, ⟨5, 5, .rw, some (4, 1)⟩,
      ⟨4, 4, .rw, some (4, 1)⟩, ⟨3, 2, .rw, some (4, 1)⟩, ⟨1, 0, .rw, some (4, 1)⟩ ]⟩,
  -- NET_PORT_STAT
  ⟨0x0404, 16, 8, 0x00000000, 0x0,
    [ ⟨31, 24, .ro, none⟩, ⟨23, 20, .ro, none⟩, ⟨4, 4, .ro, none⟩, ⟨3, 3, .ro, none⟩,
      ⟨2, 2, .ro, none⟩, ⟨1, 1, .ro, none⟩, ⟨0, 0, .ro, none⟩ ]⟩ ]

/-- Rows of the Oparo rings, part 1. -/
def rowsNET1 : List RegSpec := [
  -- NET_PORT_CNT
  ⟨0x0408, 16, 8, 0x00000000, 0x0,
    [ ⟨31, 16, .rc, none⟩, ⟨15, 0, .rc, none⟩ ]⟩,
  -- NET_RTTA
  ⟨0x1000, 4, 320, 0x00000000, 0x0,
    [ ⟨31, 31, .ro, none⟩, ⟨23, 0, .ro, none⟩ ]⟩,
  -- NET_RTTB
  ⟨0x1800, 4, 320, 0x00000000, 0x0,
    [ ⟨31, 31, .ro, none⟩, ⟨23, 0, .ro, none⟩ ]⟩,
  -- NET_RLY
  ⟨0x2000, 4, 320, 0x00000000, 0x0,
    [ ⟨31, 31, .rw, some (0, 80)⟩, ⟨30, 29, .rw, some (0, 80)⟩, ⟨28, 22, .rw, some (0, 80)⟩,
      ⟨21, 19, .rw, some (0, 80)⟩, ⟨18, 11, .rw, some (0, 80)⟩ ]⟩ ]

/-- All rows of the Oparo rings. -/
def rowsNET : List RegSpec := rowsNET0 ++ rowsNET1

/-- Rows of the slot schedule, part 0. -/
def rowsSLT0 : List RegSpec := [
  -- SLT_CFG
  ⟨0x0000, 0, 1, 0x00000031, 0x0,
    [ ⟨5, 5, .rw, some (0, 0)⟩, ⟨4, 4, .rw, some (0, 0)⟩, ⟨3, 3, .rw, some (0, 0)⟩,
      ⟨2, 0, .rw, some (0, 0)⟩ ]⟩,
  -- SLT_IMG
  ⟨0x0004, 0, 1, 0x00000000, 0x0,
    [ ⟨31, 0, .rw, some (0, 0)⟩ ]⟩,
  -- SLT_OPH
  ⟨0x0008, 0, 1, 0x00000600, 0x0,
    [ ⟨15, 0, .rw, some (0, 0)⟩ ]⟩,
  -- SLT_GUARD
  ⟨0x000C, 0, 1, 0x00104003, 0x0,
    [ ⟨31, 16, .rw, some (0, 0)⟩, ⟨15, 8, .rw, some (0, 0)⟩, ⟨3, 0, .rw, some (0, 0)⟩ ]⟩,
  -- SLT_CS_CMD
  ⟨0x0010, 0, 1, 0x00000000, 0x0,
    [ ⟨1, 1, .wo, none⟩, ⟨0, 0, .wo, none⟩ ]⟩,
  -- SLT_CS_STAT
  ⟨0x0014, 0, 1, 0x00000000, 0x0,
    [ ⟨23, 16, .ro, none⟩, ⟨15, 8, .rc, none⟩, ⟨3, 3, .w1c, none⟩, ⟨2, 0, .ro, none⟩ ]⟩,
  -- SLT_AGELIM
  ⟨0x0080, 4, 64, 0x03030303, 0x0,
    [ ⟨31, 24, .rw, some (5, 16)⟩, ⟨23, 16, .rw, some (5, 16)⟩, ⟨15, 8, .rw, some (5, 16)⟩,
      ⟨7, 0, .rw, some (5, 16)⟩ ]⟩,
  -- SLT_BCN
  ⟨0x0200, 32, 4, 0x80000000, 0x0,
    [ ⟨31, 31, .rw, some (1, 1)⟩, ⟨23, 0, .rw, some (1, 1)⟩ ]⟩,
  -- SLT_PRA
  ⟨0x0204, 32, 4, 0x00000000, 0x0,
    [ ⟨31, 31, .rw, some (1, 1)⟩, ⟨23, 0, .rw, some (1, 1)⟩ ]⟩ ]

/-- Rows of the slot schedule, part 1. -/
def rowsSLT1 : List RegSpec := [
  -- SLT_PRB
  ⟨0x0208, 32, 4, 0x00000000, 0x0,
    [ ⟨31, 31, .rw, some (1, 1)⟩, ⟨23, 0, .rw, some (1, 1)⟩ ]⟩,
  -- SLT_CLM
  ⟨0x020C, 32, 4, 0x00000000, 0x0,
    [ ⟨31, 31, .rw, some (1, 1)⟩, ⟨23, 0, .rw, some (1, 1)⟩ ]⟩,
  -- SLT_CLAIM
  ⟨0x0210, 32, 4, 0x00000000, 0x0,
    [ ⟨31, 31, .ro, none⟩, ⟨30, 24, .ro, none⟩, ⟨23, 20, .ro, none⟩, ⟨15, 0, .rc, none⟩ ]⟩,
  -- SLT_CLID
  ⟨0x0214, 32, 4, 0x00000000, 0x0,
    [ ⟨31, 16, .ro, none⟩, ⟨15, 0, .ro, none⟩ ]⟩,
  -- SLT_CLSER
  ⟨0x0218, 32, 4, 0x00000000, 0x0,
    [ ⟨31, 0, .ro, none⟩ ]⟩,
  -- SLT_GRANT
  ⟨0x021C, 32, 4, 0x00000000, 0x0,
    [ ⟨31, 31, .wo, none⟩, ⟨30, 30, .wo, none⟩, ⟨29, 29, .wo, none⟩, ⟨6, 0, .wo, none⟩ ]⟩,
  -- SLT_SLOT
  ⟨0x1000, 4, 320, 0x00000000, 0x0,
    [ ⟨31, 31, .rw, some (1, 80)⟩, ⟨30, 30, .rw, some (1, 80)⟩, ⟨29, 29, .rw, some (1, 80)⟩,
      ⟨28, 28, .rw, some (1, 80)⟩, ⟨6, 0, .rw, some (1, 80)⟩ ]⟩,
  -- SLT_UE
  ⟨0x1800, 4, 320, 0x00000000, 0x0,
    [ ⟨23, 0, .rw, some (1, 80)⟩ ]⟩,
  -- SLT_DD
  ⟨0x2000, 4, 320, 0x00000000, 0x0,
    [ ⟨23, 0, .rw, some (1, 80)⟩ ]⟩ ]

/-- Rows of the slot schedule, part 2. -/
def rowsSLT2 : List RegSpec := [
  -- SLT_SST
  ⟨0x2800, 4, 324, 0x00000000, 0x0,
    [ ⟨31, 31, .ro, none⟩, ⟨30, 30, .ro, none⟩, ⟨29, 29, .ro, none⟩, ⟨28, 22, .ro, none⟩,
      ⟨15, 8, .ro, none⟩, ⟨3, 0, .ro, none⟩ ]⟩,
  -- SLT_MCNT
  ⟨0x3000, 4, 320, 0x00000000, 0x0,
    [ ⟨31, 16, .rc, none⟩, ⟨15, 0, .rc, none⟩ ]⟩,
  -- SLT_ECNT
  ⟨0x3800, 4, 324, 0x00000000, 0x0,
    [ ⟨15, 8, .rc, none⟩, ⟨7, 0, .rc, none⟩ ]⟩ ]

/-- All rows of the slot schedule. -/
def rowsSLT : List RegSpec := rowsSLT0 ++ rowsSLT1 ++ rowsSLT2

/-- Rows of the time base, part 0. -/
def rowsSYN0 : List RegSpec := [
  -- SYN_CFG
  ⟨0x0000, 0, 1, 0x00000819, 0x0,
    [ ⟨15, 8, .rw, some (0, 0)⟩, ⟨6, 4, .rw, some (0, 0)⟩, ⟨3, 1, .rw, some (0, 0)⟩,
      ⟨0, 0, .rw, some (0, 0)⟩ ]⟩,
  -- SYN_LIM
  ⟨0x0004, 0, 1, 0x006400C8, 0x0,
    [ ⟨25, 16, .rw, some (0, 0)⟩, ⟨9, 0, .rw, some (0, 0)⟩ ]⟩,
  -- SYN_LIM2
  ⟨0x0008, 0, 1, 0x001403E8, 0x0,
    [ ⟨23, 16, .rw, some (0, 0)⟩, ⟨15, 0, .rw, some (0, 0)⟩ ]⟩,
  -- SYN_SRC
  ⟨0x0010, 4, 8, 0x00000000, 0x0,
    [ ⟨16, 10, .rw, some (0, 0)⟩, ⟨9, 7, .rw, some (0, 0)⟩, ⟨6, 5, .rw, some (0, 0)⟩,
      ⟨4, 2, .rw, some (0, 0)⟩, ⟨1, 0, .rw, some (0, 0)⟩ ]⟩,
  -- SYN_CINST
  ⟨0x0030, 0, 1, 0x00001F40, 0x0,
    [ ⟨23, 0, .rw, some (0, 0)⟩ ]⟩,
  -- SYN_TIME_LO
  ⟨0x0040, 0, 1, 0x00000000, 0x0,
    [ ⟨31, 0, .ro, none⟩ ]⟩,
  -- SYN_TIME_HI
  ⟨0x0044, 0, 1, 0x00000000, 0x0,
    [ ⟨31, 0, .ro, none⟩ ]⟩,
  -- SYN_TIME_FR
  ⟨0x0048, 0, 1, 0x00000000, 0x0,
    [ ⟨31, 0, .ro, none⟩ ]⟩,
  -- SYN_CYC_LO
  ⟨0x004C, 0, 1, 0x00000000, 0x0,
    [ ⟨31, 0, .ro, none⟩ ]⟩ ]

/-- Rows of the time base, part 1. -/
def rowsSYN1 : List RegSpec := [
  -- SYN_CYC_HI
  ⟨0x0050, 0, 1, 0x00000000, 0x0,
    [ ⟨31, 0, .ro, none⟩ ]⟩,
  -- SYN_TSET_LO
  ⟨0x0054, 0, 1, 0x00000000, 0x0,
    [ ⟨31, 0, .rw, none⟩ ]⟩,
  -- SYN_TSET_HI
  ⟨0x0058, 0, 1, 0x00000000, 0x0,
    [ ⟨31, 0, .rw, none⟩ ]⟩,
  -- SYN_CMD
  ⟨0x005C, 0, 1, 0x00000000, 0x0,
    [ ⟨0, 0, .wo, none⟩ ]⟩,
  -- SYN_RATE
  ⟨0x0060, 0, 1, 0x00000000, 0x0,
    [ ⟨31, 0, .ro, none⟩ ]⟩,
  -- SYN_OFS
  ⟨0x0064, 0, 1, 0x00000000, 0x0,
    [ ⟨31, 0, .ro, none⟩ ]⟩,
  -- SYN_STAT
  ⟨0x0068, 0, 1, 0x00000000, 0x0,
    [ ⟨31, 24, .ro, none⟩, ⟨23, 16, .ro, none⟩, ⟨15, 12, .ro, none⟩, ⟨3, 3, .ro, none⟩,
      ⟨2, 2, .ro, none⟩, ⟨1, 1, .ro, none⟩, ⟨0, 0, .ro, none⟩ ]⟩,
  -- SYN_ERR
  ⟨0x006C, 0, 1, 0x00000000, 0x0,
    [ ⟨4, 4, .w1c, none⟩, ⟨3, 3, .w1c, none⟩, ⟨2, 2, .w1c, none⟩, ⟨1, 1, .w1c, none⟩,
      ⟨0, 0, .w1c, none⟩ ]⟩,
  -- SYN_DEV
  ⟨0x0080, 4, 8, 0x00000000, 0x0,
    [ ⟨31, 0, .ro, none⟩ ]⟩ ]

/-- Rows of the time base, part 2. -/
def rowsSYN2 : List RegSpec := [
  -- SYN_DEVQ
  ⟨0x00A0, 4, 8, 0x00000000, 0x0,
    [ ⟨7, 0, .ro, none⟩ ]⟩,
  -- SYN_CASDLY
  ⟨0x00C0, 4, 3, 0x00000000, 0x0,
    [ ⟨31, 31, .ro, none⟩, ⟨23, 0, .ro, none⟩ ]⟩,
  -- SYN_SS
  ⟨0x0100, 4, 32, 0x00000000, 0x0,
    [ ⟨31, 31, .rw, some (1, 8)⟩, ⟨30, 24, .rw, some (1, 8)⟩, ⟨23, 0, .rw, some (1, 8)⟩ ]⟩ ]

/-- All rows of the time base. -/
def rowsSYN : List RegSpec := rowsSYN0 ++ rowsSYN1 ++ rowsSYN2

/-- Rows of the cascade ports, part 0. -/
def rowsCAS0 : List RegSpec := [
  -- CAS_ID
  ⟨0x0000, 0, 1, 0x00000000, 0x0,
    [ ⟨1, 0, .ro, none⟩ ]⟩,
  -- CAS_CFG
  ⟨0x0004, 0, 1, 0x0000F400, 0x0,
    [ ⟨15, 12, .rw, some (0, 0)⟩, ⟨11, 9, .rw, some (0, 0)⟩, ⟨8, 8, .rw, some (0, 0)⟩,
      ⟨7, 6, .rw, some (0, 0)⟩, ⟨5, 5, .rw, some (0, 0)⟩, ⟨4, 4, .rw, some (0, 0)⟩,
      ⟨3, 0, .rw, some (0, 0)⟩ ]⟩,
  -- CAS_MIR_SEL0
  ⟨0x0008, 0, 1, 0x00608080, 0x0,
    [ ⟨27, 21, .rw, some (0, 0)⟩, ⟨20, 14, .rw, some (0, 0)⟩, ⟨13, 7, .rw, some (0, 0)⟩,
      ⟨6, 0, .rw, some (0, 0)⟩ ]⟩,
  -- CAS_MIR_SEL1
  ⟨0x000C, 0, 1, 0x00001117, 0x0,
    [ ⟨13, 7, .rw, some (0, 0)⟩, ⟨6, 0, .rw, some (0, 0)⟩ ]⟩,
  -- CAS_MIR_TIM
  ⟨0x0010, 0, 1, 0x00000000, 0x0,
    [ ⟨23, 0, .rw, some (0, 0)⟩ ]⟩,
  -- CAS_PAIR_TIM
  ⟨0x0014, 0, 1, 0x00000000, 0x0,
    [ ⟨23, 0, .rw, some (0, 0)⟩ ]⟩,
  -- CAS_MIR_MAPB
  ⟨0x0018, 0, 1, 0x00000000, 0x0,
    [ ⟨16, 0, .rw, some (0, 0)⟩ ]⟩,
  -- CAS_MC_ARG
  ⟨0x0020, 0, 1, 0x00000000, 0x0,
    [ ⟨15, 0, .rw, none⟩ ]⟩,
  -- CAS_MC_CYC
  ⟨0x0024, 0, 1, 0x00000000, 0x0,
    [ ⟨31, 0, .rw, none⟩ ]⟩ ]

/-- Rows of the cascade ports, part 1. -/
def rowsCAS1 : List RegSpec := [
  -- CAS_MC_CMD
  ⟨0x0028, 0, 1, 0x00000000, 0x0,
    [ ⟨1, 1, .wo, none⟩, ⟨0, 0, .wo, none⟩ ]⟩,
  -- CAS_MC_STAT
  ⟨0x002C, 0, 1, 0x00000000, 0x0,
    [ ⟨28, 24, .ro, none⟩, ⟨20, 16, .ro, none⟩, ⟨11, 8, .ro, none⟩, ⟨5, 4, .ro, none⟩,
      ⟨2, 0, .ro, none⟩ ]⟩,
  -- CAS_MC_ACT
  ⟨0x0030, 0, 1, 0x00000000, 0x0,
    [ ⟨31, 16, .ro, none⟩, ⟨15, 0, .ro, none⟩ ]⟩,
  -- CAS_MC_CYCS
  ⟨0x0034, 0, 1, 0x00000000, 0x0,
    [ ⟨31, 0, .ro, none⟩ ]⟩,
  -- CAS_MC_MASK
  ⟨0x0040, 4, 17, 0x00000000, 0x0,
    [ ⟨31, 0, .rw, some (4, 0)⟩ ]⟩,
  -- CAS_MIR_EN
  ⟨0x0100, 4, 8, 0x00000000, 0x0,
    [ ⟨31, 0, .rw, some (0, 0)⟩ ]⟩,
  -- CAS_PORT_CTL
  ⟨0x0200, 32, 3, 0x00000005, 0x0,
    [ ⟨8, 8, .rw, some (1, 1)⟩, ⟨7, 7, .rw, some (1, 1)⟩, ⟨6, 6, .rw, some (1, 1)⟩,
      ⟨5, 5, .rw, some (1, 1)⟩, ⟨4, 4, .rw, some (1, 1)⟩, ⟨3, 2, .rw, some (1, 1)⟩,
      ⟨1, 0, .rw, some (1, 1)⟩ ]⟩,
  -- CAS_RXCFG
  ⟨0x0204, 32, 3, 0x00000000, 0x0,
    [ ⟨16, 0, .rw, some (1, 1)⟩ ]⟩,
  -- CAS_RXDL
  ⟨0x0208, 32, 3, 0x00000000, 0x0,
    [ ⟨23, 0, .rw, some (1, 1)⟩ ]⟩ ]

/-- Rows of the cascade ports, part 2. -/
def rowsCAS2 : List RegSpec := [
  -- CAS_PORT_STAT
  ⟨0x020C, 32, 3, 0x00000000, 0x0,
    [ ⟨31, 24, .ro, none⟩, ⟨7, 6, .ro, none⟩, ⟨5, 5, .w1c, none⟩, ⟨4, 4, .ro, none⟩,
      ⟨3, 3, .ro, none⟩, ⟨2, 2, .ro, none⟩, ⟨1, 1, .ro, none⟩, ⟨0, 0, .ro, none⟩ ]⟩,
  -- CAS_PORT_CNT
  ⟨0x0210, 32, 3, 0x00000000, 0x0,
    [ ⟨31, 24, .rc, none⟩, ⟨23, 12, .rc, none⟩, ⟨11, 0, .rc, none⟩ ]⟩,
  -- CAS_HEALTH
  ⟨0x0300, 0, 1, 0x00000000, 0x0,
    [ ⟨31, 0, .ro, none⟩ ]⟩,
  -- CAS_PHEALTH
  ⟨0x0304, 0, 1, 0x00000000, 0x0,
    [ ⟨31, 0, .ro, none⟩ ]⟩,
  -- CAS_PSTAT
  ⟨0x0308, 0, 1, 0x00000000, 0x0,
    [ ⟨15, 8, .ro, none⟩, ⟨2, 2, .ro, none⟩, ⟨1, 1, .ro, none⟩, ⟨0, 0, .ro, none⟩ ]⟩,
  -- CAS_ERR
  ⟨0x030C, 0, 1, 0x00000000, 0x0,
    [ ⟨7, 7, .w1c, none⟩, ⟨6, 6, .w1c, none⟩, ⟨5, 5, .w1c, none⟩, ⟨4, 4, .w1c, none⟩,
      ⟨3, 3, .w1c, none⟩, ⟨2, 2, .w1c, none⟩, ⟨1, 1, .w1c, none⟩, ⟨0, 0, .w1c, none⟩ ]⟩,
  -- CAS_MIRCNT
  ⟨0x0310, 0, 1, 0x00000000, 0x0,
    [ ⟨31, 16, .rc, none⟩, ⟨15, 0, .rc, none⟩ ]⟩ ]

/-- All rows of the cascade ports. -/
def rowsCAS : List RegSpec := rowsCAS0 ++ rowsCAS1 ++ rowsCAS2

/-- Rows of capture and Sprout, part 0. -/
def rowsACQ0 : List RegSpec := [
  -- ACQ_CFG
  ⟨0x0000, 0, 1, 0x00000000, 0x0,
    [ ⟨31, 31, .rw, some (0, 0)⟩, ⟨23, 0, .rw, some (0, 0)⟩ ]⟩,
  -- ACQ_WHEEL_0
  ⟨0x0004, 0, 1, 0x22232221, 0x0,
    [ ⟨31, 0, .rw, some (0, 0)⟩ ]⟩,
  -- ACQ_WHEEL_1
  ⟨0x0008, 0, 1, 0x42232221, 0x0,
    [ ⟨31, 28, .ro, none⟩, ⟨27, 0, .rw, some (0, 0)⟩ ]⟩,
  -- ACQ_TIN_CFG
  ⟨0x000C, 0, 1, 0x00000000, 0x0,
    [ ⟨3, 3, .rw, some (0, 0)⟩, ⟨2, 2, .rw, some (0, 0)⟩, ⟨1, 1, .rw, some (0, 0)⟩,
      ⟨0, 0, .rw, some (0, 0)⟩ ]⟩,
  -- ACQ_SQ_CTL
  ⟨0x0010, 0, 1, 0x00000000, 0x0,
    [ ⟨10, 8, .rw, some (1, 0)⟩, ⟨7, 0, .rw, some (1, 0)⟩ ]⟩,
  -- ACQ_SQ_CLIM
  ⟨0x0014, 0, 1, 0x00000000, 0x0,
    [ ⟨31, 16, .rw, some (1, 0)⟩, ⟨15, 0, .rw, some (1, 0)⟩ ]⟩,
  -- ACQ_SQ_TLIM
  ⟨0x0018, 0, 1, 0x00000000, 0x0,
    [ ⟨31, 16, .rw, some (1, 0)⟩, ⟨15, 0, .rw, some (1, 0)⟩ ]⟩,
  -- ACQ_SQ_CVAL
  ⟨0x0020, 0, 1, 0x00000000, 0x0,
    [ ⟨31, 16, .ro, none⟩, ⟨15, 0, .ro, none⟩ ]⟩,
  -- ACQ_SQ_TVAL
  ⟨0x0024, 0, 1, 0x00000000, 0x0,
    [ ⟨31, 16, .ro, none⟩, ⟨15, 0, .ro, none⟩ ]⟩ ]

/-- Rows of capture and Sprout, part 1. -/
def rowsACQ1 : List RegSpec := [
  -- ACQ_SQ_CMD
  ⟨0x001C, 0, 1, 0x00000000, 0x0,
    [ ⟨1, 1, .wo, none⟩, ⟨0, 0, .wo, none⟩ ]⟩,
  -- ACQ_SQ_STAT
  ⟨0x0028, 0, 1, 0x00000000, 0x0,
    [ ⟨5, 4, .ro, none⟩, ⟨2, 0, .ro, none⟩ ]⟩,
  -- ACQ_TRG_CYC_LO
  ⟨0x0030, 0, 1, 0x00000000, 0x0,
    [ ⟨31, 0, .ro, none⟩ ]⟩,
  -- ACQ_TRG_CYC_HI
  ⟨0x0034, 0, 1, 0x00000000, 0x0,
    [ ⟨31, 31, .ro, none⟩, ⟨21, 16, .ro, none⟩, ⟨15, 0, .ro, none⟩ ]⟩,
  -- ACQ_TRG_TOFS
  ⟨0x0038, 0, 1, 0x00000000, 0x0,
    [ ⟨31, 0, .ro, none⟩ ]⟩,
  -- ACQ_ERR
  ⟨0x003C, 0, 1, 0x00000000, 0x0,
    [ ⟨4, 4, .w1c, none⟩, ⟨3, 3, .w1c, none⟩, ⟨2, 2, .w1c, none⟩, ⟨1, 1, .w1c, none⟩,
      ⟨0, 0, .w1c, none⟩ ]⟩,
  -- ACQ_SQ_ST
  ⟨0x0100, 4, 8, 0x00000000, 0x0,
    [ ⟨31, 16, .rw, some (1, 0)⟩, ⟨14, 9, .rw, some (1, 0)⟩, ⟨8, 6, .rw, some (1, 0)⟩,
      ⟨5, 5, .rw, some (1, 0)⟩, ⟨4, 0, .rw, some (1, 0)⟩ ]⟩,
  -- ACQ_CMP_SRC
  ⟨0x0200, 16, 8, 0x00000000, 0x0,
    [ ⟨31, 0, .rw, some (1, 0)⟩ ]⟩,
  -- ACQ_CMP_CTL
  ⟨0x0204, 16, 8, 0x00000000, 0x0,
    [ ⟨6, 4, .rw, some (1, 0)⟩, ⟨1, 0, .rw, some (1, 0)⟩ ]⟩ ]

/-- Rows of capture and Sprout, part 2. -/
def rowsACQ2 : List RegSpec := [
  -- ACQ_CMP_THR
  ⟨0x0208, 16, 8, 0x00000000, 0x0,
    [ ⟨31, 0, .rw, some (1, 0)⟩ ]⟩,
  -- ACQ_CMP_MSK
  ⟨0x020C, 16, 8, 0x00000000, 0x0,
    [ ⟨31, 0, .rw, some (1, 0)⟩ ]⟩,
  -- ACQ_AREA_GEO
  ⟨0x0400, 32, 4, 0x00000000, 0x0,
    [ ⟨31, 16, .rw, some (2, 1)⟩, ⟨15, 0, .rw, some (2, 1)⟩ ]⟩,
  -- ACQ_AREA_CTL
  ⟨0x0404, 32, 4, 0x00000000, 0x0,
    [ ⟨15, 12, .rw, some (2, 1)⟩, ⟨8, 4, .rw, some (2, 1)⟩, ⟨3, 3, .rw, some (2, 1)⟩,
      ⟨2, 2, .rw, some (2, 1)⟩, ⟨1, 0, .rw, some (2, 1)⟩ ]⟩,
  -- ACQ_AREA_PP
  ⟨0x0408, 32, 4, 0x00000000, 0x0,
    [ ⟨31, 16, .rw, some (2, 1)⟩, ⟨15, 0, .rw, some (2, 1)⟩ ]⟩,
  -- ACQ_AREA_RP
  ⟨0x040C, 32, 4, 0x00000000, 0x0,
    [ ⟨23, 16, .rw, none⟩, ⟨15, 0, .rw, none⟩ ]⟩,
  -- ACQ_AREA_STAT
  ⟨0x0410, 32, 4, 0x00000000, 0x0,
    [ ⟨28, 28, .ro, none⟩, ⟨27, 27, .ro, none⟩, ⟨26, 24, .ro, none⟩, ⟨23, 16, .ro, none⟩,
      ⟨15, 0, .ro, none⟩ ]⟩,
  -- ACQ_AREA_LEN
  ⟨0x0414, 32, 4, 0x00000000, 0x0,
    [ ⟨31, 16, .ro, none⟩, ⟨15, 0, .ro, none⟩ ]⟩,
  -- ACQ_AREA_CNT
  ⟨0x0418, 32, 4, 0x00000000, 0x0,
    [ ⟨31, 16, .rc, none⟩, ⟨15, 0, .rc, none⟩ ]⟩ ]

/-- Rows of capture and Sprout, part 3. -/
def rowsACQ3 : List RegSpec := [
  -- ACQ_SIG
  ⟨0x1000, 4, 27, 0x00000000, 0x0,
    [ ⟨31, 0, .rw, some (2, 0)⟩ ]⟩,
  -- ACQ_SIG
  ⟨0x1080, 4, 27, 0x00000000, 0x0,
    [ ⟨31, 0, .rw, some (3, 0)⟩ ]⟩,
  -- ACQ_SIG
  ⟨0x1100, 4, 27, 0x00000000, 0x0,
    [ ⟨31, 0, .rw, some (4, 0)⟩ ]⟩,
  -- ACQ_SIG
  ⟨0x1180, 4, 27, 0x00000000, 0x0,
    [ ⟨31, 0, .rw, some (5, 0)⟩ ]⟩ ]

/-- All rows of capture and Sprout. -/
def rowsACQ : List RegSpec := rowsACQ0 ++ rowsACQ1 ++ rowsACQ2 ++ rowsACQ3

/-- Rows of field inputs and outputs, part 0. -/
def rowsFIO0 : List RegSpec := [
  -- FIO_IN_CFG
  ⟨0x0000, 4, 16, 0x00001E10, 0x0,
    [ ⟨15, 8, .rw, some (0, 0)⟩, ⟨5, 4, .rw, some (0, 0)⟩, ⟨3, 3, .rw, some (0, 0)⟩,
      ⟨2, 2, .rw, some (0, 0)⟩, ⟨1, 1, .rw, some (0, 0)⟩, ⟨0, 0, .rw, some (0, 0)⟩ ]⟩,
  -- FIO_IN_TRK
  ⟨0x0040, 0, 1, 0x00005575, 0x0,
    [ ⟨15, 8, .rw, some (0, 0)⟩, ⟨7, 0, .rw, some (0, 0)⟩ ]⟩,
  -- FIO_IN_IEN
  ⟨0x0044, 0, 1, 0x00000000, 0x0,
    [ ⟨31, 16, .rw, some (0, 0)⟩, ⟨15, 0, .rw, some (0, 0)⟩ ]⟩,
  -- FIO_IN_LVL
  ⟨0x0048, 0, 1, 0x00000000, 0x0,
    [ ⟨31, 16, .ro, none⟩, ⟨15, 0, .ro, none⟩ ]⟩,
  -- FIO_IN_EDGE
  ⟨0x004C, 0, 1, 0x00000000, 0x0,
    [ ⟨31, 16, .w1c, none⟩, ⟨15, 0, .w1c, none⟩ ]⟩,
  -- FIO_IN_WB
  ⟨0x0050, 0, 1, 0x00000000, 0x0,
    [ ⟨31, 16, .w1c, none⟩, ⟨15, 0, .ro, none⟩ ]⟩,
  -- FIO_IN_THR
  ⟨0x0054, 0, 1, 0x000080B0, 0x0,
    [ ⟨15, 8, .ro, none⟩, ⟨7, 0, .ro, none⟩ ]⟩,
  -- FIO_VF
  ⟨0x0058, 0, 1, 0x00000000, 0x0,
    [ ⟨15, 0, .ro, none⟩ ]⟩,
  -- FIO_SUP
  ⟨0x005C, 0, 1, 0x00000006, 0x0,
    [ ⟨12, 12, .w1c, none⟩, ⟨11, 11, .w1c, none⟩, ⟨10, 10, .w1c, none⟩, ⟨9, 9, .w1c, none⟩,
      ⟨8, 8, .w1c, none⟩, ⟨4, 4, .ro, none⟩, ⟨3, 3, .ro, none⟩, ⟨2, 2, .ro, none⟩,
      ⟨1, 1, .ro, none⟩, ⟨0, 0, .ro, none⟩ ]⟩ ]

/-- Rows of field inputs and outputs, part 1. -/
def rowsFIO1 : List RegSpec := [
  -- FIO_SUP_CMD
  ⟨0x0060, 0, 1, 0x00000000, 0x0,
    [ ⟨1, 1, .wo, none⟩, ⟨0, 0, .wo, none⟩ ]⟩,
  -- FIO_OUT
  ⟨0x0100, 0, 1, 0x00000000, 0x0,
    [ ⟨7, 0, .rw, none⟩ ]⟩,
  -- FIO_OUT_SET
  ⟨0x0104, 0, 1, 0x00000000, 0x0,
    [ ⟨7, 0, .w1s, none⟩ ]⟩,
  -- FIO_OUT_CLR
  ⟨0x0108, 0, 1, 0x00000000, 0x0,
    [ ⟨7, 0, .w1c, none⟩ ]⟩,
  -- FIO_OUT_CFG
  ⟨0x0110, 4, 6, 0x00050201, 0x0,
    [ ⟨19, 16, .rw, some (1, 0)⟩, ⟨11, 8, .rw, some (1, 0)⟩, ⟨1, 1, .rw, some (1, 0)⟩,
      ⟨0, 0, .rw, some (1, 0)⟩ ]⟩,
  -- FIO_OUT_CFG
  ⟨0x0128, 4, 2, 0x00050201, 0x0,
    [ ⟨19, 16, .rw, some (1, 0)⟩, ⟨11, 8, .rw, some (1, 0)⟩, ⟨2, 2, .rw, some (1, 0)⟩,
      ⟨1, 1, .rw, some (1, 0)⟩, ⟨0, 0, .rw, some (1, 0)⟩ ]⟩,
  -- FIO_OUT_STAT
  ⟨0x0130, 0, 1, 0x00000000, 0x0,
    [ ⟨25, 24, .ro, none⟩, ⟨23, 16, .ro, none⟩, ⟨15, 8, .ro, none⟩, ⟨7, 0, .ro, none⟩ ]⟩,
  -- FIO_OUT_FLT
  ⟨0x0134, 0, 1, 0x00000000, 0x0,
    [ ⟨31, 24, .w1c, none⟩, ⟨23, 16, .w1c, none⟩, ⟨15, 8, .w1c, none⟩, ⟨7, 0, .w1c, none⟩ ]⟩,
  -- FIO_OUT_CUR
  ⟨0x0140, 4, 8, 0x00000000, 0x0,
    [ ⟨11, 0, .ro, none⟩ ]⟩ ]

/-- All rows of field inputs and outputs. -/
def rowsFIO : List RegSpec := rowsFIO0 ++ rowsFIO1

/-- Rows of safety, part 0. -/
def rowsSAF0 : List RegSpec := [
  -- SAF_CFG
  ⟨0x0000, 0, 1, 0x000A8002, 0x0,
    [ ⟨23, 16, .rw, some (0, 0)⟩, ⟨15, 12, .rw, some (0, 0)⟩, ⟨2, 0, .rw, some (0, 0)⟩ ]⟩,
  -- SAF_GMASK
  ⟨0x0010, 4, 2, 0x00000000, 0x0,
    [ ⟨31, 16, .rw, some (0, 0)⟩, ⟨15, 0, .rw, some (0, 0)⟩ ]⟩,
  -- SAF_GCTL
  ⟨0x0018, 4, 2, 0x20100010, 0x0,
    [ ⟨31, 24, .rw, some (0, 0)⟩, ⟨23, 16, .rw, some (0, 0)⟩, ⟨5, 4, .rw, some (0, 0)⟩,
      ⟨1, 0, .rw, some (0, 0)⟩ ]⟩,
  -- SAF_GTIM
  ⟨0x0020, 4, 2, 0x00140000, 0x0,
    [ ⟨31, 16, .rw, some (0, 0)⟩, ⟨15, 0, .rw, some (0, 0)⟩ ]⟩,
  -- SAF_INPAIR
  ⟨0x0030, 0, 1, 0x00006400, 0x0,
    [ ⟨23, 8, .rw, some (0, 0)⟩, ⟨7, 0, .rw, some (0, 0)⟩ ]⟩,
  -- SAF_RST
  ⟨0x0034, 0, 1, 0x00C80A00, 0x0,
    [ ⟨27, 16, .rw, some (0, 0)⟩, ⟨15, 8, .rw, some (0, 0)⟩, ⟨4, 4, .rw, some (0, 0)⟩,
      ⟨3, 0, .rw, some (0, 0)⟩ ]⟩,
  -- SAF_PFM_EXP
  ⟨0x0038, 0, 1, 0x00000000, 0x0,
    [ ⟨15, 0, .rw, some (0, 0)⟩ ]⟩,
  -- SAF_STATE
  ⟨0x0040, 0, 1, 0x00000000, 0x0,
    [ ⟨23, 22, .ro, none⟩, ⟨21, 20, .ro, none⟩, ⟨19, 18, .ro, none⟩, ⟨17, 16, .ro, none⟩,
      ⟨2, 0, .ro, none⟩ ]⟩,
  -- SAF_REQ
  ⟨0x0044, 0, 1, 0x00000000, 0x0,
    [ ⟨1, 0, .rw, none⟩ ]⟩ ]

/-- Rows of safety, part 1. -/
def rowsSAF1 : List RegSpec := [
  -- SAF_CMD
  ⟨0x0048, 0, 1, 0x00000000, 0x0,
    [ ⟨3, 3, .wo, none⟩, ⟨2, 2, .wo, none⟩, ⟨1, 1, .wo, none⟩, ⟨0, 0, .wo, none⟩ ]⟩,
  -- SAF_CHECK
  ⟨0x004C, 0, 1, 0x00000000, 0x0,
    [ ⟨31, 0, .ro, none⟩ ]⟩,
  -- SAF_HCHECK
  ⟨0x0050, 0, 1, 0x00000000, 0x0,
    [ ⟨31, 0, .ro, none⟩ ]⟩,
  -- SAF_CONFIRM
  ⟨0x0054, 0, 1, 0x00000000, 0x0,
    [ ⟨31, 0, .rw, none⟩ ]⟩,
  -- SAF_PFM
  ⟨0x0058, 0, 1, 0x00000000, 0x0,
    [ ⟨15, 0, .wo, none⟩ ]⟩,
  -- SAF_PFM_END
  ⟨0x005C, 0, 1, 0x00000000, 0x0,
    [ ⟨0, 0, .wo, none⟩ ]⟩,
  -- SAF_PFM_SIG
  ⟨0x0060, 0, 1, 0x0000FFFF, 0x0,
    [ ⟨15, 0, .ro, none⟩ ]⟩,
  -- SAF_ERR
  ⟨0x0064, 0, 1, 0x00000000, 0x0,
    [ ⟨23, 16, .w1c, none⟩, ⟨14, 14, .w1c, none⟩, ⟨13, 13, .w1c, none⟩, ⟨12, 12, .w1c, none⟩,
      ⟨11, 11, .w1c, none⟩, ⟨10, 10, .w1c, none⟩, ⟨9, 9, .w1c, none⟩, ⟨8, 8, .w1c, none⟩,
      ⟨7, 7, .w1c, none⟩, ⟨6, 6, .w1c, none⟩, ⟨5, 5, .w1c, none⟩, ⟨4, 4, .w1c, none⟩,
      ⟨3, 3, .w1c, none⟩, ⟨2, 2, .w1c, none⟩, ⟨1, 1, .w1c, none⟩, ⟨0, 0, .w1c, none⟩ ]⟩,
  -- SAF_FLT
  ⟨0x0068, 0, 1, 0x00000000, 0x0,
    [ ⟨9, 8, .ro, none⟩, ⟨4, 0, .ro, none⟩ ]⟩ ]

/-- Rows of safety, part 2. -/
def rowsSAF2 : List RegSpec := [
  -- SAF_AXGRP
  ⟨0x0100, 4, 16, 0x00000000, 0x0,
    [ ⟨31, 30, .rw, some (0, 0)⟩, ⟨29, 28, .rw, some (0, 0)⟩, ⟨27, 26, .rw, some (0, 0)⟩,
      ⟨25, 24, .rw, some (0, 0)⟩, ⟨23, 22, .rw, some (0, 0)⟩, ⟨21, 20, .rw, some (0, 0)⟩,
      ⟨19, 18, .rw, some (0, 0)⟩, ⟨17, 16, .rw, some (0, 0)⟩, ⟨15, 14, .rw, some (0, 0)⟩,
      ⟨13, 12, .rw, some (0, 0)⟩, ⟨11, 10, .rw, some (0, 0)⟩, ⟨9, 8, .rw, some (0, 0)⟩,
      ⟨7, 6, .rw, some (0, 0)⟩, ⟨5, 4, .rw, some (0, 0)⟩, ⟨3, 2, .rw, some (0, 0)⟩,
      ⟨1, 0, .rw, some (0, 0)⟩ ]⟩,
  -- SAF_SLSLIM
  ⟨0x0400, 4, 256, 0x00000000, 0x0,
    [ ⟨31, 0, .rw, some (0, 0)⟩ ]⟩ ]

/-- All rows of safety. -/
def rowsSAF : List RegSpec := rowsSAF0 ++ rowsSAF1 ++ rowsSAF2

/-- Rows of memory integrity, part 0. -/
def rowsMEM0 : List RegSpec := [
  -- MEM_SCRUB
  ⟨0x0000, 4, 8, 0x80080064, 0x0,
    [ ⟨31, 31, .rw, some (0, 1)⟩, ⟨19, 16, .rw, some (0, 1)⟩, ⟨7, 0, .rw, some (0, 1)⟩ ]⟩,
  -- MEM_SSTAT
  ⟨0x0020, 4, 8, 0x00000000, 0x0,
    [ ⟨31, 16, .ro, none⟩, ⟨15, 0, .ro, none⟩ ]⟩,
  -- MEM_INIT
  ⟨0x0040, 0, 1, 0x00000000, 0x0,
    [ ⟨7, 0, .ro, none⟩ ]⟩,
  -- MEM_CE_CNT
  ⟨0x0080, 4, 8, 0x00000000, 0x0,
    [ ⟨31, 16, .rc, none⟩, ⟨15, 0, .rc, none⟩ ]⟩,
  -- MEM_UE_CNT
  ⟨0x00A0, 4, 8, 0x00000000, 0x0,
    [ ⟨31, 16, .rc, none⟩, ⟨15, 0, .rc, none⟩ ]⟩,
  -- MEM_ROM_CNT
  ⟨0x00C8, 0, 1, 0x00000000, 0x0,
    [ ⟨31, 16, .rc, none⟩, ⟨15, 0, .rc, none⟩ ]⟩,
  -- MEM_ERR
  ⟨0x00C0, 0, 1, 0x00000000, 0x0,
    [ ⟨28, 28, .w1c, none⟩, ⟨27, 27, .w1c, none⟩, ⟨26, 26, .w1c, none⟩, ⟨25, 25, .w1c, none⟩,
      ⟨24, 24, .w1c, none⟩, ⟨23, 16, .w1c, none⟩, ⟨15, 8, .w1c, none⟩, ⟨7, 0, .w1c, none⟩ ]⟩,
  -- MEM_IEN
  ⟨0x00C4, 0, 1, 0x1BFF00FF, 0x0,
    [ ⟨28, 0, .rw, some (8, 0)⟩ ]⟩,
  -- MEM_CLOG
  ⟨0x00D0, 0, 1, 0x00000000, 0x0,
    [ ⟨31, 28, .ro, none⟩, ⟨27, 24, .ro, none⟩, ⟨18, 0, .ro, none⟩ ]⟩ ]

/-- Rows of memory integrity, part 1. -/
def rowsMEM1 : List RegSpec := [
  -- MEM_ELOG
  ⟨0x00D4, 0, 1, 0x00000000, 0x0,
    [ ⟨31, 28, .ro, none⟩, ⟨27, 24, .ro, none⟩, ⟨18, 0, .ro, none⟩ ]⟩,
  -- MEM_ELOG_SYN
  ⟨0x00D8, 0, 1, 0x00000000, 0x0,
    [ ⟨27, 24, .ro, none⟩, ⟨16, 16, .ro, none⟩, ⟨15, 8, .ro, none⟩, ⟨7, 0, .ro, none⟩ ]⟩,
  -- MEM_WZERO
  ⟨0x00E0, 0, 1, 0x00000000, 0x0,
    [ ⟨31, 3, .wo, none⟩ ]⟩,
  -- MEM_SREP
  ⟨0x00E4, 0, 1, 0x00000000, 0x0,
    [ ⟨31, 31, .wo, none⟩, ⟨21, 16, .wo, none⟩, ⟨15, 12, .wo, none⟩, ⟨10, 8, .wo, none⟩ ]⟩,
  -- MEM_REP
  ⟨0x0100, 4, 56, 0x00000000, 0x0,
    [ ⟨8, 8, .ro, none⟩, ⟨7, 6, .ro, none⟩, ⟨5, 4, .ro, none⟩, ⟨2, 0, .ro, none⟩ ]⟩ ]

/-- All rows of memory integrity. -/
def rowsMEM : List RegSpec := rowsMEM0 ++ rowsMEM1

/-- Rows of the host interface, part 0. -/
def rowsHIF0 : List RegSpec := [
  -- HIF_CFG
  ⟨0x0000, 0, 1, 0x000A1404, 0x0,
    [ ⟨31, 31, .ro, none⟩, ⟨23, 16, .rw, some (0, 0)⟩, ⟨15, 8, .rw, some (0, 0)⟩,
      ⟨3, 0, .rw, some (0, 0)⟩ ]⟩,
  -- HIF_VEC
  ⟨0x0010, 4, 8, 0x03020100, 0x4040404,
    [ ⟨28, 24, .rw, some (0, 0)⟩, ⟨20, 16, .rw, some (0, 0)⟩, ⟨12, 8, .rw, some (0, 0)⟩,
      ⟨4, 0, .rw, some (0, 0)⟩ ]⟩,
  -- HIF_NVEC
  ⟨0x0030, 4, 2, 0x1F1F1F1F, 0x0,
    [ ⟨28, 24, .rw, some (0, 0)⟩, ⟨20, 16, .rw, some (0, 0)⟩, ⟨12, 8, .rw, some (0, 0)⟩,
      ⟨4, 0, .rw, some (0, 0)⟩ ]⟩,
  -- HIF_DBQ
  ⟨0x0040, 0, 1, 0x00000000, 0x0,
    [ ⟨31, 31, .rc, none⟩, ⟨4, 0, .rc, none⟩ ]⟩,
  -- HIF_FACC
  ⟨0x0044, 0, 1, 0x00000000, 0x0,
    [ ⟨31, 16, .wo, none⟩, ⟨4, 0, .wo, none⟩ ]⟩,
  -- HIF_FDONE
  ⟨0x0048, 0, 1, 0x00000000, 0x0,
    [ ⟨31, 31, .wo, none⟩, ⟨4, 0, .wo, none⟩ ]⟩,
  -- HIF_MTO
  ⟨0x004C, 0, 1, 0x00000000, 0x0,
    [ ⟨31, 0, .w1c, none⟩ ]⟩,
  -- HIF_ERR
  ⟨0x0050, 0, 1, 0x00000000, 0x0,
    [ ⟨8, 8, .w1c, none⟩, ⟨7, 7, .w1c, none⟩, ⟨6, 6, .w1c, none⟩, ⟨5, 5, .w1c, none⟩,
      ⟨4, 4, .w1c, none⟩, ⟨3, 3, .w1c, none⟩, ⟨2, 2, .w1c, none⟩, ⟨1, 1, .w1c, none⟩,
      ⟨0, 0, .w1c, none⟩ ]⟩,
  -- HIF_LINK
  ⟨0x0054, 0, 1, 0x00000000, 0x0,
    [ ⟨18, 16, .ro, none⟩, ⟨15, 14, .ro, none⟩, ⟨13, 8, .ro, none⟩, ⟨7, 7, .ro, none⟩,
      ⟨6, 6, .ro, none⟩, ⟨5, 5, .ro, none⟩, ⟨4, 4, .ro, none⟩, ⟨3, 2, .ro, none⟩,
      ⟨0, 0, .ro, none⟩ ]⟩ ]

/-- Rows of the host interface, part 1. -/
def rowsHIF1 : List RegSpec := [
  -- HIF_DMA_HLO
  ⟨0x0100, 32, 4, 0x00000000, 0x0,
    [ ⟨31, 2, .rw, none⟩ ]⟩,
  -- HIF_DMA_HHI
  ⟨0x0104, 32, 4, 0x00000000, 0x0,
    [ ⟨31, 0, .rw, none⟩ ]⟩,
  -- HIF_DMA_LADR
  ⟨0x0108, 32, 4, 0x00000000, 0x0,
    [ ⟨31, 2, .rw, none⟩ ]⟩,
  -- HIF_DMA_CTL
  ⟨0x010C, 32, 4, 0x00000000, 0x0,
    [ ⟨31, 31, .wo, none⟩, ⟨30, 30, .wo, none⟩, ⟨24, 24, .rw, none⟩, ⟨21, 0, .rw, none⟩ ]⟩,
  -- HIF_DMA_STAT
  ⟨0x0110, 32, 4, 0x00000000, 0x0,
    [ ⟨31, 31, .ro, none⟩, ⟨30, 30, .w1c, none⟩, ⟨29, 29, .ro, none⟩, ⟨27, 24, .ro, none⟩,
      ⟨21, 0, .ro, none⟩ ]⟩,
  -- HIF_FL_CMD
  ⟨0x0200, 0, 1, 0x00000000, 0x0,
    [ ⟨31, 31, .wo, none⟩, ⟨29, 29, .rw, none⟩, ⟨28, 28, .rw, none⟩, ⟨27, 24, .rw, none⟩,
      ⟨23, 23, .rw, none⟩, ⟨16, 8, .rw, none⟩, ⟨7, 0, .rw, none⟩ ]⟩,
  -- HIF_FL_ADDR
  ⟨0x0204, 0, 1, 0x00000000, 0x0,
    [ ⟨31, 0, .rw, none⟩ ]⟩,
  -- HIF_FL_LADR
  ⟨0x0208, 0, 1, 0x00000000, 0x0,
    [ ⟨31, 0, .rw, none⟩ ]⟩,
  -- HIF_FL_STAT
  ⟨0x020C, 0, 1, 0x00000000, 0x0,
    [ ⟨31, 31, .ro, none⟩, ⟨30, 30, .w1c, none⟩, ⟨29, 29, .w1c, none⟩, ⟨28, 28, .ro, none⟩ ]⟩ ]

/-- Rows of the host interface, part 2. -/
def rowsHIF2 : List RegSpec := [
  -- HIF_BOOT
  ⟨0x0300, 0, 1, 0x00000000, 0x0,
    [ ⟨27, 24, .ro, none⟩, ⟨23, 20, .ro, none⟩, ⟨18, 12, .ro, none⟩, ⟨11, 8, .ro, none⟩,
      ⟨7, 4, .ro, none⟩, ⟨3, 3, .ro, none⟩, ⟨2, 2, .ro, none⟩, ⟨1, 0, .ro, none⟩ ]⟩ ]

/-- All rows of the host interface. -/
def rowsHIF : List RegSpec := rowsHIF0 ++ rowsHIF1 ++ rowsHIF2

/-- Rows of the event recorder, part 0. -/
def rowsEVL0 : List RegSpec := [
  -- EVL_CFG
  ⟨0x0000, 0, 1, 0x00142800, 0x0,
    [ ⟨23, 16, .rw, some (0, 0)⟩, ⟨15, 10, .rw, some (0, 0)⟩, ⟨1, 1, .rw, some (0, 0)⟩,
      ⟨0, 0, .rw, some (0, 0)⟩ ]⟩,
  -- EVL_RL
  ⟨0x0004, 0, 1, 0x0000840A, 0x0,
    [ ⟨15, 12, .rw, some (0, 0)⟩, ⟨11, 8, .rw, some (0, 0)⟩, ⟨7, 0, .rw, some (0, 0)⟩ ]⟩,
  -- EVL_FLBASE
  ⟨0x0008, 0, 1, 0x00000000, 0x0,
    [ ⟨31, 0, .rw, some (0, 0)⟩ ]⟩,
  -- EVL_FLLEN
  ⟨0x000C, 0, 1, 0x00000000, 0x0,
    [ ⟨31, 0, .rw, some (0, 0)⟩ ]⟩,
  -- EVL_FLWP
  ⟨0x0010, 0, 1, 0x00000000, 0x0,
    [ ⟨31, 0, .rw, none⟩ ]⟩,
  -- EVL_WSEQ
  ⟨0x0014, 0, 1, 0x00000000, 0x0,
    [ ⟨31, 0, .ro, none⟩ ]⟩,
  -- EVL_FSEQ
  ⟨0x0018, 0, 1, 0x00000000, 0x0,
    [ ⟨31, 0, .ro, none⟩ ]⟩,
  -- EVL_RDSEQ
  ⟨0x001C, 0, 1, 0x00000000, 0x0,
    [ ⟨31, 0, .rw, none⟩ ]⟩,
  -- EVL_CMD
  ⟨0x0020, 0, 1, 0x00000000, 0x0,
    [ ⟨0, 0, .wo, none⟩ ]⟩ ]

/-- Rows of the event recorder, part 1. -/
def rowsEVL1 : List RegSpec := [
  -- EVL_STAT
  ⟨0x0024, 0, 1, 0x00000000, 0x0,
    [ ⟨31, 16, .ro, none⟩, ⟨4, 4, .ro, none⟩, ⟨3, 3, .ro, none⟩, ⟨2, 2, .ro, none⟩,
      ⟨1, 1, .ro, none⟩, ⟨0, 0, .ro, none⟩ ]⟩,
  -- EVL_LOST
  ⟨0x0028, 0, 1, 0x00000000, 0x0,
    [ ⟨31, 16, .rc, none⟩, ⟨15, 0, .rc, none⟩ ]⟩,
  -- EVL_FWEV_CTL
  ⟨0x0030, 0, 1, 0x00000000, 0x0,
    [ ⟨31, 31, .wo, none⟩, ⟨27, 26, .rw, none⟩, ⟨25, 18, .rw, none⟩, ⟨9, 0, .rw, none⟩ ]⟩,
  -- EVL_FWEV_A0
  ⟨0x0034, 0, 1, 0x00000000, 0x0,
    [ ⟨31, 0, .rw, none⟩ ]⟩,
  -- EVL_FWEV_A1
  ⟨0x0038, 0, 1, 0x00000000, 0x0,
    [ ⟨31, 0, .rw, none⟩ ]⟩ ]

/-- All rows of the event recorder. -/
def rowsEVL : List RegSpec := rowsEVL0 ++ rowsEVL1

/-- Rows of power, clocks and reset, part 0. -/
def rowsPCR0 : List RegSpec := [
  -- PCR_DEVID
  ⟨0x0000, 0, 1, 0x2560B100, 0x0,
    [ ⟨31, 16, .ro, none⟩, ⟨15, 8, .ro, none⟩, ⟨0, 0, .ro, none⟩ ]⟩,
  -- PCR_RST_CAUSE
  ⟨0x0004, 0, 1, 0x00000001, 0x0,
    [ ⟨23, 16, .ro, none⟩, ⟨7, 0, .ro, none⟩ ]⟩,
  -- PCR_RST_CMD
  ⟨0x0008, 0, 1, 0x00000000, 0x0,
    [ ⟨31, 16, .wo, none⟩, ⟨1, 1, .wo, none⟩, ⟨0, 0, .wo, none⟩ ]⟩,
  -- PCR_PSTATE
  ⟨0x0010, 0, 1, 0x00000000, 0x0,
    [ ⟨18, 16, .ro, none⟩, ⟨1, 0, .rw, none⟩ ]⟩,
  -- PCR_PD_CTL
  ⟨0x0014, 0, 1, 0x00000083, 0x0,
    [ ⟨9, 8, .rw, none⟩, ⟨7, 7, .ro, none⟩, ⟨6, 2, .rw, none⟩, ⟨1, 0, .ro, none⟩ ]⟩,
  -- PCR_PD_STAT
  ⟨0x0018, 0, 1, 0x00000083, 0x0,
    [ ⟨9, 0, .ro, none⟩ ]⟩,
  -- PCR_RET
  ⟨0x001C, 0, 1, 0x000000FF, 0x0,
    [ ⟨7, 0, .rw, none⟩ ]⟩,
  -- PCR_WAKE_EN
  ⟨0x0020, 0, 1, 0x00000007, 0x0,
    [ ⟨3, 0, .rw, none⟩ ]⟩,
  -- PCR_WAKE_STAT
  ⟨0x0024, 0, 1, 0x00000000, 0x0,
    [ ⟨3, 0, .w1c, none⟩ ]⟩ ]

/-- Rows of power, clocks and reset, part 1. -/
def rowsPCR1 : List RegSpec := [
  -- PCR_ALARM_LO
  ⟨0x0028, 0, 1, 0xFFFFFFFF, 0x0,
    [ ⟨31, 0, .rw, none⟩ ]⟩,
  -- PCR_ALARM_HI
  ⟨0x002C, 0, 1, 0xFFFFFFFF, 0x0,
    [ ⟨31, 0, .rw, none⟩ ]⟩,
  -- PCR_CLK_CTL
  ⟨0x0030, 0, 1, 0x00000001, 0x0,
    [ ⟨0, 0, .rw, some (0, 0)⟩ ]⟩,
  -- PCR_CLK_STAT
  ⟨0x0034, 0, 1, 0x00000000, 0x0,
    [ ⟨5, 5, .ro, none⟩, ⟨4, 4, .ro, none⟩, ⟨3, 3, .ro, none⟩, ⟨2, 2, .ro, none⟩,
      ⟨1, 1, .ro, none⟩, ⟨0, 0, .ro, none⟩ ]⟩,
  -- PCR_AVS_CTL
  ⟨0x0040, 0, 1, 0x801E3018, 0x0,
    [ ⟨31, 31, .rw, some (0, 0)⟩, ⟨23, 16, .rw, some (0, 0)⟩, ⟨15, 8, .rw, some (0, 0)⟩,
      ⟨7, 0, .rw, some (0, 0)⟩ ]⟩,
  -- PCR_AVS_STAT
  ⟨0x0044, 0, 1, 0x0000001E, 0x0,
    [ ⟨23, 16, .ro, none⟩, ⟨7, 0, .ro, none⟩ ]⟩,
  -- PCR_SUP_STAT
  ⟨0x0050, 0, 1, 0x00000000, 0x0,
    [ ⟨8, 8, .w1c, none⟩, ⟨0, 0, .ro, none⟩ ]⟩,
  -- PCR_WDT_CTL
  ⟨0x0060, 0, 1, 0x0003FF00, 0x0,
    [ ⟨23, 16, .rw, some (0, 0)⟩, ⟨15, 8, .rw, some (0, 0)⟩ ]⟩,
  -- PCR_WDT_KICK
  ⟨0x0064, 0, 1, 0x00000000, 0x0,
    [ ⟨15, 0, .wo, none⟩ ]⟩ ]

/-- Rows of power, clocks and reset, part 2. -/
def rowsPCR2 : List RegSpec := [
  -- PCR_WDT_STAT
  ⟨0x0068, 0, 1, 0x000000FF, 0x0,
    [ ⟨11, 8, .ro, none⟩, ⟨7, 0, .ro, none⟩ ]⟩,
  -- PCR_ERR
  ⟨0x0070, 0, 1, 0x00000000, 0x0,
    [ ⟨5, 5, .w1c, none⟩, ⟨4, 4, .w1c, none⟩, ⟨3, 3, .w1c, none⟩, ⟨2, 2, .w1c, none⟩,
      ⟨1, 1, .w1c, none⟩, ⟨0, 0, .w1c, none⟩ ]⟩,
  -- PCR_PODSLP
  ⟨0x0100, 16, 4, 0x00000000, 0x0,
    [ ⟨31, 31, .rw, some (1, 1)⟩, ⟨30, 30, .rw, some (1, 1)⟩, ⟨23, 0, .rw, some (1, 1)⟩ ]⟩,
  -- PCR_PODERR
  ⟨0x0140, 0, 1, 0x00000000, 0x0,
    [ ⟨3, 0, .w1c, none⟩ ]⟩ ]

/-- All rows of power, clocks and reset. -/
def rowsPCR : List RegSpec := rowsPCR0 ++ rowsPCR1 ++ rowsPCR2

/-- Rows of the debug port, part 0. -/
def rowsDBG0 : List RegSpec := [
  -- DBG_CTL
  ⟨0x0000, 0, 1, 0x00000001, 0x0,
    [ ⟨0, 0, .rw, some (0, 0)⟩ ]⟩,
  -- DBG_STAT
  ⟨0x0004, 0, 1, 0x00000000, 0x0,
    [ ⟨4, 4, .ro, none⟩, ⟨3, 3, .w1c, none⟩, ⟨2, 2, .ro, none⟩, ⟨1, 1, .ro, none⟩,
      ⟨0, 0, .ro, none⟩ ]⟩,
  -- DBG_FRZ_NS_LO
  ⟨0x0010, 0, 1, 0x00000000, 0x0,
    [ ⟨31, 0, .ro, none⟩ ]⟩,
  -- DBG_FRZ_NS_HI
  ⟨0x0014, 0, 1, 0x00000000, 0x0,
    [ ⟨31, 0, .ro, none⟩ ]⟩,
  -- DBG_FRZ_CYC_LO
  ⟨0x0018, 0, 1, 0x00000000, 0x0,
    [ ⟨31, 0, .ro, none⟩ ]⟩,
  -- DBG_FRZ_CYC_HI
  ⟨0x001C, 0, 1, 0x00000000, 0x0,
    [ ⟨31, 0, .ro, none⟩ ]⟩,
  -- DBG_FRZ_TICK
  ⟨0x0020, 0, 1, 0x00000000, 0x0,
    [ ⟨31, 0, .ro, none⟩ ]⟩,
  -- DBG_FRZ_DUR
  ⟨0x0024, 0, 1, 0x00000000, 0x0,
    [ ⟨31, 0, .ro, none⟩ ]⟩,
  -- DBG_CPU_R
  ⟨0x0100, 4, 32, 0x00000000, 0x0,
    [ ⟨31, 0, .ro, none⟩ ]⟩ ]

/-- Rows of the debug port, part 1. -/
def rowsDBG1 : List RegSpec := [
  -- DBG_CPU_PC
  ⟨0x0180, 0, 1, 0x00000000, 0x0,
    [ ⟨31, 0, .ro, none⟩ ]⟩,
  -- DBG_CPU_PSR
  ⟨0x0184, 0, 1, 0x00000000, 0x0,
    [ ⟨31, 0, .ro, none⟩ ]⟩ ]

/-- All rows of the debug port. -/
def rowsDBG : List RegSpec := rowsDBG0 ++ rowsDBG1

/-- R43: the common registers of every block window, with the block index in BLK_ID. -/
def rowsCommon (k : Nat) : List RegSpec := [
  -- xx_BLK_ID
  ⟨0xFF00, 0, 1, 0xB100 + k, 0, [ ⟨15, 8, .ro, none⟩, ⟨7, 0, .ro, none⟩ ]⟩,
  -- xx_CMT_REQ
  ⟨0xFF10, 0, 1, 0, 0, [ ⟨31, 0, .w1s, none⟩ ]⟩,
  -- xx_CMT_DIRTY
  ⟨0xFF14, 0, 1, 0, 0, [ ⟨31, 0, .ro, none⟩ ]⟩,
  -- xx_CMT_DONE
  ⟨0xFF18, 0, 1, 0, 0, [ ⟨31, 0, .w1c, none⟩ ]⟩,
  -- xx_CMT_REFUSED
  ⟨0xFF1C, 0, 1, 0, 0, [ ⟨31, 0, .w1c, none⟩ ]⟩,
  -- xx_CMT_REASON
  ⟨0xFF20, 0, 1, 0, 0, [ ⟨23, 16, .ro, none⟩, ⟨15, 8, .ro, none⟩, ⟨4, 0, .ro, none⟩ ]⟩,
  -- xx_CMT_CYCLE
  ⟨0xFF24, 0, 1, 0, 0, [ ⟨31, 0, .ro, none⟩ ]⟩ ]

/-- Table 1-5: the rows of block k's own registers. -/
def blockRows (k : Nat) : List RegSpec :=
  match k with
  | 0 => rowsLE
  | 1 => rowsDS
  | 2 => rowsAX
  | 3 => rowsPG
  | 4 => rowsFB
  | 5 => rowsNET
  | 6 => rowsSLT
  | 7 => rowsSYN
  | 8 => rowsCAS
  | 9 => rowsACQ
  | 10 => rowsFIO
  | 11 => rowsSAF
  | 12 => rowsMEM
  | 13 => rowsHIF
  | 14 => rowsEVL
  | 15 => rowsPCR
  | 16 => rowsDBG
  | _ => []

/-- xx_CMT_REQ of block k (R43). -/
def Reg.CMT_REQ (k : Nat) : Nat := 0x4000FF10 + 0x10000 * k

/-- xx_CMT_DIRTY of block k (R43). -/
def Reg.CMT_DIRTY (k : Nat) : Nat := 0x4000FF14 + 0x10000 * k

/-- xx_CMT_DONE of block k (R43). -/
def Reg.CMT_DONE (k : Nat) : Nat := 0x4000FF18 + 0x10000 * k

/-- xx_CMT_REFUSED of block k (R43). -/
def Reg.CMT_REFUSED (k : Nat) : Nat := 0x4000FF1C + 0x10000 * k

/-- xx_CMT_REASON of block k (R43). -/
def Reg.CMT_REASON (k : Nat) : Nat := 0x4000FF20 + 0x10000 * k

/-- xx_CMT_CYCLE of block k (R43). -/
def Reg.CMT_CYCLE (k : Nat) : Nat := 0x4000FF24 + 0x10000 * k

/-- xx_BLK_ID of block k (R43). -/
def Reg.BLK_ID (k : Nat) : Nat := 0x4000FF00 + 0x10000 * k

/-- R37: the value range of each field that does not define every value of its width, by block:
offset of the register row, bits, smallest and largest value. Ranges that a chapter exempts or
ties to another field stand with that chapter's conditions. -/
def blockRanges (k : Nat) : List (Nat × Nat × Nat × Nat × Nat) :=
  match k with
  | 1 => [ (0x0004, 24, 16, 0, 256), (0x0008, 24, 16, 0, 256) ]
  | 2 => [ (0x0400, 26, 24, 0, 4), (0x0400, 23, 21, 0, 4), (0x0400, 20, 18, 0, 4),
      (0x0400, 17, 15, 0, 4), (0x0400, 14, 12, 0, 4), (0x0400, 11, 9, 0, 4),
      (0x0400, 8, 6, 0, 4), (0x0400, 5, 3, 0, 4), (0x0400, 2, 0, 0, 4) ]
  | 3 => [ (0x0000, 2, 0, 0, 3), (0x3000, 3, 2, 0, 2), (0x3000, 1, 0, 0, 2) ]
  | 4 => [ (0x0000, 2, 0, 0, 4) ]
  | 5 => [ (0x0000, 15, 8, 8, 255), (0x0000, 2, 1, 0, 2), (0x0400, 3, 2, 0, 2),
      (0x0400, 1, 0, 0, 2), (0x2000, 28, 22, 0, 79) ]
  | 6 => [ (0x0000, 2, 0, 0, 6) ]
  | 7 => [ (0x0000, 15, 8, 1, 255), (0x0004, 25, 16, 1, 1023), (0x0004, 9, 0, 1, 1000),
      (0x0008, 23, 16, 1, 255), (0x0010, 9, 7, 0, 5), (0x0010, 4, 2, 0, 2),
      (0x0010, 1, 0, 0, 2) ]
  | 8 => [ (0x0004, 11, 9, 0, 4), (0x0200, 3, 2, 0, 2), (0x0200, 1, 0, 0, 2) ]
  | 9 => [ (0x0100, 4, 0, 0, 16), (0x0204, 6, 4, 0, 5), (0x0204, 1, 0, 0, 2),
      (0x0400, 31, 16, 1, 65535), (0x0404, 15, 12, 0, 10), (0x0404, 1, 0, 0, 2) ]
  | 10 => [ (0x0000, 15, 8, 1, 255), (0x0110, 19, 16, 1, 15), (0x0128, 19, 16, 1, 15),
      (0x0110, 11, 8, 1, 15), (0x0128, 11, 8, 1, 15) ]
  | 11 => [ (0x0000, 23, 16, 1, 100), (0x0000, 15, 12, 4, 15), (0x0000, 2, 0, 0, 4),
      (0x0018, 31, 24, 1, 255), (0x0018, 5, 4, 1, 2), (0x0018, 1, 0, 0, 2),
      (0x0020, 31, 16, 2, 10000), (0x0020, 15, 0, 0, 10000), (0x0030, 23, 8, 10, 2000),
      (0x0034, 27, 16, 20, 1000), (0x0034, 15, 8, 5, 100), (0x0100, 31, 30, 0, 2),
      (0x0100, 29, 28, 0, 2), (0x0100, 27, 26, 0, 2), (0x0100, 25, 24, 0, 2),
      (0x0100, 23, 22, 0, 2), (0x0100, 21, 20, 0, 2), (0x0100, 19, 18, 0, 2),
      (0x0100, 17, 16, 0, 2), (0x0100, 15, 14, 0, 2), (0x0100, 13, 12, 0, 2),
      (0x0100, 11, 10, 0, 2), (0x0100, 9, 8, 0, 2), (0x0100, 7, 6, 0, 2),
      (0x0100, 5, 4, 0, 2), (0x0100, 3, 2, 0, 2), (0x0100, 1, 0, 0, 2) ]
  | 12 => [ (0x0000, 19, 16, 0, 12), (0x0000, 7, 0, 1, 255) ]
  | 13 => [ (0x0000, 23, 16, 1, 255), (0x0000, 15, 8, 1, 255), (0x0000, 3, 0, 3, 15) ]
  | 14 => [ (0x0000, 23, 16, 1, 255), (0x0000, 15, 10, 2, 10), (0x0004, 15, 12, 1, 15),
      (0x0004, 11, 8, 1, 15), (0x0004, 7, 0, 1, 255) ]
  | 15 => [ (0x0060, 23, 16, 0, 15) ]
  | _ => []

end Sys2Proof.Machine
end

