-- ==== Sys2Proof/Machine/Ops.lean ====
section
/-! DEFINITION. The operations every block shares: sparse tables, bit fields, the register copies,
events, free values, the memories and their symbol code. -/

namespace Sys2Proof.Machine

/-! Sparse tables. -/

/-- The value at a key, `d` for an unlisted one. -/
def kvGet {α : Type} (d : Nat → α) : KV α → Nat → α
  | [], k => d k
  | (k', v) :: m, k => if k = k' then v else kvGet d m k

/-- Takes every entry of a key out. -/
def kvErase {α : Type} : KV α → Nat → KV α
  | [], _ => []
  | (k', v) :: m, k => if k = k' then kvErase m k else (k', v) :: kvErase m k

/-- Puts an entry in its place. -/
def kvInsert {α : Type} : KV α → Nat → α → KV α
  | [], k, v => [(k, v)]
  | (k', v') :: m, k, v =>
    if k < k' then (k, v) :: (k', v') :: m
    else if k = k' then (k, v) :: m
    else (k', v') :: kvInsert m k v

/-- Puts a value, keeping the keys rising and listing nothing that equals its default. -/
def kvPut {α : Type} [DecidableEq α] (d : Nat → α) (m : KV α) (k : Nat) (v : α) : KV α :=
  if v = d k then kvErase m k else kvInsert m k v

/-- The canonical form: keys strictly rising above the bound, no default listed. -/
def kvWfFrom {α : Type} [DecidableEq α] (d : Nat → α) : Nat → KV α → Bool
  | _, [] => true
  | b, (k, v) :: m => decide (b ≤ k) && decide (v ≠ d k) && kvWfFrom d (k + 1) m

/-- The canonical form of a whole table. -/
def kvWf {α : Type} [DecidableEq α] (d : Nat → α) (m : KV α) : Bool := kvWfFrom d 0 m

/-! Bit fields. -/

/-- Bits high:low of a number (R7). -/
def bitsOf (n hi lo : Nat) : Nat := (n >>> lo) % 2 ^ (hi + 1 - lo)

/-- Bits high:low of a word. -/
def fld (w : Word) (hi lo : Nat) : Nat := bitsOf w.toNat hi lo

/-- Bit b of a word. -/
def bit (w : Word) (b : Nat) : Bool := w.getLsbD b

/-- The word with ones at bits high:low. -/
def maskW (hi lo : Nat) : Word := BitVec.ofNat 32 ((2 ^ (hi + 1 - lo) - 1) <<< lo)

/-- The word with bits high:low replaced. -/
def setFld (w : Word) (hi lo v : Nat) : Word :=
  (w &&& ~~~maskW hi lo) ||| BitVec.ofNat 32 ((v % 2 ^ (hi + 1 - lo)) <<< lo)

/-- A number as a two's-complement integer of w bits. -/
def toSigned (w n : Nat) : Int := let m := n % 2 ^ w; if m < 2 ^ (w - 1) then m else (m : Int) - 2 ^ w

/-- An integer modulo 2^w as a number. -/
def ofSigned (w : Nat) (i : Int) : Nat := (i % (2 ^ w : Int)).toNat

/-- Saturating count in a field of w bits. -/
def satAdd (w n k : Nat) : Nat := min (n + k) (2 ^ w - 1)

/-- An integer limited to the range lo to hi. -/
def clampInt (lo hi x : Int) : Int := max lo (min hi x)

/-- A number as a Bool list test: bit b of n. -/
def natBit (n b : Nat) : Bool := n.testBit b

/-- 1 for true. -/
def b2n (b : Bool) : Nat := if b then 1 else 0

/-! Register rows. -/

/-- The row and the index of an offset in a list of rows. -/
def findRow : List RegSpec → Nat → Option (RegSpec × Nat)
  | [], _ => none
  | r :: rs, off =>
    if r.count ≤ 1 then (if off = r.off then some (r, 0) else findRow rs off)
    else if r.off ≤ off && off < r.off + r.stride * r.count && (off - r.off) % r.stride == 0 then
      some (r, (off - r.off) / r.stride)
    else findRow rs off

/-- Block index of an address in the register windows (R29). -/
def blkOf (a : Nat) : Nat := (a - 0x40000000) / 0x10000

/-- Offset in its window. -/
def offOf (a : Nat) : Nat := a % 0x10000

/-- True in the 17 register windows (R27). -/
def inWindows (a : Nat) : Bool := 0x40000000 ≤ a && a < 0x40110000

/-- R30: the row that defines the register at a word address. -/
def regRow (a : Nat) : Option (RegSpec × Nat) :=
  if inWindows a then
    if 0xFF00 ≤ offOf a then findRow (rowsCommon (blkOf a)) (offOf a)
    else findRow (blockRows (blkOf a)) (offOf a)
  else none

/-- R11: the reset value of the register at an address; 0 where there is none. -/
def regReset (a : Nat) : Word :=
  match regRow a with
  | some (r, i) => BitVec.ofNat 32 (r.reset + r.rstep * i)
  | none => 0

/-- The commit group of a field of register i. -/
def fldGroup (f : Fld) (i : Nat) : Option Nat :=
  match f.grp with
  | some (b, d) => some (if d = 0 then b else b + i / d)
  | none => none

/-- Bits of the fields that pass a test. -/
def rowMask (p : Fld → Bool) (fs : List Fld) : Word :=
  fs.foldl (fun m f => if p f then m ||| maskW f.hi f.lo else m) 0

/-- Bits a read returns: every defined field but the write-only ones (R9, R10). -/
def readMask (r : RegSpec) : Word := rowMask (fun f => decide (f.acc ≠ .wo)) r.flds

/-- Bits of every defined field. -/
def definedMask (r : RegSpec) : Word := rowMask (fun _ => true) r.flds

/-- Bits of register i that belong to group g. -/
def groupMask (r : RegSpec) (i g : Nat) : Word := rowMask (fun f => fldGroup f i == some g) r.flds

/-- Bits of the register's shadowed fields. -/
def shadowMask (r : RegSpec) : Word := rowMask (fun f => f.grp.isSome) r.flds

/-- Indices of a row. -/
def rowIdx (r : RegSpec) : List Nat := List.range r.count

/-- Address of register i of a row of block k. -/
def rowAddr (k : Nat) (r : RegSpec) (i : Nat) : Nat := winBase k + r.off + r.stride * i

/-- Members of group g of block k: address and the bits that belong to it (R34). -/
def groupMembers (k g : Nat) : List (Nat × Word) :=
  (blockRows k).flatMap fun r =>
    (rowIdx r).filterMap fun i => if groupMask r i g = 0 then none else some (rowAddr k r i, groupMask r i g)

/-- R43: true for the groups the block defines. -/
def groupDefined (k g : Nat) : Bool :=
  (blockRows k).any fun r => (rowIdx r).any fun i => r.flds.any fun f => fldGroup f i == some g

/-! Register copies. -/

/-- Value of a register, or the shadow of a shadowed one. -/
def State.reg (s : State) (a : Nat) : Word := kvGet regReset s.regs a

/-- Stores a register. -/
def setReg (a : Nat) (v : Word) (s : State) : State := { s with regs := kvPut regReset s.regs a v }

/-- Active copy of a register (R32). -/
def State.act (s : State) (a : Nat) : Word := kvGet regReset s.actv a

/-- Active copy in the cycle before the present one (R26). -/
def State.actPrev (s : State) (a : Nat) : Word := kvGet regReset s.prev a

/-- Stores an active copy. -/
def setAct (a : Nat) (v : Word) (s : State) : State := { s with actv := kvPut regReset s.actv a v }

/-- Field of a register. -/
def State.rf (s : State) (a hi lo : Nat) : Nat := fld (s.reg a) hi lo

/-- Field of an active copy. -/
def State.af (s : State) (a hi lo : Nat) : Nat := fld (s.act a) hi lo

/-- Bit of an active copy. -/
def State.ab (s : State) (a b : Nat) : Bool := bit (s.act a) b

/-- Bit of a register. -/
def State.rb (s : State) (a b : Nat) : Bool := bit (s.reg a) b

/-- The sysclk count: one sysclk is two ticks (R14). -/
def State.sclk (s : State) : Nat := s.time.tick / 2

/-- R473: the clocks that FREEZE gates are gated. -/
def State.frozen (s : State) : Bool := s.rb Reg.DBG_STAT 0

/-- R9: what hardware has done to the register at a in the present sysclk; with sysclk stopped (R473) nothing counts as of the
same sysclk. -/
def State.noted (s : State) (a : Nat) : HwNote :=
  if s.clk.sclk = s.sclk && !s.frozen then kvGet (fun _ => {}) s.clk.notes a else {}

/-- R9: hardware works on the bits `upd` of the register at a, which holds `old`: what its events would leave
in a register of zeros. -/
def noteHw (a : Nat) (old upd : Word) (f : Word → Word) (s : State) : State :=
  let n := s.noted a
  let base := if s.clk.sclk = s.sclk then s.clk.notes else []
  let was := if n.upd = 0 then old else n.was
  { s with clk := if s.frozen then s.clk else ⟨s.sclk, kvPut (fun _ => {}) base a ⟨was, f n.ev, n.upd ||| upd⟩⟩ }

/-- Hardware update of a field. -/
def setRf (a hi lo v : Nat) (s : State) : State :=
  noteHw a (s.reg a) (maskW hi lo) (fun w => setFld w hi lo v) (setReg a (setFld (s.reg a) hi lo v) s)

/-- A write of a RW field by firmware: bits that hardware has written in the same sysclk keep (R9). -/
def writeRf (a hi lo v : Nat) (s : State) : State :=
  let k := (s.noted a).upd
  setReg a ((s.reg a &&& k) ||| (setFld (s.reg a) hi lo v &&& ~~~k)) s

/-- Hardware update of one bit. -/
def setRb (a b : Nat) (v : Bool) (s : State) : State := setRf a b b (b2n v) s

/-- Hardware set of bits. -/
def orReg (a m : Nat) (s : State) : State :=
  noteHw a (s.reg a) (BitVec.ofNat 32 m) (fun w => w ||| BitVec.ofNat 32 m)
    (setReg a (s.reg a ||| BitVec.ofNat 32 m) s)

/-- Events counted in a saturating counter field. -/
def addRf (a hi lo k : Nat) (s : State) : State :=
  noteHw a (s.reg a) (maskW hi lo) (fun w => setFld w hi lo (satAdd (hi + 1 - lo) (fld w hi lo) k))
    (setReg a (setFld (s.reg a) hi lo (satAdd (hi + 1 - lo) (s.rf a hi lo) k)) s)

/-- One event counted. -/
def incRf (a hi lo : Nat) (s : State) : State := addRf a hi lo 1 s

/-- Runs a function for each element of a list. -/
def forAll {α : Type} (xs : List α) (f : α → State → State) (s : State) : State :=
  xs.foldl (fun t x => f x t) s

/-- Runs a function where a condition holds. -/
def onlyIf (c : Bool) (f : State → State) (s : State) : State := if c then f s else s

/-! Straps. -/

/-- HMODE: the host interface is quad-SPI (R405). -/
def State.hostSel (s : State) : Bool := s.pcr.hostSel

/-- Own cascade ID (R278). -/
def State.ownId (s : State) : Nat := s.pcr.cid.val

/-! Power domains. -/

/-- Table 17-1: domain d is powered; PD_AO is on in every state. -/
def State.domOn (s : State) (d : Nat) : Bool := d = 0 || s.rb Reg.PCR_PD_STAT d

/-- Table 1-1: the domain that powers the registers of block k. -/
def blkDom (k : Nat) : Nat :=
  match k with
  | 5 => 6 | 6 => 6 | 8 => 6      -- NET_, SLT_, CAS_: PD_NET
  | 7 => 0 | 15 => 0 | 16 => 0    -- SYN_, PCR_, DBG_: PD_AO
  | 9 => 8                        -- ACQ_: PD_ACQ
  | 10 => 9                       -- FIO_: PD_FIELD
  | 13 => 7                       -- HIF_: PD_HOST
  | _ => 1                        -- PD_CPU

/-- Table 17-1, R492: sysclk runs: not in DORMANT, in a freeze or while reset is held. -/
def State.sysOn (s : State) : Bool := s.domOn 1 && s.rf Reg.PCR_PSTATE 18 16 ≠ 3 && !s.frozen && !s.pcr.inReset

/-- R393: the control processor runs; it is held in reset until tightly coupled memory is initialised. -/
def State.cpuOn (s : State) : Bool := s.sysOn && s.rb Reg.MEM_INIT 0

/-- Table 17-1: the loop clock runs, in RUN only. -/
def State.loopOn (s : State) : Bool := s.sysOn && s.rf Reg.PCR_PSTATE 18 16 = 0

/-- The block whose domain is d takes part in events: domain powered, clock running. -/
def State.live (s : State) (d : Nat) : Bool := s.domOn d && s.sysOn

/-! Time. -/

/-- NS in whole nanoseconds, 64 bits (R252). -/
def State.nsNow (s : State) : Nat := (s.time.ns / 2 ^ 32) % 2 ^ 64

/-- NS in units of 1/16 ns. -/
def State.ns16 (s : State) : Nat := s.time.ns / 2 ^ 28

/-- Time in ticks that passes whatever clocks run. -/
def State.mtick (s : State) : Nat := s.time.mono / 64

/-- Table 8-4: cycle length in ns of a CLEN code (R21); 0 for the reserved code. -/
def clenNs (code : Nat) : Nat :=
  match code with
  | 0 => 15625 | 1 => 31250 | 2 => 62500 | 3 => 125000 | 4 => 250000 | 5 => 500000
  | 6 => 1000000 | _ => 0

/-- Active cycle length CL in ns. -/
def State.clen (s : State) : Nat := clenNs (s.af Reg.SLT_CFG 2 0)

/-- Active cycle length in units of 2^−32 ns. -/
def State.clenU (s : State) : Nat := s.clen * 2 ^ 32

/-- R253: the cycle number. -/
def State.cyc (s : State) : Nat := if s.clen = 0 then 0 else (s.nsNow / s.clen) % 2 ^ 48

/-- Instant within the cycle in 1/16 ns. -/
def State.ofs16 (s : State) : Nat := if s.clen = 0 then 0 else (s.time.ns % s.clenU) / 2 ^ 28

/-- NS at the start of the present cycle, in units of 2^−32 ns. -/
def State.cycStart (s : State) : Nat := if s.clen = 0 then s.time.ns else s.time.ns - s.time.ns % s.clenU

/-- R231: STATE of SLT_CS_STAT. -/
def State.csState (s : State) : Nat := s.rf Reg.SLT_CS_STAT 2 0

/-- R231, R39: the network is running cycles. -/
def State.running (s : State) : Bool :=
  match s.csState with
  | 3 => true | 4 => true | 5 => true | 6 => true
  | _ => false

/-- Active copy in effect in a cycle: the present one, or the one before; of the cycle in which the network
stopped the one before too (R26, R88). -/
def State.actAt (s : State) (cyc a : Nat) : Word :=
  if cyc = s.cyc && s.cmt.ended ≠ some cyc then s.act a else s.actPrev a

/-- Field of the active copy in effect in a cycle. -/
def State.afAt (s : State) (cyc a hi lo : Nat) : Nat := fld (s.actAt cyc a) hi lo

/-! Events. -/

/-- Places an event by sysclk of origin and then by code (R432). -/
def evInsert (e : Ev) : List Ev → List Ev
  | [] => [e]
  | x :: xs => if x.sclk = e.sclk && e.code < x.code then e :: x :: xs else x :: evInsert e xs

/-- R436: an event is lost; the SEQ before the first loss is kept for the LOST record. -/
def noteLost (s : State) : State :=
  let q := if s.evl.lostNow = 0 then (s.rf Reg.EVL_WSEQ 31 0 + 2 ^ 32 - 1) % 2 ^ 32 else s.evl.lostSeq
  { s with evl := { s.evl with lostNow := s.evl.lostNow + 1, lostSeq := q } }

/-- R432: an event enters the input queue of 32; of those that find it full, in the order of origin and code, the last
is lost and counted (R436). -/
def queueEv (e : Ev) (s : State) : State :=
  let q := evInsert e s.evl.queue
  let full := 32 < q.length
  onlyIf full (fun s => noteLost (incRf Reg.EVL_LOST 31 16 s)) { s with evl := { s.evl with queue := if full then q.dropLast else q } }

/-- An event reaches the recorder; one that a debug access raises in a freeze does so when the clocks run (R470, R477). -/
def pushEv (e : Ev) (s : State) : State :=
  if s.frozen then { s with evl := { s.evl with late := s.evl.late ++ [e] } } else queueEv e s

/-- R470: the events of a freeze enter the queue. -/
def takeEvents (s : State) : State :=
  forAll s.evl.late queueEv { s with evl := { s.evl with late := [] } }

/-- An event of code, class, INST and arguments, stamped now. -/
def event (code cls inst : Nat) (arg0 arg1 : Nat) (s : State) : State :=
  pushEv ⟨code, cls, inst % 256, arg0 % 2 ^ 32, arg1 % 2 ^ 32, s.nsNow, s.cyc % 2 ^ 32, s.sclk⟩ s

/-- R429: the code of source, register number and bit. -/
def evCode (src reg b : Nat) : Nat := src * 1024 + reg * 32 + b

/-- Class WARN. -/
def clsWarn : Nat := 1

/-- Class FAULT, of the registers marked F in Table 16-1. -/
def clsFault : Nat := 2

/-- An event of bit b of the register at a: ARG0 its value after the event, ARG1 the cycle number. -/
def regEvent (src reg b cls inst a : Nat) (s : State) : State :=
  event (evCode src reg b) cls inst (s.reg a).toNat (s.cyc % 2 ^ 32) s

/-- Sets bit b of the register at a and reports it (R429). -/
def flagEvent (src reg b cls inst a : Nat) (s : State) : State :=
  regEvent src reg b cls inst a (orReg a (2 ^ b) s)

/-- Sets sticky bit b of the register at a, and reports it when it changes; a write of 1 in the same sysclk does not clear
it (Table 0-3). -/
def stickyEvent (src reg b cls inst a : Nat) (s : State) : State :=
  if s.rb a b then orReg a (2 ^ b) s else flagEvent src reg b cls inst a s

/-- R8, R30, R31: an access error of block k. -/
def accessError (k a : Nat) (isWrite : Bool) (s : State) : State :=
  event (evCode k 31 1) clsWarn 0 a (b2n isWrite) s

/-! Free values. -/

/-- The next free value of w bits. -/
def State.freeBits (s : State) (w : Nat) : Nat := (Config.freeValue s.free).toNat % 2 ^ w

/-- Moves on to the next free value. -/
def useFree (s : State) : State := { s with free := s.free + 1 }

/-- An event of Glipor's own choosing: its code, class, instance and arguments are free. -/
def gliporEvent (s : State) : State :=
  let v := s.freeBits 64
  event (evCode 0x1F 0 0 + v % 1024) (v / 1024 % 3) (v / 4096 % 256) (v / 2 ^ 20) (v / 2 ^ 32) (useFree s)

/-- What leaves the device. -/
def emit (o : Out) (s : State) : State := { s with outs := s.outs ++ [o] }

/-- R468: EXTEST, HIGHZ and CLAMP act in the start-up state OFF and in a freeze. -/
def State.pinsFree (s : State) : Bool := s.csState = 0 || s.frozen

/-- R468: the debug port's instruction in effect: EXTEST, HIGHZ and CLAMP are BYPASS where they do not act. -/
def State.irNow (s : State) : Nat :=
  if (s.dbg.ir = 0 || s.dbg.ir = 0x0A || s.dbg.ir = 0x0B) && !s.pinsFree then 0x1F else s.dbg.ir

/-- R468: boundary scan has the VDD_IO and VDD_18 digital balls. -/
def State.pinsTaken (s : State) : Bool := s.irNow = 0 || s.irNow = 0x0A || s.irNow = 0x0B

/-- What leaves the device by VDD_IO or VDD_18 digital balls: nothing while boundary scan has them. -/
def emitPins (o : Out) (s : State) : State := if s.pinsTaken then s else emit o s

/-- An interrupt to firmware. -/
def irq (i : FwIrq) (s : State) : State := if i ∈ s.fwIrq then s else { s with fwIrq := s.fwIrq ++ [i] }

end Sys2Proof.Machine
end

