-- ==== Sys2Proof/Machine/Notes.lean ====
section
/-! DEFINITION. What Glipor tells the host: interrupt messages, notifications and HSTATE (R410, R418, R420, R464). -/

namespace Sys2Proof.Machine

/-- A bit of a word of flip-flops set or cleared. -/
def natSet (n b : Nat) (v : Bool) : Nat := if n.testBit b = v then n else if v then n + 2 ^ b else n - 2 ^ b

/-- STAGE of HSTATE (Table 15-3). -/
def State.stage (s : State) : Nat := fld s.hif.hstate 3 0

/-- R410: HSTATE with BEAT, which Glipor increments every 1 ms in STAGE 3. -/
def State.hstateNow (s : State) : Word :=
  if s.stage = 3 then setFld s.hif.hstate 31 16 (fld s.hif.hstate 31 16 + (s.time.tick - s.hif.beatAt) / 800000)
  else s.hif.hstate

/-- HSTATE is written; BEAT counts on from now. -/
def putHstate (x : Word) (s : State) : State := { s with hif := { s.hif with hstate := x, beatAt := s.time.tick } }

/-- R9: bits of HDONE and of HNOTE are set in the present sysclk. -/
def markSet (d n : Nat) (s : State) : State :=
  let now := s.hif.setAt = s.sclk
  { s with hif := { s.hif with setAt := s.sclk, doneSet := (if now then s.hif.doneSet else 0) ||| d
                               noteSet := (if now then s.hif.noteSet else 0) ||| n } }

/-- Word i of the MSI-X table; a vector is masked at reset. -/
def State.msixWord (s : State) (i : Nat) : Word := kvGet (fun i => if i % 4 = 3 then 1 else 0) s.hif.msix i

/-- The MSI-X message of vector v, or its pending bit while it is masked. -/
def msixSend (v : Nat) (s : State) : State :=
  if s.hif.msixMask || bit (s.msixWord (4 * v + 3)) 0 then
    { s with hif := { s.hif with msixPend := natSet s.hif.msixPend v true } }
  else
    emit (.msix ((s.msixWord (4 * v)).toNat + 2 ^ 32 * (s.msixWord (4 * v + 1)).toNat) (s.msixWord (4 * v + 2)).toNat)
      { s with hif := { s.hif with msixPend := natSet s.hif.msixPend v false } }

/-- The MSI message of vector v, or its pending bit. -/
def msiSend (v : Nat) (s : State) : State :=
  if s.hif.msiMask.testBit v then { s with hif := { s.hif with msiPend := natSet s.hif.msiPend v true } }
  else emit (.msi v) { s with hif := { s.hif with msiPend := natSet s.hif.msiPend v false } }

/-- R418: vector v is signalled. INTA and HOST_IRQ_N follow HDONE and HNOTE by themselves. -/
def signalVector (v : Nat) (s : State) : State :=
  if s.hostSel || !(s.rb Reg.HIF_LINK 0) then s
  else if s.rb Reg.HIF_LINK 7 then msixSend v s
  else if s.rb Reg.HIF_LINK 6 then msiSend (v % max 1 (s.rf Reg.HIF_LINK 13 8)) s
  else s

/-- R418: HNOTE bit j is set; its vector is signalled on a change to 1. -/
def setNote (j : Nat) (s : State) : State :=
  if s.hif.hnote.testBit j then markSet 0 (2 ^ j) s
  else signalVector (s.af (Reg.HIF_NVEC (j / 4)) (8 * (j % 4) + 4) (8 * (j % 4)))
    (markSet 0 (2 ^ j) { s with hif := { s.hif with hnote := natSet s.hif.hnote j true } })

/-- R420, R464: Glipor sets HNOTE bit j and logs the cause. -/
def gliporNotes (j : Nat) (s : State) : State := gliporEvent (setNote j s)

/-- R464: Glipor observes a recovery of Table 17-11: HNOTE bit 0, and the cause is logged. -/
def observed (s : State) : State := onlyIf (s.cpuOn && s.domOn 7 && s.stage = 3) (gliporNotes 0) s

end Sys2Proof.Machine
end

