-- ==== Sys2Proof/Machine/Mem.lean ====
section
/-! DEFINITION. The memories of Table 14-1 behind the symbol code: where they lie, the decoder, reads
with their logging (R398 to R400), whole and partial writes (R390, R391). -/

namespace Sys2Proof.Machine

/-- Table 1-4: base address of memory m (8 is the boot ROM). -/
def memBase (m : Nat) : Nat :=
  match m with
  | 0 => 0x10000000 | 1 => 0x20000000 | 2 => 0x200C0000 | 3 => 0x20180000 | 4 => 0x20240000
  | 5 => 0x24000000 | 6 => 0x28000000 | 7 => 0x30000000 | _ => 0

/-- Table 14-1: 64-bit words of memory m. -/
def memWords (m : Nat) : Nat :=
  match m with
  | 0 => 262144 | 1 => 98304 | 2 => 98304 | 3 => 98304 | 4 => 98304
  | 5 => 65536 | 6 => 65536 | 7 => 524288 | _ => 32768

/-- Table 14-1: words of one part of memory m. -/
def partWords (m : Nat) : Nat := match m with | 0 => 32768 | 7 => 32768 | 8 => 32768 | _ => 16384

/-- Table 14-1: global number of the first part of memory m. -/
def partBase (m : Nat) : Nat :=
  match m with
  | 0 => 0 | 1 => 8 | 2 => 14 | 3 => 20 | 4 => 26 | 5 => 32 | 6 => 36 | _ => 40

/-- Table 14-1: number of parts of memory m. -/
def partCount (m : Nat) : Nat := memWords m / partWords m

/-- Table 14-1: power domain of memory m. -/
def memDom (m : Nat) : Nat :=
  match m with
  | 1 => 2 | 2 => 3 | 3 => 4 | 4 => 5 | 5 => 6 | 7 => 8 | _ => 1

/-- The memory with global part number n. -/
def memOfPart (n : Nat) : Nat :=
  if n < 8 then 0 else if n < 14 then 1 else if n < 20 then 2 else if n < 26 then 3
  else if n < 32 then 4 else if n < 36 then 5 else if n < 40 then 6 else 7

/-- The memory that holds a processor address. -/
def memOf (a : Nat) : Option Nat :=
  (List.range 9).find? fun m => memBase m ≤ a && a < memBase m + 8 * memWords m

/-- Word index of an address in memory m (R383). -/
def wordIdx (m a : Nat) : Nat := (a - memBase m) / 8

/-- MEM_INIT: memory m is initialised (R393); the boot ROM always is. -/
def State.memDone (s : State) (m : Nat) : Bool := if m = 8 then true else s.rb Reg.MEM_INIT m

/-! The symbol code. -/

/-- Product by α = 0x02 in GF(2^8) with the polynomial 0x11D (R385). -/
def gfTwo (x : Byte) : Byte := if x.getLsbD 7 then (x <<< 1) ^^^ 0x1D#8 else x <<< 1

/-- Product by α^j. -/
def gfPow (x : Byte) : Nat → Byte
  | 0 => x
  | j + 1 => gfTwo (gfPow x j)

/-- Table 14-2: the outcome of a syndrome pair. -/
def decode (s0 s1 : Byte) : DecOut :=
  if s0 = 0 && s1 = 0 then .clean
  else if s0 = 0 && s1 = 3 then .poisoned
  else if s0 ≠ 0 && s1 ≠ 0 then
    match (List.range 10).find? (fun j => gfPow s0 j == s1) with
    | some j => .corrected j
    | none => .uncorrectable
  else .uncorrectable

/-- One stored byte; RAM that nothing has written holds 0 (R393), the boot ROM its contents. -/
def State.byteAt (s : State) (a : Nat) : Byte :=
  if a < 0x40000 then Config.romByte a else kvGet (fun _ => 0) s.mem.cells a

/-- Stores one byte. -/
def putByte (a : Nat) (b : Byte) (s : State) : State :=
  { s with mem := { s.mem with cells := kvPut (fun _ => 0) s.mem.cells a b } }

/-- Little-endian number of n stored bytes. -/
def State.rawBytes (s : State) (a : Nat) : Nat → Nat
  | 0 => 0
  | n + 1 => (s.byteAt a).toNat + 256 * s.rawBytes (a + 1) n

/-- Stores the n low bytes of a number, little-endian. -/
def putBytes (a v : Nat) : Nat → State → State
  | 0, s => s
  | n + 1, s => putBytes (a + 1) (v / 256) n (putByte a (BitVec.ofNat 8 v) s)

/-- Difference of the stored check symbols from the encoding of the stored data. -/
def State.chkAt (s : State) (a : Nat) : Byte × Byte := kvGet (fun _ => (0, 0)) s.mem.chk (a / 8)

/-- Sets that difference. -/
def putChk (a : Nat) (d : Byte × Byte) (s : State) : State :=
  { s with mem := { s.mem with chk := kvPut (fun _ => (0, 0)) s.mem.chk (a / 8) d } }

/-- R391: the poison mark on the check symbols. -/
def poisonMark : Byte × Byte := (1, 1)

/-- The decoder at the word of address a (R386). -/
def State.decodeAt (s : State) (a : Nat) : RdOut :=
  let d := s.chkAt a
  let s0 := d.1 ^^^ d.2
  let s1 := d.1 ^^^ gfTwo d.2
  let raw := s.rawBytes (a / 8 * 8) 8
  match decode s0 s1 with
  | .corrected j => ⟨if j < 2 then raw else raw ^^^ (s0.toNat <<< (8 * (j - 2))), .corrected j, s0, s1⟩
  | o => ⟨raw, o, s0, s1⟩

/-- True when the word may be used (R386). -/
def RdOut.ok (r : RdOut) : Bool :=
  match r.out with
  | .clean => true
  | .corrected _ => true
  | _ => false

/-- Sets a bit of MEM_ERR, reports it, and raises the memory interrupt on a change (R404). -/
def memErr (b inst : Nat) (s : State) : State :=
  let fresh := !(s.rb Reg.MEM_ERR b)
  onlyIf (fresh && s.ab Reg.MEM_IEN b) (irq (.memory b)) (flagEvent 12 0 b clsFault inst Reg.MEM_ERR s)

/-- MEM_ELOG and MEM_CLOG: memory, agent or symbol position, word index. -/
def logWord (m n a : Nat) : Word :=
  setFld (setFld (setFld 0 31 28 m) 27 24 n) 23 0 (wordIdx m a)

/-- MEM_ELOG_SYN: channel, whether poisoned, the syndromes. -/
def synWord (chan : Nat) (r : RdOut) : Word :=
  setFld (setFld (setFld (setFld 0 31 24 chan) 23 16 (b2n (r.out == .poisoned))) 15 8 r.s1.toNat) 7 0 r.s0.toNat

/-- R399: the first bad read after every UE and PSN bit has been clear is recorded. -/
def memElog (m agent chan a : Nat) (r : RdOut) (s : State) : State :=
  onlyIf (s.rf Reg.MEM_ERR 7 0 = 0 && s.rf Reg.MEM_ERR 23 16 = 0)
    (fun s => setReg Reg.MEM_ELOG (logWord m agent a) (setReg Reg.MEM_ELOG_SYN (synWord chan r) s)) s

/-- R399, R400: logging of one read of memory m by an agent of Table 14-5. -/
def logRead (m agent chan a : Nat) (r : RdOut) (s : State) : State :=
  match r.out with
  | .clean => s
  | .corrected j =>
    let s := setReg Reg.MEM_CLOG (logWord m j a) s
    if m = 8 then memErr 26 8 (incRf Reg.MEM_ROM_CNT 31 16 s)
    else memErr (8 + m) m (if agent = 9 then incRf (Reg.MEM_CE_CNT m) 31 16 s
      else incRf (Reg.MEM_CE_CNT m) 15 0 s)
  | .poisoned =>
    let s := memElog m agent chan a r s
    if m = 8 then memErr 25 8 (incRf Reg.MEM_ROM_CNT 15 0 s)
    else memErr (16 + m) m (incRf (Reg.MEM_UE_CNT m) 31 16 s)
  | .uncorrectable =>
    let s := memElog m agent chan a r { s with mi := { s.mi with ueCycle := true } }
    if m = 8 then memErr 25 8 (incRf Reg.MEM_ROM_CNT 15 0 s)
    else memErr m m (incRf (Reg.MEM_UE_CNT m) 15 0 s)

/-- A read of the 64-bit word at address a by an agent (R398): what it delivers and the log. -/
def readWord (agent chan a : Nat) (s : State) : RdOut × State :=
  match memOf a with
  | some m => let r := s.decodeAt a; (r, logRead m agent chan (a / 8 * 8) r s)
  | none => (⟨0, .clean, 0, 0⟩, s)

/-- The 32-bit half of a delivered word that the address names (R384). -/
def RdOut.half (r : RdOut) (a : Nat) : Nat := if a / 4 % 2 = 0 then r.data % 2 ^ 32 else r.data / 2 ^ 32

/-- A read of a 32-bit word: value, validity, log. -/
def read32 (agent chan a : Nat) (s : State) : (Nat × Bool) × State :=
  let (r, t) := readWord agent chan a s
  ((r.half a, r.ok), t)

/-- Stores a whole word, cleanly or under the mark. -/
def storeWord (a v : Nat) (mark : Bool) (s : State) : State :=
  putChk a (if mark then poisonMark else (0, 0)) (putBytes (a / 8 * 8) v 8 s)

/-- Merges the bytes of v chosen by an 8-bit mask into d. -/
def mergeBytes (d v m : Nat) : Nat :=
  (List.range 8).foldl (fun acc i =>
    acc + (if m.testBit i then (v >>> (8 * i)) % 256 else (d >>> (8 * i)) % 256) <<< (8 * i)) 0

/-- R390: a write of the masked bytes of the word at a; a partial write reads and merges, and a bad
stored word leaves the mark. `mark` stores a poisoned result (R391). -/
def writeMasked (a v m : Nat) (mark : Bool) (s : State) : State :=
  if m = 255 then storeWord a v mark s
  else
    let (r, t) := readWord 11 0 a s
    storeWord a (mergeBytes r.data v m) (mark || !r.ok) t

/-- A 32-bit write (R390). -/
def write32 (a v : Nat) (mark : Bool) (s : State) : State :=
  if a / 4 % 2 = 0 then writeMasked a (v % 2 ^ 32) 0x0F mark s
  else writeMasked a ((v % 2 ^ 32) <<< 32) 0xF0 mark s

/-- R54, R390: the second of two pea writes to one word in one tick: the two are one merge, so it reads nothing
anew, and the word stays marked. -/
def mergeSecond (a v : Nat) (mark : Bool) (s : State) : State :=
  let r := s.decodeAt a
  let m := if a / 4 % 2 = 0 then 0x0F else 0xF0
  storeWord a (mergeBytes r.data (if a / 4 % 2 = 0 then v % 2 ^ 32 else (v % 2 ^ 32) <<< 32) m) (mark || !r.ok) s

/-- R392: a functional write of hardware reaches the word at a in tick t. -/
def noteWord (t a : Nat) (s : State) : State :=
  { s with mi := { s.mi with hitTick := t, hits := a / 8 :: (if s.mi.hitTick = t then s.mi.hits else []) } }

/-- R392: hardware has written the word at a in the present tick, the clocks running. -/
def State.wordHit (s : State) (a : Nat) : Bool := s.mi.hitTick = s.time.tick && s.mi.hits.contains (a / 8) && !s.frozen

/-- A 32-bit write of hardware. -/
def put32 (a v : Nat) (mark : Bool) (s : State) : State := write32 a v mark (noteWord s.time.tick a s)

/-- A 64-bit write of hardware. -/
def write64 (a v : Nat) (s : State) : State := storeWord a v false (noteWord s.time.tick a s)

/-- A 16-byte write to a record of network buffer memory: four 32-bit words (R213). -/
def write128 (a w0 w1 w2 w3 : Nat) (s : State) : State :=
  write64 (a + 8) (w2 % 2 ^ 32 + 2 ^ 32 * (w3 % 2 ^ 32)) (write64 a (w0 % 2 ^ 32 + 2 ^ 32 * (w1 % 2 ^ 32)) s)

/-- Address of element e of pod p (R50). -/
def elemAddr (p e : Nat) : Nat := memBase (1 + p) + 4 * e

/-- Address of word w of network buffer memory. -/
def netAddr (w : Nat) : Nat := memBase 5 + 4 * w

/-- R393: writes every word of memory m with 0 and valid check symbols. -/
def clearMem (m : Nat) (s : State) : State :=
  let lo := memBase m
  let hi := memBase m + 8 * memWords m
  { s with mem := {
      cells := s.mem.cells.filter (fun c => c.1 < lo || hi ≤ c.1)
      chk := s.mem.chk.filter (fun c => c.1 < lo / 8 || hi / 8 ≤ c.1) } }

/-- The canonical form of the memories. -/
def MemSt.wf (m : MemSt) : Bool := kvWf (fun _ => (0 : Byte)) m.cells && kvWf (fun _ => ((0, 0) : Byte × Byte)) m.chk

end Sys2Proof.Machine
end

