-- ==== Sys2Proof/Machine/Flags.lean ====
section
/-! DEFINITION. The arithmetic of the peas and the flags it raises (R61, R64 to R70, Tables 2-5 and 2-7):
binary32 with one rounding to nearest even, flush to zero and saturation. -/

namespace Sys2Proof.Machine

/-! Flag bits of Table 2-7. -/
def flNV : Nat := 1
def flDZ : Nat := 2
def flOF : Nat := 4
def flUF : Nat := 8
def flIDN : Nat := 16
def flST : Nat := 32
def flPSN : Nat := 64
def flILL : Nat := 128

/-- The canonical quiet NaN. -/
def qNaN : Nat := 0x7FC00000

/-- Sign bit of a pattern. -/
def fpSign (w : Nat) : Bool := w.testBit 31

/-- The pattern with its sign inverted. -/
def fpNegate (w : Nat) : Nat := (w % 2 ^ 32) ^^^ 0x80000000

/-- A signed infinity. -/
def fpInf (neg : Bool) : Nat := if neg then 0xFF800000 else 0x7F800000

/-- A signed zero. -/
def fpZero (neg : Bool) : Nat := if neg then 0x80000000 else 0

/-- R64: an operand with a subnormal replaced by zero, and the flags that alone raises: IDN for a
subnormal, NV for a signalling NaN. -/
def unpack (w : Nat) : Fp × Nat :=
  let neg := fpSign w
  let ex := bitsOf w 30 23
  let fr := bitsOf w 22 0
  if ex = 255 then
    if fr = 0 then (⟨.inf, neg, 0, 0⟩, 0)
    else (⟨.nan, neg, 0, 0⟩, if fr.testBit 22 then 0 else flNV)
  else if ex = 0 then (⟨.zero, neg, 0, 0⟩, if fr = 0 then 0 else flIDN)
  else (⟨.fin, neg, fr + 2 ^ 23, (ex : Int) - 150⟩, 0)

/-- The operand's pattern after the flush. -/
def flushed (w : Nat) : Nat := if (unpack w).1.kind = .zero then fpZero (fpSign w) else w % 2 ^ 32

/-- One rounding to nearest even of (m + sticky) × 2^e, `sticky` standing for a part below the last
bit of m; m then holds at least 26 bits. Tiny results become zero with UF, large ones infinity with
OF (Table 2-5). -/
def roundNum (neg : Bool) (m : Nat) (e : Int) (sticky : Bool) : Nat × Nat :=
  if m = 0 then (fpZero neg, 0)
  else
    let len := m.log2 + 1
    let (q, k) : Nat × Int :=
      if len ≤ 24 then (m <<< (24 - len), (len : Int) - 24)
      else
        let k := len - 24
        let q := m >>> k
        let rem := m % 2 ^ k
        let half := 2 ^ (k - 1)
        let up := rem > half || (rem = half && (sticky || q % 2 = 1))
        (if up then q + 1 else q, k)
    let (q, ex) : Nat × Int := if q = 2 ^ 24 then (2 ^ 23, e + k + 24) else (q, e + k + 23)
    let sg := if neg then 2 ^ 31 else 0
    if ex > 127 then (fpInf neg, flOF)
    else if ex < -126 then (fpZero neg, flUF)
    else (sg + (ex + 127).toNat * 2 ^ 23 + (q - 2 ^ 23), 0)

/-- One rounding of (n / d) × 2^e. -/
def roundRat (neg : Bool) (n d : Nat) (e : Int) : Nat × Nat :=
  let k := 28 + d.log2 - n.log2
  let num := n <<< k
  roundNum neg (num / d) (e - k) (num % d ≠ 0)

/-- Bits of the integer square root, from bit b down. -/
def isqrtFrom (n : Nat) : Nat → Nat → Nat
  | 0, r => r
  | b + 1, r => isqrtFrom n b (if (r + 2 ^ b) * (r + 2 ^ b) ≤ n then r + 2 ^ b else r)

/-- Integer square root of a number below 2^128. -/
def isqrt (n : Nat) : Nat := isqrtFrom n 64 0

/-- Exact sum of two signed scaled numbers, rounded once; an exact zero keeps a sign that both
share and is +0.0 otherwise (IEEE 754, Table 2-5). -/
def roundSum (na : Bool) (ma : Nat) (ea : Int) (nb : Bool) (mb : Nat) (eb : Int) : Nat × Nat :=
  let e := min ea eb
  let ia : Int := ((ma <<< (ea - e).toNat : Nat) : Int)
  let ib : Int := ((mb <<< (eb - e).toNat : Nat) : Int)
  let v := (if na then -ia else ia) + (if nb then -ib else ib)
  if v = 0 then (fpZero (na && nb), 0) else roundNum (v < 0) v.natAbs e false

/-- FMA: (x × y) + z with one rounding. -/
def fpFma (x y z : Nat) : Nat × Nat :=
  let (a, fa) := unpack x
  let (b, fb) := unpack y
  let (c, fc) := unpack z
  let fl := fa ||| fb ||| fc
  let np := a.neg != b.neg
  let badProd := (a.kind = .inf && b.kind = .zero) || (a.kind = .zero && b.kind = .inf)
  if badProd then (qNaN, fl ||| flNV)
  else if a.kind = .nan || b.kind = .nan || c.kind = .nan then (qNaN, fl)
  else if a.kind = .inf || b.kind = .inf then
    if c.kind = .inf && c.neg != np then (qNaN, fl ||| flNV) else (fpInf np, fl)
  else if c.kind = .inf then (fpInf c.neg, fl)
  else
    let (r, f) := roundSum np (a.m * b.m) (a.e + b.e) c.neg c.m c.e
    (r, fl ||| f)

/-- MUL. -/
def fpMul (x y : Nat) : Nat × Nat :=
  let (a, fa) := unpack x
  let (b, fb) := unpack y
  let fl := fa ||| fb
  let n := a.neg != b.neg
  if a.kind = .nan || b.kind = .nan then (qNaN, fl)
  else if a.kind = .inf || b.kind = .inf then
    if a.kind = .zero || b.kind = .zero then (qNaN, fl ||| flNV) else (fpInf n, fl)
  else
    let (r, f) := roundNum n (a.m * b.m) (a.e + b.e) false
    (r, fl ||| f)

/-- ADD. -/
def fpAdd (x z : Nat) : Nat × Nat :=
  let (a, fa) := unpack x
  let (c, fc) := unpack z
  let fl := fa ||| fc
  if a.kind = .nan || c.kind = .nan then (qNaN, fl)
  else if a.kind = .inf then
    if c.kind = .inf && c.neg != a.neg then (qNaN, fl ||| flNV) else (fpInf a.neg, fl)
  else if c.kind = .inf then (fpInf c.neg, fl)
  else
    let (r, f) := roundSum a.neg a.m a.e c.neg c.m c.e
    (r, fl ||| f)

/-- DIV: x / z. -/
def fpDiv (x z : Nat) : Nat × Nat :=
  let (a, fa) := unpack x
  let (c, fc) := unpack z
  let fl := fa ||| fc
  let n := a.neg != c.neg
  if a.kind = .nan || c.kind = .nan then (qNaN, fl)
  else if a.kind = .inf then if c.kind = .inf then (qNaN, fl ||| flNV) else (fpInf n, fl)
  else if c.kind = .inf then (fpZero n, fl)
  else if c.kind = .zero then
    if a.kind = .zero then (qNaN, fl ||| flNV) else (fpInf n, fl ||| flDZ)
  else if a.kind = .zero then (fpZero n, fl)
  else
    let (r, f) := roundRat n a.m c.m (a.e - c.e)
    (r, fl ||| f)

/-- RCP: 1 / x. -/
def fpRcp (x : Nat) : Nat × Nat := fpDiv 0x3F800000 x

/-- SQRT. -/
def fpSqrt (x : Nat) : Nat × Nat :=
  let (a, fl) := unpack x
  match a.kind with
  | .nan => (qNaN, fl)
  | .zero => (fpZero a.neg, fl)
  | .inf => if a.neg then (qNaN, fl ||| flNV) else (fpInf false, fl)
  | .fin =>
    if a.neg then (qNaN, fl ||| flNV)
    else
      let sh := if (a.e % 2 : Int) = 0 then 40 else 41
      let n := a.m <<< sh
      let r := isqrt n
      let (v, f) := roundNum false r ((a.e - sh) / 2) (r * r ≠ n)
      (v, fl ||| f)

/-- RSQ: 1 / √x. -/
def fpRsq (x : Nat) : Nat × Nat :=
  let (a, fl) := unpack x
  match a.kind with
  | .nan => (qNaN, fl)
  | .zero => (fpInf a.neg, fl ||| flDZ)
  | .inf => if a.neg then (qNaN, fl ||| flNV) else (0, fl)
  | .fin =>
    if a.neg then (qNaN, fl ||| flNV)
    else
      let sh : Nat := if (a.e % 2 : Int) = 0 then 100 else 101
      let r := isqrt (2 ^ sh / a.m)
      let (v, f) := roundNum false r (-((sh : Int) + a.e) / 2) (r * r * a.m ≠ 2 ^ sh)
      (v, fl ||| f)

/-- The value of an operand that is no NaN as an integer of scale 2^−149, an infinity beyond all. -/
def fpKey (p : Fp) : Int :=
  match p.kind with
  | .fin => let v : Int := ((p.m <<< (p.e + 149).toNat : Nat) : Int); if p.neg then -v else v
  | .inf => if p.neg then -(2 ^ 400) else 2 ^ 400
  | _ => 0

/-- Order of two operands that are no NaN, −0 equal to +0. -/
def fpCmp (a b : Fp) : Ordering := compare (fpKey a) (fpKey b)

/-- MIN and MAX: the flushed smaller or larger operand, −0 below +0. -/
def fpPick (smaller : Bool) (x z : Nat) : Nat × Nat :=
  let (a, fa) := unpack x
  let (c, fc) := unpack z
  let fl := fa ||| fc
  if a.kind = .nan || c.kind = .nan then (qNaN, fl)
  else
    let o := fpCmp c a
    let zBelow := o = .lt || (o = .eq && a.kind = .zero && c.neg && !a.neg)
    let zAbove := o = .gt || (o = .eq && a.kind = .zero && !c.neg && a.neg)
    (if (if smaller then zBelow else zAbove) then flushed z else flushed x, fl)

/-- ABS. -/
def fpAbs (x : Nat) : Nat × Nat :=
  let (a, fl) := unpack x
  if a.kind = .nan then (qNaN, fl) else (flushed x % 2 ^ 31, fl)

/-- The compares: false for a NaN, −0 equal to +0 (Table 2-5). -/
def fpCompare (test : Ordering → Bool) (x z : Nat) : Bool × Nat :=
  let (a, fa) := unpack x
  let (c, fc) := unpack z
  if a.kind = .nan || c.kind = .nan then (false, fa ||| fc) else (test (fpCmp a c), fa ||| fc)

/-- R66: an infinity becomes the largest finite number with ST. -/
def fpSat (sat : Bool) (r : Nat × Nat) : Nat × Nat :=
  if sat && r.1 % 2 ^ 31 = 0x7F800000 then ((if fpSign r.1 then 0xFF7FFFFF else 0x7F7FFFFF), r.2 ||| flST)
  else r

/-- IADD and ISUB with R66. -/
def intOp (sub sat : Bool) (x z : Nat) : Nat × Nat :=
  let v := if sub then toSigned 32 x - toSigned 32 z else toSigned 32 x + toSigned 32 z
  let c := clampInt (-(2 ^ 31)) (2 ^ 31 - 1) v
  if sat && c ≠ v then (ofSigned 32 c, flST) else (ofSigned 32 v, 0)

/-- R67: the width of a WIDTH code. -/
def cvtWidth (code : Nat) : Nat := match code with | 0 => 32 | 1 => 24 | _ => 16

/-- CVTFQ (R67, R68). -/
def fpToFixed (shift : Int) (width : Nat) (uns sat : Bool) (x : Nat) : Nat × Nat :=
  let (a, fl) := unpack x
  let lo : Int := if uns then 0 else -(2 ^ (width - 1))
  let hi : Int := if uns then 2 ^ width - 1 else 2 ^ (width - 1) - 1
  match a.kind with
  | .nan => (0, fl ||| flNV)
  | .inf => if sat then (ofSigned 32 (if a.neg then lo else hi), fl ||| flST) else (0, fl ||| flNV)
  | .zero => (0, fl)
  | .fin =>
    let p := a.e + shift
    let n : Nat := if 0 ≤ p then a.m <<< p.toNat else a.m >>> (-p).toNat
    let v : Int := if a.neg then -(n : Int) else n
    if lo ≤ v && v ≤ hi then (ofSigned 32 v, fl)
    else if sat then (ofSigned 32 (if v < lo then lo else hi), fl ||| flST)
    else
      let low := ofSigned width v
      (if uns then low else ofSigned 32 (toSigned width low), fl)

/-- CVTQF (R69). -/
def fixedToFp (shift : Int) (width : Nat) (uns : Bool) (x : Nat) : Nat × Nat :=
  let v : Int := if uns then ((x % 2 ^ width : Nat) : Int) else toSigned width x
  roundNum (v < 0) v.natAbs (-shift) false

/-! SINCOS: sine and cosine in fixed point of 400 fraction bits, from the series of R61's exact value. -/

/-- π × 2^400, truncated. -/
def piFix : Nat :=
  8112377246730971238862271351300894519161151600179265203591191037615230905373990498745523360926816815427566779727327576236

/-- Sum of an alternating series: terms t, then t × a2 / ((k+1)(k+2)) and so on. -/
def trigSeries (a2 : Nat) : Nat → Nat → Int → Int → Nat → Int
  | 0, _, _, acc, _ => acc
  | n + 1, k, sg, acc, t =>
    trigSeries a2 n (k + 2) (-sg) (acc + sg * t) ((t * a2) / 2 ^ 400 / ((k + 1) * (k + 2)))

/-- sin and cos of (π/2) × r / 2^400 for r up to 2^399, scaled by 2^400. -/
def sinCosFix (r : Nat) : Nat × Nat :=
  let a := (r * piFix) / 2 ^ 401
  let a2 := a * a / 2 ^ 400
  ((trigSeries a2 60 1 1 0 a).toNat, (trigSeries a2 60 0 1 0 (2 ^ 400)).toNat)

/-- SINCOS (R61): sine and cosine of 2πx, each rounded once. -/
def fpSinCos (x : Nat) : (Nat × Nat) × Nat :=
  let (a, fl) := unpack x
  match a.kind with
  | .nan => ((qNaN, qNaN), fl)
  | .inf => ((qNaN, qNaN), fl ||| flNV)
  | .zero => ((fpZero a.neg, 0x3F800000), fl)
  | .fin =>
    -- four times the fraction of |x|, scaled by 2^400
    let f4 : Nat := (if 0 ≤ a.e + 402 then a.m <<< (a.e + 402).toNat else 0) % 2 ^ 402
    let quad := f4 / 2 ^ 400
    let r := f4 % 2 ^ 400
    let (s0, c0) : Nat × Nat :=
      if r = 0 then (0, 2 ^ 400)
      else if r ≤ 2 ^ 399 then sinCosFix r
      else let (s, c) := sinCosFix (2 ^ 400 - r); (c, s)
    let (sv, sn, cv, cn) : Nat × Bool × Nat × Bool :=
      match quad with
      | 0 => (s0, false, c0, false)
      | 1 => (c0, false, s0, true)
      | 2 => (s0, true, c0, true)
      | _ => (c0, true, s0, false)
    let (sb, f1) := if sv = 0 then (fpZero a.neg, 0) else roundNum (sn != a.neg) sv (-400) (r ≠ 0)
    let (cb, f2) := if cv = 0 then (0, 0) else roundNum cn cv (-400) (r ≠ 0)
    ((sb, cb), fl ||| f1 ||| f2)

/-- The fields of a native instruction word (R57). -/
def peaFields (w : Nat) : PeaWord where
  op := bitsOf w 63 58
  sat := w.testBit 57
  np := w.testBit 56
  nz := w.testBit 55
  zsel := bitsOf w 54 53
  dst := bitsOf w 52 48
  xm := bitsOf w 47 46
  xoff := bitsOf w 45 32
  ym := bitsOf w 31 31
  yoff := bitsOf w 30 21
  zfield := bitsOf w 20 5
  xstr := bitsOf w 4 3
  ystr := bitsOf w 2 1
  rsv := bitsOf w 0 0

/-- R70: one step of a minimum or maximum search over (Ld, Ld+1), both sources after the first pass. -/
def searchStep (maxi mag : Bool) (lc x ld li : Nat) : PeaRes :=
  let (a, fa) := unpack x
  let both := fa ||| (unpack ld).2
  let mg (w : Nat) := if mag then w % 2 ^ 31 else w
  if lc = 0 then
    if a.kind = .nan then { val := qNaN, val2 := 0xFFFFFFFF, flags := fa }
    else { val := flushed x, val2 := 0, flags := fa }
  else if a.kind = .nan then { val := ld, val2 := li, flags := both }
  else if li = 0xFFFFFFFF || (fpCompare (fun o => o = if maxi then .gt else .lt) (mg x) (mg ld)).1 then
    { val := flushed x, val2 := lc, flags := both }
  else { val := ld, val2 := li, flags := both }

/-- SHIFT of ZFIELD (R67), its bits 12:5 of the word. -/
def cvtShift (zf : Nat) : Int := toSigned 8 zf

/-- Table 2-4: the result of an operation on its operands X, Y and Z, with C, LC and the pair Ld, Ld+1. -/
def peaCompute (w : PeaWord) (x y z : Nat) (c : Bool) (lc ld li : Nat) : PeaRes :=
  let xs := if w.np then fpNegate x else x
  let zs := if w.nz then fpNegate z else z
  let pack (r : Nat × Nat) : PeaRes := { val := r.1, flags := r.2 }
  let cmp (r : Bool × Nat) : PeaRes := { c := r.1, flags := r.2 }
  match w.op with
  | 0x01 => pack (fpSat w.sat (fpFma xs y zs))
  | 0x02 => pack (fpSat w.sat (fpMul xs y))
  | 0x03 => pack (fpSat w.sat (fpAdd xs zs))
  | 0x04 => { val := xs }
  | 0x05 => { val := zs }
  | 0x06 => pack (intOp false w.sat x z)
  | 0x07 => pack (intOp true w.sat x z)
  | 0x08 => pack (fpSat w.sat (fpPick true x z))
  | 0x09 => pack (fpSat w.sat (fpPick false x z))
  | 0x0A => searchStep false w.np lc x ld li
  | 0x0B => searchStep true w.np lc x ld li
  | 0x0C => cmp (fpCompare (· = .lt) x z)
  | 0x0D => cmp (fpCompare (· ≠ .gt) x z)
  | 0x0E => cmp (fpCompare (· = .eq) x z)
  | 0x0F => { val := if c then x else zs }
  | 0x10 => pack (fpSat w.sat (fpAbs x))
  | 0x11 => pack (fpToFixed (cvtShift (w.zfield % 256)) (cvtWidth (bitsOf w.zfield 9 8)) w.nz w.sat x)
  | 0x12 => pack (fpSat w.sat (fixedToFp (cvtShift (w.zfield % 256)) (cvtWidth (bitsOf w.zfield 9 8)) w.nz x))
  | 0x13 => pack (fpSat w.sat (fpRcp x))
  | 0x14 => pack (fpSat w.sat (fpDiv x z))
  | 0x15 => pack (fpSat w.sat (fpSqrt x))
  | 0x16 => pack (fpSat w.sat (fpRsq x))
  | 0x17 => let r := fpSinCos x; { val := r.1.1, val2 := r.1.2, flags := r.2 }
  | 0x19 => { val := x }
  | _ => {}

end Sys2Proof.Machine
end

