-- ==== Sys2Proof/Machine/Axis.lean ====
section
/-! DEFINITION. The AX and PG blocks at the two ends of a graph: tripped sources and reaction states
(R124 to R129), the command record (R109, R110), the results of a law and of a generator at END (R125,
R140, R141), the generator input record (R138), and segment-table pointers (R157 to R159). -/

namespace Sys2Proof.Machine

/-- State of axis n beyond its registers. -/
def State.ax (s : State) (n : Nat) : AxSt := kvGet (fun _ => {}) s.axes n

/-- Stores it. -/
def putAx (n : Nat) (v : AxSt) (s : State) : State := { s with axes := kvPut (fun _ => {}) s.axes n v }

/-- State of axis n of the PG block beyond its registers. -/
def State.pgAx (s : State) (n : Nat) : PgSt := kvGet (fun _ => {}) s.pg n

/-- Stores it. -/
def putPg (n : Nat) (v : PgSt) (s : State) : State := { s with pg := kvPut (fun _ => {}) s.pg n v }

/-- R125: source b of Table 4-4 of axis n is tripped: fault bit, ACTIVE, event, and the code it brings
at the next cycle start (R127). -/
def axTrip (n b : Nat) (s : State) : State :=
  let s := orReg (Reg.AX_STAT n) (2 ^ (16 + b)) s
  let s := flagEvent 2 0 b clsFault n (Reg.AX_FAULT n) s
  putAx n { s.ax n with trips := (s.ax n).trips ||| 2 ^ b } s

/-- Trips a source where its condition holds. -/
def axTripIf (c : Bool) (n b : Nat) (s : State) : State := onlyIf c (axTrip n b) s

/-- R107, R360: axis n has a valid sample of a cycle; 32 ms of cycles are kept. -/
def keepValid (n cyc pos : Nat) (s : State) : State :=
  putAx n { s.ax n with valid := (cyc, pos) :: (s.ax n).valid.filter (fun x => cyc ≤ x.1 + 2050) } s

/-- EN of axis n in a cycle. -/
def State.axEn (s : State) (cyc n : Nat) : Bool := s.afAt cyc (Reg.AX_MODE n) 0 0 = 1

/-- R127, R128: the reaction state of axis n in a cycle, 3 while the axis is disabled. -/
def State.rstateAt (s : State) (cyc n : Nat) : Nat :=
  if s.axEn cyc n then (if cyc = s.cyc then (s.ax n).rs else (s.ax n).rsPrev) else 3

/-- R106: a reaction state as a binary32 value, 0.0 to 4.0. -/
def rstateF32 (r : Nat) : Nat :=
  match r with
  | 0 => 0 | 1 => 0x3F800000 | 2 => 0x40000000 | 3 => 0x40400000 | _ => 0x40800000

/-- R110, Table 4-3: CTRL of a reaction state. -/
def ctrlWord (en : Bool) (rs : Nat) : Nat :=
  b2n (en && rs ≤ 2) + 2 * b2n (rs = 2) + 4 * b2n (rs = 1) + 16 * (rs % 8)

/-- Writes words at word w of network buffer memory. -/
def writeNet (w : Nat) : List Nat → State → State
  | [], s => s
  | v :: vs, s => writeNet (w + 1) vs (put32 (netAddr (w % 131072)) v false s)

/-- The four words that RSTATE leaves of a command record (R110). -/
def forcedWords (en : Bool) (rs : Nat) (copy ws : Nat × Nat × Nat × Nat) : Nat × Nat × Nat × Nat :=
  if !en || 3 ≤ rs then (0, 0, 0, 0) else if rs = 1 then copy else ws

/-- R110: words 1 to 4 of the record of axis n as it is sent, from those in the buffer. -/
def State.sentWords (s : State) (n : Nat) (ws : Nat × Nat × Nat × Nat) : Nat × Nat × Nat × Nat :=
  forcedWords (s.axEn s.cyc n) (s.rstateAt s.cyc n) (s.ax n).copy ws

/-- R109, R110: the FIN OUT of a graph becomes visible in a tick: word 0 becomes CTRL, words 1 to 4 are
forced, and the record is ready (R63). -/
def commandReady (n ob cyc tick : Nat) (s : State) : State :=
  let rs := s.rstateAt cyc n
  let en := s.axEn cyc n
  let s := put32 (netAddr ob) (ctrlWord en rs) false s
  let s := if !en || 3 ≤ rs then writeNet (ob + 1) [0, 0, 0, 0] s else s
  putAx n { s.ax n with ready := some (cyc, tick), ob := some ob } s

/-- R110: the copy retained of a record sent with RSTATE 0 and EN 1. -/
def retainCopy (n : Nat) (ws : Nat × Nat × Nat × Nat) (s : State) : State :=
  if s.rstateAt s.cyc n = 0 then putAx n { s.ax n with copy := ws } s else s

/-- Whether an axis's record is ready in a cycle by a tick, and not poisoned (R63, R74). -/
def State.cmdReady (s : State) (n cyc tick : Nat) : Bool :=
  (match (s.ax n).ready with
   | some (c, t) => c = cyc && t ≤ tick
   | none => false) && (s.ax n).psnCyc ≠ some cyc

/-- Reads X elements of pod p from e on, modulo the region, by agent 12: values and whether all are
valid (Table 14-5). -/
def readElems12 (p : Nat) : List Nat → State → (List Nat × Bool) × State
  | [], s => (([], true), s)
  | e :: es, s =>
    let ((v, ok), t) := read32 12 0 (elemAddr p (e % 131072)) s
    let ((vs, oks), u) := readElems12 p es t
    ((v :: vs, ok && oks), u)

/-- Trips the graph's five sources whose element holds 1.0 in a valid word; no other value trips (DESIGN CHOICE,
log entry 180). -/
def tripGraph (n p xb : Nat) : List Nat → State → Bool × State
  | [], s => (true, s)
  | b :: bs, s =>
    let ((v, ok), t) := read32 12 0 (elemAddr p ((xb + 0x28 + b) % 131072)) s
    let (oks, u) := tripGraph n p xb bs (axTripIf (ok && v = 0x3F800000) n b t)
    (ok && oks, u)

/-- R125: END of the law graph of axis n: LEF, CLIM, COAST, the five graph sources, NUM and NRDY. In a
pod with COMPAT set and an EVX0640 law the five sources stay clear (R105), and COAST is not read and stays as it
was (DESIGN CHOICE, log entry 181); a COAST element that does not read well leaves the bit 0 (DESIGN CHOICE, log
entry 182). -/
def axEnd (n p xb flags : Nat) (native ill psn : Bool) (s : State) : State :=
  let s := setRf (Reg.AX_STAT n) 15 8 flags s
  let s := setRb (Reg.AX_STAT n) 5 (flags.testBit 5) s
  let (ok, s) :=
    if native then
      let (ok1, t) := tripGraph n p xb [0, 1, 2, 3, 4] s
      let ((v, ok2), t) := read32 12 0 (elemAddr p ((xb + 4) % 131072)) t
      (ok1 && ok2, setRb (Reg.AX_STAT n) 4 (ok2 && v % 2 ^ 31 ≠ 0) t)
    else (true, s)
  let s := axTripIf (flags.testBit 0 || flags.testBit 2) n 8 s
  axTripIf (ill || psn || !ok) n 6 s

/-! The PG block. -/

/-- Sets a sticky bit of PG_STAT_n and reports it when it changes (R140). -/
def pgFlag (n b : Nat) (s : State) : State := stickyEvent 3 0 b clsWarn n (Reg.PG_STAT n) s

/-- R141: the generator's results are missing; sets PGMISS and logs the axis. -/
def pgMiss (n : Nat) (s : State) : State := flagEvent 3 0 18 clsWarn n (Reg.PG_STAT n) s

/-- Words 10 and 13 of an input record: BASE and ALEN, and TEND. -/
def State.geometry (s : State) (n : Nat) : Nat × Nat :=
  let alen := s.rf (Reg.PG_TACT n) 14 0
  let mark := s.rf (Reg.PG_TACT n) 30 16
  ((s.pgAx n).abase + alen * 2 ^ 16, if mark ≠ 0 then mark else alen)

/-- R88: the geometry changes; releases of the cycles before `cyc` keep the present one. -/
def keepGeometry (n cyc : Nat) (s : State) : State :=
  let g := s.pgAx n
  putPg n { g with geos := (cyc, s.geometry n) :: g.geos.filter (fun x => s.cyc < x.1 + 3) } s

/-- R138: the geometry at the start of a cycle. -/
def State.geometryAt (s : State) (n cyc : Nat) : Nat × Nat :=
  (((s.pgAx n).geos.filter fun x => cyc < x.1).getLast?.map (·.2)).getD (s.geometry n)

/-- R159: a wrap of RP makes a pending geometry active. -/
def pgWrap (n : Nat) (s : State) : State :=
  if s.rb (Reg.PG_STAT n) 19 then
    let s := keepGeometry n (s.cyc + 1) s
    let g := s.pgAx n
    let s := putPg n { g with abase := g.nbase } s
    let s := setReg (Reg.PG_TACT n) (BitVec.ofNat 32 (g.nlen % 2 ^ 15)) s
    setRb (Reg.PG_STAT n) 19 false s
  else s

/-- Points the table may still hold: R157 refuses an append that reaches RP. -/
def pgOccupied (wp rp tend : Nat) : Nat := if rp ≤ wp then wp - rp else wp + tend - rp

/-- R159: an append from wp of count points would place one at NLEN or beyond. -/
def pgBeyond (wp count tend nlen : Nat) : Bool :=
  count ≠ 0 && if wp + count ≤ tend then nlen < wp + count else nlen < tend

/-- R157, R159: an append of COUNT points without SKIP. -/
def pgAppend (n count : Nat) (s : State) : State :=
  let wp := s.rf (Reg.PG_TPTR n) 30 16
  let rp := s.rf (Reg.PG_TPTR n) 14 0
  let mark := s.rf (Reg.PG_TACT n) 30 16
  let tend := if mark ≠ 0 then mark else s.rf (Reg.PG_TACT n) 14 0
  let ovf := count = 0 || tend ≤ pgOccupied wp rp tend + count
  let ref := s.rb (Reg.PG_STAT n) 19 && pgBeyond wp count tend (s.pgAx n).nlen
  if ovf || ref then
    onlyIf ref (flagEvent 3 0 14 clsWarn n (Reg.PG_STAT n))
      (onlyIf ovf (flagEvent 3 0 15 clsWarn n (Reg.PG_STAT n)) s)
  else setRf (Reg.PG_TPTR n) 30 16 (if tend ≤ wp + count then wp + count - tend else wp + count) s

/-- R157, R159: an append with SKIP: the wrap mark at WP, then COUNT points from index 0. One that R159
refuses sets no mark, so R157 judges it by the TEND in force. -/
def pgSkip (n count : Nat) (s : State) : State :=
  let wp := s.rf (Reg.PG_TPTR n) 30 16
  let rp := s.rf (Reg.PG_TPTR n) 14 0
  let mark := s.rf (Reg.PG_TACT n) 30 16
  let tend := if mark ≠ 0 then mark else s.rf (Reg.PG_TACT n) 14 0
  let bad := !(s.rb (Reg.PG_STAT n) 19) || wp = 0 || mark ≠ 0
  let ref := bad || pgBeyond 0 count wp (s.pgAx n).nlen
  let ovf := count = 0 || (if bad then tend else wp) ≤ pgOccupied wp rp tend + count
  if ref || ovf then
    onlyIf ref (flagEvent 3 0 14 clsWarn n (Reg.PG_STAT n))
      (onlyIf ovf (flagEvent 3 0 15 clsWarn n (Reg.PG_STAT n)) s)
  else
    setRf (Reg.PG_TPTR n) 30 16 count (setRf (Reg.PG_TACT n) 30 16 wp (keepGeometry n (s.cyc + 1) s))

/-- PG_TAPP (R157, R159): an append, remembered for a generator END of the same sysclk. -/
def pgTapp (n count : Nat) (skip : Bool) (s : State) : State :=
  let t := if skip then pgSkip n count s else pgAppend n count s
  let new (b : Nat) : Bool := t.rb (Reg.PG_STAT n) b && !(s.rb (Reg.PG_STAT n) b)
  let a : PgApp := ⟨s.sclk, skip, count, s.reg (Reg.PG_TPTR n), s.reg (Reg.PG_TACT n), new 14, new 15⟩
  putPg n { t.pgAx n with apps := a :: (t.pgAx n).apps.filter (·.sclk = s.sclk) } t

/-- A bit of PG_STAT_n that an append of this sysclk has set, with its event, is taken back. -/
def unflag (n b : Nat) (s : State) : State :=
  let mine (e : Ev) : Bool := e.code = evCode 3 0 b && e.inst = n % 256 && e.sclk = s.sclk
  setRb (Reg.PG_STAT n) b false { s with evl := { s.evl with queue := s.evl.queue.filter (fun e => !(mine e)) } }

/-- An append of this sysclk is taken back. -/
def unappend (n : Nat) (a : PgApp) (s : State) : State :=
  let s := setRf (Reg.PG_TPTR n) 30 16 (fld a.tptr 30 16) (setRf (Reg.PG_TACT n) 30 16 (fld a.tact 30 16) s)
  onlyIf a.tref (unflag n 14) (onlyIf a.tovf (unflag n 15) s)

/-- R157: the RP of a generator END is taken before the appends of its sysclk. -/
def beforeAppends (n : Nat) (f : State → State) (s : State) : State :=
  let as := (s.pgAx n).apps.filter (·.sclk = s.sclk)
  let s := forAll as (unappend n) s
  forAll as.reverse (fun a => pgTapp n a.count a.skip) (f (putPg n { s.pgAx n with apps := [] } s))

/-- R140: RP, LR and the status bits of a generator's output record. -/
def pgTake (n rp st lr : Nat) (s : State) : State :=
  let old := s.rf (Reg.PG_TPTR n) 14 0
  let s := setRf (Reg.PG_TPTR n) 14 0 rp s
  let s := if rp % 2 ^ 15 < old then pgWrap n s else s
  let s := setReg (Reg.PG_LAR n) (BitVec.ofNat 32 lr) s
  let s := setRf (Reg.PG_STAT n) 3 0 (st % 16) s
  forAll [8, 9, 10, 11, 12, 13] (fun b => onlyIf (st.testBit b) (pgFlag n b)) s

/-- R140, R141: END of the generator graph of axis n with its output record at ob. -/
def pgEnd (n ob flags : Nat) (cut : Bool) (s : State) : State :=
  if cut || flags.testBit 6 || flags.testBit 7 then pgMiss n s
  else
    let ((rp, ok0), s) := read32 12 0 (netAddr (ob % 131072)) s
    let ((st, ok1), s) := read32 12 0 (netAddr ((ob + 1) % 131072)) s
    let ((lr, ok2), s) := read32 12 0 (netAddr ((ob + 2) % 131072)) s
    if ok0 && ok1 && ok2 then beforeAppends n (pgTake n rp st lr) s else pgMiss n s

/-- Writes the words of a record at word w, each with its own poison. -/
def writeRec (w : Nat) : List (Nat × Bool) → State → State
  | [], s => s
  | (v, p) :: vs, s => writeRec (w + 1) vs (put32 (netAddr (w % 131072)) v p s)

/-- R138: the record at word w takes that of a cycle; its word 5 is kept for work of the cycles before. -/
def keepUq (w cyc : Nat) (s : State) : State :=
  let a := netAddr ((w + 5) % 131072)
  let r := s.decodeAt a
  { s with uqs := ⟨w % 131072, cyc, r.half a, r.ok⟩ :: s.uqs.filter (fun x => cyc < x.cyc + 3) }

/-- R138: word 5 of the source record at word w as accepted in a cycle: the one kept, where a later cycle's record has
taken its place. -/
def uqOf (cyc w : Nat) (s : State) : (Nat × Bool) × State :=
  match (s.uqs.filter fun x => x.addr = w % 131072 && cyc < x.cyc).getLast? with
  | some x => ((x.val, x.ok), s)
  | none => read32 12 0 (netAddr ((w + 5) % 131072)) s

/-- R138: word 15, the raw induced voltage of the source that PG_LACFG_n selects. -/
def pgUq (n cyc lawIb : Nat) (s : State) : (Nat × Bool) × State :=
  match s.afAt cyc (Reg.PG_LACFG n) 1 0 with
  | 1 => uqOf cyc lawIb s
  | 2 => uqOf cyc (s.afAt cyc (Reg.FB_CH_REC (s.afAt cyc (Reg.PG_LACFG n) 6 4)) 16 0) s
  | _ => ((0, true), s)

/-- R138, R144: CMD of an input record of a cycle: a motion command took effect at its start, or one of an idle
application has had no record since the first cycle start after it. -/
def PgSt.shows (g : PgSt) (cyc : Nat) : Bool :=
  g.cmds.contains cyc || (match g.cmdOwed with | some c => decide (c ≤ cyc) | none => false)

/-- R138: the generator input record (Table 5-1) of axis n, written at ib when the release of a cycle is
registered. -/
def pgInput (n cyc ib lawIb : Nat) (s : State) : State :=
  let w (a : Nat) : Nat × Bool := ((s.actAt cyc a).toNat, false)
  let g := s.pgAx n
  let (geo, tend) := s.geometryAt n cyc
  let ((uq, ok), t) := pgUq n cyc lawIb s
  writeRec ib
    [ (rstateF32 (s.rstateAt cyc n), false), w (Reg.PG_MODE n), w (Reg.PG_TGT n), w (Reg.PG_VMAX n),
      w (Reg.PG_AMAX n), w (Reg.PG_DMAX n), w (Reg.PG_JMAX n), w (Reg.PG_DHARD n), w (Reg.PG_QSDEC n),
      w (Reg.PG_QSJRK n), (geo, false), (s.rf (Reg.PG_TPTR n) 14 0, false),
      (s.rf (Reg.PG_TPTR n) 30 16, false), (tend, false),
      (if g.shows cyc then 0x3F800000 else 0, false), (uq, !ok), w (Reg.PG_LACFG n),
      w (Reg.PG_LAK n), w (Reg.PG_LAL n), (0, false) ]
    (putPg n { t.pgAx n with cmdOwed := if g.shows cyc then none else g.cmdOwed } t)

end Sys2Proof.Machine
end

