-- ==== Sys2Proof/Machine/Pipe.lean ====
section
/-! DEFINITION. Time and the writes on their way: how the tick count and NS move (R48, R252), and what
takes effect in the ticks passed (R53, R54, R63, R65, R96). -/

namespace Sys2Proof.Machine

/-- R252, R269, R271: what NS gains from one count of TBCLK periods to another, in units of 2^−32 ns: RATE from its
beginning on, OC within its spread, the remainder in the last period of that. -/
def State.tbGained (s : State) (k0 k1 : Nat) : Nat :=
  let y := s.syn
  let old := min k1 y.beg - min k0 y.beg
  let inOc (k : Nat) : Nat := max y.beg (min k y.fin)
  (2 ^ 32 * ((k1 - k0 : Nat) : Int) + y.rate0 * (old : Nat) + y.rate * ((k1 - k0 - old : Nat) : Int)
    + y.oc * ((inOc k1 - inOc k0 : Nat) : Int) + (if k0 < y.fin && y.fin ≤ k1 then y.ocRem else 0)).toNat

/-- Periods of TBCLK counted so far: five in four ticks (R14, R252). -/
def State.tbNow (s : State) : Nat := 5 * s.time.tick / 4

/-- The last count of TBCLK, from the present one on, by which NS has gained no more than `need`. -/
def State.tbCount (s : State) (need : Nat) : Nat :=
  let k0 := s.tbNow
  let on (k : Nat) (per : Int) : Nat := k + (need - s.tbGained k0 k) / per.toNat
  let y := s.syn
  let b := max k0 y.beg
  let e := max b (y.fin - 1)
  if need < s.tbGained k0 b then on k0 (2 ^ 32 + y.rate0)
  else if need < s.tbGained k0 e then on b (2 ^ 32 + y.rate + y.oc)
  else if need < s.tbGained k0 (e + 1) then e
  else on (e + 1) (2 ^ 32 + y.rate)

/-- What NS counts to at the present tick. -/
def State.nsBase (s : State) : Nat := ((s.time.ns : Int) - s.time.ahead).toNat

/-- n ticks pass. NS stays below the next cycle start while cycles run, which CYCLE_START crosses. -/
def passTicks (n : Nat) (s : State) : State :=
  let due := s.nsBase + s.tbGained s.tbNow (5 * (s.time.tick + n) / 4)
  let ns := max s.time.ns due
  let lim := s.time.nextNs - 1
  let ns := if s.running && s.clen ≠ 0 && lim < ns then max lim s.time.ns else ns
  { s with time := { s.time with
      tick := s.time.tick + n
      mono := s.time.mono + 64 * n
      ns := if s.syn.stopped then s.time.ns else ns
      ahead := if n = 0 || s.syn.stopped then s.time.ahead else (ns : Int) - due } }

/-- The tick count moves on to t. -/
def toTick (t : Nat) (s : State) : State := passTicks (t - s.time.tick) s

/-- R65, R81: flags join LE_FLAGS of a pod; an enabled flag that changes to 1 is reported. -/
def podFlags (p f : Nat) (s : State) : State :=
  let old := s.rf (Reg.LE_FLAGS p) 8 0
  let s := orReg (Reg.LE_FLAGS p) (f % 512) s
  forAll (List.range 9) (fun b => onlyIf (f.testBit b && !(old.testBit b) && s.ab (Reg.LE_FLAG_EN p) b)
    (fun t => irq (.loopEngine p b) (regEvent 0 0 b clsWarn p (Reg.LE_FLAGS p) t))) s

/-- Context n = 16 × pod + 4 × pea + context. -/
def State.ctx (s : State) (n : Nat) : Ctx := kvGet (fun _ => {}) s.le.ctxs n

/-- Pod of a context number. -/
def ctxPod (n : Nat) : Nat := n / 16

/-- Contexts of pod p. -/
def podCtxs (p : Nat) : List Nat := (List.range 16).map (· + 16 * p)

/-- R81: LE_CTX_STAT_n and the count of contexts in service follow the contexts. -/
def showCtx (n : Nat) (s : State) : State :=
  let c := s.ctx n
  let s := setReg (Reg.LE_CTX_STAT n) (BitVec.ofNat 32
    (b2n c.live * 2 ^ 31 + c.desc.axis % 256 * 2 ^ 23 + c.pc % 2 ^ 15 * 2 ^ 8 + c.flags % 256)) s
  let p := ctxPod n
  setRf (Reg.LE_POD_STAT p) 4 0 ((podCtxs p).countP fun m => (s.ctx m).live) s

/-- Stores a context. -/
def putCtx (n : Nat) (c : Ctx) (s : State) : State :=
  showCtx n { s with le := { s.le with ctxs := kvPut (fun _ => {}) s.le.ctxs n c } }

/-- R65: flags of context n, sticky in it and combined into LE_FLAGS of its pod in the same tick; 64 stands
for a graph that has ended. -/
def ctxFlags (n p f : Nat) (s : State) : State :=
  podFlags p f (onlyIf (decide (n < 64)) (fun t => putCtx n { t.ctx n with flags := (t.ctx n).flags ||| f % 256 } t) s)

/-- Two writes to the same place in the same tick (R54). -/
def collides (a b : PendWr) : Bool :=
  a.due = b.due &&
    (match a.tgt, b.tgt with
     | .elem e, .elem f => a.pod = b.pod && e = f
     | .net v _ _ _ _, .net w _ _ _ _ => v = w
     | _, _ => false)

/-- R55: a pea writes the element at a in tick t. -/
def noteHit (t a : Nat) (s : State) : State :=
  { s with le := { s.le with hitTick := t, hits := a :: (if s.le.hitTick = t then s.le.hits else []) } }

/-- R55: a pea has written the element at a of pod memory in the present tick, the clocks running. -/
def State.peaHit (s : State) (a : Nat) : Bool :=
  s.le.hitTick = s.time.tick && s.le.hits.contains a && a < memBase 5 && !s.frozen

/-- R53, R390: a pea's write lands at a; the second one to a word in a tick makes one merge with the first. -/
def landAt (w : PendWr) (a : Nat) (mark : Bool) (s : State) : State :=
  let pair := s.le.hitTick = w.due && s.le.hits.contains (if a / 4 % 2 = 0 then a + 4 else a - 4)
  let s := noteWord w.due a (noteHit w.due a s)
  if pair then mergeSecond a w.val mark s else write32 a w.val mark s

/-- Place of a write in the order of ticks, then pods, then peas. -/
def writeBefore (a b : PendWr) : Bool :=
  a.due < b.due || (a.due = b.due && (a.pod < b.pod || (a.pod = b.pod && a.pea < b.pea)))

/-- Puts a write on its way. -/
def insertWrite (w : PendWr) : List PendWr → List PendWr
  | [] => [w]
  | x :: xs => if writeBefore w x then w :: x :: xs else x :: insertWrite w xs

/-- Enters a write. -/
def addWrite (w : PendWr) (s : State) : State :=
  { s with le := { s.le with writes := insertWrite w s.le.writes } }

/-- A write takes effect. That of an OUT with FIN is visible, and its record ready, in the tick after (R63). -/
def landWrite (w : PendWr) (s : State) : State :=
  match w.tgt with
  | .elem e => landAt w (elemAddr w.pod e) w.psn s
  | .net a axis cyc ob fin =>
    onlyIf fin (addWrite { w with due := w.due + 1, tgt := .ready axis cyc ob }) (landAt w (netAddr a) false s)
  | .flags n => ctxFlags n w.pod w.val s
  | .ready axis cyc ob => commandReady axis ob cyc w.due s

/-- R53, R54: the first n writes that are due by a tick take effect in order; of two to one place in one tick the
later in the order wins and the other is lost with WCOL. -/
def landFirst (t : Nat) : Nat → State → State
  | 0, s => s
  | n + 1, s =>
    match s.le.writes with
    | [] => s
    | w :: ws =>
      if w.due ≤ t then
        let s := toTick w.due { s with le := { s.le with writes := ws } }
        landFirst t n (if ws.any (collides w) then podFlags w.pod 256 s else landWrite w s)
      else s

/-- Every write due by a tick takes effect, with the records that become ready by it. -/
def landUpTo (t : Nat) (s : State) : State := landFirst t (2 * s.le.writes.length) s

/-! LATE (R96). -/

/-- Scheduler state of pod p beyond its registers. -/
def State.pod (s : State) (p : Nat) : PodSt := kvGet (fun _ => {}) s.pods p

/-- Stores it. -/
def putPod (p : Nat) (v : PodSt) (s : State) : State := { s with pods := kvPut (fun _ => {}) s.pods p v }

/-- R101: what a fault of Table 3-6 leaves in DS_FLT_INFO, in DS_ERR and for the health word. -/
def dsMark (p b idx axis : Nat) (s : State) : State :=
  let s := setReg (Reg.DS_FLT_INFO p) (BitVec.ofNat 32 (b * 2 ^ 17 + idx % 512 * 2 ^ 8 + axis % 256)) s
  onlyIf (b = 1 || b = 3 || b = 4) (fun s => { s with dsBad := true }) (orReg (Reg.DS_ERR p) (2 ^ b) s)

/-- R101: a fault of Table 3-6: its bit, the axis and descriptor, the event. -/
def dsFault (p b idx axis : Nat) (s : State) : State :=
  regEvent 1 0 b clsFault p (Reg.DS_ERR p) (dsMark p b idx axis s)

/-- R96: a TIMED entry is LATE; its event carries the axis in bits 23:16 of ARG0 (DESIGN CHOICE, log entry
177). -/
def lateEntry (p : Nat) (e : QEnt) (s : State) : State :=
  let late (x : QEnt) : QEnt := if x = e then { x with late := true } else x
  let s := dsMark p 0 e.idx e.desc.axis (putPod p { s.pod p with queue := (s.pod p).queue.map late } s)
  incRf (Reg.DS_CNT p) 15 0
    (event (evCode 1 0 0) clsFault p ((s.reg (Reg.DS_ERR p)).toNat + e.desc.axis % 256 * 2 ^ 16) (s.cyc % 2 ^ 32) s)

/-- The entry of a queue whose decision tick passed first and which is not marked. -/
def firstLate : List QEnt → Option QEnt
  | [] => none
  | e :: es =>
    match firstLate es with
    | none => if e.desc.timed && !e.late then some e else none
    | some f => if e.desc.timed && !e.late && e.dec ≤ f.dec then some e else some f

/-- The pod and the entry that turn LATE next. -/
def State.nextLate (s : State) : List Nat → Option (Nat × QEnt)
  | [] => none
  | p :: ps =>
    match firstLate (s.pod p).queue, s.nextLate ps with
    | some e, some (q, f) => if e.dec ≤ f.dec then some (p, e) else some (q, f)
    | some e, none => some (p, e)
    | none, r => r

/-- R96: entries turn LATE, each in the tick after its decision tick, up to tick t; at most n of them. -/
def latesUpTo (t : Nat) : Nat → State → State
  | 0, s => s
  | n + 1, s =>
    match s.nextLate [0, 1, 2, 3] with
    | some (p, e) =>
      if e.dec < t then latesUpTo t n (lateEntry p e (toTick (e.dec + 1) (landUpTo (e.dec + 1) s))) else s
    | none => s

/-- R48, R252: the tick that holds the instant at which NS is u, ahead or past: five quarters of a TBCLK period are a
tick. -/
def State.tickAt (s : State) (u : Nat) : Nat :=
  let base := s.nsBase
  let per := ((2 ^ 32 : Int) + s.syn.rate).toNat
  if base ≤ u then
    let k := s.tbCount (u - base)
    (4 * k + min 3 (4 * (u - base - s.tbGained s.tbNow k) / per)) / 5
  else (4 * s.tbNow - (4 * (base - u) + per - 1) / per) / 5

/-- The tick in which NS reaches u, as the time base counts at present; the present one for an instant that is past. -/
def State.tickOfNs (s : State) (u : Nat) : Nat := max s.time.tick (s.tickAt u)

/-- The count of TBCLK with which NS reaches u, ahead or past (R253, R257): the first at or after it (DESIGN CHOICE, log
entry 219). -/
def State.tbReach (s : State) (u : Nat) : Nat :=
  let base := s.nsBase
  if u ≤ base then s.tbNow - (base - u) / ((2 ^ 32 : Int) + s.syn.rate).toNat
  else
    let k := s.tbCount (u - base)
    if base + s.tbGained s.tbNow k = u then k else k + 1

/-- NS at an instant given in 1/80 of a count of TBCLK. -/
def State.nsOfTb (s : State) (l : Nat) : Nat :=
  let base := s.nsBase
  let per := ((2 ^ 32 : Int) + s.syn.rate).toNat
  if s.tbNow ≤ l / 80 then base + s.tbGained s.tbNow (l / 80) + l % 80 * per / 80
  else base - (80 * s.tbNow - l) * per / 80

/-- The first tick in which NS has reached u, ahead or past. -/
def State.tickFrom (s : State) (u : Nat) : Nat := (4 * s.tbReach u + 4) / 5

/-- The first tick at or after the present instant, which lies before the present tick where NS is held. -/
def State.tickUp (s : State) : Nat :=
  if 0 ≤ s.time.ahead then s.time.tick + (if s.time.ahead = 0 then 0 else 1) else s.tickFrom s.time.ns

/-! Missing echoes (R211). -/

/-- Sets a bit of NET_ERR_r with its event and counts it (Table 7-8). -/
def netErr (r b : Nat) (s : State) : State :=
  let s := flagEvent 5 0 b clsWarn r (Reg.NET_ERR r) s
  match b with
  | 0 => incRf (Reg.NET_CNT_FRM r) 15 0 s
  | 1 => incRf (Reg.NET_CNT_FRM r) 31 16 s
  | 2 => incRf (Reg.NET_CNT_FRM r) 31 16 s
  | 3 => incRf (Reg.NET_CNT_FRM r) 31 16 s
  | 4 => incRf (Reg.NET_CNT_SEQ r) 31 16 s
  | 5 => incRf (Reg.NET_CNT_SEQ r) 15 0 s
  | _ => s

/-- The expected echo whose window ends first. -/
def firstEcho : List EchoPend → Option EchoPend
  | [] => none
  | e :: es => match firstEcho es with | some f => if e.fin ≤ f.fin then some e else some f | none => some e

/-- The tick in which the window of an expected echo has ended. -/
def State.echoTick (s : State) (e : EchoPend) : Nat := s.tickOfNs (e.fin * 2 ^ 28 / 5 + 1) + 1

/-- Time moves on to tick t, with every write due by then and every entry that turns LATE. -/
def runTo (t : Nat) (s : State) : State :=
  let s := latesUpTo t 256 s
  toTick t (landUpTo t s)

/-- R211: echoes that have not come by the end of their window count as failed then, up to tick t; at most n of
them. -/
def echoesUpTo (t : Nat) : Nat → State → State
  | 0, s => s
  | n + 1, s =>
    match firstEcho s.net.echoes with
    | some e =>
      if s.echoTick e ≤ t then
        let s := runTo (max s.time.tick (s.echoTick e)) s
        echoesUpTo t n (netErr e.ring 5 { s with net := { s.net with echoes := s.net.echoes.filter (fun y => y ≠ e) } })
      else s
    | none => s

/-- Time moves on to tick t, with what happens by itself on the way. -/
def advanceTo (t : Nat) (s : State) : State :=
  if t ≤ s.time.tick then s else runTo t (echoesUpTo t s.net.echoes.length s)

/-- NS moves on to an instant, in units of 2^−32 ns, if it lies ahead; the ticks pass with it. -/
def advanceNs (u : Nat) (s : State) : State :=
  if u ≤ s.time.ns then s
  else
    let s := advanceTo (s.tickOfNs u) s
    let d := u - s.time.ns
    { s with time := { s.time with ns := s.time.ns + d, ahead := s.time.ahead + d } }

end Sys2Proof.Machine
end

