-- ==== Sys2Proof/Machine/Sched.lean ====
section
/-! DEFINITION. The dataflow scheduler (chapter 3): descriptors, the match copy, the release stage and the
ready queue, dispatch, the end of a graph, the deadline, the dispatch signature. -/

namespace Sys2Proof.Machine

/-- R76: pod p runs EVX0640 microcode. -/
def State.compat (s : State) (p : Nat) : Bool := s.ab (Reg.LE_POD_CTL p) 0

/-- R48, R77: ticks from one issue slot of a context to the next. -/
def State.slotTicks (s : State) (p : Nat) : Nat := if s.compat p then 8 else 4

/-- R48, R77: the issue phase of context n of its pod. -/
def State.phaseOf (s : State) (n : Nat) : Nat :=
  if s.compat (ctxPod n) then 2 * (n % 4) + n / 4 % 4 % 2 else n % 4

/-- First tick from t on that is an issue slot of context n. -/
def State.slotFrom (s : State) (n t : Nat) : Nat :=
  let k := s.slotTicks (ctxPod n)
  t + (s.phaseOf n + k - t % k) % k

/-- R81: issue slots in tick t and after it that a word of several, issued by context n, has counted. -/
def State.slotsFrom (s : State) (n t : Nat) : Nat :=
  if (s.ctx n).live && (s.ctx n).slot ≠ 0 then ((s.ctx n).next - t) / s.slotTicks (ctxPod n) else 0

/-- R81: what context n has counted in tick t and after it is not used: its graph ends. -/
def cutSlots (n t : Nat) (s : State) : State :=
  { s with le := { s.le with issued := kvPut (fun _ => 0) s.le.issued (ctxPod n)
                                         (kvGet (fun _ => 0) s.le.issued (ctxPod n) - s.slotsFrom n t) } }

/-! Descriptors. -/

/-- Address of 64-bit word w of the Y region of pod p (R50, R51). -/
def yWordAddr (p w : Nat) : Nat := memBase (1 + p) + 0x80000 + 8 * (w % 32768)

/-- R82: BASE and COUNT of the active graph table of pod p in a cycle. -/
def State.graphTable (s : State) (cyc p : Nat) : Nat × Nat :=
  let a := if s.afAt cyc (Reg.DS_POD_CTL p) 0 0 = 1 then Reg.DS_GTAB_B p else Reg.DS_GTAB_A p
  (s.afAt cyc a 14 0, s.afAt cyc a 24 16)

/-- Table 3-1: a descriptor from its four words. -/
def parseDesc (w0 w1 w2 w3 : Nat) : Desc where
  xb := bitsOf w0 16 0
  lb := bitsOf w0 33 17
  yb := bitsOf w0 49 34
  axis := bitsOf w0 57 50
  prio := bitsOf w0 60 58
  timed := w0.testBit 61
  pb := bitsOf w1 14 0
  ib := bitsOf w1 31 15
  ob := bitsOf w1 48 32
  flow := bitsOf w1 56 49
  flowen := w1.testBit 57
  src := bitsOf w2 2 0
  srcarg := bitsOf w2 22 3
  lat := bitsOf w2 36 23
  fpos := bitsOf w2 50 37
  nat := w2.testBit 51
  slots := bitsOf w3 17 0
  next0 := bitsOf w3 26 18
  next1 := bitsOf w3 35 27

/-- R83: a bit that Table 3-1 does not list is 1. -/
def descReserved (w0 w1 w2 w3 : Nat) : Bool :=
  bitsOf w0 63 62 ≠ 0 || bitsOf w1 63 58 ≠ 0 || bitsOf w2 63 52 ≠ 0 || bitsOf w3 63 36 ≠ 0

/-- R94: LOFF of a descriptor as an integer. -/
def loff (compat : Bool) (d : Desc) : Int :=
  if compat then (d.lat : Int) - 8 * d.fpos - 16 else (d.lat : Int) - 4 * d.fpos - 8

/-- Word k of descriptor i as the scheduler reads it (agent 4). -/
def readDescWord (p base i k : Nat) (s : State) : RdOut × State :=
  readWord 4 p (yWordAddr p (base + 4 * i + k)) s

/-! The match copy (R510). -/

/-- SRC and SRCARG of the first n descriptors of a table of pod p, as an agent of Table 14-5 reads them, and
whether every word read well. A word that does not matches nothing (DESIGN CHOICE, log entry 173). -/
def readMatch (agent p base : Nat) : Nat → State → (List (Nat × Nat × Nat) × Bool) × State
  | 0, s => (([], true), s)
  | n + 1, s =>
    let ((ms, good), s) := readMatch agent p base n s
    let (r, s) := readWord agent p (yWordAddr p (base + 4 * n + 2)) s
    if r.ok then ((ms ++ [(n, bitsOf r.data 2 0, bitsOf r.data 22 3)], good), s) else ((ms, false), s)

/-- R82: BASE and COUNT of a graph table, from the words that hold GSEL, DS_GTAB_A and DS_GTAB_B. -/
def tableOf (ctl ga gb : Word) : Nat × Nat :=
  let g := if bit ctl 0 then gb else ga
  (fld g 14 0, fld g 24 16)

/-- R510: takes the match copy of pod p from the table that is active now. -/
def takeMatch (p : Nat) (s : State) : State :=
  let (base, count) := tableOf (s.act (Reg.DS_POD_CTL p)) (s.act (Reg.DS_GTAB_A p)) (s.act (Reg.DS_GTAB_B p))
  let ((ms, _), s) := readMatch 4 p base count s
  putPod p { s.pod p with mtch := ms } s

/-! Releases. -/

/-- R86: order of two releases that wait for the stage: earlier arrivals first, then source order, then
descriptor index. -/
def relBefore (a b : RelReq) : Bool :=
  a.at_ < b.at_ || (a.at_ = b.at_ && (a.ord < b.ord || (a.ord = b.ord && a.idx < b.idx)))

/-- Places a release among those that wait. -/
def insertRel (r : RelReq) : List RelReq → List RelReq
  | [] => [r]
  | x :: xs => if relBefore r x then r :: x :: xs else x :: insertRel r xs

/-- R103, Table 14-3: pod p registers releases: REL_EN, its memory initialised, its domain on. -/
def State.podOpen (s : State) (cyc p : Nat) : Bool :=
  s.afAt cyc (Reg.DS_POD_CTL p) 1 1 = 1 && s.memDone (1 + p) && s.domOn (2 + p)

/-- A release arrives at the stage of pod p; a closed pod ignores it. It wakes a sleeping pod (R451). -/
def arrive (p : Nat) (r : RelReq) (s : State) : State :=
  if s.podOpen r.cyc p then putPod p { s.pod p with carry := insertRel r (s.pod p).carry } s else s

/-- Table 3-2: the bits of SRCARG that a source uses. -/
def argMod (src : Nat) : Nat := match src with | 1 => 2 ^ 9 | 2 => 2 ^ 10 | 3 => 2 ^ 3 | _ => 2 ^ 20

/-- R85: the event of a source releases every descriptor whose match copy names it, in all pods. `ord`
is the place of the source in the order of R86. -/
def releaseAll (src arg ord : Nat) (s : State) : State :=
  forAll (List.range 4) (fun p t =>
    forAll ((t.pod p).mtch.filter (fun m => m.2.1 = src && m.2.2 % argMod src = arg))
      (fun m u => arrive p ⟨m.1, src, ord, u.cyc, u.time.tick, false, 0, 0⟩ u) t) s

/-- R451: a trigger wakes a sleeping pod; the wake completes within 64 ticks. -/
def podWake (p : Nat) (s : State) : State :=
  let v := s.pod p
  if v.asleep && v.waking.isNone then putPod p { v with waking := some (s.time.tick + 64) } s else s

/-- R451: an instant that comes before a release wakes the pods in which the release names a descriptor. -/
def wakeNamed (src arg : Nat) (s : State) : State :=
  forAll (List.range 4) (fun p t =>
    onlyIf ((t.pod p).mtch.any (fun m => m.2.1 = src && m.2.2 % argMod src = arg)) (podWake p) t) s

/-- R85: ARRIVAL of the slot of a ring. -/
def releaseArrival (ring slot : Nat) (s : State) : State := releaseAll 1 (ring + slot * 4) ring s

/-- R85: CASCADE of a record of a port. -/
def releaseCascade (port idx : Nat) (s : State) : State := releaseAll 2 (port + idx * 4) (100 + port) s

/-- R85: LOCAL of a channel. -/
def releaseLocal (ch : Nat) (s : State) : State := releaseAll 3 ch (200 + ch) s

/-- R141: a generator's release was discarded; PGMISS is set at the deadline of its cycle. -/
def genMissed (p axis cyc : Nat) (gen : Bool) (s : State) : State :=
  if gen then putPod p { s.pod p with pgDue := (s.pod p).pgDue ++ [(axis, cyc)] } s else s

/-- R102: OVR of a cycle of pod p; counted once per cycle, with the alarm after three in a row. -/
def setOvr (p cyc idx axis : Nat) (s : State) : State :=
  let s := dsFault p 1 idx axis s
  if (s.pod p).ovrCycs.contains cyc then s
  else
    let cs := cyc :: (s.pod p).ovrCycs.filter (fun c => cyc ≤ c + 4)
    let s := putPod p { s.pod p with ovrCycs := cs } s
    let s := observed (incRf (Reg.DS_CNT p) 31 16 s)
    if cs.contains (cyc - 1) && cs.contains (cyc - 2) && 2 ≤ cyc && !(cyc ≥ 3 && cs.contains (cyc - 3)) then
      { s with ovrAlarm := s.ovrAlarm ++ [p] }
    else s

/-- Tick in which the release stage of a pod registers a release that arrived in tick t (R86). -/
def stageTick (v : PodSt) (t : Nat) : Nat :=
  if v.stageTick < t then t else if v.stageCnt < 8 then v.stageTick else v.stageTick + 1

/-- R95 and Table 3-6, DSC: a descriptor as read at registration is faulty by itself. -/
def descBad (compat : Bool) (count : Nat) (d : Desc) : Bool :=
  6 ≤ d.src ||
  (d.timed && (decide (loff compat d < 11) || d.slots ≤ d.fpos)) ||
  (d.next0 ≠ 0x1FF && count ≤ d.next0) || (d.next1 ≠ 0x1FF && count ≤ d.next1)

/-- R87, R94: the entry that a registered release makes. -/
def mkEntry (compat : Bool) (r : RelReq) (d : Desc) (t : Nat) : QEnt where
  idx := r.idx
  desc := d
  src := r.src
  ord := r.ord
  cyc := r.cyc
  rel := t
  elig := if d.timed then (t + loff compat d - 3).toNat else t + 8
  dec := (t + loff compat d - 3).toNat
  late := false
  gen := r.gen

/-- Cycle numbers from n on will come again: what the scheduler of a pod holds of them goes (R99). -/
def PodSt.before (v : PodSt) (n : Nat) : PodSt :=
  { v with closed := v.closed.filter (· < n), seen := v.seen.filter (·.2.2 < n), crc := v.crc.filter (·.1 < n),
           ovrCycs := v.ovrCycs.filter (· < n), pgDue := v.pgDue.filter (·.2 < n), sigLog := v.sigLog.filter (·.1 < n) }

/-- The same for what the AX block holds of an axis. -/
def AxSt.before (v : AxSt) (n : Nat) : AxSt :=
  { v with ready := v.ready.filter (·.1 < n), psnCyc := v.psnCyc.filter (· < n), lawEnd := v.lawEnd.filter (· < n),
           badEnd := v.badEnd.filter (· < n),
           fbPos := v.fbPos.filter (·.1 < n), valid := [], dstat := v.dstat.filter (·.1 < n) }

/-- The same for what the PG block holds of an axis: a command that no record has shown is shown by the next one. -/
def PgSt.before (v : PgSt) (n : Nat) : PgSt :=
  { v with geos := v.geos.filter (·.1 ≤ n), cmds := v.cmds.filter (· < n), cmdOwed := v.cmdOwed.map (min n) }

/-- R84, R87, R88: a release is registered in tick t, or discarded with its fault. The descriptor is read here and
nowhere else; a CHAIN release whose descriptor has another SRC than 4 is a DSC fault of it (Table 3-2, R510). After the
deadline every release gives OVR, a second one of a descriptor too (DESIGN CHOICE, log entry 174). -/
def registerRel (p t : Nat) (r : RelReq) (s : State) : State :=
  let (base, count) := s.graphTable r.cyc p
  let (a0, s) := readDescWord p base r.idx 0 s
  let (a1, s) := readDescWord p base r.idx 1 s
  let (a2, s) := readDescWord p base r.idx 2 s
  let (a3, s) := readDescWord p base r.idx 3 s
  let d := parseDesc a0.data a1.data a2.data a3.data
  let whole := a0.ok && a1.ok && a2.ok && a3.ok
  let v := s.pod p
  let dup := v.seen.contains (r.idx, r.src, r.cyc)
  let s := putPod p { v with seen := (r.idx, r.src, r.cyc) :: v.seen } s
  let missed := genMissed p (if whole then d.axis else r.axis) r.cyc r.gen
  let axis := if a0.ok then d.axis else 0
  if v.closed.contains r.cyc then
    onlyIf r.gen (pgMiss (if whole then d.axis else r.axis)) (setOvr p r.cyc r.idx axis s)
  else if dup then missed (dsFault p 5 r.idx axis s)
  else if !whole then missed (dsFault p 4 r.idx 0 s)
  else if descReserved a0.data a1.data a2.data a3.data || descBad (s.compat p) count d || (r.src = 4 && d.src ≠ 4) then
    missed (dsFault p 4 r.idx d.axis s)
  else if 64 ≤ v.queue.length then missed (dsFault p 2 r.idx d.axis s)
  else
    let v := s.pod p
    let q := v.queue ++ [mkEntry (s.compat p) r d t]
    let s := putPod p { v with queue := q, qMax := max v.qMax q.length } s
    if r.gen then pgInput d.axis r.cyc d.ib r.ib s else s

/-- R86: the first release that waits at the stage of pod p is registered, in its tick. -/
def registerNext (p : Nat) (s : State) : State :=
  match (s.pod p).carry with
  | [] => s
  | r :: rs =>
    let t := stageTick (s.pod p) r.at_
    let s := advanceTo t s
    let v := s.pod p
    let s := putPod p { v with carry := rs, stageTick := t,
                               stageCnt := if t = v.stageTick then v.stageCnt + 1 else 1 } s
    let s := podWake p s
    registerRel p t { r with cyc := if r.src = 4 then r.cyc else s.cyc } s

/-! Dispatch. -/

/-- R92: a graph still occupies its context and its flow in tick t. -/
def busyAt (c : Ctx) (t : Nat) : Bool := c.live || t < c.next

/-- R89: a graph of the flow is in service in tick t. -/
def State.flowBusy (s : State) (p : Nat) (d : Desc) (t : Nat) : Bool :=
  d.flowen && (podCtxs p).any fun n =>
    busyAt (s.ctx n) t && (s.ctx n).desc.flowen && (s.ctx n).desc.flow = d.flow

/-- R89: the contexts suitable for an entry in tick t, with their first issue tick (R91). -/
def State.suitable (s : State) (p : Nat) (e : QEnt) (t : Nat) : List (Nat × Nat) :=
  (podCtxs p).filterMap fun n =>
    if busyAt (s.ctx n) t then none
    else
      let f := s.slotFrom n (t + 3)
      if e.desc.timed && f ≠ t + 3 then none else some (f, n)

/-- R89: no earlier entry of the same flow waits before this one. -/
def flowFirst (before : List QEnt) (d : Desc) : Bool :=
  !(d.flowen && before.any fun q => q.desc.flowen && q.desc.flow = d.flow)

/-- R89: the entries that may be dispatched in tick t. -/
def State.admissible (s : State) (p t : Nat) : List QEnt → List QEnt → List QEnt
  | _, [] => []
  | before, e :: es =>
    let rest := s.admissible p t (before ++ [e]) es
    if e.elig ≤ t && flowFirst before e.desc && !(s.flowBusy p e.desc t) && !(s.suitable p e t).isEmpty then
      e :: rest
    else rest

/-- R90: the rank of an entry. -/
def rankBefore (a b : QEnt) : Bool :=
  if a.desc.prio ≠ b.desc.prio then a.desc.prio < b.desc.prio
  else if a.rel ≠ b.rel then a.rel < b.rel
  else if a.ord ≠ b.ord then a.ord < b.ord
  else a.idx < b.idx

/-- The entry that ranks first. -/
def bestEntry : List QEnt → Option QEnt
  | [] => none
  | e :: es =>
    match bestEntry es with
    | none => some e
    | some f => if rankBefore f e then some f else some e

/-- R91: the context with the earliest first issue, then the lowest pea. -/
def bestCtx : List (Nat × Nat) → Option (Nat × Nat)
  | [] => none
  | x :: xs =>
    match bestCtx xs with
    | none => some x
    | some y => if y.1 < x.1 then some y else some x

/-- First tick from t on, of n candidates, in which pod p may dispatch. -/
def State.dispatchTick (s : State) (p : Nat) : Nat → Nat → Option Nat
  | _, 0 => none
  | t, n + 1 => if (s.admissible p t [] (s.pod p).queue).isEmpty then s.dispatchTick p (t + 1) n else some t

/-- The first tick in which some entry of the queue is eligible. -/
def firstElig : List QEnt → Option Nat
  | [] => none
  | e :: es => match firstElig es with | none => some e.elig | some t => some (min e.elig t)

/-- One bit step of CRC-32C, reflected, polynomial 0x1EDC6F41. -/
def crcBit (c : Nat) : Nat := if c % 2 = 1 then (c / 2) ^^^ 0x82F63B78 else c / 2

/-- CRC-32C over one more byte. -/
def crcByte (c b : Nat) : Nat :=
  crcBit (crcBit (crcBit (crcBit (crcBit (crcBit (crcBit (crcBit (c ^^^ (b % 256)))))))))

/-- CRC-32C over more bytes, without the final complement. -/
def crcBytes (c : Nat) : List Nat → Nat
  | [] => c
  | b :: bs => crcBytes (crcByte c b) bs

/-- R100: the signature of a cycle takes one more dispatch. -/
def signDispatch (p cyc idx : Nat) (s : State) : State :=
  let v := s.pod p
  let c := kvGet (fun _ => 0xFFFFFFFF) v.crc cyc
  putPod p { v with crc := kvPut (fun _ => 0xFFFFFFFF) v.crc cyc (crcBytes c [idx % 256, idx / 256]) } s

/-- R49, R133: the context as dispatch fills it; YB takes the bank of the release's cycle. -/
def State.fillCtx (s : State) (p : Nat) (e : QEnt) (first : Nat) : Ctx :=
  let ofs := s.afAt e.cyc (Reg.AX_CBANK_OFS p) 15 0
  let bank := s.afAt e.cyc (Reg.AX_MODE e.desc.axis) 8 8
  { live := true, idx := e.idx, cyc := e.cyc, next := first,
    desc := { e.desc with yb := (e.desc.yb + ofs * bank) % 65536 } }

/-- R90, R91: pod p dispatches its highest-ranked admissible entry of tick t. -/
def dispatchAt (p t : Nat) (s : State) : State :=
  match bestEntry (s.admissible p t [] (s.pod p).queue) with
  | none => s
  | some e =>
    match bestCtx (s.suitable p e t) with
    | none => s
    | some (first, n) =>
      let v := s.pod p
      let s := putPod p { v with queue := v.queue.erase e, lastDisp := some t,
                                 waitMax := if e.desc.timed then v.waitMax else max v.waitMax (t - e.elig) } s
      let s := signDispatch p e.cyc e.idx s
      let s := if e.gen || e.src = 4 then s
        else putAx e.desc.axis { s.ax e.desc.axis with lawIb := some e.desc.ib, lawXb := some e.desc.xb, lawPod := p,
                                                        ob := some e.desc.ob } s
      putCtx n { s.fillCtx p e first with loop := {}, fin := false, gen := e.gen } s

/-- One dispatch decision of pod p, in the first tick from now on in which an entry is admissible. -/
def dispatchNext (p : Nat) (s : State) : State :=
  match firstElig (s.pod p).queue with
  | none => s
  | some f =>
    let t0 := max f s.time.tick
    let t0 := match (s.pod p).lastDisp with | some l => max t0 (l + 1) | none => t0
    match s.dispatchTick p t0 16 with
    | none => s
    | some t => dispatchAt p t (advanceTo t s)

/-! The end of a graph. -/

/-- R85, R92: a CHAIN release by NEXT0 or NEXT1. `axis` is that of the graph that ended. -/
def chainRelease (p cyc nx ib axis : Nat) (gen : Bool) (s : State) : State :=
  if nx = 0x1FF then s else arrive p ⟨nx, 4, 1000, cyc, s.time.tick + 1, gen, ib, axis⟩ s

/-- The AX or PG block takes the results of a graph that ends: of a law graph under R125, of a
generator under R140 and R141. A CHAIN-released graph, a generator among them, delivers no flags to LEF, and reports
that it ended by an illegal word or with a poisoned OUT (R74, R75), as NRDY of its axis (DESIGN CHOICE, log
entry 209). -/
def deliver (n : Nat) (c : Ctx) (ill cut : Bool) (s : State) : State :=
  let bad := ill || c.psnOut || c.flags.testBit 6 || c.flags.testBit 7
  let s := onlyIf (bad && (c.gen || c.desc.src ≠ 4)) (fun t => putAx c.desc.axis { t.ax c.desc.axis with badEnd := some c.cyc } t) s
  if c.gen || c.desc.src = 4 then
    onlyIf c.gen (pgEnd c.desc.axis c.desc.ob c.flags cut) (axTripIf (ill || c.psnOut) c.desc.axis 6 s)
  else
    let s := putAx c.desc.axis { s.ax c.desc.axis with lawEnd := some c.cyc } s
    axEnd c.desc.axis (ctxPod n) c.desc.xb c.flags (!(s.compat (ctxPod n)) || c.desc.nat) ill c.psnOut s

/-- R451: pod p holds no entry and no graph. -/
def State.podIdle (s : State) (p : Nat) : Bool :=
  (s.pod p).queue.isEmpty && (podCtxs p).all (fun n => !(s.ctx n).live)

/-- R451: a pod that holds no entry and no graph any more is idle from the present tick. -/
def noteIdle (p : Nat) (s : State) : State :=
  if s.podIdle p then putPod p { s.pod p with idleSince := s.time.tick } s else s

/-- R65: flags on their way from a graph that has ended reach its pod alone. -/
def orphanFlags (n : Nat) (s : State) : State :=
  let f (w : PendWr) : PendWr := match w.tgt with | .flags m => if m = n then { w with tgt := .flags 64 } else w | _ => w
  { s with le := { s.le with writes := s.le.writes.map f } }

/-- R92: the graph in context n ends as by END in the present tick: results, CHAIN releases, the context
and its flow free from the next tick. -/
def endGraph (n : Nat) (ill cut : Bool) (s : State) : State :=
  let c := s.ctx n
  let s := cutSlots n (s.time.tick + 1) s
  let s := putCtx n { c with live := false, next := s.time.tick + 1 } (orphanFlags n s)
  let s := deliver n c ill cut s
  let s := chainRelease (ctxPod n) c.cyc c.desc.next0 c.desc.ib c.desc.axis (!c.gen && c.desc.src ≠ 4) s
  noteIdle (ctxPod n) (chainRelease (ctxPod n) c.cyc c.desc.next1 c.desc.ib c.desc.axis false s)

/-- Table 3-6, BND: the graph in context n has reached its slot bound or ended before it. -/
def boundGraph (n : Nat) (s : State) : State :=
  let c := s.ctx n
  endGraph n false true (dsFault (ctxPod n) 3 c.idx c.desc.axis s)

/-- R63: a write on its way as OVR of the graph of context record c in pod p leaves it: it no longer completes a
command record. -/
def unready (p : Nat) (c : Ctx) (w : PendWr) : Option PendWr :=
  let own (ax cy ob : Nat) : Bool := w.pod = p && ax = c.desc.axis && cy = c.cyc && ob = c.desc.ob
  match w.tgt with
  | .net a ax cy ob _ => some (if own ax cy ob then { w with tgt := .net a ax cy ob false } else w)
  | .ready ax cy ob => if own ax cy ob then none else some w
  | _ => some w

/-- Table 3-6, OVR: a graph of the cycle in service at the deadline ends without CHAIN releases; no write of it that
becomes visible later completes a command record (R63). -/
def overrunGraph (n : Nat) (s : State) : State :=
  let c := s.ctx n
  let s := orphanFlags n { s with le := { s.le with writes := s.le.writes.filterMap (unready (ctxPod n) c) } }
  let s := putCtx n { c with live := false, next := s.time.tick } (cutSlots n s.time.tick s)
  let s := deliver n c false true s
  onlyIf (!c.gen && c.desc.src ≠ 4 && c.desc.next0 ≠ 0x1FF) (pgMiss c.desc.axis) s

/-- R102: the deadline instant of a cycle in ns after its start. -/
def State.deadlineNs (s : State) (cyc p : Nat) : Nat :=
  let d := s.afAt cyc (Reg.DS_DEADLINE p) 20 0
  if d = 0 then s.clen else d

/-- Table 3-6, R100: what the deadline of a cycle of pod p does. What has been released in the cycle is
forgotten, so that a later second release takes OVR, not DUP (DESIGN CHOICE, log entry 174); SIGX leaves 0 in DESC
and AXIS of DS_FLT_INFO (DESIGN CHOICE, log entry 175); WAITMAX and QMAX cover the time between two deadlines
(DESIGN CHOICE, log entry 176). -/
def deadlineAt (p cyc : Nat) (s : State) : State :=
  let svc := (podCtxs p).filter fun n => (s.ctx n).live && (s.ctx n).cyc = cyc
  let hit := (s.pod p).queue.filter fun e => e.cyc = cyc
  let was := s.podIdle p
  let who : Option (Nat × Nat) :=
    match svc, hit with
    | n :: _, _ => some ((s.ctx n).idx, (s.ctx n).desc.axis)
    | [], e :: _ => some (e.idx, e.desc.axis)
    | [], [] => none
  let s := match who with | some (i, a) => setOvr p cyc i a s | none => s
  let s := forAll svc overrunGraph s
  let v := s.pod p
  let s := putPod p { v with queue := v.queue.filter fun e => e.cyc ≠ cyc,
                             closed := cyc :: v.closed.filter (fun c => cyc ≤ c + 4),
                             seen := v.seen.filter (fun x => x.2.2 ≠ cyc) } s
  let s := forAll (hit.filter (·.gen)) (fun e t => pgMiss e.desc.axis t) s
  let due := (s.pod p).pgDue.filter fun d => d.2 = cyc
  let s := forAll due (fun d t => pgMiss d.1 t) s
  let v := s.pod p
  let sig := (kvGet (fun _ => 0xFFFFFFFF) v.crc cyc) ^^^ 0xFFFFFFFF
  let ref := (s.actAt cyc (Reg.DS_SIG_REF p)).toNat
  let s := setReg (Reg.DS_SIG p) (BitVec.ofNat 32 sig) s
  let s := setReg (Reg.DS_STAT p) (BitVec.ofNat 32 (min v.waitMax 32767 * 2 ^ 16 + min v.qMax 64)) s
  let s := putPod p { v with pgDue := v.pgDue.filter (fun d => d.2 ≠ cyc), waitMax := 0,
                             sigLog := (cyc, sig) :: v.sigLog.take 7, qMax := v.queue.length,
                             crc := kvPut (fun _ => 0xFFFFFFFF) v.crc cyc 0xFFFFFFFF } s
  onlyIf (!was) (noteIdle p) (onlyIf (ref ≠ 0 && ref ≠ sig) (dsFault p 6 0 0) s)

/-! New cycle numbers. -/

/-- The cycles whose work pod p holds: entries, graphs and CHAIN releases that wait. -/
def State.workCycles (s : State) (p : Nat) : List Nat :=
  ((s.pod p).queue.map (·.cyc) ++ ((podCtxs p).filter fun n => (s.ctx n).live).map (fun n => (s.ctx n).cyc)
    ++ ((s.pod p).carry.filter (·.src = 4)).map (·.cyc)).eraseDups

/-- The deadline of a cycle that the count of cycles has left comes now; its CHAIN releases that wait take OVR. -/
def closeCycle (p cyc : Nat) (s : State) : State :=
  let s := deadlineAt p cyc s
  let late (r : RelReq) : Bool := r.src = 4 && r.cyc = cyc
  let rs := (s.pod p).carry.filter late
  let s := putPod p { s.pod p with carry := (s.pod p).carry.filter (fun r => !(late r)) } s
  forAll rs (fun r t => onlyIf r.gen (pgMiss r.axis) (setOvr p cyc r.idx r.axis t)) s

/-- R99: NS or the cycle length has been set, and the cycles count on from another number. Work of a cycle whose
deadline can no longer come, because its number lies ahead or three or more back, meets its deadline at once (DESIGN
CHOICE, log entry 211); the cycle numbers that come again are forgotten, with the deviations and corrections of earlier
ones (R270). -/
def renumber (s : State) : State :=
  let s := forAll (List.range 4) (fun p t =>
    forAll ((t.workCycles p).filter fun c => t.cyc < c || c + 2 < t.cyc) (closeCycle p) t) s
  let s := forAll (List.range 4) (fun p t => putPod p ((t.pod p).before t.cyc) t) s
  let s := forAll (s.axes.map (·.1)) (fun n t => putAx n ((t.ax n).before t.cyc) t) s
  let s := forAll (s.pg.map (·.1)) (fun n t => putPg n ((t.pgAx n).before t.cyc) t) s
  { s with uqs := s.uqs.filter (·.cyc ≤ s.cyc), syn := { s.syn with hist := [], cLog := [], pendC := none, pendRate := none } }

end Sys2Proof.Machine
end

