-- ==== Sys2Proof/Machine/Safe.lean ====
section
/-! DEFINITION. Husk (R357, R358, R366 to R371, R378) and the gating of the field outputs (R342, R349):
what both derive from the rest of the state at once, and the faults that move the safety state. -/

namespace Sys2Proof.Machine

/-! Marrow: its oscillator and its events. -/

/-- R480: the rate of Marrow's single oscillator at this instant, in parts per million of nominal: within ±3 %. -/
def State.marrowRate (s : State) : Nat := 970000 + Config.marrowError s.mtick % 60001

/-- R18, R480: a span of dt ticks, timed by Marrow's oscillator, has reached lim ticks; every span judged at this
instant errs by the same fraction. -/
def State.marrowReached (s : State) (dt lim : Nat) : Bool := lim * 1000000 ≤ dt * s.marrowRate

/-- R350: the die-to-die link carries heartbeats. -/
def State.linkUp (s : State) : Bool := s.sysOn && s.domOn 9 && !s.fio.linkDown

/-- R434: an event of source src over a working link; held as an event of source hsrc, of which Marrow keeps
the first 8, while the link is down. -/
def marrowEvent (src hsrc reg b cls inst a : Nat) (s : State) : State :=
  if s.linkUp then regEvent src reg b cls inst a s
  else if (s.fio.held.filter (fun e => e.code / 1024 = hsrc)).length < 8 then
    { s with fio := { s.fio with held := s.fio.held ++
        [⟨evCode hsrc reg b, cls, inst % 256, (s.reg a).toNat ||| kvGet (fun _ => 0) s.fio.heldBits a, 0, s.nsNow, s.cyc % 2 ^ 32, s.mtick⟩] } }
  else s

/-- R434: the held events reach the recorder, ARG1 the age in µs by Marrow's oscillator. -/
def passHeld (s : State) : State :=
  forAll s.fio.held (fun e t => event e.code e.cls e.inst e.arg0 ((s.mtick - e.sclk) * s.marrowRate / 800000000) t)
    { s with fio := { s.fio with held := [] } }

/-- R477: bits that Marrow sets in a register of the logic die, at once while its clock runs and its domain is
on, else when both hold again. -/
def orMarrow (a m : Nat) (s : State) : State :=
  if s.sysOn && s.domOn (blkDom (blkOf a)) then orReg a m s
  else { s with fio := { s.fio with heldBits := kvPut (fun _ => 0) s.fio.heldBits a (kvGet (fun _ => 0) s.fio.heldBits a ||| m) } }

/-- Table 13-4, R360 to R365, R374: the bits of SAF_ERR that the safety task detects, in the logic die. -/
def taskFault (b : Nat) : Bool := b = 3 || b = 4 || b = 6 || (9 ≤ b && b ≤ 13) || 16 ≤ b

/-- Sets a bit of SAF_ERR and reports it (R367, Table 16-1); what Husk detects it holds through a heartbeat loss
(R434), what the safety task detects goes to the recorder at once. -/
def safErr (b inst : Nat) (s : State) : State :=
  if taskFault b then flagEvent 11 0 b clsFault inst Reg.SAF_ERR s
  else marrowEvent 11 0x19 0 b clsFault inst Reg.SAF_ERR (orMarrow Reg.SAF_ERR (2 ^ b) s)

/-! Check values. -/

/-- One bit step of the reflected CRC-32 (R375). -/
def crc32Bit (c : Nat) : Nat := if c % 2 = 1 then (c / 2) ^^^ 0xEDB88320 else c / 2

/-- CRC-32 over bytes, before the final complement. -/
def crc32Run (c : Nat) : List Nat → Nat
  | [] => c
  | b :: bs =>
    crc32Run (crc32Bit (crc32Bit (crc32Bit (crc32Bit (crc32Bit (crc32Bit (crc32Bit (crc32Bit (c ^^^ b))))))))) bs

/-- R375: the CRC-32 of words, each as four bytes, low byte first. -/
def crc32Words (ws : List Nat) : Nat :=
  crc32Run 0xFFFFFFFF (ws.flatMap fun w => [w % 256, w / 256 % 256, w / 65536 % 256, w / 16777216 % 256]) ^^^ 0xFFFFFFFF

/-- R378: the registers that the link carries to Husk, in their order. -/
def huskRegs : List Nat :=
  [Reg.SAF_CFG, Reg.SAF_GMASK 0, Reg.SAF_GMASK 1, Reg.SAF_GTIM 0, Reg.SAF_GTIM 1, Reg.SAF_RST, Reg.SAF_PFM_EXP]

/-- R378: the safety task's computation of HCHECK over the active registers. -/
def State.taskHcheck (s : State) : Nat := crc32Words (huskRegs.map fun a => (s.act a).toNat)

/-- R369, R376: CHECK equals CONFIRM and is nonzero, and HCHECK agrees. -/
def State.confirmed (s : State) : Bool :=
  s.reg Reg.SAF_CHECK ≠ 0 && s.reg Reg.SAF_CHECK = s.reg Reg.SAF_CONFIRM &&
    (s.reg Reg.SAF_HCHECK).toNat = s.taskHcheck

/-! Husk. -/

/-- Register j of Husk's own copy, in the order of R378. -/
def State.huskReg (s : State) (j : Nat) : Word := s.saf.husk.getD j 0

/-- TS in ticks, from a SAF_CFG word: 0.25 ms × 2^TS. -/
def tsTicks (cfg : Word) : Nat := 200000 * 2 ^ fld cfg 2 0

/-- STATE of SAF_STATE: 0 START-UP, 1 RUN, 2 TEST, 3 RECOVERY, 4 LOCKOUT. -/
def State.safState (s : State) : Nat := s.rf Reg.SAF_STATE 2 0

/-- Husk is powered: it runs from VFIELD (R18, Table 12-3). -/
def State.huskOn (s : State) : Bool := !(s.rb Reg.FIO_SUP 3)

/-- Every input of a mask stands at 1, after INV. -/
def State.inputsHigh (s : State) (mask : Nat) : Bool := mask &&& s.rf Reg.FIO_IN_LVL 15 0 = mask

/-- Husk sees no demand of group g (R364). -/
def State.huskFree (s : State) (g : Nat) : Bool := s.inputsHigh (fld (s.huskReg (1 + g)) 15 0)

/-- A_g. -/
def State.agr (s : State) (g : Nat) : Bool := s.rb Reg.SAF_STATE (18 + g)

/-- Sets A_g. -/
def setAgr (g : Nat) (v : Bool) (s : State) : State := setRb Reg.SAF_STATE (18 + g) v s

/-- Table 13-3: REQ_g is honoured. -/
def State.honoured (s : State) : Bool :=
  match s.safState with
  | 1 => true
  | 2 => true
  | 4 => false
  | _ => s.confirmed

/-- R358: the permit of output 6 + g. -/
def State.permitNow (s : State) (g : Nat) : Bool :=
  s.huskOn && s.honoured && s.rb Reg.SAF_REQ g && s.agr g

/-- A permit as last derived. -/
def State.permit (s : State) (g : Nat) : Bool := s.rb Reg.SAF_STATE (16 + g)

/-- Table 13-3: where Husk drops A_g at once. -/
def dropAgr (g : Nat) (s : State) : State :=
  onlyIf (s.agr g && (!s.huskOn || s.safState = 4 || (s.safState ≠ 1 && !(s.huskFree g)))) (setAgr g false) s

/-- R361, R362: a group that reaches STO has no SS1 any more, running or decided. -/
def endSs1 (g : Nat) (s : State) : State :=
  let v := kvGet (fun _ => ({} : SafGrp)) s.saf.groups g
  setRb Reg.SAF_STATE (20 + g) false
    { s with saf := { s.saf with groups := kvPut (fun _ => {}) s.saf.groups g { v with ss1 := none, ss1Next := false } } }

/-- R358: derives the permit of group g and notes the cycle of a change (R374). -/
def derivePermit (g : Nat) (s : State) : State :=
  if s.permitNow g = s.permit g then s
  else
    let s := onlyIf (s.permit g) (endSs1 g) (setRb Reg.SAF_STATE (16 + g) (s.permitNow g) s)
    { s with saf := { s.saf with permAt := kvPut (fun _ => none) s.saf.permAt g (some s.cyc) } }

/-! Outputs. -/

/-- PD_FIELD is powered. -/
def State.fieldOn (s : State) : Bool := s.domOn 9

/-- The command of output k that the supervisor goes by: the last one it had while PD_FIELD is off (R350). -/
def State.outCmd (s : State) (k : Nat) : Bool := if s.fieldOn then s.rb Reg.FIO_OUT k else s.fio.cmd.testBit k

/-- The word of FIO_OUT_CFG_k that the supervisor goes by. -/
def State.outCfg (s : State) (k : Nat) : Word :=
  if s.fieldOn then s.act (Reg.FIO_OUT_CFG k) else s.fio.cfg.getD k 0

/-- R349: latched channels; the supervisor latches one while the logic die stands still too (R18). -/
def State.latches (s : State) : Nat :=
  let f := (s.reg Reg.FIO_OUT_FLT).toNat ||| kvGet (fun _ => 0) s.fio.heldBits Reg.FIO_OUT_FLT
  bitsOf f 7 0 ||| bitsOf f 15 8 ||| bitsOf f 23 16 ||| (if s.fieldOn then 0 else s.fio.latch % 256)

/-- R342: output k is driven high. -/
def State.outOn (s : State) (k : Nat) : Bool :=
  s.outCmd k && !(s.latches.testBit k) && s.rf Reg.FIO_SUP 3 1 = 0 &&
    (k < 6 || !(bit (s.outCfg k) 2) || s.permit (k - 6))

/-- Channels driven high. -/
def State.outsOn (s : State) : Nat :=
  (List.range 8).foldl (fun m k => m + b2n (s.outOn k) * 2 ^ k) 0

/-- The supervisor notes when a channel turns on or off. -/
def noteDrive (s : State) : State :=
  let put (m : KV Nat) (k : Nat) : KV Nat :=
    if s.outOn k = s.fio.drive.testBit k then m else kvPut (fun _ => 0) m k s.mtick
  let turn (m : KV (Nat × Nat)) (k : Nat) : KV (Nat × Nat) :=
    if s.outOn k && !(s.fio.drive.testBit k) then kvPut (fun _ => (0, 0)) m k (s.mtick, kvGet (fun _ => 0) s.fio.since k) else m
  { s with fio := { s.fio with drive := s.outsOn, since := (List.range 8).foldl put s.fio.since
                               onAt := (List.range 8).foldl turn s.fio.onAt } }

/-- For how long channel k has been on or off, in ticks that always pass. -/
def State.outFor (s : State) (k : Nat) : Nat := s.mtick - kvGet (fun _ => 0) s.fio.since k

/-- R354: for how long channel k has been off; one that its command has turned on in the present sysclk too. -/
def State.offFor (s : State) (k : Nat) : Option Nat :=
  let (on, off) := kvGet (fun _ => (0, 0)) s.fio.onAt k
  if !(s.outOn k) then some (s.outFor k)
  else if on / 2 = s.mtick / 2 && kvGet (fun _ => 0) s.fio.since k = on then some (s.mtick - off)
  else none

/-- FIO_OUT_STAT and INVAL of FIO_IN_LVL follow the gating (R342, R349, R352). -/
def deriveOutputs (s : State) : State :=
  let s := noteDrive s
  let st := s.outsOn + s.latches * 256 + s.rf Reg.FIO_OUT_STAT 23 16 * 65536 + s.rf Reg.SAF_STATE 17 16 * 2 ^ 24
  let s := setReg Reg.FIO_OUT_STAT (BitVec.ofNat 32 st) s
  setRf Reg.FIO_IN_LVL 31 16 (if s.rb Reg.FIO_SUP 1 || s.rb Reg.FIO_SUP 3 then 0xFFFF else 0) s

/-- The windows of FIO_ and SAF_, whose registers Marrow writes. -/
def marrowReg (a : Nat) : Bool := 0x400A0000 ≤ a && a < 0x400C0000

/-- Bits that join registers of Marrow. -/
def orHeld : List (Nat × Nat) → State → State
  | [], s => s
  | (a, m) :: es, s => orHeld es (onlyIf (marrowReg a) (orReg a m) s)

/-- R368: REQ cleared while no clock ran. -/
def takeReq (s : State) : State := onlyIf s.saf.heldReq (setRf Reg.SAF_REQ 1 0 0) s

/-- R371: the cause of a fall while no clock ran. -/
def takeCause (s : State) : State :=
  match s.saf.heldCause with
  | some b => setRf Reg.SAF_FLT 4 0 b s
  | none => s

/-- R371: RECCNT after entries, or a power-up of Husk, while no clock ran. -/
def takeRec (s : State) : State := onlyIf s.saf.heldRec (setRf Reg.SAF_FLT 9 8 (min 3 s.saf.recs.length)) s

/-- Nothing is held any more. -/
def clearTaken (s : State) : State :=
  { s with saf := { s.saf with heldReq := false, heldCause := none, heldRec := false } }

/-- R477: the logic die takes over what Marrow set while no clock ran. -/
def takeHeld (s : State) : State :=
  if !s.sysOn then s
  else clearTaken (takeRec (takeCause (takeReq (orHeld s.fio.heldBits { s with fio := { s.fio with heldBits := [] } }))))

/-- What Husk and the output stages derive at once from the rest of the state. -/
def deriveSafety (s : State) : State :=
  deriveOutputs (derivePermit 1 (derivePermit 0 (dropAgr 1 (dropAgr 0 (takeHeld s)))))

/-! Safety states. -/

/-- R368: the hardware clears REQ_0 and REQ_1. -/
def clearReq (s : State) : State :=
  if s.sysOn then setRf Reg.SAF_REQ 1 0 0 s else { s with saf := { s.saf with heldReq := true } }

/-- R367, R368, R370: a transition of the safety state. -/
def setSafState (st : Nat) (s : State) : State :=
  let s := setRf Reg.SAF_STATE 2 0 st s
  let s := { s with saf := { s.saf with stok := false, wdRef := s.mtick, wdFirst := true } }
  if st = 3 || st = 4 then clearReq (setAgr 1 false (setAgr 0 false s)) else s

/-- 60 s in ticks. -/
def safWindow : Nat := 48000000000

/-- R371: the entries to RECOVERY that lie within the current 60 s window, timed by Marrow. -/
def State.recentRecs (s : State) : List Nat :=
  s.saf.recs.filter fun t => !(s.marrowReached (s.mtick - t) safWindow)

/-- R371: RECCNT follows the list of entries, at once while a clock runs. -/
def showRecs (rs : List Nat) (s : State) : State :=
  let s := { s with saf := { s.saf with recs := rs, heldRec := !s.sysOn } }
  onlyIf s.sysOn (setRf Reg.SAF_FLT 9 8 (min 3 rs.length)) s

/-- Transition to RECOVERY or LOCKOUT with its cause. -/
def safFall (st bit : Nat) (s : State) : State :=
  let s := setSafState st s
  if s.sysOn then setRf Reg.SAF_FLT 4 0 bit s else { s with saf := { s.saf with heldCause := some bit } }

/-- R371, Table 13-4: a fault of bit `b` of SAF_ERR, LOCKOUT or RECOVERY, of a group or of none (instance 0,
DESIGN CHOICE, log entry 221). Without VFIELD there is no Husk to detect one or to move the state; what the safety
task or the lockstep checker detects is flagged then too. -/
def safFault (b inst : Nat) (lock : Bool) (s : State) : State :=
  if !s.huskOn then onlyIf (taskFault b || b = 1) (safErr b inst) s
  else
    let s := safErr b inst s
    let st := s.safState
    if lock then (if st = 4 then s else safFall 4 b s)
    else if st = 3 then safFall 4 b (safErr 14 0 s)
    else if st = 1 || st = 2 then
      let rs := s.recentRecs
      let s := showRecs (rs ++ [s.mtick]) s
      if 2 ≤ rs.length then safFall 4 b (safErr 14 0 s) else safFall 3 b s
    else s

/-- R367: Husk powers up in START-UP with A_0 and A_1 at 0. -/
def huskPowerUp (s : State) : State :=
  let s := setAgr 1 false (setAgr 0 false (setSafState 0 s))
  showRecs [] { s with saf := { s.saf with huskRise := none, tpFail := [], pulse := [], pulseAt := [] } }

end Sys2Proof.Machine
end

