-- ==== Sys2Proof/Machine/Settle.lean ====
section
/-! DEFINITION. The end of every command. -/

namespace Sys2Proof.Machine

/-- What follows every event at once: Husk's agreement, the permits and the output stages. -/
def settle (s : State) : State := deriveSafety s

/-- A command that has its effect answers the next state. -/
def done (s : State) : Host.Outcome State Fault Refusal := .next (settle s)

end Sys2Proof.Machine
end

