-- ==== Sys2Proof/Machine/Motion.lean ====
section
/-! DEFINITION. Register writes that act by themselves in the AX and PG blocks (R129, R157, R159), and
the local step generators (R160 to R163, R191). -/

namespace Sys2Proof.Machine

/-- R31: a write to the register at a takes effect while its block is powered; else it is an access
error. Nothing happens while the processor does not run. -/
def regWrite (a : Nat) (f : State → State) (s : State) : State :=
  if !s.cpuOn then s
  else if s.domOn (blkDom (blkOf a)) then f s
  else accessError (blkOf a) a true s

/-- ACK (R129): evaluated at the next cycle start. -/
def execAxAck (axis : Fin 256) (s : State) : Host.Outcome State Fault Refusal :=
  done (regWrite (Reg.AX_ACK axis) (fun t => putAx axis { t.ax axis with ack := true } t) s)

/-- PG_TAPP (R157, R159). -/
def execPgTapp (axis : Fin 256) (count : Fin 32768) (s : State) : Host.Outcome State Fault Refusal :=
  done (regWrite (Reg.PG_TAPP axis) (pgTapp axis count false) s)

/-- PG_TAPP_SKIP (R159). -/
def execPgTappSkip (axis : Fin 256) (count : Fin 32768) (s : State) : Host.Outcome State Fault Refusal :=
  done (regWrite (Reg.PG_TAPP axis) (pgTapp axis count true) s)

/-! Step generators. -/

/-- State of step pair p. -/
def State.step (s : State) (p : Nat) : StepSt := kvGet (fun _ => {}) s.steps p

/-- Stores it. -/
def putStep (p : Nat) (v : StepSt) (s : State) : State := { s with steps := kvPut (fun _ => {}) s.steps p v }

/-- The STEP axis that names pair p in PG_MODE_n (R160); of several the lowest (DESIGN CHOICE, log entry 234). -/
def State.stepAxis (s : State) (p : Nat) : Option Nat :=
  (List.range 256).find? fun n => s.af (Reg.AX_MODE n) 2 1 = 3 && s.af (Reg.PG_MODE n) 22 20 = p

/-- MINIV of pair p in 1/256 tick. -/
def State.minIv (s : State) (p : Nat) : Nat := 256 * s.af (Reg.FB_STEP_TIM p) 15 0

/-- DSU of pair p in 1/256 tick. -/
def State.dsu (s : State) (p : Nat) : Nat := 256 * s.af (Reg.FB_STEP_CFG p) 20 12

/-- R163: writes a word of X of axis n, at offset ofs of its part, which the descriptor of its law graph last dispatched
gives; before the first dispatch of one nothing is written (DESIGN CHOICE, log entry 212). -/
def writeAxisElem (n ofs v : Nat) (s : State) : State :=
  match (s.ax n).lawXb with
  | some xb => put32 (elemAddr (s.ax n).lawPod ((xb + ofs) % 131072)) v false s
  | none => s

/-- The record of axis n with words 1 to 4, if it is ready and its words read well (R63, R163). -/
def stepRecord (n : Nat) (s : State) : Option (Nat × Nat × Nat × Nat) × State :=
  if s.cmdReady n s.cyc s.time.tick then
    match (s.ax n).ob with
    | none => (none, s)
    | some ob =>
      let ((w1, k1), s) := read32 12 0 (netAddr ((ob + 1) % 131072)) s
      let ((w2, k2), s) := read32 12 0 (netAddr ((ob + 2) % 131072)) s
      let ((w3, k3), s) := read32 12 0 (netAddr ((ob + 3) % 131072)) s
      let ((w4, k4), s) := read32 12 0 (netAddr ((ob + 4) % 131072)) s
      let ws := s.sentWords n (w1, w2, w3, w4)
      if k1 && k2 && k3 && k4 then (some ws, retainCopy n ws s) else (none, s)
  else (none, s)

/-- R162: the steps of the record before that have not been issued. -/
def stepCarry (v : StepSt) : List (Bool × Nat) :=
  if v.left = 0 then v.carried else v.carried ++ [(v.neg, v.left)]

/-- R162: DIR takes a direction at a time in 1/256 tick. -/
def stepTurn (v : StepSt) (d : Bool) (at_ : Nat) : StepSt :=
  if d = v.dir then v else { v with dir := d, chg := some at_ }

/-- R162: no step starts within DSU of the last change of DIR. -/
def stepWait (v : StepSt) (dsu t : Nat) : Nat := match v.chg with | some c => max t (c + dsu) | none => t

/-- R161, R162: pair p takes a record of nstep steps, first interval iv, DIV div and delay ph at the
present tick. -/
def stepLoad (v : StepSt) (miniv dsu now nstep : Nat) (neg : Bool) (iv : Nat) (div : Int) (ph : Nat) : StepSt :=
  let carried := stepCarry v
  let first := now * 256 + ph * 256
  let sacc := if neg then (v.sacc + 2 ^ 32 - nstep % 2 ^ 32) % 2 ^ 32 else (v.sacc + nstep) % 2 ^ 32
  let v := { v with carried := carried, left := nstep, neg := if nstep = 0 then v.neg else neg,
                    iv := iv, div := div, ph := first, sacc := sacc }
  if !carried.isEmpty then { v with t := stepWait v dsu (max (now * 256) (v.last + miniv)) }
  else
    let v := if nstep = 0 then v else stepTurn v neg (now * 256)
    { v with t := stepWait v dsu first }

/-- R191: a STEP axis names pair p and OE is 1. -/
def State.stepOn (s : State) (p : Nat) : Bool := (s.stepAxis p).isSome && s.ab (Reg.FB_STEP_CFG p) 23

/-- R191: STEP_DIR follows DIR, inverted by DPOL, while the pair is on; off, it holds, and STEP_OUT rests. -/
def showStep (p : Nat) (s : State) : State :=
  if s.stepOn p then putStep p { s.step p with pin := (s.step p).dir != s.ab (Reg.FB_STEP_CFG p) 22 } s
  else putStep p { s.step p with pulseEnd := none } s

/-- R191: level of STEP_OUT_s; SPOL 1 is active low. None is driven in reset (R493). -/
def State.stepOut (s : State) (p : Nat) : Option Bool :=
  if s.pcr.inReset then none else some ((s.step p).pulseEnd.isSome != s.ab (Reg.FB_STEP_CFG p) 21)

/-- R191: level of STEP_DIR_s. None is driven in reset (R493). -/
def State.stepDir (s : State) (p : Nat) : Option Bool := if s.pcr.inReset then none else some (s.step p).pin

/-- The output phase at pair p (R161 to R163). -/
def stepOutputPhase (p : Nat) (s : State) : State :=
  match s.stepAxis p with
  | none => s
  | some n =>
    let (r, s) := stepRecord n s
    let s := axTripIf r.isNone n 6 s
    let (w1, w2, w3, w4) := r.getD (0, 0, 0, 0)
    let k := toSigned 32 w1
    let s := onlyIf (!(stepCarry (s.step p)).isEmpty) (pgFlag n 17) s
    let v := stepLoad (s.step p) (s.minIv p) (s.dsu p) s.time.tick k.natAbs (k < 0) w2 (toSigned 32 w3) w4
    writeAxisElem n 0x7E v.sacc (showStep p (putStep p v s))

/-- R162: after the last carried step the record's steps follow. -/
def stepAfterCarry (v : StepSt) (t miniv dsu : Nat) : StepSt :=
  if v.left = 0 then v
  else
    let v := stepTurn v v.neg t
    { v with t := stepWait v dsu (max v.ph (t + miniv)) }

/-- R161, R162: the next step of a pair starts at its time; whether its following interval was clamped. -/
def stepNext (v : StepSt) (miniv dsu : Nat) : Bool × StepSt :=
  let t := v.t
  let count (d : Bool) : Nat := if d then (v.spos + 2 ^ 32 - 1) % 2 ^ 32 else (v.spos + 1) % 2 ^ 32
  match v.carried with
  | (d, k) :: rest =>
    let v := { v with spos := count d, last := t, dir := d }
    if 1 < k then (false, { v with carried := (d, k - 1) :: rest, t := t + miniv })
    else
      match rest with
      | (d2, _) :: _ =>
        let v := stepTurn { v with carried := rest } d2 t
        (false, { v with t := stepWait v dsu (t + miniv) })
      | [] => (false, stepAfterCarry { v with carried := [] } t miniv dsu)
  | [] =>
    let iv := if v.iv < (miniv : Int) then (miniv : Int) else v.iv
    (v.iv < (miniv : Int) && 1 < v.left,
     { v with spos := count v.neg, last := t, left := v.left - 1, t := t + iv.toNat, iv := iv + v.div })

/-- STEP_ISSUE at pair p. -/
def stepIssue (p : Nat) (s : State) : State :=
  let v := s.step p
  if v.left = 0 && v.carried.isEmpty then s
  else
    let s := advanceTo (v.t / 256) s
    let (clamped, v) := stepNext v (s.minIv p) (s.dsu p)
    let s := match clamped, s.stepAxis p with | true, some n => pgFlag n 16 s | _, _ => s
    showStep p (putStep p { v with pulseEnd := some (s.time.tick + s.af (Reg.FB_STEP_CFG p) 11 0) } s)

/-- STEP_ISSUE (R161). -/
def execStepIssue (pair : Fin 8) (s : State) : Host.Outcome State Fault Refusal :=
  done (onlyIf (s.loopOn && s.domOn 1) (stepIssue pair) s)

/-- R191: STEP_OUT of a pair returns to its inactive level. -/
def stepPulseEnd (p : Nat) (s : State) : State :=
  match (s.step p).pulseEnd with
  | some t =>
    let s := advanceTo t s
    putStep p { s.step p with pulseEnd := none } s
  | none => s

/-- STEP_PULSE_END (R191). -/
def execStepPulseEnd (pair : Fin 8) (s : State) : Host.Outcome State Fault Refusal :=
  done (onlyIf (s.loopOn && s.domOn 1) (stepPulseEnd pair) s)

end Sys2Proof.Machine
end

