-- ==== Sys2Proof/Machine/Acq.lean ====
section
/-! DEFINITION. Capture and trigger: the access wheel and the writer FIFO (R309, R310), the capture instant
(R312), Sprout (R320 to R329), areas and their records (R314 to R319, R331 to R333). -/

namespace Sys2Proof.Machine

/-! Areas. -/

/-- Hidden state of area a. -/
def State.area (s : State) (a : Nat) : AreaSt := kvGet (fun _ => {}) s.acq.areas a

/-- Stores it. -/
def putArea (a : Nat) (v : AreaSt) (s : State) : State :=
  { s with acq := { s.acq with areas := kvPut (fun _ => {}) s.acq.areas a v } }

/-- MODE of area a. -/
def State.areaMode (s : State) (a : Nat) : Nat := s.af (Reg.ACQ_AREA_CTL a) 1 0

/-- ASTATE of area a: 0 OFF, 1 IDLE, 2 ARMED, 3 POST, 4 DONE, 5 STOPPED. -/
def State.astate (s : State) (a : Nat) : Nat := s.rf (Reg.ACQ_AREA_STAT a) 26 24

/-- Area a stores records: ARMED or POST. -/
def State.areaArmed (s : State) (a : Nat) : Bool := s.astate a = 2 || s.astate a = 3

/-- R314: lines of a record with n signals. -/
def recLines (n : Nat) : Nat := if n ≤ 12 then 1 else 2

/-- R314: ALEN of a GEO and a CTL word. -/
def alenOf (geo ctl : Word) : Nat := fld geo 31 16 / recLines (fld ctl 8 4)

/-- ALEN of area a. -/
def State.alen (s : State) (a : Nat) : Nat := s.rf (Reg.ACQ_AREA_LEN a) 15 0

/-- WP of area a. -/
def State.wp (s : State) (a : Nat) : Nat := s.rf (Reg.ACQ_AREA_STAT a) 15 0

/-- EPOCH of area a. -/
def State.epoch (s : State) (a : Nat) : Nat := s.rf (Reg.ACQ_AREA_STAT a) 23 16

/-- The capture block works: domain powered, clock running. -/
def State.acqOn (s : State) : Bool := s.loopOn && s.domOn 8

/-- Sets a bit of ACQ_ERR and reports it. -/
def acqErr (b a : Nat) (s : State) : State := flagEvent 9 0 b clsWarn a Reg.ACQ_ERR s

/-- R310: a refused record or status line of area a. -/
def refuseLine (a : Nat) (s : State) : State :=
  let v := s.area a
  acqErr 1 a (incRf (Reg.ACQ_AREA_CNT a) 15 0 (putArea a { v with gap := true, lost := satAdd 32 v.lost 1 } s))

/-! The wheel. -/

/-- R309: owner of wheel slot i. -/
def State.slotOwner (s : State) (i : Nat) : Nat :=
  if i < 8 then s.af Reg.ACQ_WHEEL_0 (4 * i + 3) (4 * i) else s.af Reg.ACQ_WHEEL_1 (4 * i - 29) (4 * i - 32)

/-- The first slot of an owner that starts at the present tick or later and after slot number k;
slots are numbered from tick 0, four ticks each. -/
def State.nextSlot (s : State) (owner k : Nat) : Option Nat :=
  let first := max ((s.time.tick + 3) / 4) (k + 1)
  ((List.range 16).map (first + ·)).find? fun j => s.slotOwner (j % 16) = owner

/-- Stores a line of 16 words in capture memory. -/
def storeLine (line : Nat) (ws : List Nat) (s : State) : State :=
  let g (i : Nat) : Nat := ws.getD i 0 % 2 ^ 32
  forAll (List.range 8) (fun i => write64 (memBase 7 + 64 * (line % 65536) + 8 * i) (g (2 * i) + 2 ^ 32 * g (2 * i + 1))) s

/-- R309, R310: the next writer slot stores one line. -/
def fifoDrain (s : State) : State :=
  match s.acq.fifo, s.nextSlot 1 s.acq.slotW with
  | (line, ws) :: rest, some k =>
    let s := advanceTo (4 * k) s
    storeLine line ws { s with acq := { s.acq with fifo := rest, slotW := k } }
  | _, _ => s

/-- FIFO_DRAIN (R310). -/
def execFifoDrain (s : State) : Host.Outcome State Fault Refusal := done (onlyIf s.acqOn fifoDrain s)

/-! The capture instant. -/

/-- R312: a word for a signal descriptor (Table 11-1) at the present tick and whether it is good. -/
def readSignal (d : Word) (s : State) : (Nat × Bool) × State :=
  match fld d 31 29 with
  | 1 => read32 7 0 (elemAddr (fld d 18 17) (fld d 16 0)) s
  | 2 => read32 7 0 (netAddr (fld d 16 0)) s
  | 3 => ((s.rf Reg.FIO_IN_LVL 15 0 + 65536 * s.rf Reg.FIO_OUT 7 0, true), s)
  | _ => ((0, true), s)

/-- Reads one descriptor after another, one every two ticks (R312). -/
def readSignals : List Nat → State → List (Nat × Bool) × State
  | [], s => ([], s)
  | a :: as, s =>
    let (v, s) := readSignal (s.act a) s
    let (vs, s) := readSignals as (advanceTo (s.time.tick + 2) s)
    ((if v.2 then v.1 else 0x7FC00000, v.2) :: vs, s)

/-- R333: WP that a change of length has left at or beyond ALEN goes on at 0 once the record there has been read. -/
def wrapWp (a : Nat) (s : State) : State :=
  onlyIf (s.alen a ≤ s.wp a && (s.area a).nalen = 0 && (s.area a).rp ≠ 0) (setRf (Reg.ACQ_AREA_STAT a) 15 0 0) s

/-- R333: a pending length of area a takes effect: a read index at or beyond it goes on at 0, with WP where the area holds
no unread record. -/
def takeLength (a : Nat) (s : State) : State :=
  let v := s.area a
  let s := onlyIf (v.nalen ≤ v.rp && s.wp a = v.rp) (setRf (Reg.ACQ_AREA_STAT a) 15 0 0) s
  let rp := if v.nalen ≤ v.rp then 0 else v.rp
  let s := setRb (Reg.ACQ_AREA_STAT a) 27 false (putArea a { v with nalen := 0, wrapped := false, rp := rp } s)
  setReg (Reg.ACQ_AREA_LEN a) (BitVec.ofNat 32 v.nalen) s

/-- R331: area a takes its read index. -/
def takeRp (a : Nat) (s : State) : State :=
  let (w, ok, s) :=
    if s.ab (Reg.ACQ_AREA_CTL a) 3 then ((s.reg (Reg.ACQ_AREA_RP a)).toNat, true, s)
    else let ((w, ok), s) := read32 7 0 (0x101F2020 + 4 * a) s; (w, ok, s)
  let v := s.area a
  let rp := if bitsOf w 23 16 ≠ s.epoch a then 0 else bitsOf w 15 0
  let rp := if ok && rp < s.alen a then rp else v.rp
  let s := putArea a { v with rp := rp } s
  let s := onlyIf (v.nalen ≠ 0 && v.wrapped && rp < v.rp) (takeLength a) s
  onlyIf (decide (s.areaMode a = 2)) (wrapWp a) s

/-- R312: the signals of area a. -/
def readArea (a : Nat) (s : State) : State :=
  let (vs, s) := readSignals ((List.range (s.af (Reg.ACQ_AREA_CTL a) 8 4)).map (fun i => Reg.ACQ_SIG (32 * a + i))) s
  let s := forAll (vs.filter (fun v => !v.2)) (fun _ t => acqErr 0 a (incRf (Reg.ACQ_AREA_CNT a) 31 16 t)) s
  putArea a { s.area a with sigs := vs.map (·.1), psn := vs.any (fun v => !v.2) } s

/-- R312: the first tick at or after the capture instant of the present cycle. -/
def captureInstant (s : State) : State :=
  let s := advanceNs (s.cycStart + s.af Reg.ACQ_CFG 23 0 * 2 ^ 28) s
  let s := advanceTo s.tickUp s
  let t0 := s.time.tick
  let s := { s with acq := { s.acq with capCyc := some s.cyc, evalAt := some (t0 + 256), recAt := none } }
  let s := forAll (List.range 4) (fun a t => onlyIf (t.areaMode a ≠ 0) (takeRp a) t) s
  let (vs, s) := readSignals ((List.range 8).map Reg.ACQ_CMP_SRC) s
  let s := forAll (vs.filter (fun v => !v.2)) (fun _ => acqErr 0 0) s
  let s := { s with acq := { s.acq with cmp := vs.map (fun v => if v.2 then some v.1 else none) } }
  forAll (List.range 4) (fun a t => onlyIf (t.areaMode a ≠ 0) (readArea a) t) s

/-- CAPTURE_INSTANT (R312). -/
def execCaptureInstant (s : State) : Host.Outcome State Fault Refusal :=
  done (onlyIf (s.acqOn && s.running && s.ab Reg.ACQ_CFG 31 && s.acq.capCyc ≠ some s.cyc) captureInstant s)

/-! Comparators. -/

/-- The exact value of a binary32 word in units of 2^−149; an infinity lies beyond every number, a NaN
has none. -/
def f32Exact (w : Nat) : Option Int :=
  let e := bitsOf w 30 23
  let f := bitsOf w 22 0
  let m : Int := if e = 0 then f else (2 ^ 23 + f) * 2 ^ (e - 1)
  if e = 255 && f ≠ 0 then none
  else
    let m : Int := if e = 255 then 2 ^ 400 else m
    some (if w.testBit 31 then -m else m)

/-- R321: a value in the type of TYPE. -/
def cmpValue (type w : Nat) : Option Int :=
  match type with
  | 0 => some (toSigned 32 w)
  | 1 => some ((w % 2 ^ 32 : Nat) : Int)
  | _ => f32Exact w

/-- Table 11-4: comparator k, with the value of this cycle and the value before. -/
def State.cmpTrue (s : State) (k : Nat) : Bool :=
  let type := s.af (Reg.ACQ_CMP_CTL k) 1 0
  let op := s.af (Reg.ACQ_CMP_CTL k) 6 4
  let thrW := (s.act (Reg.ACQ_CMP_THR k)).toNat
  match (s.acq.cmp.getD k none), (s.acq.cmp.getD k none).bind (cmpValue type) with
  | some w, some x =>
    if op = 4 then w &&& (s.act (Reg.ACQ_CMP_MSK k)).toNat = thrW
    else
      match cmpValue type thrW, (s.acq.cmpPrev.getD k none).bind (cmpValue type) with
      | none, _ => false
      | some thr, p =>
        match op, p with
        | 0, _ => thr ≤ x
        | 1, _ => x < thr
        | 2, some p => p < thr && thr ≤ x
        | 3, some p => thr ≤ p && x < thr
        | 5, _ => if type = 1 then thr ≤ x else thr ≤ (x.natAbs : Int)
        | _, _ => false
  | _, _ => false

/-- R322: an enabled axis left RSTATE 0 at this cycle start; one not enabled before stood at 3 (R128). -/
def State.reacting (s : State) : Bool :=
  (List.range 256).any fun n =>
    s.axEn s.cyc n && bit (s.actPrev (Reg.AX_MODE n)) 0 && (s.ax n).rs ≠ 0 && (s.ax n).rsPrev = 0

/-- Table 11-5. -/
def State.condTrue (s : State) (code : Nat) : Bool :=
  match code with
  | 0 => false
  | 1 => true
  | 10 => s.af Reg.ACQ_SQ_CLIM 15 0 ≤ s.rf Reg.ACQ_SQ_CVAL 15 0
  | 11 => s.af Reg.ACQ_SQ_CLIM 31 16 ≤ s.rf Reg.ACQ_SQ_CVAL 31 16
  | 12 => s.acq.tmrExp.contains 0
  | 13 => s.acq.tmrExp.contains 1
  | 14 => (kvGet (fun _ => none) s.acq.edges 0).isSome
  | 15 => (kvGet (fun _ => none) s.acq.edges 1).isSome
  | 16 => s.reacting
  | c => if 2 ≤ c && c ≤ 9 then s.cmpTrue (c - 2) else false

/-! Sprout. -/

/-- PHASE of Sprout: 0 IDLE, 1 HOLD, 2 RUN, 3 FIRED. -/
def State.phase (s : State) : Nat := s.rf Reg.ACQ_SQ_STAT 5 4

/-- R323 step 1: a running timer loses 1 and expires at 0. -/
def tickTimer (k : Nat) (s : State) : State :=
  if s.acq.tmrRun.contains k then
    let hi := 16 * k + 15
    let n := s.rf Reg.ACQ_SQ_TVAL hi (16 * k) - 1
    let s := setRf Reg.ACQ_SQ_TVAL hi (16 * k) n s
    if n = 0 then { s with acq := { s.acq with tmrRun := s.acq.tmrRun.erase k, tmrExp := k :: s.acq.tmrExp } } else s
  else s

/-- R326: the trigger point against the sampling instant of the trigger cycle, for a branch that fired
on a condition code; for a quotient that the values leave open, a free value. -/
def trigOfs (neg : Bool) (code : Nat) (s : State) : Nat × State :=
  let k := code - 2
  let op := s.af (Reg.ACQ_CMP_CTL k) 6 4
  let type := s.af (Reg.ACQ_CMP_CTL k) 1 0
  let cl16 : Int := s.clen * 16
  if neg then (0, s)
  else if code = 14 || code = 15 then
    match kvGet (fun _ => none) s.acq.edges (code - 14) with
    | some t => (ofSigned 32 ((t : Int) - (s.cycStart / 2 ^ 28 : Nat)), s)
    | none => (0, s)
  else if 2 ≤ code && code ≤ 9 && (op = 2 || op = 3) then
    match (s.acq.cmp.getD k none).bind (cmpValue type), (s.acq.cmpPrev.getD k none).bind (cmpValue type),
        cmpValue type (s.act (Reg.ACQ_CMP_THR k)).toNat with
    | some x, some p, some thr =>
      if x.natAbs < 2 ^ 400 && p.natAbs < 2 ^ 400 && thr.natAbs < 2 ^ 400 then
        (ofSigned 32 (Int.tdiv (cl16 * (thr - x)) (x - p)), s)
      else (s.freeBits 32, useFree s)
    | _, _, _ => (0, s)
  else (0, s)

/-- R318: what a fire does to area a, in cycle `cyc` with trigger cycle `trig`. -/
def areaFire (trig cyc a : Nat) (s : State) : State :=
  if s.areaMode a = 1 && s.astate a = 2 then
    let post := s.af (Reg.ACQ_AREA_PP a) 31 16
    let st := if post = 0 && trig < cyc then 4 else 3
    setRf (Reg.ACQ_AREA_STAT a) 26 24 st (putArea a { s.area a with postLeft := post } s)
  else s

/-- R324: Sprout fires with trigger cycle, trigger point and TCOND. -/
def fire (trig tofs tcond : Nat) (s : State) : State :=
  let s := setReg Reg.ACQ_TRG_CYC_LO (BitVec.ofNat 32 trig) s
  let s := setReg Reg.ACQ_TRG_CYC_HI (BitVec.ofNat 32 (2 ^ 31 + tcond * 65536 + trig / 2 ^ 32 % 65536)) s
  let s := setReg Reg.ACQ_TRG_TOFS (BitVec.ofNat 32 tofs) s
  let s := setRf Reg.ACQ_SQ_STAT 5 4 3 s
  let s := onlyIf (s.ab Reg.ACQ_TIN_CFG 2) (fun t => { t with acq := { t.acq with xDue := some (t.time.tick + 32) } }) s
  forAll (List.range 4) (areaFire trig s.cyc) s

/-- Table 11-6: the actions of a branch that was taken on a condition. -/
def branchActions (act code : Nat) (neg : Bool) (s : State) : State :=
  let (ofs, s0) := if act.testBit 0 then trigOfs neg code s else (0, s)
  let s := onlyIf (act.testBit 5) (setReg Reg.ACQ_SQ_CVAL 0) s0
  let s := onlyIf (act.testBit 1) (incRf Reg.ACQ_SQ_CVAL 15 0) s
  let s := onlyIf (act.testBit 2) (incRf Reg.ACQ_SQ_CVAL 31 16) s
  let start (k : Nat) (t : State) : State :=
    let n := t.af Reg.ACQ_SQ_TLIM (16 * k + 15) (16 * k)
    let t := setRf Reg.ACQ_SQ_TVAL (16 * k + 15) (16 * k) n t
    let run := t.acq.tmrRun.erase k
    let ex := t.acq.tmrExp.erase k
    { t with acq := { t.acq with tmrRun := if n = 0 then run else k :: run, tmrExp := if n = 0 then k :: ex else ex } }
  let s := onlyIf (act.testBit 3) (start 0) s
  let s := onlyIf (act.testBit 4) (start 1) s
  onlyIf (act.testBit 0) (fire s.cyc ofs code) s

/-- R323: one evaluation of the present state. -/
def runState (s : State) : State :=
  let s := tickTimer 1 (tickTimer 0 s)
  let w := s.act (Reg.ACQ_SQ_ST (s.rf Reg.ACQ_SQ_STAT 2 0))
  let a := fld w 15 0
  let b := fld w 31 16
  let holds (br : Nat) : Bool := s.condTrue (bitsOf br 4 0) != br.testBit 5
  let take (br : Nat) : State :=
    setRf Reg.ACQ_SQ_STAT 2 0 (bitsOf br 8 6) (branchActions (bitsOf br 14 9) (bitsOf br 4 0) (br.testBit 5) s)
  if holds a then take a else if holds b then take b else s

/-- R318, R320: every RING area holds PRE records. -/
def State.preDone (s : State) : Bool :=
  (List.range 4).all fun a => s.areaMode a ≠ 1 || s.af (Reg.ACQ_AREA_PP a) 15 0 ≤ min (s.area a).cnt (s.alen a)

/-- R329: the trigger cycle and point of a latched cascade edge. -/
def fireEdge (t : Nat) (s : State) : State :=
  let cl16 := s.clen * 16
  let n := (t - s.af Reg.ACQ_CFG 23 0) / cl16
  fire (n % 2 ^ 48) (ofSigned 32 ((t : Int) - (n * cl16 : Nat))) 0x3F s

/-- R323: the evaluation tick. -/
def sproutEvaluate (tick : Nat) (s : State) : State :=
  let s := advanceTo tick s
  let s := { s with acq := { s.acq with evalAt := none, recAt := some (tick + 8) } }
  let s :=
    match s.acq.xedge with
    | some t => if s.phase = 1 || s.phase = 2 then fireEdge t s else s
    | none =>
      let s := onlyIf (s.phase = 1 && s.preDone) (setRf Reg.ACQ_SQ_STAT 5 4 2) s
      onlyIf (s.phase = 2) runState s
  { s with acq := { s.acq with edges := [], xedge := none, cmpPrev := s.acq.cmp } }

/-- SPROUT_EVALUATE (R323). -/
def execSproutEvaluate (s : State) : Host.Outcome State Fault Refusal :=
  done (match s.acq.evalAt with
    | some t => onlyIf s.acqOn (sproutEvaluate t) s
    | none => s)

/-! Records. -/

/-- R310: lines enter the FIFO if all of them find room. -/
def fifoPut (lines : List (Nat × List Nat)) (s : State) : Option State :=
  if s.acq.fifo.length + lines.length ≤ 32 then some { s with acq := { s.acq with fifo := s.acq.fifo ++ lines } }
  else none

/-- Table 11-2: the words of a record. -/
def recordWords (a : Nat) (s : State) : List Nat :=
  let v := s.area a
  [s.cyc % 2 ^ 32, s.cyc / 2 ^ 32 % 65536 + b2n v.gap * 65536 + b2n v.psn * 131072 + s.epoch a * 2 ^ 24, v.cnt % 2 ^ 32, 0]
    ++ v.sigs ++ List.replicate (27 - v.sigs.length) 0 ++ [v.cnt % 2 ^ 32]

/-- The lines of a record at index i of area a. -/
def recordLines (a i : Nat) (s : State) : List (Nat × List Nat) :=
  let l := recLines (s.af (Reg.ACQ_AREA_CTL a) 8 4)
  let line := s.af (Reg.ACQ_AREA_GEO a) 15 0 + 1 + l * i
  let ws := recordWords a s
  if l = 1 then [(line, ws.take 16)] else [(line, ws.take 16), (line + 1, ws.drop 16)]

/-- Table 11-3: the status line of area a. -/
def statusLine (a : Nat) (s : State) : Nat × List Nat :=
  let v := s.area a
  let st := s.reg (Reg.ACQ_AREA_STAT a)
  let hi := s.reg Reg.ACQ_TRG_CYC_HI
  (s.af (Reg.ACQ_AREA_GEO a) 15 0,
   [fld st 23 16 + fld st 26 24 * 256 + fld st 27 27 * 2048 + fld st 28 28 * 4096,
    s.wp a + 65536 * s.alen a, s.rf (Reg.ACQ_AREA_LEN a) 31 16 + 65536 * v.nalen, v.lost, v.cnt % 2 ^ 32, v.lastCyc,
    (s.reg Reg.ACQ_TRG_CYC_LO).toNat, hi.toNat, (s.reg Reg.ACQ_TRG_TOFS).toNat])

/-- R331, R333: index 0 may be written while the record at hand has index w and the reader stands at r. -/
def zeroFree (w r : Nat) : Bool := r ≤ w && r ≠ 0 && r ≠ 1

/-- R332, R333: where the next record of a STREAM area goes (index, next WP, MARK), or why it is refused
(true for a pending length). WP stands at ALEN where a change of length left the area full; nothing is written until
the reader has moved on (DESIGN CHOICE, log entry 220). -/
def streamPlace (w alen nalen r mark : Nat) : (Nat × Nat × Nat) ⊕ Bool :=
  if nalen ≠ 0 && nalen ≤ w then (if zeroFree w r then .inl (0, 1, w) else .inr true)
  else if alen ≤ w then .inr false
  else
    let nx := if w + 1 = alen then 0 else w + 1
    if nx = r then .inr false else .inl (w, nx, mark)

/-- A record of area a is stored at index i, then the status line. -/
def storeRecord (a i wp mark : Nat) (s : State) : State :=
  match fifoPut (recordLines a i s) s with
  | none => refuseLine a s
  | some s =>
    let v := s.area a
    let full := s.areaMode a = 1 && s.alen a ≤ v.cnt
    let wrap := v.wrapped || (v.nalen ≠ 0 && wp ≤ s.wp a)
    let trig := (s.reg Reg.ACQ_TRG_CYC_LO).toNat + 2 ^ 32 * s.rf Reg.ACQ_TRG_CYC_HI 15 0
    let left := if s.astate a = 3 && trig < s.cyc then v.postLeft - 1 else v.postLeft
    let s := putArea a { v with gap := false, cnt := v.cnt + 1, lastCyc := s.cyc % 2 ^ 32, wrapped := wrap, postLeft := left } s
    let s := setRf (Reg.ACQ_AREA_STAT a) 15 0 wp (setRf (Reg.ACQ_AREA_LEN a) 31 16 mark s)
    let s := onlyIf full (setRb (Reg.ACQ_AREA_STAT a) 28 true) s
    let s := onlyIf (s.astate a = 3 && left = 0 && trig ≤ s.cyc) (setRf (Reg.ACQ_AREA_STAT a) 26 24 4) s
    match fifoPut [statusLine a s] s with
    | some s => s
    | none => refuseLine a s

/-- R317 to R319, R332, R333: area a stores its record of the present cycle; a RING area with POST 0 is DONE after the
trigger cycle, whether its record was stored or refused. -/
def areaStore (a : Nat) (s : State) : State :=
  let w := s.wp a
  let due := s.cyc % 2 ^ s.af (Reg.ACQ_AREA_CTL a) 15 12 = 0
  let trig := (s.reg Reg.ACQ_TRG_CYC_LO).toNat + 2 ^ 32 * s.rf Reg.ACQ_TRG_CYC_HI 15 0
  let fired := s.rb Reg.ACQ_TRG_CYC_HI 31
  match s.areaMode a with
  | 1 =>
    let full := s.astate a = 3 && (s.area a).postLeft = 0 && trig < s.cyc
    let s := onlyIf (s.areaArmed a && due && !full) (storeRecord a w (if s.alen a ≤ w + 1 then 0 else w + 1) 0) s
    onlyIf (s.astate a = 3 && (s.area a).postLeft = 0 && trig ≤ s.cyc) (setRf (Reg.ACQ_AREA_STAT a) 26 24 4) s
  | 2 =>
    if s.areaArmed a && due && (!(s.ab (Reg.ACQ_AREA_CTL a) 2) || (fired && trig < s.cyc)) then
      match streamPlace w (s.alen a) (s.area a).nalen (s.area a).rp (s.rf (Reg.ACQ_AREA_LEN a) 31 16) with
      | .inl (i, nx, mark) => storeRecord a i nx mark s
      | .inr pending => onlyIf pending (acqErr 2 a) (refuseLine a s)
    else s
  | _ => s

/-- R317: the records of the present cycle; none while capture memory is initialised (R393). -/
def recordStore (tick : Nat) (s : State) : State :=
  let s := advanceTo tick s
  let s := { s with acq := { s.acq with recAt := none } }
  onlyIf (s.memDone 7) (forAll (List.range 4) areaStore) s

/-- RECORD_STORE (R317). -/
def execRecordStore (s : State) : Host.Outcome State Fault Refusal :=
  done (match s.acq.recAt with
    | some t => onlyIf s.acqOn (recordStore t) s
    | none => s)

/-! Arming, stopping and commits. -/

/-- R320: area a is armed; a refusal before it still shows in the next stored record (R310). -/
def armArea (a : Nat) (s : State) : State :=
  if s.areaMode a = 0 then s
  else
    let len := alenOf (s.act (Reg.ACQ_AREA_GEO a)) (s.act (Reg.ACQ_AREA_CTL a))
    let s := putArea a { sigs := (s.area a).sigs, psn := (s.area a).psn, gap := (s.area a).gap } s
    let s := setReg (Reg.ACQ_AREA_LEN a) (BitVec.ofNat 32 len) s
    setReg (Reg.ACQ_AREA_STAT a) (BitVec.ofNat 32 (2 * 2 ^ 24 + (s.epoch a + 1) % 256 * 65536)) s

/-- R320: Sprout and the areas are armed. -/
def armSprout (s : State) : State :=
  let s := forAll (List.range 4) armArea s
  let s := { s with acq := { s.acq with arm := false, cmpPrev := [], tmrRun := [], tmrExp := [], edges := [], xedge := none } }
  let s := setRb Reg.ACQ_TRG_CYC_HI 31 false (setReg Reg.ACQ_SQ_TVAL 0 (setReg Reg.ACQ_SQ_CVAL 0 s))
  let hold := (List.range 4).any fun a => s.areaMode a = 1 && s.af (Reg.ACQ_AREA_PP a) 15 0 ≠ 0
  setReg Reg.ACQ_SQ_STAT (BitVec.ofNat 32 ((if hold then 1 else 2) * 16 + s.af Reg.ACQ_SQ_CTL 10 8)) s

/-- R325: Sprout returns to IDLE and every armed area is stopped. -/
def stopSprout (s : State) : State :=
  let s := { s with acq := { s.acq with arm := false, stop := false } }
  let s := setRf Reg.ACQ_SQ_STAT 5 4 0 s
  forAll (List.range 4) (fun a t => onlyIf (t.areaArmed a) (setRf (Reg.ACQ_AREA_STAT a) 26 24 5) t) s

/-- What the cycle start does in the ACQ block after the commits (R320, R325, Table 11-7). -/
def acqCycleStart (s : State) : State :=
  if !(s.domOn 8) then s
  else if s.acq.stop then stopSprout s
  else onlyIf s.acq.arm armSprout s

/-- R320, R333: what a commit of area a does, given its GEO word before. -/
def areaCommitted (a : Nat) (geo : Word) (s : State) : State :=
  let len := alenOf (s.act (Reg.ACQ_AREA_GEO a)) (s.act (Reg.ACQ_AREA_CTL a))
  if s.areaMode a = 0 then setRf (Reg.ACQ_AREA_STAT a) 26 24 0 (setRf (Reg.ACQ_AREA_LEN a) 15 0 len s)
  else if s.astate a = 0 then setRf (Reg.ACQ_AREA_STAT a) 26 24 1 (setRf (Reg.ACQ_AREA_LEN a) 15 0 len s)
  else if !(s.areaArmed a) then setRf (Reg.ACQ_AREA_LEN a) 15 0 len s
  else if fld geo 31 16 = s.af (Reg.ACQ_AREA_GEO a) 31 16 then s
  else if s.wp a = (s.area a).rp then
    let s := putArea a { s.area a with nalen := 0, wrapped := false } s
    let s := setReg (Reg.ACQ_AREA_LEN a) (BitVec.ofNat 32 len) (setRb (Reg.ACQ_AREA_STAT a) 27 false s)
    if len ≤ s.wp a then setRf (Reg.ACQ_AREA_STAT a) 15 0 0 (putArea a { s.area a with rp := 0 } s) else s
  else setRb (Reg.ACQ_AREA_STAT a) 27 true (putArea a { s.area a with nalen := len, wrapped := false } s)

/-- R320: a commit that changes ARMID arms at its cycle start. -/
def sqCommitted (ctl : Word) (s : State) : State :=
  onlyIf (fld ctl 7 0 ≠ s.af Reg.ACQ_SQ_CTL 7 0) (fun t => { t with acq := { t.acq with arm := true } }) s

/-- ACQ_ARM (R320). -/
def execAcqArm (s : State) : Host.Outcome State Fault Refusal :=
  done (regWrite Reg.ACQ_SQ_CMD (fun t => { t with acq := { t.acq with arm := true } }) s)

/-- ACQ_STOP (R325): with no cycles running it waits as an arming does. -/
def execAcqStop (s : State) : Host.Outcome State Fault Refusal :=
  done (regWrite Reg.ACQ_SQ_CMD (fun t => { t with acq := { t.acq with stop := true } }) s)

/-! Edges. -/

/-- The instant, in units of 2^−32 ns, of an edge at an offset in 1/16 ns from the present cycle start. -/
def State.edgeInstant (s : State) (ofs : Nat) : Nat := min (s.cycStart + ofs * 2 ^ 28) (s.time.nextNs - 1)

/-- R327: the time stamp, in 1/16 ns, of an edge at an instant: accurate to 1 ns, a free value. -/
def edgeStamp (u : Nat) (s : State) : Nat × State := (u / 2 ^ 28 + s.freeBits 64 % 33 - 16, useFree s)

/-- R327: an active edge at pin k at an instant. -/
def pinEdge (k u : Nat) (s : State) : State :=
  let (t, s) := edgeStamp u s
  match kvGet (fun _ => none) s.acq.edges k with
  | some _ => acqErr 4 0 s
  | none => { s with acq := { s.acq with edges := kvPut (fun _ => none) s.acq.edges k (some t) } }

/-- TRIGGER_EDGE (R327): a rising or falling edge of a pin at an offset in 1/16 ns from the present
cycle start; TPOL selects the active one. -/
def execTriggerEdge (edge : PinEdge) (ofs : Nat) (s : State) : Host.Outcome State Fault Refusal :=
  let u := s.edgeInstant ofs
  done (onlyIf (s.acqOn && s.running && s.ab Reg.ACQ_CFG 31) (fun t =>
    let t := advanceNs u t
    onlyIf (edge.rising != t.ab Reg.ACQ_TIN_CFG edge.pin) (pinEdge edge.pin u) t) s)

/-- R329: a falling edge at ACQ_XTRIG_N at an instant. -/
def xtrigEdge (u : Nat) (s : State) : State :=
  let (t, s) := edgeStamp u s
  if s.phase = 0 then acqErr 3 0 s
  else if (s.phase = 1 || s.phase = 2) && s.acq.xDrive.isNone && s.acq.xedge.isNone then
    { s with acq := { s.acq with xedge := some t } }
  else s

/-- XTRIG_EDGE (R329). -/
def execXtrigEdge (ofs : Nat) (s : State) : Host.Outcome State Fault Refusal :=
  let u := s.edgeInstant ofs
  done (onlyIf (s.acqOn && s.running && s.ab Reg.ACQ_CFG 31 && s.ab Reg.ACQ_TIN_CFG 3)
    (fun t => xtrigEdge u (advanceNs u t)) s)

/-- R328: the unit drives ACQ_XTRIG_N low for 1 µs. -/
def execXtrigDrive (s : State) : Host.Outcome State Fault Refusal :=
  done (match s.acq.xDue with
    | some t => onlyIf s.acqOn (fun s =>
        let s := advanceTo t s
        { s with acq := { s.acq with xDue := none, xDrive := some (t + 800) } }) s
    | none => s)

/-- R328: the unit releases it. -/
def execXtrigRelease (s : State) : Host.Outcome State Fault Refusal :=
  done (match s.acq.xDrive with
    | some t => onlyIf s.acqOn (fun s =>
        let s := advanceTo t s
        { s with acq := { s.acq with xDrive := none } }) s
    | none => s)

end Sys2Proof.Machine
end

