-- ==== Sys2Proof/Machine/Fb.lean ====
section
/-! DEFINITION. Local feedback channels and encoder emulation (chapter 6), and the output phase. -/

namespace Sys2Proof.Machine

/-- State of local channel c beyond its registers. -/
def State.chan (s : State) (c : Nat) : ChanSt := kvGet (fun _ => {}) s.chans c

/-- Stores it. -/
def putChan (c : Nat) (v : ChanSt) (s : State) : State := { s with chans := kvPut (fun _ => {}) s.chans c v }

/-- Table 6-1: MODE of channel c. -/
def State.chMode (s : State) (c : Nat) : Nat := s.af (Reg.FB_CH_CTL c) 2 0

/-- R169: EN of channel c. -/
def State.chEn (s : State) (c : Nat) : Bool := s.ab (Reg.FB_CH_CTL c) 4

/-- Signed field of an active copy. -/
def State.sf (s : State) (a hi lo : Nat) : Int := toSigned (hi + 1 - lo) (s.af a hi lo)

/-- CSTAT bits of Table 6-2 collected for the next record. -/
def chFlag (c b : Nat) (s : State) : State :=
  putChan c { s.chan c with stat := (s.chan c).stat ||| 2 ^ b } s

/-- A count of ±1 modulo 2^32, reversed by INV. -/
def countStep (n : Nat) (up : Bool) : Nat := if up then (n + 1) % 2 ^ 32 else (n + 2 ^ 32 - 1) % 2 ^ 32

/-- Place of levels A, B in the four-state sequence with A leading B: 00, 10, 11, 01. -/
def quadPlace (a b : Bool) : Nat :=
  match a, b with | false, false => 0 | true, false => 1 | true, true => 2 | false, true => 3

/-- R175: an illegal transition of channel c. -/
def illegalEdge (c : Nat) (s : State) : State := incRf (Reg.FB_CH_CNT c) 15 0 (chFlag c 2 s)

/-- A count by one place forward (d = 1) or back (d = last), reversed by INV; any other change leaves it. -/
def countPlace (inv : Bool) (last d n : Nat) : Nat :=
  if d = 1 then countStep n (!inv) else if d = last then countStep n inv else n

/-- R175, R176: the filtered levels A, B, Z change to n; the CSTAT bits that it sets. -/
def quadDecode (inv : Bool) (v : ChanSt) (n : Nat) : Nat × ChanSt :=
  let d := (quadPlace (n.testBit 2) (n.testBit 1) + 4 - quadPlace (v.lines.testBit 2) (v.lines.testBit 1)) % 4
  let count := countPlace inv 3 d v.count
  let z := n.testBit 0 && !(v.lines.testBit 0)
  (b2n (d = 2) * 4 + b2n z * 1024, { v with lines := n, count := count, zpos := if z then count else v.zpos })

/-- R181: a rising reference mark latches POS. -/
def markDecode (v : ChanSt) (n : Nat) : Nat × ChanSt :=
  let z := n.testBit 0 && !(v.lines.testBit 0)
  (b2n z * 1024, { v with lines := n, zpos := if z then v.pos else v.zpos })

/-- Place of a U V W state in the forward sequence 1, 3, 2, 6, 4, 5 (R178). -/
def hallPlace (n : Nat) : Nat :=
  match n with | 1 => 0 | 3 => 1 | 2 => 2 | 6 => 3 | 4 => 4 | _ => 5

/-- More than one of the three lines differs. -/
def twoLines (a b : Nat) : Bool := 1 < b2n (a.testBit 0 != b.testBit 0) + b2n (a.testBit 1 != b.testBit 1) + b2n (a.testBit 2 != b.testBit 2)

/-- R178: the filtered levels U, V, W change to n; the CSTAT bits that it sets. A return to a valid state is judged
against the last valid one alone. -/
def hallDecode (inv : Bool) (v : ChanSt) (n : Nat) : Nat × ChanSt :=
  if n = 0 || n = 7 then (16 + b2n (twoLines v.lines n) * 4, { v with lines := n })
  else if v.hall = 0 then (0, { v with lines := n, hall := n })
  else
    let d := (hallPlace n + 6 - hallPlace v.hall) % 6
    (b2n (2 ≤ d && d ≤ 4) * 4, { v with lines := n, hall := n, count := countPlace inv 5 d v.count })

/-- What a change of the filtered levels to n does in each mode. -/
def lineDecode (mode : Nat) (inv : Bool) (v : ChanSt) (n : Nat) : Nat × ChanSt :=
  match mode with
  | 0 => quadDecode inv v n
  | 1 => markDecode v n
  | 2 => hallDecode inv v n
  | _ => (0, { v with lines := n })

/-- R174: how many samples in a row a line has given its level, after one more sample. -/
def lineRun (same : Bool) (n : Nat) : Nat := if same then min (n + 1) 256 else 1

/-- R174: the filtered levels after a sample x: a level becomes the filtered one once it has stood for `need`
samples in a row. Lockstep is read as one sampling and one FILT for the three lines, each accepted by its own run
(DEDUCED, log entry 197). -/
def filterLines (need : Nat) (v : ChanSt) (x : Nat) : (Nat × Nat × Nat) × Nat :=
  let same (k : Nat) : Bool := v.raw.testBit k == x.testBit k
  let r := (lineRun (same 0) v.runs.1, lineRun (same 1) v.runs.2.1, lineRun (same 2) v.runs.2.2)
  let line (k n : Nat) : Nat := b2n (if need ≤ n then x.testBit k else v.lines.testBit k)
  (r, line 0 r.1 + 2 * line 1 r.2.1 + 4 * line 2 r.2.2)

/-- R174: FILT + 1 of channel c. -/
def State.filt (s : State) (c : Nat) : Nat := s.af (Reg.FB_CH_CTL c) 15 8 + 1

/-- R174 to R176: the receivers of channel c are sampled as x in the sysclk that comes next; a change in the sysclk of
the sampling instant belongs to what that instant latches. -/
def sampleLines (c x : Nat) (s : State) : State :=
  let v := s.chan c
  let (runs, n) := filterLines (s.filt c) v x
  let (st, w) := if n = v.lines then (0, v) else lineDecode (s.chMode c) (s.ab (Reg.FB_CH_CTL c) 5) v n
  let w := { w with raw := x, runs := runs, sampled := v.sampled + 1 }
  let w := if v.smp.due && v.smp.sclk = v.sampled then
      { w with smp := { v.smp with count := w.count, lines := n, zpos := w.zpos, stat := v.smp.stat ||| st } }
    else { w with stat := v.stat ||| st }
  onlyIf (st.testBit 2) (incRf (Reg.FB_CH_CNT c) 15 0) (putChan c w s)

/-- n samples at the levels that stand. -/
def holdLines (c : Nat) : Nat → State → State
  | 0, s => s
  | n + 1, s => holdLines c n (sampleLines c (s.chan c).raw s)

/-- R174: the levels have stood up to sysclk k: once they are the filtered ones only the runs grow. -/
def catchUp (c k : Nat) (s : State) : State :=
  let v := s.chan c
  let s := if v.raw = v.lines then s else holdLines c (min (k - v.sampled) (s.filt c)) s
  let v := s.chan c
  let add (n : Nat) : Nat := min (n + (k - v.sampled)) 256
  putChan c { v with runs := (add v.runs.1, add v.runs.2.1, add v.runs.2.2), sampled := max v.sampled k } s

/-- R174: the samples of the sysclk that end with the present one, oldest first; before them the levels stood. -/
def feedLines (c : Nat) (levels : List (BitVec 3)) (s : State) : State :=
  let now := s.sclk + 1
  let xs := levels.drop (levels.length - (now - (s.chan c).sampled))
  xs.foldl (fun t x => sampleLines c x.toNat t) (catchUp c (now - xs.length) s)

/-- A command of channel c acts while the channel is enabled in one of the modes. -/
def chanCmd (c : Nat) (modes : List Nat) (f : State → State) (s : State) : State :=
  if s.live 1 && s.chEn c && modes.contains (s.chMode c) then f s else s

/-- QUADRATURE_EDGE (R174, R175). -/
def execQuadratureEdge (ch : Fin 8) (a b z : List Bool) (s : State) : Host.Outcome State Fault Refusal :=
  done (chanCmd ch [0] (feedLines ch (lineLevels a b z)) s)

/-- INDEX_LATCH (R174, R176, R181). -/
def execIndexLatch (lines : LineSamples) (s : State) : Host.Outcome State Fault Refusal :=
  done (chanCmd lines.ch [0, 1] (feedLines lines.ch (lineLevels lines.a lines.b lines.z)) s)

/-- MAGNETIC_SWITCH_EDGE (R174, R178). -/
def execMagneticSwitchEdge (ch : Fin 8) (u v w : List Bool) (s : State) : Host.Outcome State Fault Refusal :=
  done (chanCmd ch [2] (feedLines ch (lineLevels u v w)) s)

/-- R180: the comparators move to a quadrant; a change of both at once is illegal. -/
def quarterCount (c quad : Nat) (s : State) : State :=
  let v := s.chan c
  let d := (quad + 4 - v.cmp) % 4
  let s := putChan c { v with cmp := quad, q := if d = 1 then v.q + 1 else if d = 3 then v.q - 1 else v.q } s
  if d = 2 then illegalEdge c s else s

/-- QUARTER_COUNT (R180). -/
def execQuarterCount (ch : Fin 8) (quad : Fin 4) (s : State) : Host.Outcome State Fault Refusal :=
  done (chanCmd ch [1] (quarterCount ch quad) s)

/-- R179: a value held in 16 signed bits; one that does not fit is a free value. -/
def hold16 (x : Int) (s : State) : Int × State :=
  if -32768 ≤ x && x ≤ 32767 then (x, s) else (toSigned 16 (s.freeBits 16), useFree s)

/-- R179: the corrected pair S, C of a conversion. -/
def correctPair (c : Nat) (rawS rawC : Int) (s : State) : (Int × Int) × State :=
  let (x, s) := hold16 (rawS - s.sf (Reg.FB_SC_OFS c) 15 0) s
  let (y, s) := hold16 (((rawC - s.sf (Reg.FB_SC_OFS c) 31 16) * (32768 + s.sf (Reg.FB_SC_GAIN c) 15 0)).tdiv 32768) s
  ((x, y), s)

/-- R181: the amplitude lies outside AMIN × 32 to AMAX × 32. -/
def ampBad (c : Nat) (x y : Int) (s : State) : Bool :=
  let a2 := x * x + y * y
  let lo : Int := s.af (Reg.FB_SC_GAIN c) 23 16 * 32
  let hi : Int := s.af (Reg.FB_SC_GAIN c) 31 24 * 32
  a2 < lo * lo || hi * hi < a2

/-- FREE_CONVERSION (R179, R181). -/
def freeConversion (c : Nat) (rawS rawC : Int) (s : State) : State :=
  let ((x, y), s) := correctPair c rawS rawC s
  onlyIf (ampBad c x y s) (chFlag c 0) s

/-- FREE_CONVERSION (R181). -/
def execFreeConversion (ch : Fin 8) (rawS rawC : BitVec 14) (s : State) : Host.Outcome State Fault Refusal :=
  done (chanCmd ch [1] (freeConversion ch rawS.toInt rawC.toInt) s)

/-- LOS (R177): a receiver in use, in any mode of Table 6-1 that has one. -/
def execLosEdge (ch : Fin 8) (s : State) : Host.Outcome State Fault Refusal :=
  done (chanCmd ch [0, 1, 2, 3] (chFlag ch 3) s)

/-! SSI. -/

/-- Table 6-3: completion offset of channel c in ticks. -/
def State.chDone (s : State) (c : Nat) : Nat :=
  match s.chMode c with
  | 0 => 40 | 2 => 40 | 1 => 640 | 4 => 560
  | _ => s.af (Reg.FB_SSI_CFG c) 5 0 * s.af (Reg.FB_SSI_TIM c) 15 0 - s.af (Reg.FB_SSI_TIM c) 15 0 / 2
      + s.af (Reg.FB_SSI_SPH c) 31 16 + 24

/-- LEN of channel c. -/
def State.ssiLen (s : State) (c : Nat) : Nat := s.af (Reg.FB_SSI_CFG c) 5 0

/-- Half a clock period of channel c in ticks. -/
def State.ssiHalf (s : State) (c : Nat) : Nat := s.af (Reg.FB_SSI_TIM c) 15 0 / 2

/-- R182: how many ticks ahead of the sampling instant the first falling edge leaves. -/
def State.ssiLead (s : State) (c : Nat) : Nat := if s.ab (Reg.FB_SSI_CFG c) 23 then (s.chan c).df / 2 else 0

/-- R182, R187: the first falling edge of channel c, once for each sampling instant: at that of the present cycle, or
ahead of the next one, and TMON ticks after the last rising edge at the earliest. -/
def ssiFirst (c : Nat) (s : State) : State :=
  let lead := s.ssiLead c
  let cyc := s.cyc + b2n (lead ≠ 0)
  if (s.chan c).xfer = some cyc then s
  else
    let v := s.chan c
    let at_ := max (if lead = 0 then s.time.startTick else max s.time.tick (s.tickFrom s.time.nextNs - lead))
      (match v.rise with | some t => t + s.af (Reg.FB_SSI_TIM c) 31 16 | none => 0)
    putChan c { v with edge := 1, edge0 := at_, data := [], dfFrame := none, xfer := some cyc } (advanceTo at_ s)

/-- The data line takes a level at a tick; an edge that brings no transition leaves the line as it is. -/
def lineTakes (t : Nat) (level : Bool) (delay : Option Nat) (data : List (Nat × Bool)) : List (Nat × Bool) :=
  if delay.isNone && data.head?.any (fun e => e.2 = level) then data else (t + delay.getD 0, level) :: data

/-- SSI_CLOCK_EDGE: the next clock edge of channel c, with the level that a rising edge brings and the
delay of its data transition in ticks (R182 to R184). A frame waits for its record before the next begins (R183). -/
def ssiEdge (c : Nat) (data : Bool) (delay : Option Nat) (s : State) : State :=
  let v := s.chan c
  if v.edge = 0 then ssiFirst c s
  else if 2 * s.ssiLen c ≤ v.edge then
    if v.smp.due && v.xfer = some s.cyc then s else ssiFirst c s
  else
    let t := v.edge0 + v.edge * s.ssiHalf c
    let s := advanceTo t s
    let v := s.chan c
    if v.edge % 2 = 0 then putChan c { v with edge := v.edge + 1 } s
    else
      let df := match v.dfFrame, delay with
        | none, d => d
        | some a, some b => some (min a b)
        | some a, none => some a
      putChan c { v with edge := v.edge + 1, data := lineTakes t data delay v.data, dfFrame := df, rise := some t } s

/-- Level of the data line at a tick: the one it took last, and before its first transition the other one. -/
def lineAt (data : List (Nat × Bool)) (t : Nat) : Bool :=
  match data.find? (fun e => e.1 ≤ t) with
  | some e => e.2
  | none => match data.getLast? with | some e => !e.2 | none => true

/-- R183: the frame: bit k is the level SPH ticks after rising edge k, the first bit at the top. -/
def ssiFrame (v : ChanSt) (len half sph : Nat) : Nat :=
  (List.range len).foldl (fun f k => 2 * f + b2n (lineAt v.data (v.edge0 + (2 * k + 1) * half + sph))) 0

/-- SSI_CLOCK_EDGE (R182). -/
def execSsiClockEdge (ch : Fin 8) (data : Bool) (delay : Option (Fin 65536)) (s : State) :
    Host.Outcome State Fault Refusal :=
  done (onlyIf s.loopOn (chanCmd ch [3] (ssiEdge ch data (delay.map (·.val)))) s)

/-- R184: DF, SPH and SSIDLY after the transfer of channel c. -/
def ssiAdapt (c : Nat) (s : State) : Bool × State :=
  let v := s.chan c
  match v.dfFrame with
  | none => (false, putChan c { v with sphNew := false } s)
  | some df =>
    let target := df + s.ssiHalf c
    if s.af (Reg.FB_SSI_SPH c) 31 16 < target then (true, putChan c { v with df := df, sphNew := false } s)
    else
      let sph := if v.sphNew then target
        else if v.sph < target then min target (v.sph + 4) else max target (v.sph - 4)
      (false, putChan c { v with df := df, sph := sph, sphNew := false } s)

/-- Gray code to binary, over n bits from the top. -/
def grayBits (g : Nat) : Nat → Bool → Nat
  | 0, _ => 0
  | n + 1, p => let b := p != g.testBit n; b2n b * 2 ^ n + grayBits g n b

/-- R185: the position field of a frame. -/
def ssiField (c f : Nat) (s : State) : Nat :=
  let len := s.af (Reg.FB_SSI_CFG c) 5 0
  let posb := s.af (Reg.FB_SSI_CFG c) 12 7
  let g := (f >>> (len - posb)) % 2 ^ posb
  if s.ab (Reg.FB_SSI_CFG c) 13 then grayBits g posb false else g

/-- R185: SSIBRK and SSIERR of a frame. -/
def ssiBad (c f : Nat) (s : State) : Nat :=
  let len := s.af (Reg.FB_SSI_CFG c) 5 0
  let errb := s.af (Reg.FB_SSI_CFG c) 21 16
  b2n (f = 2 ^ len - 1) * 32 + b2n (errb ≠ 0 && f.testBit (errb - 1) == s.ab (Reg.FB_SSI_CFG c) 22) * 64

/-- R186: POS after a good frame with a position field. -/
def ssiPos (c n : Nat) (v : ChanSt) (s : State) : Nat :=
  match v.init, v.field with
  | false, some old =>
    let d := toSigned (s.af (Reg.FB_SSI_CFG c) 12 7) (ofSigned (s.af (Reg.FB_SSI_CFG c) 12 7) ((n : Int) - old))
    ofSigned 32 ((v.pos : Int) + (if s.ab (Reg.FB_CH_CTL c) 5 then -d else d))
  | _, _ => n

/-! The sample record (R170, R171). -/

/-- What a record holds beyond words 0 to 2: POS, CSTAT, MDATA, AUXM. The first transfer after a commit is sampled at
the phase that it takes, every later one at the phase before its own adaptation (DESIGN CHOICE, log entry 179). INIT
still stands in the record of the first frame without error (R173; DESIGN CHOICE, log entry 214). -/
def ssiSample (c : Nat) (s : State) : (Nat × Nat × Nat × Nat) × State :=
  let old := s.chan c
  let (dly, s) := ssiAdapt c s
  let v := s.chan c
  let f := ssiFrame v (s.ssiLen c) (s.ssiHalf c) (if old.sphNew then v.sph else old.sph)
  let bad := ssiBad c f s + b2n dly * 128
  let good := bad = 0 && !(v.smp.stat.testBit 3)
  let n := ssiField c f s
  let pos := if good then ssiPos c n v s else v.pos
  let stat := v.smp.stat ||| bad ||| (b2n v.init * 256)
  let s := putChan c { v with edge := 0, field := if good then some n else v.field, init := v.init && !good } s
  ((pos, stat, f % 2 ^ 32, v.sph % 65536 + v.df % 65536 * 65536), s)

/-- y·cos ≥ x·sin at the angle of k / 65536 turn, k up to 16384, with y, x not negative. -/
def angleReached (y x k : Nat) : Bool :=
  if k = 0 then true
  else if k = 8192 then x ≤ y
  else
    let (sn, cs) := if k < 8192 then sinCosFix (k * 2 ^ 386)
      else let (a, b) := sinCosFix ((16384 - k) * 2 ^ 386); (b, a)
    x * sn ≤ y * cs

/-- Largest k below 2^n above lo whose angle y, x has reached. -/
def angleSearch (y x : Nat) : Nat → Nat → Nat
  | 0, lo => lo
  | n + 1, lo => angleSearch y x n (if angleReached y x (lo + 2 ^ n) then lo + 2 ^ n else lo)

/-- R180: atan2(S, C) / 2π in units of 2^−16 turn, rounded down; none for S = C = 0. -/
def turn16 (x y : Int) : Option Nat :=
  if x = 0 && y = 0 then none
  else if 0 ≤ x && 0 < y then some (angleSearch x.natAbs y.natAbs 14 0)
  else if 0 < x then some (16384 + angleSearch y.natAbs x.natAbs 14 0)
  else if y < 0 then some (32768 + angleSearch x.natAbs y.natAbs 14 0)
  else some (49152 + angleSearch y.natAbs x.natAbs 14 0)

/-- R180, R181: the sine/cosine sample. R180 forms POS without INV, which acts on no count here (DESIGN
CHOICE, log entry 228). -/
def sincosSample (c : Nat) (rawS rawC : Int) (s : State) : (Nat × Nat × Nat × Nat) × State :=
  let ((x, y), s) := correctPair c rawS rawC s
  let (phi, s) := match turn16 x y with | some p => (p, s) | none => (s.freeBits 16, useFree s)
  let v := s.chan c
  let a := phi / 16384
  let d := ((a : Int) - v.smp.q) % 4
  let corr : Int := if d = 1 then 1 else if d = 3 then -1 else 0
  let ipb := s.af (Reg.FB_CH_CTL c) 19 16 + 4
  let pos := if d = 2 then v.pos
    else ofSigned 32 (((v.smp.q + corr - a) / 4) * 2 ^ ipb + (phi * 2 ^ ipb / 65536 : Nat))
  let stat := v.smp.stat ||| b2n (ampBad c x y s) ||| (b2n (d = 2) * 2) ||| (b2n v.init * 256)
  let s := putChan c { v with q := if d = 2 then v.q else v.q + corr, init := false } s
  ((pos, stat, ofSigned 16 x + ofSigned 16 y * 65536, isqrt (x * x + y * y).toNat), s)

/-- R188: a winding voltage, truncated and saturated to 16 signed bits. -/
def windingCode (code : Int) (uscale : Nat) : Nat :=
  ofSigned 16 (clampInt (-32768) 32767 ((code * uscale).tdiv 4096))

/-- POS, CSTAT, MDATA, AUXM of the sample of channel c. -/
def chanSample (c : Nat) (rawS rawC : Int) (s : State) : (Nat × Nat × Nat × Nat) × State :=
  let v := s.chan c
  match s.chMode c with
  | 1 => sincosSample c rawS rawC s
  | 3 => ssiSample c s
  | 4 =>
    let us := s.af (Reg.FB_SSI_SPH c) 15 0
    ((0, v.smp.stat ||| 2 ^ 9 ||| (b2n v.init * 256), windingCode rawS us + windingCode rawC us * 65536, 0),
      putChan c { v with init := false } s)
  | _ => ((v.smp.count, v.smp.stat ||| (b2n v.init * 256), v.smp.lines, 0), putChan c { v with init := false } s)

/-- R170: the lowest-numbered axis whose feedback is channel c. -/
def State.chanAxis (s : State) (c : Nat) : Option Nat :=
  (List.range 256).find? fun n => s.af (Reg.AX_MODE n) 4 4 = 1 && s.af (Reg.AX_MODE n) 7 5 = c

/-- Sticky CSTAT of FB_CH_STAT_c, with an event for each bit that changes to 1. -/
def chanStat (c st : Nat) (s : State) : State :=
  forAll (List.range 11) (fun b => onlyIf (st.testBit b) (stickyEvent 4 0 b clsWarn c (Reg.FB_CH_STAT c))) s

/-- The STEP axes whose feedback record is that of channel c (R108). -/
def State.chanSteps (s : State) (c : Nat) : List Nat :=
  (List.range 256).filter fun n =>
    s.af (Reg.AX_MODE n) 4 4 = 1 && s.af (Reg.AX_MODE n) 7 5 = c && s.af (Reg.AX_MODE n) 2 1 = 3

/-- What a STEP axis keeps of its feedback record: its POS, and the POS of a valid one (R107, R189). -/
def stepFeedback (pos : Nat) (bad : Bool) (n : Nat) (s : State) : State :=
  onlyIf (!bad) (keepValid n s.cyc pos) (putAx n { s.ax n with fbPos := some (s.cyc, pos) } s)

/-- LOCAL_RECORD_COMPLETE (R170, R171, R176): the record, the registers, the LOCAL release. -/
def chanRecord (c : Nat) (rawS rawC : Int) (s : State) : State :=
  let s := advanceTo (s.time.startTick + s.chDone c) s
  let s := onlyIf (decide (s.chMode c ≤ 2)) (catchUp c s.sclk) s
  let ((pos, st, md, aux), s) := chanSample c rawS rawC s
  let v := s.chan c
  let bad := st % 1024 ≠ 0
  let s := putChan c { v with pos := pos, fbinv := bad, recCyc := some s.cyc, recd := true,
                              smp := { v.smp with due := false } } s
  let rs := match s.chanAxis c with | some n => rstateF32 (s.rstateAt s.cyc n) | none => 0
  let s := keepUq (s.af (Reg.FB_CH_REC c) 16 0) s.cyc s
  let s := writeNet (s.af (Reg.FB_CH_REC c) 16 0)
    [if bad then 0 else 0x3F800000, rs, 256 + b2n bad * 1024, pos, st, md, v.smp.zpos, aux, 0, 0] s
  let s := setReg (Reg.FB_CH_POS c) (BitVec.ofNat 32 pos) s
  let s := forAll (s.chanSteps c) (stepFeedback pos bad) s
  let s := onlyIf bad (incRf (Reg.FB_CH_CNT c) 31 16) s
  let s := onlyIf (s.chMode c = 3) (setRf (Reg.FB_CH_STAT c) 31 16 (s.chan c).sph) s
  releaseLocal c (chanStat c st s)

/-- A record of channel c is due: sampled, and for SSI every bit of this cycle's transfer received. -/
def State.chanReady (s : State) (c : Nat) : Bool :=
  (s.chan c).smp.due &&
    (s.chMode c ≠ 3 || ((s.chan c).edge = 2 * s.ssiLen c && (s.chan c).xfer = some s.cyc))

/-- LOCAL_RECORD_COMPLETE (R171). -/
def execLocalRecordComplete (ch : Fin 8) (rawS rawC : BitVec 14) (s : State) : Host.Outcome State Fault Refusal :=
  done (onlyIf (s.loopOn && s.chanReady ch)
    (chanCmd ch [0, 1, 2, 3, 4] (chanRecord ch rawS.toInt rawC.toInt)) s)

/-- R169, R170, R175, R177, R181: channel c at a sampling instant: what has been collected goes into the record of the
interval that ends, and a disabled channel drops it. -/
def chanLatch (c : Nat) (s : State) : State :=
  if s.chEn c then
    let s := catchUp c s.sclk s
    let v := s.chan c
    let hall := b2n (s.chMode c = 2 && (v.lines = 0 || v.lines = 7)) * 16
    putChan c { v with smp := ⟨true, s.sclk, v.count, v.q, v.lines, v.stat ||| hall, v.zpos⟩, stat := 0 } s
  else putChan c { s.chan c with stat := 0 } s

/-- R178: a U V W state, if it is a valid one. -/
def hallState (n : Nat) : Nat := if n % 8 = 7 then 0 else n % 8

/-- R173: what a commit does to channel c, given its control and SSI words before it. A channel that EN or MODE has set
to work anew counts U V W from the state its lines have (R178); its count, Q and the quadrant of its comparators stay as
they were (DESIGN CHOICE, log entry 230). -/
def chanCommitted (c : Nat) (ctl cfg : Word) (s : State) : State :=
  let en := s.chEn c
  let same (hi lo : Nat) : Bool := fld ctl hi lo = s.af (Reg.FB_CH_CTL c) hi lo
  let sameS (hi lo : Nat) : Bool := fld cfg hi lo = s.af (Reg.FB_SSI_CFG c) hi lo
  let s := if en && !(bit ctl 4) then putChan c { s.chan c with runs := (0, 0, 0), sampled := s.sclk } s else s
  let s := if en && !(bit ctl 4 && same 2 0) then putChan c { s.chan c with hall := hallState (s.chan c).lines } s else s
  if !en then putChan c { s.chan c with smp := {}, stat := 0, edge := 0, data := [], xfer := none, fbinv := true,
                                        recCyc := none } s
  else if !(bit ctl 4) || !(same 2 0 && same 5 5 && same 19 16 && sameS 5 0 && sameS 12 7 && sameS 13 13) then
    putChan c { s.chan c with init := true, sphNew := true, edge := 0, data := [], xfer := none } s
  else s

/-! Encoder emulation. -/

/-- State of emulation output e. -/
def State.emu (s : State) (e : Nat) : EmuSt := kvGet (fun _ => {}) s.emus e

/-- Stores it. -/
def putEmu (e : Nat) (v : EmuSt) (s : State) : State := { s with emus := kvPut (fun _ => {}) s.emus e v }

/-- R189: the new source value of output e, if there is one. -/
def State.emuSource (s : State) (e : Nat) : Option Nat :=
  let i := s.af (Reg.FB_EMU_CTL e) 15 8
  if s.af (Reg.FB_EMU_CTL e) 1 1 = 0 then
    (if (s.chan (i % 8)).recd then some (s.chan (i % 8)).pos else none)
  else
    match (s.ax i).fbPos with
    | some (c, p) => if c = s.cyc then some p else none
    | none => none

/-- R189, R190: output e at the output phase. -/
def emuOutputPhase (e : Nat) (s : State) : State :=
  if !(s.ab (Reg.FB_EMU_CTL e) 0) then putEmu e {} s
  else
    let v := s.emu e
    match v.src, s.emuSource e with
    | none, none => s
    | none, some x => putEmu e { v with src := some x } s
    | some old, new =>
      let x := new.getD old
      let d := toSigned 32 (ofSigned 32 ((x : Int) - old))
      let d := if s.ab (Reg.FB_EMU_CTL e) 2 then -d else d
      let acc := toSigned 64 (ofSigned 64 (v.acc + d * s.af (Reg.FB_EMU_RATIO e) 15 0))
      let target := acc / (s.af (Reg.FB_EMU_RATIO e) 31 16 : Int)
      let n := target - v.target
      let mine := s.af (Reg.FB_EMU_TIM e) 11 0
      let carried := if v.left = 0 then v.carried else v.carried ++ [(v.neg, v.left)]
      let gap := max mine (s.af (Reg.FB_EMU_TIM e) 31 12 / n.natAbs)
      let s := onlyIf (!carried.isEmpty) (stickyEvent 4 1 0 clsWarn e (Reg.FB_EMU_STAT e)) s
      putEmu e { v with src := some x, acc := acc, target := target, carried := carried, left := n.natAbs,
                        neg := n < 0, gap := gap, t := s.time.tick } s

/-- R190: the next edge of output e. -/
def emuEdge (e : Nat) (s : State) : State :=
  let v := s.emu e
  let s := advanceTo v.t s
  let mine := s.af (Reg.FB_EMU_TIM e) 11 0
  match v.carried with
  | (d, k) :: rest =>
    putEmu e { v with carried := if 1 < k then (d, k - 1) :: rest else rest, t := v.t + mine,
                      count := if d then v.count - 1 else v.count + 1 } s
  | [] =>
    if v.left = 0 then s
    else putEmu e { v with left := v.left - 1, t := v.t + v.gap, count := if v.neg then v.count - 1 else v.count + 1 } s

/-- EMULATION_EDGE (R190). -/
def execEmulationEdge (out : Fin 2) (s : State) : Host.Outcome State Fault Refusal :=
  done (onlyIf (s.loopOn && s.domOn 1 && s.ab (Reg.FB_EMU_CTL out) 0 &&
    ((s.emu out).left ≠ 0 || !(s.emu out).carried.isEmpty)) (emuEdge out) s)

/-- R190: levels of EMU_A_e and EMU_B_e: the sequence of R175 at the emulated count. In reset the drivers are off
(R493). -/
def State.emuAB (s : State) (e : Nat) : Option (Bool × Bool) :=
  if s.pcr.inReset then none
  else if s.ab (Reg.FB_EMU_CTL e) 0 then
    match (s.emu e).count % 4 with
    | 0 => some (false, false) | 1 => some (true, false) | 2 => some (true, true) | _ => some (false, true)
  else some (false, false)

/-- R190: EN cleared, or set anew, by a commit: the next source value only initialises S. -/
def emuCommitted (e : Nat) (ctl : Word) (s : State) : State :=
  if s.ab (Reg.FB_EMU_CTL e) 0 && bit ctl 0 then s else putEmu e {} s

/-- R190: level of EMU_Z_e. In reset the driver is off (R493). -/
def State.emuZ (s : State) (e : Nat) : Option Bool :=
  let per := s.af (Reg.FB_EMU_CTL e) 31 16
  if s.pcr.inReset then none else some (s.ab (Reg.FB_EMU_CTL e) 0 && per ≠ 0 && (s.emu e).count % per = 0)

/-- R23: the output phase of the present cycle (R226). -/
def outputPhase (s : State) : State :=
  let s := advanceNs (s.cycStart + s.af Reg.SLT_OPH 15 0 * (125 * 2 ^ 29)) s
  let s := forAll (List.range 8) stepOutputPhase s
  forAll (List.range 2) emuOutputPhase s

/-- OUTPUT_PHASE (R23). -/
def execOutputPhase (s : State) : Host.Outcome State Fault Refusal :=
  done (onlyIf (s.loopOn && s.running && s.domOn 1) outputPhase s)

end Sys2Proof.Machine
end

