-- ==== Sys2Proof/Machine/Ring.lean ====
section
/-! DEFINITION. Frames on the wire (R204 to R208), the path delays and maps of the rings (R215, R216,
R219, R260), slots and their windows (R211, R212, R225). -/

namespace Sys2Proof.Machine

/-! Frames. -/

/-- One bit step of the header check: polynomial x^8 + x^2 + x + 1 (Table 7-6). -/
def hcsBit (c : Nat) : Nat := if 128 ≤ c then ((c * 2) ^^^ 0x07) % 256 else c * 2

/-- The header check over more bytes. -/
def hcsBytes (c : Nat) : List Nat → Nat
  | [] => c
  | b :: bs => hcsBytes (hcsBit (hcsBit (hcsBit (hcsBit (hcsBit (hcsBit (hcsBit (hcsBit (c ^^^ b)))))))) ) bs

/-- The n low bytes of a number, least significant first. -/
def bytesOf (v : Nat) : Nat → List Nat
  | 0 => []
  | n + 1 => v % 256 :: bytesOf (v / 256) n

/-- The header check of h0 to h6. -/
def hcsOf (head : Nat) : Nat := hcsBytes 0 (bytesOf head 7)

/-- R206: the CRC-32C of header and payload. -/
def frameCrc (head : Nat) (ws : List Nat) : Nat :=
  crcBytes 0xFFFFFFFF (bytesOf head 8 ++ ws.flatMap (fun w => bytesOf w 4)) ^^^ 0xFFFFFFFF

/-- TYPE of a frame. -/
def fType (f : Frame) : Nat := bitsOf f.head.toNat 3 0

/-- DIR of a frame. -/
def fDir (f : Frame) : Bool := f.head.getLsbD 6

/-- SLOT of a frame. -/
def fSlot (f : Frame) : Nat := bitsOf f.head.toNat 14 8

/-- h1 of a cascade record. -/
def fRidx (f : Frame) : Nat := bitsOf f.head.toNat 15 8

/-- RING of a frame, SCID of a record. -/
def fRing (f : Frame) : Nat := bitsOf f.head.toNat 17 16

/-- CID of a frame. -/
def fCid (f : Frame) : Nat := bitsOf f.head.toNat 19 18

/-- SEQ of a frame. -/
def fSeq (f : Frame) : Nat := bitsOf f.head.toNat 39 24

/-- AGE of a frame. -/
def fAge (f : Frame) : Nat := bitsOf f.head.toNat 47 40

/-- TREF of a frame. -/
def fTref (f : Frame) : Bool := f.head.getLsbD 48

/-- The header check is right. -/
def fHcsOk (f : Frame) : Bool := bitsOf f.head.toNat 63 56 = hcsOf f.head.toNat

/-- No K30.7 and no invalid code group. -/
def fClean (f : Frame) : Bool := !f.abort && f.cv = 0

/-- The CRC-32C is right. -/
def fCrcOk (f : Frame) : Bool := f.crc.toNat = frameCrc f.head.toNat (f.words.map (·.toNat))

/-- Payload word i, 0 beyond the payload. -/
def fWord (f : Frame) (i : Nat) : Nat := (f.words.getD i 0).toNat

/-- Byte i of the payload. -/
def fByte (f : Frame) (i : Nat) : Nat := (fWord f (i / 4) >>> (8 * (i % 4))) % 256

/-- Table 7-7: payload length of a TYPE; none for a reserved one. -/
def ringPay (t : Nat) : Option Nat :=
  match t with | 1 => some 28 | 2 => some 20 | 3 => some 20 | 4 => some 20 | 5 => some 20 | 6 => some 20 | _ => none

/-- Header of a frame of the ring (Table 7-6), without its check. -/
def headOf (type dir slot ring cid seq age tref : Nat) : Nat :=
  type % 16 + 16 + dir % 2 * 64 + slot % 128 * 2 ^ 8 + ring % 4 * 2 ^ 16 + cid % 4 * 2 ^ 18
    + seq % 65536 * 2 ^ 24 + age % 256 * 2 ^ 40 + tref % 2 * 2 ^ 48

/-- A whole frame from its header and payload. -/
def mkFrame (head : Nat) (ws : List Nat) : Frame :=
  let h := head + hcsOf head * 2 ^ 56
  ⟨none, BitVec.ofNat 64 h, ws.map (BitVec.ofNat 32), BitVec.ofNat 32 (frameCrc h ws), false, 0, 15 + 4 * ws.length⟩

/-! Instants. -/

/-- NS at an instant in 1/80 ns after the start of the present cycle. -/
def State.at80 (s : State) (x : Nat) : Nat := s.cycStart + x * 2 ^ 28 / 5

/-- NS at an instant in 1/16 ns after the start of the present cycle. -/
def State.at16 (s : State) (x : Nat) : Nat := s.cycStart + x * 2 ^ 28

/-- The SD instant, in 1/80 ns, of a frame whose first byte is due at an instant in 1/16 ns. -/
def sd80 (first16 : Nat) : Nat := first16 * 5 + 512

/-- Bytes on the wire in 1/80 ns. -/
def wire80 (n : Nat) : Nat := n * 256


/-! Rings. -/

/-- State of ring r beyond its registers. -/
def State.ring (s : State) (r : Nat) : RingSt := kvGet (fun _ => {}) s.net.rings r

/-- Stores it. -/
def putRing (r : Nat) (v : RingSt) (s : State) : State :=
  { s with net := { s.net with rings := kvPut (fun _ => {}) s.net.rings r v } }

/-- Key of RTTA of position k of ring r. -/
def keyA (r k : Nat) : Nat := 80 * r + k

/-- Key of RTTB. -/
def keyB (r k : Nat) : Nat := 320 + 80 * r + k

/-- Key of TAUB. -/
def keyT (r : Nat) : Nat := 640 + r

/-- The register that shows a value. -/
def keyReg (key : Nat) : Nat :=
  if key < 320 then Reg.NET_RTTA key else if key < 640 then Reg.NET_RTTB (key - 320) else Reg.NET_TAUB (key - 640)

/-- R216: a value latched at the cycle start, if it is valid. -/
def State.lat (s : State) (key : Nat) : Option Nat :=
  match kvGet (fun _ => 0) s.net.lat key with | 0 => none | n + 1 => some n

/-- EN of ring r. -/
def State.ringEn (s : State) (r : Nat) : Bool := s.ab (Reg.NET_RING_CTL r) 0

/-- ROLE of ring r (Table 7-1). -/
def State.role (s : State) (r : Nat) : Nat := s.af (Reg.NET_RING_CTL r) 2 1

/-- The link of port p is up. -/
def State.portUp (s : State) (p : Nat) : Bool := s.rb (Reg.NET_PORT_STAT p) 3

/-- R196, R217: phase of the symbol clock of port p in 1/80 TBCLK: its own, or in a shared ring at B the recovered
one, which the spec leaves open at every frame (log entry 3). -/
def State.symPhase (s : State) (p : Nat) : Nat :=
  if s.role (p / 2) = 2 then s.freeBits 8 else (Config.symbolPhase s.net.phase p).toNat

/-- R217, R257: the timestamp of an SD that port p sends, in 1/16 ns, whose first byte is due at an instant of the
present cycle: that instant at TBCLK resolution, the symbol boundary nearest to it (a symbol is 256/80 TBCLK), two
symbols on, read to within 0.25 ns, which the spec leaves open (log entry 3). -/
def sendSd (p first16 : Nat) (s : State) : Nat × State :=
  let l := 80 * s.tbReach (s.at16 first16)
  let sd := s.nsOfTb (l + 640 - (l + 384 - s.symPhase p) % 256)
  let s := if s.role (p / 2) = 2 then useFree s else s
  (sd / 2 ^ 28 + s.freeBits 16 % 9 - 4, useFree s)

/-- The map in force is the intact one. -/
def State.intactMap (s : State) (r : Nat) : Bool := (s.ring r).ja.isNone && (s.ring r).jb.isNone

/-- STATE of NET_RING_STAT_r. -/
def State.ringState (s : State) (r : Nat) : Nat :=
  if !(s.ringEn r) then 0
  else
    let up := match s.role r with
      | 0 => s.portUp (2 * r) || s.portUp (2 * r + 1)
      | 1 => s.portUp (2 * r)
      | _ => s.portUp (2 * r + 1)
    if !up then 4 else if s.role r ≠ 0 then 3 else if s.intactMap r then 1 else 2

/-- R211: the echo check of ring r runs. -/
def State.echoOn (s : State) (r : Nat) : Bool :=
  s.ringState r = 1 && s.ab (Reg.NET_RING_CTL r) 4 && s.rb (Reg.NET_TAUB r) 31

/-- R211: while the echo check of ring r does not run, no echo is expected. -/
def dropEchoes (r : Nat) (s : State) : State :=
  if s.echoOn r then s
  else { s with net := { s.net with echoes := s.net.echoes.filter (fun e => e.ring ≠ r) } }

/-- NET_RING_STAT_r and the echo check follow. -/
def showRing (r : Nat) (s : State) : State := dropEchoes r (setRf (Reg.NET_RING_STAT r) 2 0 (s.ringState r) s)

/-- R206: the owner ID of the frames of ring r. -/
def State.owner (s : State) (r : Nat) : Nat :=
  if s.af Reg.SLT_CFG 3 3 = 0 then 0
  else if s.role r = 2 then s.af Reg.CAS_CFG 7 6 else s.ownId

/-- Where a position stands in a single ring's map (R219): none unreachable, 0 intact, 1 the A arm, 2
the B arm. Those of an arm that the loss of its port's receive link leaves empty are unreachable (DESIGN CHOICE, log
entry 218). -/
def State.arm (s : State) (r k : Nat) : Option Nat :=
  let v := s.ring r
  let onA := match v.ja with | some j => decide (k ≤ j) | none => false
  let onB := match v.jb with | some j => decide (j ≤ k) | none => false
  if onA then
    (if v.emptyA || v.taub.isNone || (s.lat (keyA r (v.ja.getD 0))).isNone then none else some 1)
  else if onB then
    (if v.emptyB || v.taub.isNone || (s.lat (keyB r k)).isNone then none else some 2)
  else if v.ja.isSome && v.jb.isSome then none
  else some 0

/-- a + b − c, at least 0. -/
def shift16 (a b c : Nat) : Nat := a + b - c

/-- Table 7-9: port and instant of the first byte of the uplink of position k with intact instant e. In a shared ring a
position has none while the round-trip value that its half needs is invalid, whether the other half has its or not
(DESIGN CHOICE, log entry 235). -/
def State.uplinkAt (s : State) (r k e : Nat) : Option (Nat × Nat) :=
  let v := s.ring r
  match s.role r with
  | 1 =>
    match s.lat (keyA r k), v.taub with
    | some a, some t => some (2 * r, shift16 e a t)
    | _, _ => none
  | 2 => if v.taub.isSome then some (2 * r + 1, e) else none
  | _ =>
    match s.arm r k with
    | none => none
    | some 1 => some (2 * r, shift16 e ((s.lat (keyA r (v.ja.getD 0))).getD 0) (v.taub.getD 0))
    | some _ => some (2 * r + 1, e)

/-- Table 7-9: port and instant of the first byte of the downlink of position k with instant d, of a shared ring likewise
(DESIGN CHOICE, log entry 235). -/
def State.downlinkAt (s : State) (r k d : Nat) : Option (Nat × Nat) :=
  let v := s.ring r
  match s.role r with
  | 1 => if v.taub.isSome then some (2 * r, d) else none
  | 2 =>
    match s.lat (keyB r k), v.taub with
    | some b, some t => some (2 * r + 1, shift16 d t b)
    | _, _ => none
  | _ =>
    match s.arm r k with
    | none => none
    | some 2 => some (2 * r + 1, shift16 d (v.taub.getD 0) ((s.lat (keyB r k)).getD 0))
    | some _ => some (2 * r, d)

/-- R260: V and DMODE of position k from the latched values. -/
def State.delayOf (s : State) (r k : Nat) : Option (Nat × Nat) :=
  match s.role r, s.lat (keyA r k), s.lat (keyB r k), (s.ring r).taub with
  | 0, some a, some b, some t => if (s.lat (keyT r)).isSome then some ((a + 2 * t - b) / 4, 0) else some (a / 2, 1)
  | 0, some a, none, _ => some (a / 2, 1)
  | 0, some a, some _, none => some (a / 2, 1)
  | 0, none, some b, some t => if (s.lat (keyT r)).isSome then some ((2 * t - b) / 2, 2) else none
  | 1, some a, _, _ => some (a / 2, 1)
  | 2, _, some b, some t => some ((2 * t - b) / 2, 2)
  | _, _, _, _ => none

/-- R260: V and DMODE that the controller uses for position k: while a single ring is not intact, the
ones held. -/
def State.delayUsed (s : State) (r k : Nat) : Option (Nat × Nat) :=
  if s.role r = 0 && s.ringState r ≠ 1 then (s.ring r).heldV.lookup k else s.delayOf r k

/-- R216, R260: TAUB as the controller uses it: the latched value while a single ring is intact, else the one held. -/
def State.taubUsed (s : State) (r : Nat) : Option Nat :=
  if s.role r = 0 && s.ringState r = 1 then s.lat (keyT r) else (s.ring r).taub

/-- R212: the tolerance of a window of ring r in 1/80 ns, by the map in force since the cycle start. -/
def State.tol80 (s : State) (r : Nat) : Nat :=
  let w := s.af (Reg.NET_RING_CTL r) 15 8
  80 * (if s.role r ≠ 0 || !(s.intactMap r) then w + s.af (Reg.NET_RING_CTL r) 23 16 else w)

/-! Slots. -/

/-- R225, R244: the position that data slot n serves in the present cycle. -/
def State.slotPos (s : State) (n : Nat) : Option Nat :=
  let w := s.act (Reg.SLT_SLOT n)
  if !(bit w 31) then none
  else if !(bit w 30) then some (fld w 6 0)
  else if s.rb (Reg.SLT_SST n) 29 && kvGet (fun _ => 0) s.slt.served n ≤ s.cyc then
    some (s.rf (Reg.SLT_SST n) 28 22)
  else none

/-- The window of an uplink of position k at port p, with intact instant e. -/
def State.mkWindow (s : State) (r p n k e type slot : Nat) : Option Window :=
  match s.uplinkAt r k e with
  | some (q, first) =>
    if q = p then
      let t := s.tol80 r
      some ⟨n, sd80 first, t, sd80 first + wire80 (14 + (ringPay type).getD 20) + t, type, slot⟩
    else none
  | none => none

/-- R224, R238, R258: the windows of port p in the present cycle; a claim slot's stands where the position
`pos` puts it, in RUN (DEDUCED, log entry 239). -/
def State.windows (s : State) (p pos : Nat) : List Window :=
  let r := p / 2
  let st := s.csState
  let data := if st = 5 then (List.range 80).filterMap (fun i =>
      match s.slotPos (80 * r + i) with
      | some k => if s.ab (Reg.SLT_SLOT (80 * r + i)) 29 then
          s.mkWindow r p (80 * r + i) k (s.af (Reg.SLT_UE (80 * r + i)) 23 0) 1 i else none
      | none => none) else []
  let claim := if st = 5 && s.ab (Reg.SLT_CLM r) 31 then
      (s.mkWindow r p (320 + r) pos (s.af (Reg.SLT_CLM r) 23 0) 5 0x71).toList else []
  let sync := if s.running then (List.range 6).filterMap (fun i =>
      let a := Reg.SYN_SS (8 * r + 2 + i)
      if s.ab a 31 then s.mkWindow r p (324 + 8 * r + 2 + i) (s.af a 30 24) (s.af a 23 0) 3 (0x62 + i)
      else none) else []
  if s.ringEn r then data ++ sync ++ claim else []

/-- The slot is muted (R250). -/
def State.muted (s : State) (n : Nat) : Bool := n < 324 && s.rb (Reg.SLT_SST n) 30

/-- Distance of two instants. -/
def dist (a b : Nat) : Nat := if a < b then b - a else a - b

/-- R211, R230: the window an SD is attributed to and whether it lies inside it: of those it lies in the
lowest slot, else the nearest by the distance from the expected SD (DESIGN CHOICE, log entry 236). -/
def nearest : List Window → Nat → Option (Window × Bool)
  | [], _ => none
  | w :: ws, x =>
    let inside := decide (dist x w.sd ≤ w.tol)
    match nearest ws x with
    | none => some (w, inside)
    | some (v, vin) =>
      if inside && (!vin || w.slot ≤ v.slot) then some (w, true)
      else if !inside && !vin && dist x w.sd ≤ dist x v.sd then some (w, false)
      else some (v, vin)

end Sys2Proof.Machine
end

