-- ==== Sys2Proof/Machine/Net.lean ====
section
/-! DEFINITION. The hub guardian, acceptance, misses, relays and downlinks of the rings (R211 to R214,
R246, R247, R249, R250). -/

namespace Sys2Proof.Machine

/-- Ring of slot n of SLT_SST_n. -/
def slotRing (n : Nat) : Nat := if n < 320 then n / 80 else n - 320

/-- R429: the mute event of slot n. -/
def muteEvent (n : Nat) (s : State) : State :=
  event (evCode 6 1 8) clsWarn (if n < 320 then n % 80 else 0x71)
    ((s.reg (Reg.SLT_ECNT n)).toNat % 65536 + slotRing n * 65536) (s.cyc % 2 ^ 32) s

/-- R250: an edge violation of slot n; a sync slot keeps no counter, a muted one is not reported. -/
def edgeViolation (n : Nat) (s : State) : State :=
  if 324 ≤ n || s.muted n then s
  else
    let s := incRf (Reg.SLT_ECNT n) 7 0 s
    if s.slt.muteNext.contains n then s
    else
      let e := s.rf (Reg.SLT_SST n) 3 0 + 1
      if e < s.af Reg.SLT_GUARD 3 0 then setRf (Reg.SLT_SST n) 3 0 e s
      else
        let s := setRf (Reg.SLT_SST n) 3 0 0 { s with slt := { s.slt with muteNext := s.slt.muteNext ++ [n] } }
        muteEvent n (incRf (Reg.SLT_ECNT n) 15 8 s)

/-- Table 7-8: the checks in their order, for a frame in window w of ring r with its SD at x. A frame whose ED does not
stand in its place, one that is cut off among them, is LONG by check 4, before the checks of its content (DEDUCED, log
entry 237). -/
def checkFrame (r : Nat) (w : Window) (x : Nat) (f : Frame) (s : State) : Verdict :=
  let p := (ringPay (fType f)).getD 0
  if s.muted w.n || s.net.got.contains w.n then .fail 1 true
  else if !(fHcsOk f) then .fail 0 false
  else if fDir f || fRing f ≠ r || fCid f ≠ s.owner r || fSlot f ≠ w.slot || fType f ≠ w.type then .fail 2 true
  else if f.edAt ≠ 15 + p || w.fin < x + wire80 (f.edAt - 1) then .fail 3 true
  else if !(fClean f) then .fail 0 false
  else if !(fCrcOk f) then .fail 0 false
  else if (w.type = 1 || w.type = 3) && fSeq f ≠ s.cyc % 65536 then .fail 4 false
  else .admits

/-- R211, R511: the guardian on a frame at port p with its SD at sd16 in 1/16 ns. -/
def guardFrame (p sd16 : Nat) (f : Frame) (s : State) : Option Window × Verdict :=
  let x := sd16 * 5
  match nearest (s.windows p (fByte f 8)) x with
  | none => (none, if fDir f then .ignored else .fail 1 false)
  | some (w, true) => (some w, checkFrame (p / 2) w x f s)
  | some (w, false) => (some w, if fDir f then .ignored else .fail 1 true)

/-- R243: an admitted CLAIM of ring r becomes pending or is counted as ignored. -/
def admitClaim (r : Nat) (f : Frame) (s : State) : State :=
  if s.rb (Reg.SLT_CLAIM r) 31 then incRf (Reg.SLT_CLAIM r) 15 0 s
  else
    let pos := fByte f 8
    let s := setRf (Reg.SLT_CLAIM r) 30 24 pos (setRb (Reg.SLT_CLAIM r) 31 true s)
    let s := setReg (Reg.SLT_CLID r) (BitVec.ofNat 32 (fWord f 0)) s
    let s := setReg (Reg.SLT_CLSER r) (BitVec.ofNat 32 (fWord f 1)) s
    let old := kvGet (fun _ => ({} : ClaimSt)) s.slt.claims r
    let c : ClaimSt := { old with pos := pos, ser := fWord f 1 % 65536, probed := 80 ≤ pos, judged := false, fw := none }
    let s := { s with slt := { s.slt with claims := kvPut (fun _ => {}) s.slt.claims r c } }
    putRing r { s.ring r with wantHead := if pos < 80 then some pos else none, headNum := none } s

/-- Nanoseconds and 16-bit fraction at byte 0 of a payload, in 2^−16 ns. -/
def fTime (f : Frame) : Nat := (fWord f 0 + fWord f 1 * 2 ^ 32) * 65536 + fWord f 2 % 65536

/-- R263: DLY of position k from V and the node's own delays, in 2^−16 ns. -/
def nodeDelay (v dmode rpc lpc : Nat) : Int :=
  let v : Int := v * 4096
  let rp : Int := 96 * 65536 + rpc * 16384
  let lp : Int := 96 * 65536 + lpc * 16384
  match dmode with
  | 0 => v + rp / 2
  | 1 => v - lp / 2 + rp
  | _ => v + lp / 2

/-- R263: S of position k at port p, in 1/16 ns. -/
def State.portShift (s : State) (r k p : Nat) : Int :=
  if p % 2 = 1 then 0
  else
    let t : Int := (s.ring r).taub.getD 0
    if s.role r = 1 then ((s.lat (keyA r k)).getD 0 : Int) - t
    else ((s.lat (keyA r ((s.ring r).ja.getD 0))).getD 0 : Int) - t

/-- A signed value saturating in 32 bits. -/
def sat32 (x : Int) : Word := BitVec.ofNat 32 (ofSigned 32 (clampInt (-(2 ^ 31)) (2 ^ 31 - 1) x))

/-- Sources that name sync slot i of ring r (0x62 + i). -/
def State.refSources (s : State) (r i : Nat) : List Nat :=
  (List.range 8).filter fun j =>
    let w := s.act (Reg.SYN_SRC j)
    fld w 1 0 = 2 && fld w 6 5 = r && fld w 9 7 = i

/-- R263: an admitted SYNC of a reference node in sync slot i of ring r, with its SD at sd16. -/
def admitSync (r i p sd16 : Nat) (f : Frame) (s : State) : State :=
  let k := s.af (Reg.SYN_SS (8 * r + 2 + i)) 30 24
  match s.delayUsed r k, (s.ring r).taub with
  | some (v, m), some t =>
    let a : Int := s.cycStart / 2 ^ 16 + sd16 * 4096
    let path : Int := (t : Int) * 4096 - nodeDelay v m (fByte f 11) (fByte f 12) + s.portShift r k p * 4096
    let d : Int := (fTime f : Int) - (a - path)
    let s := { s with syn := { s.syn with refDev := kvPut (fun _ => (0, false)) s.syn.refDev (8 * r + i) (d, fTref f) } }
    forAll (s.refSources r i) (fun j u =>
      setReg (Reg.SYN_DEVQ j) (BitVec.ofNat 32 (fByte f 10)) (setReg (Reg.SYN_DEV j) (sat32 d) u)) s
  | _, _ => s

/-- R213, R238, R250: a frame is admitted in window w. -/
def admitFrame (p sd16 : Nat) (w : Window) (f : Frame) (s : State) : State :=
  let s := { s with net := { s.net with got := s.net.got ++ [w.n] } }
  let s := if w.n < 324 then setRf (Reg.SLT_SST w.n) 3 0 0 s else s
  if w.n < 320 then
    let due := s.tickAt (s.at80 (sd16 * 5 + wire80 (f.edAt - 1))) + 32
    let s := { s with slt := { s.slt with missed := kvPut (fun _ => (0, 0)) s.slt.missed w.n (0, 0) } }
    setRb (Reg.SLT_SST w.n) 31 true
      { s with net := { s.net with accepts :=
          s.net.accepts ++ [⟨w.n, s.cyc, due, (List.range 7).map (fWord f), fAge f⟩] } }
  else if w.n < 324 then admitClaim (p / 2) f s
  else admitSync (p / 2) (w.slot - 0x62) p sd16 f s

/-- R219: a LOOP notice (seg false) or SEGOK notice of a position at port p; a shared ring has no healing (R195). -/
def ringNotice (p pos : Nat) (seg : Bool) (s : State) : State :=
  let r := p / 2
  let a := Reg.NET_RING_STAT r
  let (vb, hi, lo, sb) := if p % 2 = 0 then (15, 14, 8, 6) else (23, 22, 16, 7)
  if s.role r ≠ 0 then s
  else
  let s := if !seg || !(s.rb a vb) then setRf a hi lo pos (setRb a vb true s) else s
  if seg then setRb a sb true s else s

/-- R203: a notice in a lead pair. -/
def leadNotice (p : Nat) (lead : Option Byte) (s : State) : State :=
  match lead with
  | some b => if b.toNat < 0x50 then ringNotice p b.toNat false s
      else if 0x80 ≤ b.toNat && b.toNat < 0xD0 then ringNotice p (b.toNat - 0x80) true s else s
  | none => s

/-- R202, R203: what a frame brings to port p besides itself: its invalid code groups, the notice in its lead pair. -/
def portFrame (p : Nat) (f : Frame) (s : State) : State :=
  leadNotice p f.lead (addRf (Reg.NET_PORT_CNT p) 15 0 f.cv s)

/-- The rings work: network buffer initialised (Table 14-3), PD_NET on, loop clock on. -/
def State.netOn (s : State) : Bool := s.loopOn && s.domOn 6 && s.memDone 5

/-- UPLINK_FRAME (R211). -/
def uplinkFrame (p sd16 : Nat) (f : Frame) (s : State) : State :=
  let s := portFrame p f (advanceNs (min (s.at16 sd16) (s.time.nextNs - 1)) s)
  match guardFrame p sd16 f s with
  | (_, .ignored) => s
  | (w, .fail b edge) =>
    let s := netErr (p / 2) b s
    match w, edge with
    | some w, true => edgeViolation w.n s
    | _, _ => s
  | (some w, .admits) => admitFrame p sd16 w f s
  | (none, .admits) => s

/-- UPLINK_FRAME (R211). -/
def execUplinkFrame (port : Fin 8) (sd : Nat) (fr : Frame) (s : State) : Host.Outcome State Fault Refusal :=
  done (onlyIf (s.netOn && s.ringEn (port / 2) && s.portUp port) (uplinkFrame port sd fr) s)

/-! Feedback records (R106, R108, R227). -/

/-- The axis of the descriptor that a source releases, in the lowest pod that has one (DESIGN CHOICE, log entry
183). -/
def State.releaseAxis (s : State) (src arg : Nat) : Option Nat :=
  (List.range 4).findSome? fun p =>
    match (s.pod p).mtch.find? (fun m => m.2.1 = src && m.2.2 % argMod src = arg) with
    | some (i, _) =>
      let (base, _) := s.graphTable s.cyc p
      let r := s.decodeAt (yWordAddr p (base + 4 * i))
      if r.ok then some (bitsOf r.data 57 50) else none
    | none => none

/-- R108, R169, R172: POS and FBINV of axis a in a cycle, given the node's word 3 and DSTAT. With FBSRC 1 and the channel
disabled, word 3 stays the node's and FBINV is set (DESIGN CHOICE, log entry 216). -/
def State.axisPos (s : State) (cyc a pos dstat : Nat) : Nat × Bool :=
  if s.afAt cyc (Reg.AX_MODE a) 4 4 = 0 then (pos, !(dstat.testBit 4))
  else
    let c := s.afAt cyc (Reg.AX_MODE a) 7 5
    if s.afAt cyc (Reg.FB_CH_CTL c) 4 4 = 0 then (pos, true)
    else if (s.chan c).recCyc = some cyc then ((s.chan c).pos, (s.chan c).fbinv)
    else ((s.chan c).pos, true)

/-- R249: the age limit of axis a in a cycle. -/
def State.ageLim (s : State) (cyc a : Nat) : Nat :=
  s.afAt cyc (Reg.SLT_AGELIM (a / 4)) (8 * (a % 4) + 7) (8 * (a % 4))

/-- Words 0 to 2 of a feedback record of a cycle at word w for the axis, if any, with the supervision at acceptance
(R26, R106, R107, R124, R249); `keep` leaves word 3 as it is. Without an axis word 1 is 0.0 (DESIGN CHOICE, log entry
183). -/
def feedbackHead (cyc w : Nat) (axis : Option Nat) (age : Nat) (fresh empty keep : Bool) (pos dstat : Nat)
    (s : State) : State :=
  let (p, inv) := match axis with | some a => s.axisPos cyc a pos dstat | none => (pos, !(dstat.testBit 4))
  let valid := fresh && !empty && age = 0 && !inv
  let rs := match axis with | some a => rstateF32 (s.rstateAt cyc a) | none => 0
  let s := writeNet w [if valid then 0x3F800000 else 0, rs,
    age + b2n fresh * 256 + b2n empty * 512 + b2n inv * 1024] s
  let s := if keep then s else writeNet (w + 3) [p] s
  match axis with
  | none => s
  | some a =>
    let s := axTripIf (s.ageLim cyc a < age && s.ageLim cyc a ≠ 255) a 5 s
    let s := axTripIf (fresh && dstat.testBit 2) a 7 s
    let s := onlyIf (fresh && age = 0) (fun t => putAx a { t.ax a with fbPos := some (cyc, p) } t) s
    let s := onlyIf valid (keepValid a cyc p) s
    onlyIf fresh (fun t => putAx a { t.ax a with dstat := some (cyc, dstat) } t) s

/-- R214: the relay targets of uplink slot n take its payload of a cycle 24 ticks later. -/
def startRelay (cyc n age due : Nat) (ws : List Nat) (s : State) : State :=
  let e := s.actAt cyc (Reg.NET_RLY n)
  if bit e 31 || fld e 21 19 ≠ 0 then
    { s with net := { s.net with relays := s.net.relays ++ [⟨n, cyc, due + 24, ws, age⟩] } }
  else s

/-- A tick of the present cycle, or one while no cycles run: what is due in it comes before the next cycle start. -/
def State.inCycle (s : State) (due : Nat) : Bool := !s.running || due < s.tickOfNs s.time.nextNs

/-- FRAME_ACCEPT (R213): the record, the release, the relay. -/
def frameAccept (n : Nat) (s : State) : State :=
  match s.net.accepts.find? (fun a => a.n = n && s.inCycle a.due) with
  | none => s
  | some a =>
    let s := { s with net := { s.net with accepts := s.net.accepts.filter (fun b => b ≠ a),
                                          served := if a.cyc = s.cyc then s.net.served ++ [n] else s.net.served } }
    let s := keepUq (16 * n) a.cyc (advanceTo a.due s)
    let s := writeNet (16 * n + 3) a.words s
    let s := feedbackHead a.cyc (16 * n) (s.releaseAxis 1 (n / 80 + n % 80 * 4)) a.age true false false
      (a.words.getD 0 0) (a.words.getD 1 0) s
    startRelay a.cyc n a.age a.due a.words (releaseArrival (n / 80) (n % 80) s)

/-- FRAME_ACCEPT (R213). -/
def execFrameAccept (ring : Fin 4) (slot : Fin 80) (s : State) : Host.Outcome State Fault Refusal :=
  done (onlyIf s.netOn (frameAccept (80 * ring + slot)) s)

/-- R246, R219: the end of the window of uplink slot n in 1/80 ns, that of the intact window at port B for
an unreachable position. -/
def State.windowEnd (s : State) (n k : Nat) : Nat :=
  let r := n / 80
  let e := s.af (Reg.SLT_UE n) 23 0
  match s.uplinkAt r k e with
  | some (_, first) => sd80 first + wire80 42 + s.tol80 r
  | none => sd80 e + wire80 42 + 80 * s.af (Reg.NET_RING_CTL r) 15 8

/-- Seven payload words of a record as the hub relays them (agent 6). -/
def readPayload (w : Nat) (s : State) : (List Nat × Bool) × State :=
  (List.range 7).foldl (fun acc i =>
    let ((v, ok), t) := read32 6 0 (netAddr (w + 3 + i)) acc.2
    ((acc.1.1 ++ [v], acc.1.2 && ok), t)) (([], true), s)

/-- R398: DSTAT in the record at word w that a miss leaves; a bad word is no valid one, so that FB_VALID is 0. -/
def keptStat (w : Nat) (s : State) : Nat × State :=
  let ((d, ok), s) := read32 5 0 (netAddr ((w + 4) % 131072)) s
  (if ok then d else 0, s)

/-- R246: the miss tick of uplink slot n with position k in the present cycle. -/
def State.missTick (s : State) (n k : Nat) : Nat := s.tickAt (s.at80 (s.windowEnd n k)) + 32

/-- R246, R26: the miss of uplink slot n in a cycle, in its miss tick; its release belongs to the cycle of that tick
(R88). -/
def uplinkMiss (n cyc due : Nat) (s : State) : State :=
  let s := advanceTo due s
  let casc := s.afAt cyc Reg.SLT_CFG 3 3 = 1
  let ((old, ok), s) := read32 5 0 (netAddr (16 * n + 2)) s
  let (age, s) := if ok then (min 255 (old % 256 + 1), s) else (s.freeBits 8, useFree s)
  let ((pos, _), s) := read32 5 0 (netAddr (16 * n + 3)) s
  let (dst, s) := keptStat (16 * n) s
  let s := feedbackHead cyc (16 * n) (s.releaseAxis 1 (n / 80 + n % 80 * 4)) age false (!casc) true pos dst s
  let s := incRf (Reg.SLT_MCNT n) 15 0 s
  let (row, last) := kvGet (fun _ => (0, 0)) s.slt.missed n
  let cnt := kvPut (fun _ => (0, 0)) s.slt.missed n (if row ≠ 0 && last + 1 = cyc then row + 1 else 1, cyc)
  let s := { s with slt := { s.slt with missed := cnt } }
  let s := releaseArrival (n / 80) (n % 80) s
  if casc then
    let ((ws, good), s) := readPayload (16 * n) s
    if good then startRelay cyc n age s.time.tick ws s else s
  else s

/-- R246: uplink slot n is enabled and has been neither admitted nor missed in this cycle. -/
def State.missDue (s : State) (n : Nat) : Option Nat :=
  if s.csState = 5 && s.ringEn (n / 80) && s.ab (Reg.SLT_SLOT n) 29 && !(s.net.got.contains n)
      && !(s.net.served.contains n) then s.slotPos n else none

/-- The miss of uplink slot n that comes next: one of the cycle before, or that of this cycle. -/
def nextMiss (n : Nat) (s : State) : State :=
  match s.net.late.find? (fun m => m.n = n) with
  | some m => uplinkMiss n m.cyc m.due { s with net := { s.net with late := s.net.late.filter (fun x => x.n ≠ n) } }
  | none =>
    match s.missDue n with
    | some k =>
      onlyIf (s.inCycle (s.missTick n k))
        (fun t => uplinkMiss n t.cyc (t.missTick n k) { t with net := { t.net with served := t.net.served ++ [n] } }) s
    | none => s

/-- UPLINK_MISS (R246). -/
def execUplinkMiss (ring : Fin 4) (slot : Fin 80) (s : State) : Host.Outcome State Fault Refusal :=
  done (onlyIf s.netOn (nextMiss (80 * ring + slot)) s)

/-- R26: misses of the present cycle whose miss tick is not in it. -/
def State.missesLeft (s : State) : List LateMiss :=
  (List.range 320).filterMap fun n =>
    match s.missDue n with
    | some k => if s.inCycle (s.missTick n k) then none else some ⟨n, s.cyc, s.missTick n k⟩
    | none => none

/-! Hub relay (R214). -/

/-- State of cascade port p beyond its registers. -/
def State.casPort (s : State) (p : Nat) : CasPort := kvGet (fun _ => {}) s.cas.ports p

/-- Stores it. -/
def putCasPort (p : Nat) (v : CasPort) (s : State) : State :=
  { s with cas := { s.cas with ports := kvPut (fun _ => {}) s.cas.ports p v } }

/-- RELAY_COPY (R214): the copies of uplink slot n are ready. -/
def relayCopy (n : Nat) (s : State) : State :=
  match s.net.relays.find? (fun a => a.n = n && s.inCycle a.due) with
  | none => s
  | some a =>
    let s := advanceTo a.due s
    let s := { s with net := { s.net with relays := s.net.relays.filter (fun b => b ≠ a) } }
    let e := s.actAt a.cyc (Reg.NET_RLY n)
    let tgt := 80 * fld e 30 29 + fld e 28 22
    let s := if bit e 31 then
        let s := writeNet (0x1400 + 8 * tgt) (a.words.take 5) s
        { s with net := { s.net with relayRdy := kvPut (fun _ => (0, 256)) s.net.relayRdy tgt (a.cyc, a.age) } }
      else s
    forAll ((List.range 3).filter (fun p => (fld e 21 19).testBit p)) (fun p t =>
      let v := t.casPort p
      putCasPort p { v with relays := v.relays ++ [⟨fld e 18 11, a.cyc % 65536, a.age, a.words⟩] } t) s

/-- RELAY_COPY (R214). -/
def execRelayCopy (ring : Fin 4) (slot : Fin 80) (s : State) : Host.Outcome State Fault Refusal :=
  done (onlyIf s.netOn (relayCopy (80 * ring + slot)) s)

/-! Downlinks (R247). -/

/-- The axis whose command record is that of downlink slot n. -/
def State.slotAxis (s : State) (n : Nat) : Option Nat :=
  match (List.range 256).find? (fun a => (s.ax a).ob = some (0x1400 + 8 * n)) with
  | some a => some a
  | none => s.releaseAxis 1 (n / 80 + n % 80 * 4)

/-- Five words of a command record as the ring engine reads them (agent 5). -/
def readCommand (w : Nat) (s : State) : (List Nat × Bool) × State :=
  (List.range 5).foldl (fun acc i =>
    let ((v, ok), t) := read32 5 0 (netAddr (w + i)) acc.2
    ((acc.1.1 ++ [v], acc.1.2 && ok), t)) (([], true), s)

/-- R298: a pair member with SLOST sends nothing on its shared rings. -/
def State.silenced (s : State) (r : Nat) : Bool :=
  s.role r ≠ 0 && s.ab Reg.CAS_CFG 5 && s.rb Reg.SYN_STAT 3

/-- R222: the notice in the lead pairs that port p sends: UNLOOP during cycle M. -/
def State.leadSent (s : State) (p : Nat) : Option Byte :=
  if (s.ring (p / 2)).unloop.contains s.cyc then some (BitVec.ofNat 8 (0xF0 + (s.cyc + 2) % 4)) else none

/-- A frame with its SD at sd leaves port p. -/
def emitFrame (p sd : Nat) (f : Frame) (s : State) : State := emit (.frame p sd { f with lead := s.leadSent p }) s

/-- A frame leaves port p of ring r at an instant of the present cycle. -/
def sendFrame (p first16 : Nat) (f : Frame) (s : State) : Nat × State :=
  let (sd, s) := sendSd p first16 s
  (sd, emitFrame p sd f s)

/-- R211: port B expects the echo of a downlink sent from port A of an intact ring. -/
def expectEcho (r slot sd p : Nat) (s : State) : State :=
  match s.lat (keyT r) with
  | some t =>
    if p = 2 * r && s.echoOn r then
      let x := (sd + t) * 5
      { s with net := { s.net with echoes := s.net.echoes ++
          [⟨r, slot, s.cyc % 65536, x, x + wire80 34 + s.tol80 r⟩] } }
    else s
  | none => s

/-- R110: a payload of five words as the record of an axis is sent. -/
def State.sentList (s : State) (axis : Option Nat) (ws : List Nat) : List Nat :=
  match axis with
  | none => ws
  | some a =>
    let (w1, w2, w3, w4) := s.sentWords a (ws.getD 1 0, ws.getD 2 0, ws.getD 3 0, ws.getD 4 0)
    [ws.getD 0 0, w1, w2, w3, w4]

/-- R110, R247: the payload of slot n that is sent, with its AGE; none when the slot stays empty. -/
def downPayload (n : Nat) (axis : Option Nat) (s : State) : Option (List Nat × Nat) × State :=
  let ((ws, good), s) := readCommand (0x1400 + 8 * n) s
  let own := match axis with | some a => s.cmdReady a s.cyc s.time.tick | none => false
  let rly := kvGet (fun _ => (0, 256)) s.net.relayRdy n
  let hasRly := rly.2 < 256 && rly.1 = s.cyc
  if own && good then (some (s.sentList axis ws, 0), s)
  else if hasRly && good then (some (ws, rly.2), s)
  else
    let s := incRf (Reg.SLT_MCNT n) 31 16 s
    let s := match axis with | some a => axTrip a 6 s | none => s
    match s.net.lastSent.lookup n with
    | some (ls, age) =>
      if s.af Reg.SLT_CFG 3 3 = 0 then (none, s)
      else
        match axis with
        | none => (some (ls, min 255 (age + 1)), s)
        | some a =>
          let c := ctrlWord (s.axEn s.cyc a) (s.rstateAt s.cyc a)
          (some (s.sentList axis (c :: ls.drop 1), min 255 (age + 1)), s)
    | none => (none, s)

/-- DOWNLINK_DEPARTURE (R247). -/
def downDepart (n p first16 : Nat) (s : State) : State :=
  let s := advanceNs (min (s.at16 first16) (s.time.nextNs - 1)) s
  let s := { s with net := { s.net with departed := s.net.departed ++ [n] } }
  let axis := s.slotAxis n
  let (pay, s) := downPayload n axis s
  match pay with
  | none => s
  | some (ws, age) =>
    let r := n / 80
    if s.silenced r then s
    else
      let s := match axis with
        | some a => retainCopy a (ws.getD 1 0, ws.getD 2 0, ws.getD 3 0, ws.getD 4 0) s
        | none => s
      let s := { s with net := { s.net with lastSent := kvPut (fun _ => ([], 256)) s.net.lastSent n (ws, age) } }
      let (sd, s) := sendFrame p first16 (mkFrame (headOf 2 1 (n % 80) r (s.owner r) s.cyc age 0) ws) s
      expectEcho r (n % 80) sd p s

/-- R247: port and instant of the downlink of slot n, if it is due in this cycle. -/
def State.downDue (s : State) (n : Nat) : Option (Nat × Nat) :=
  if s.csState = 5 && s.ringEn (n / 80) && s.ab (Reg.SLT_SLOT n) 28 && !(s.net.departed.contains n) then
    match s.slotPos n with
    | some k => s.downlinkAt (n / 80) k (s.af (Reg.SLT_DD n) 23 0)
    | none => none
  else none

/-- DOWNLINK_DEPARTURE (R247). -/
def execDownlinkDeparture (ring : Fin 4) (slot : Fin 80) (s : State) : Host.Outcome State Fault Refusal :=
  done (match s.downDue (80 * ring + slot) with
    | some (p, d) => onlyIf s.netOn (downDepart (80 * ring + slot) p d) s
    | none => s)

/-- R211: a returning DATA-DN of ring r at port B, with its SD in 1/16 ns after cycle start. -/
def echoFrame (r sd16 : Nat) (f : Frame) (s : State) : State :=
  let s := portFrame (2 * r + 1) f (advanceNs (min (s.at16 sd16) (s.time.nextNs - 1)) s)
  let x := (s.cycStart / 2 ^ 28 + sd16) * 5
  let hit (e : EchoPend) : Bool := e.ring = r && e.slot = fSlot f && e.seq = fSeq f
  match s.net.echoes.find? hit with
  | none => s
  | some e =>
    let s := { s with net := { s.net with echoes := s.net.echoes.filter (fun y => !(hit y)) } }
    if fHcsOk f && fClean f && fCrcOk f && dist x e.sd ≤ s.tol80 r && x + wire80 (f.edAt - 1) ≤ e.fin then s
    else netErr r 5 s

/-- ECHO (R211). -/
def execNetEcho (ring : Fin 4) (sd : Nat) (fr : Frame) (s : State) : Host.Outcome State Fault Refusal :=
  done (onlyIf (s.netOn && s.ringEn ring) (echoFrame ring sd fr) s)

end Sys2Proof.Machine
end

