-- ==== Sys2Proof/Machine/Heal.lean ====
section
/-! DEFINITION. Probes and round-trip values (R215, R239, R240), loop notices, ring maps and restoration
(R219, R222), the links of the ports (R201). -/

namespace Sys2Proof.Machine

/-! Probes. -/

/-- R239, R243: the SLOT of the A-probe at place i of a round in which position h stands first. -/
def probeAt (h : Option Nat) (i : Nat) : Nat :=
  match h with
  | none => if i < 80 then i else 0x7F
  | some h => if i = 0 then h else if i ≤ h then i - 1 else if i < 80 then i else 0x7F

/-- R239: ring r moves on to the probes of a new cycle. -/
def nextProbe (r : Nat) (s : State) : State :=
  let v := s.ring r
  match v.ins with
  | k :: ks => putRing r { v with probeA := some k, probeB := some k, ins := ks, insRun := true } s
  | [] =>
    let v := if v.round = 0 then { v with head := v.wantHead, wantHead := none } else v
    let i := v.round
    putRing r { v with probeA := some (probeAt v.head i), probeB := if i < 80 then some i else none, insRun := false,
                       round := (i + 1) % 81 } s

/-- Probes run: INTEG and RUN. -/
def State.probing (s : State) : Bool := s.csState = 4 || s.csState = 5

/-- R239, R240: the SLOT of the probe that port p has to send in this cycle. -/
def State.probeDue (s : State) (p : Nat) : Option Nat :=
  let r := p / 2
  let v := s.ring r
  if !(s.probing && s.ringEn r) || s.silenced r then none
  else if p % 2 = 0 then (if s.role r ≠ 2 && s.ab (Reg.SLT_PRA r) 31 then v.probeA else none)
  else if s.role r ≠ 1 && s.ab (Reg.SLT_PRB r) 31 then v.probeB else none

/-- Words of a payload that begins with a time in 1/16 ns and ends its third word with 16 more bits. -/
def timeWords (t16 hi16 : Nat) : List Nat :=
  let ns := t16 / 16
  [ns % 2 ^ 32, ns / 2 ^ 32 % 2 ^ 32, t16 % 16 * 4096 + hi16 % 65536 * 65536]

/-- PROBE_SEND at port p of the probe with SLOT k. In a ring shared at A the SLOT 0x7F probe ends at the partner,
which measures TAUB (R215). -/
def probeSend (p k : Nat) (s : State) : State :=
  let r := p / 2
  let inst := s.af (if p % 2 = 0 then Reg.SLT_PRA r else Reg.SLT_PRB r) 23 0
  let s := advanceNs (min (s.at16 inst) (s.time.nextNs - 1)) s
  let v := s.ring r
  let num := (v.num + 1) % 65536
  let (sd, s) := sendSd p inst s
  let key := if k = 0x7F then keyT r else if p % 2 = 0 then keyA r k else keyB r k
  let back := if k = 0x7F then 2 * r + 1 else p
  let pend := if k = 0x7F && s.role r = 1 then [] else [⟨num, back, key, sd⟩]
  let first := p % 2 = 0 && !v.insRun && v.round = 1 && v.head = some k
  let s := putRing r { v with num := num, pend := v.pend ++ pend, headNum := if first then some num else v.headNum,
                              probeA := if p % 2 = 0 then none else v.probeA,
                              probeB := if p % 2 = 1 then none else v.probeB } s
  emitFrame p sd (mkFrame (headOf 6 1 k r (s.owner r) s.cyc 0 0) (timeWords sd num ++ [0, 0])) s

/-- PROBE_SEND (R239). -/
def execProbeSend (port : Fin 8) (s : State) : Host.Outcome State Fault Refusal :=
  done (match s.probeDue port with
    | some k => onlyIf s.netOn (probeSend port k) s
    | none => s)

/-- Shows a value or its absence in its register; the latched copy follows at the next cycle start. -/
def showValue (key : Nat) (v : Option Nat) (s : State) : State :=
  let s := { s with net := { s.net with changed := if key ∈ s.net.changed then s.net.changed else s.net.changed ++ [key] } }
  match v with
  | some x => setReg (keyReg key) (BitVec.ofNat 32 (2 ^ 31 + min x 0xFFFFFF)) s
  | none =>
    let s := setRb (keyReg key) 31 false s
    if 640 ≤ key then dropEchoes (key - 640) s else s

/-- R216: a TAUB measured while the ring is intact, or shared, is the one to hold from the next cycle start on. -/
def noteTaub (key x : Nat) (s : State) : State :=
  let r := key - 640
  if 640 ≤ key && (s.role r ≠ 0 || s.ringState r = 1) then putRing r { s.ring r with taubNew := some x } s else s

/-- R215: a sample joins the mean of the last 16, rounded to the nearest 1/16 ns, a half up. -/
def addSample (key x : Nat) (s : State) : State :=
  let xs := (x :: kvGet (fun _ => []) s.net.samples key).take 16
  let samples := kvPut (fun _ => []) s.net.samples key xs
  let lost := kvPut (fun _ => 0) s.net.lost key 0
  let s := { s with net := { s.net with samples := samples, lost := lost } }
  let x := (2 * xs.foldl (· + ·) 0 + xs.length) / (2 * xs.length)
  noteTaub key (min x 0xFFFFFF) (showValue key (some x) s)

/-- R243: the probe that stood first for the pending claim has returned or been lost. -/
def claimProbe (r num : Nat) (s : State) : State :=
  let c := kvGet (fun _ => ({} : ClaimSt)) s.slt.claims r
  if s.rb (Reg.SLT_CLAIM r) 31 && (s.ring r).headNum = some num then
    { s with slt := { s.slt with claims := kvPut (fun _ => {}) s.slt.claims r { c with probed := true } } }
  else s

/-- PROBE_RETURN (R215, R240): a probe that is expected at port p, by its number and its SLOT (DEDUCED, log entry 240),
and whole is timed at its SD; in a ring shared at B the partner's SLOT 0x7F probe at port B gives TAUB. -/
def probeReturn (p sd16 : Nat) (f : Frame) (s : State) : State :=
  let r := p / 2
  let s := portFrame p f (advanceNs (min (s.at16 sd16) (s.time.nextNs - 1)) s)
  let num := fWord f 2 / 65536
  let good := fType f = 6 && fHcsOk f && fCrcOk f && fClean f
  let arr := s.cycStart / 2 ^ 28 + sd16
  let key := if fSlot f = 0x7F then keyT r else if p % 2 = 0 then keyA r (fSlot f) else keyB r (fSlot f)
  match (s.ring r).pend.find? (fun e => e.num = num && e.port = p && e.key = key) with
  | none =>
    if s.role r = 2 && p % 2 = 1 && fSlot f = 0x7F && fDir f && good then addSample (keyT r) (arr - fTime f / 4096) s
    else s
  | some e =>
    if good then
      let dep := if e.key = keyT r then fTime f / 4096 else e.dep
      let s := putRing r { s.ring r with pend := (s.ring r).pend.filter (fun x => x.num ≠ num) } s
      claimProbe r num (addSample e.key (arr - dep) s)
    else s

/-- PROBE_RETURN (R240). -/
def execProbeReturn (port : Fin 8) (sd : Nat) (fr : Frame) (s : State) : Host.Outcome State Fault Refusal :=
  done (onlyIf s.netOn (probeReturn port sd fr) s)

/-- PROBE_LOST (R240): two cycle lengths after its departure a probe is lost; four in a row make the value
invalid and discard its samples. -/
def probeLost (p num : Nat) (s : State) : State :=
  let r := p / 2
  match (s.ring r).pend.find? (fun e => e.num = num && e.port = p) with
  | none => s
  | some e =>
    let u := e.dep * 2 ^ 28 + 2 * s.clenU
    if s.running && s.time.nextNs ≤ u then s
    else
      let s := advanceNs u s
      let s := putRing r { s.ring r with pend := (s.ring r).pend.filter (fun x => x.num ≠ num) } s
      let n := kvGet (fun _ => 0) s.net.lost e.key + 1
      let lost := kvPut (fun _ => 0) s.net.lost e.key n
      let s := { s with net := { s.net with lost := lost } }
      let s := if n = 4 then
          let samples := kvPut (fun _ => []) s.net.samples e.key []
          showValue e.key none { s with net := { s.net with samples := samples } }
        else s
      claimProbe r num s

/-- PROBE_LOST (R240). -/
def execProbeLost (port : Fin 8) (num : Fin 65536) (s : State) : Host.Outcome State Fault Refusal :=
  done (onlyIf s.netOn (probeLost port num) s)

/-- R239: positions whose slot has been integrated. -/
def State.integrated (s : State) (r : Nat) : List Nat :=
  (List.range 80).filter fun k => (List.range 80).any fun i =>
    s.slotPos (80 * r + i) = some k && s.rb (Reg.SLT_SST (80 * r + i)) 31

/-- R239: a round over the integrated positions is inserted, unless one runs. -/
def probeRound (r : Nat) (s : State) : State :=
  if (s.ring r).ins.isEmpty && !((s.ring r).insRun) then putRing r { s.ring r with ins := s.integrated r } s else s

/-- PROBE (R239): one round over the integrated positions; ignored while such a round runs. -/
def execNetProbe (ring : Fin 4) (s : State) : Host.Outcome State Fault Refusal :=
  done (regWrite (Reg.NET_RING_CMD ring) (probeRound ring) s)

/-! Notices and maps. -/

/-- LOOP_NOTICE (R219). -/
def execLoopNotice (port : Fin 8) (pos : Fin 80) (s : State) : Host.Outcome State Fault Refusal :=
  done (onlyIf (s.netOn && s.role (port / 2) = 0) (ringNotice port pos false) s)

/-- SEGOK_NOTICE (R219). -/
def execSegokNotice (port : Fin 8) (pos : Fin 80) (s : State) : Host.Outcome State Fault Refusal :=
  done (onlyIf (s.netOn && s.role (port / 2) = 0) (ringNotice port pos true) s)

/-- A position of NET_RING_STAT_r as read that a valid bit guards. -/
def noticeIn (w : Word) (vb hi lo : Nat) : Option Nat := if bit w vb then some (fld w hi lo) else none

/-- NET_RING_STAT_r without the notices of the present sysclk (R219, R36). -/
def State.noticesHeld (s : State) (r : Nat) : Word :=
  let a := Reg.NET_RING_STAT r
  if (s.noted a).upd &&& maskW 23 6 = 0 then s.reg a else (s.noted a).was

/-- R219: at a cutoff ring r, a single one, builds the map of the next cycle. -/
def ringCutoff (r : Nat) (s : State) : State :=
  let ja := noticeIn (s.noticesHeld r) 15 14 8
  let jb := noticeIn (s.noticesHeld r) 23 22 16
  if s.role r ≠ 0 then putRing r { s.ring r with next := none } s
  else putRing r { s.ring r with next := some (ja, jb, ja.isSome && !(s.portUp (2 * r)),
                                          jb.isSome && !(s.portUp (2 * r + 1))) } s

/-- R222: a notice of ring r is held. -/
def State.noticed (s : State) (r : Nat) : Bool :=
  s.rb (Reg.NET_RING_STAT r) 15 || s.rb (Reg.NET_RING_STAT r) 23 || s.rf (Reg.NET_RING_STAT r) 7 6 ≠ 0

/-- R222: the ring is ordered to be restored; ignored while no notice is held. -/
def restoreOrder (r : Nat) (s : State) : State :=
  if s.noticed r then putRing r { s.ring r with restore := true } s else s

/-- RESTORE (R222). -/
def execNetRestore (ring : Fin 4) (s : State) : Host.Outcome State Fault Refusal :=
  done (regWrite (Reg.NET_RING_CMD ring) (restoreOrder ring) s)

/-- AUTO_RESTORE (R222): both SEGOK notices held for 1,024 cycles in a row, with AUTORST. -/
def execAutoRestore (ring : Fin 4) (s : State) : Host.Outcome State Fault Refusal :=
  done (onlyIf (s.netOn && s.ab (Reg.NET_RING_CTL ring) 3 && decide (1024 ≤ (s.ring ring).segCnt) &&
    (s.ring ring).unloop.isEmpty)
    (restoreOrder ring) s)

/-- R216: the values changed since the last cycle start are latched. -/
def latchValues (s : State) : State :=
  let s := s.net.changed.foldl (fun t key =>
    let w := t.reg (keyReg key)
    let lat := kvPut (fun _ => 0) t.net.lat key (if bit w 31 then fld w 23 0 + 1 else 0)
    { t with net := { t.net with lat := lat } }) s
  { s with net := { s.net with changed := [] } }

/-- R216: a TAUB measured in the cycle that has ended is held. -/
def takeTaub (r : Nat) (s : State) : State :=
  let v := s.ring r
  if v.taubNew.isSome then putRing r { v with taub := v.taubNew, taubNew := none } s else s

/-- R216, R260: the TAUB held: the latched value while the ring is intact or shared. -/
def holdTaub (r : Nat) (s : State) : State :=
  match s.lat (keyT r) with
  | some t => if s.role r ≠ 0 || s.ringState r = 1 then putRing r { s.ring r with taub := some t } s else s
  | none => s

/-- R260: V and DMODE of every position that the intact ring gives are held. -/
def holdDelays (r : Nat) (s : State) : State :=
  if s.role r = 0 && s.ringState r = 1 then
    let vs := (List.range 80).foldl (fun m k =>
      match s.delayOf r k with | some v => kvPut (fun _ => (0, 4)) m k v | none => m) (s.ring r).heldV
    putRing r { s.ring r with heldV := vs } s
  else s

/-- R219: positions of enabled slots that cannot be reached. -/
def State.unreachable (s : State) (r : Nat) : List Nat :=
  if s.ringEn r && ((s.role r = 0 && !(s.intactMap r)) || (s.role r ≠ 0 && s.probing)) then
    (List.range 80).filterMap fun i =>
      match s.slotPos (80 * r + i) with
      | some k => if (s.uplinkAt r k 0).isNone || (s.downlinkAt r k 0).isNone then some k else none
      | none => none
  else []

/-- R219: UNREACH for positions that have become unreachable; `told` where a change of the map has been reported. -/
def noteUnreachable (r : Nat) (told : Bool) (s : State) : State :=
  let un := s.unreachable r
  let s := onlyIf (!told && !un.isEmpty && decide (un ≠ (s.ring r).unr)) (flagEvent 5 0 8 clsWarn r (Reg.NET_ERR r)) s
  putRing r { s.ring r with unr := un } s

/-- R222: the intact map applies at the start of cycle M + 2; the notices are forgotten. -/
def ringRestored (r cyc : Nat) (s : State) : State :=
  let v := s.ring r
  let s := putRing r { v with ja := none, jb := none, emptyA := false, emptyB := false, next := none,
                              unloop := v.unloop.filter (fun m => cyc < m + 2), segCnt := 0, unr := [] } s
  flagEvent 5 0 7 clsWarn r (Reg.NET_ERR r) (setRf (Reg.NET_RING_STAT r) 23 6 0 s)

/-- R219: the map built at the cutoff is in force. -/
def ringMap (r : Nat) (s : State) : State :=
  let v := s.ring r
  match v.next with
  | none => noteUnreachable r false s
  | some (ja, jb, ea, eb) =>
    let same := decide ((v.ja, v.jb, v.emptyA, v.emptyB) = (ja, jb, ea, eb))
    let first := v.ja.isNone && v.jb.isNone
    let s := putRing r { v with ja := ja, jb := jb, emptyA := ea, emptyB := eb, next := none } s
    let s := if same then s else flagEvent 5 0 (if first then 6 else 8) clsWarn r (Reg.NET_ERR r) s
    noteUnreachable r (!(same || first)) s

/-- R222: during cycle M both ports send UNLOOP for cycle M + 2. -/
def ringUnloop (r cyc : Nat) (s : State) : State :=
  let b := 0xF0 + (cyc + 2) % 4
  emit (.notice (2 * r + 1) b) (emit (.notice (2 * r) b)
    (putRing r { s.ring r with restore := false, unloop := (s.ring r).unloop ++ [cyc] } s))

/-- Ring r at the start of cycle cyc (R216, R219, R222, R239). -/
def ringCycleStart (r cyc : Nat) (s : State) : State :=
  let s := takeTaub r (if s.role r ≠ 0 then holdTaub r s else s)
  let s := if (s.ring r).unloop.any (fun m => decide (m + 2 ≤ cyc)) then ringRestored r cyc s else ringMap r s
  let s := holdDelays r (holdTaub r s)
  let s := if (s.ring r).restore then ringUnloop r cyc s else s
  let seg := if s.rf (Reg.NET_RING_STAT r) 7 6 = 3 then (s.ring r).segCnt + 1 else 0
  let s := showRing r (putRing r { s.ring r with segCnt := seg } s)
  onlyIf (s.probing && s.ringEn r) (nextProbe r) s

/-! Links. -/

/-- R200: the receiver of port p has adapted since its last step, by one code for each 4,096 symbols at most; where the
settings have gone and what the eye shows the spec leaves open (log entry 3). EQFRZ holds the settings. -/
def adaptPort (p : Nat) (freeze : Bool) (s : State) : State :=
  let t := kvGet (fun _ => 0) s.net.adapt p
  let n := (s.mtick - t) * 25 / 2 ^ 18
  if n = 0 || !(s.rb (Reg.NET_PORT_STAT p) 1) then s
  else
    let s := { s with net := { s.net with adapt := kvPut (fun _ => 0) s.net.adapt p (t + (n * 2 ^ 18 + 24) / 25) } }
    let v := s.freeBits 32
    let s := setRf (Reg.NET_PORT_STAT p) 31 24 (v % 256) (useFree s)
    if freeze then s
    else
      let ctle := clampInt 0 15 ((s.rf (Reg.NET_PORT_STAT p) 23 20 : Int) + ((v / 512 % (2 * n + 1) : Nat) : Int) - n)
      setRf (Reg.NET_PORT_STAT p) 23 20 ctle.toNat (setRf (Reg.NET_PORT_STAT p) 4 4 (v / 256 % 2) s)

/-- SIGDET, CDRLOCK, ALIGNED and LINKUP of a receiver: lock needs the signal and alignment the lock, and the link is up
after 1,024 symbols in a row without an error with all three (R201). -/
def linkBits (x : RxHas) (clean : Nat) : Nat :=
  if !x.signal then 0 else if !x.lock then 1 else if !x.align then 3 else if clean < 1024 then 7 else 15

/-- R200: the equaliser as a receiver without lock has set it anew; it adapts from now on. -/
def newEq (p : Nat) (eq : RxEq) (s : State) : State :=
  let a := Reg.NET_PORT_STAT p
  let s := { s with net := { s.net with adapt := kvPut (fun _ => 0) s.net.adapt p s.mtick } }
  onlyIf (!(s.ab (Reg.NET_PORT_CTL p) 7)) (fun t => setRf a 4 4 (b2n eq.dfesat) (setRf a 23 20 eq.ctle t)) s

/-- LINK_UP (R201): what the receiver has of its link, with its eye and its equaliser (R200), whose settings EQFRZ holds
and which a receiver in lock adapts code by code. -/
def linkUp (p eye : Nat) (eq : RxEq) (clean : Nat) (s : State) : State :=
  if s.portUp p then s
  else
    let a := Reg.NET_PORT_STAT p
    let s := if s.rb a 1 then adaptPort p (s.ab (Reg.NET_PORT_CTL p) 7) s else newEq p eq s
    showRing (p / 2) (setRf a 3 0 (linkBits eq.has clean) (setRf a 31 24 eye s))

/-- LINK_UP (R201). -/
def execLinkUp (port : Fin 8) (eye : Fin 256) (eq : RxEq) (clean : Nat) (s : State) :
    Host.Outcome State Fault Refusal :=
  done (onlyIf (s.live 6) (linkUp port eye eq clean) s)

/-- R201: what a receiver has seen is the loss of its link: signal absent for 64 symbols, no comma for 256, 4 invalid
code groups within the last 16, or 4 RFAULT pairs in a row on an input in use. -/
def lossSeen (used : Bool) (rx : RxFail) : Bool :=
  64 ≤ rx.absent || 256 ≤ rx.silent || 4 ≤ (List.range 16).countP (fun i => rx.bad.getLsbD i) || (4 ≤ rx.rfault && used)

/-- SIGDET, CDRLOCK and ALIGNED after a loss, from those before: lock and alignment go with the signal (DESIGN CHOICE,
log entry 184). -/
def afterLoss (rx : RxFail) (old : Nat) : Nat :=
  if 64 ≤ rx.absent then 0 else old % (if rx.silent < 256 then 8 else 4)

/-- Table 7-1: a ring uses the input of port p by its role. -/
def State.portUsed (s : State) (p : Nat) : Bool :=
  s.ringEn (p / 2) && (match s.role (p / 2) with | 1 => p % 2 = 0 | 2 => p % 2 = 1 | _ => true)

/-- R201: the link of port p is lost. -/
def State.linkLost (s : State) (p : Nat) (rx : RxFail) : Bool := lossSeen (s.portUsed p) rx

/-- LINK_LOSS (R201, R202), with the invalid code groups and disparity errors seen outside frames; short of a loss they
are counted alone. -/
def linkLoss (p : Nat) (rx : RxFail) (s : State) : State :=
  let up := s.portUp p
  let s := addRf (Reg.NET_PORT_CNT p) 15 0 rx.cv s
  if !(s.linkLost p rx) then s
  else
    let s := setRf (Reg.NET_PORT_STAT p) 3 0 (afterLoss rx (s.rf (Reg.NET_PORT_STAT p) 2 0)) s
    let s := onlyIf up (fun t => observed <| regEvent 5 1 16 clsWarn p (Reg.NET_PORT_CNT p) (incRf (Reg.NET_PORT_CNT p) 31 16 t)) s
    showRing (p / 2) s

/-- LINK_LOSS (R201). -/
def execLinkLoss (port : Fin 8) (rx : RxFail) (s : State) : Host.Outcome State Fault Refusal :=
  done (onlyIf (s.live 6) (linkLoss port rx) s)

end Sys2Proof.Machine
end

