-- ==== Sys2Proof/Machine/Slots.lean ====
section
/-! DEFINITION. Network start-up, beacons, claims, spare slots and mutes (R231 to R250). -/

namespace Sys2Proof.Machine

/-- Shows a start-up state (Table 8-2). -/
def setCs (st : Nat) (s : State) : State := setRf Reg.SLT_CS_STAT 2 0 st s

/-- NS of the first cycle start above the present instant (R272). -/
def State.nextStart (s : State) : Nat := s.cycStart + s.clenU

/-- R231, R233: entry into LISTEN. -/
def enterListen (s : State) : State := setCs 1 { s with slt := { s.slt with since := s.time.ns, stop := false } }

/-- START (R231): from OFF to LISTEN. -/
def startCmd (s : State) : State := if s.csState = 0 then enterListen s else s

/-- START (R231). -/
def execCsStart (s : State) : Host.Outcome State Fault Refusal :=
  done (regWrite Reg.SLT_CS_CMD startCmd s)

/-- R269, R270: a correction that has not begun is dropped. -/
def dropCorrection (s : State) : State :=
  { s with syn := { s.syn with pendC := none, pendRate := none
                               cLog := if s.syn.pendC.isSome then s.syn.cLog.drop 1 else s.syn.cLog } }

/-- R231, R238, R272: entry into OFF; INTEG of every slot and the lock are cleared. -/
def goOff (s : State) : State :=
  let s := forAll (List.range 320) (fun n t =>
    if t.rb (Reg.SLT_SST n) 31 then setRb (Reg.SLT_SST n) 31 false t else t) s
  let s := setRb Reg.SYN_STAT 0 false (setCs 0 s)
  let s := dropCorrection (setRf Reg.SLT_CS_STAT 23 16 0 s)
  { s with slt := { s.slt with stop := false, window := none, collided := false, missed := [], served := [] }
           time := { s.time with starts := [] }
           net := { s.net with late := [] }
           cas := { s.cas with said := none, ports := s.cas.ports.map fun (p, v) => (p, { v with late := none }) }
           syn := { s.syn with oc := 0, ocRem := 0, fin := 0 } }

/-- R233, R272: entry into COLD at the start of the present cycle. -/
def enterCold (coldstart : Bool) (s : State) : State :=
  let s := setRb Reg.SYN_STAT 0 true (setCs 3 s)
  let s := if coldstart then { s with syn := { s.syn with casDev := [], refDev := [] } } else s
  { s with cmt := { s.cmt with ended := none }
           slt := { s.slt with cold0 := s.cyc, collided := false, window := if coldstart then none else some 0 } }

/-- R234: the controller is inside its own coldstart window. -/
def State.inWindow (s : State) : Bool :=
  s.csState = 3 && (match s.slt.window with | some w => decide (s.time.ns < w + s.clenU) | none => false)

/-- BACKOFF_END (R234). -/
def backoffEnd (s : State) : State :=
  let s := advanceNs (s.slt.since + 3 * (s.ownId + 1) * s.clenU) s
  enterListen (setRf Reg.SLT_CS_STAT 23 16 0 s)

/-- BACKOFF_END (R234). -/
def execBackoffEnd (s : State) : Host.Outcome State Fault Refusal :=
  done (onlyIf (s.live 6 && decide (s.csState = 2)) backoffEnd s)

/-- R239: the probe rounds start with INTEG. -/
def startRounds (s : State) : State :=
  forAll (List.range 4) (fun r t =>
    let t := putRing r { t.ring r with round := 0, ins := [], insRun := false } t
    onlyIf (t.ringEn r) (nextProbe r) t) s

/-- COLD_END (R235): after 8 cycles of COLD. In INTEG the positions of a shared ring count, reached or not (R219). -/
def execColdEnd (s : State) : Host.Outcome State Fault Refusal :=
  done (onlyIf (s.live 6 && decide (s.csState = 3) && !s.slt.collided && decide (s.slt.cold0 + 8 ≤ s.cyc))
    (fun t => forAll (List.range 4) (fun r => noteUnreachable r false) (startRounds (setCs 4 t))) s)

/-- INTEG_END (R235): after 162 cycles of INTEG; nothing has been sent since this entry into RUN (R247). -/
def execIntegEnd (s : State) : Host.Outcome State Fault Refusal :=
  done (onlyIf (s.live 6 && decide (s.csState = 4) && decide (s.slt.cold0 + 170 ≤ s.cyc))
    (fun t => setCs 5 { t with net := { t.net with lastSent := [] } }) s)

/-! Beacons. -/

/-- State of the claim of ring r. -/
def State.claim (s : State) (r : Nat) : ClaimSt := kvGet (fun _ => {}) s.slt.claims r

/-- Stores it. -/
def putClaim (r : Nat) (v : ClaimSt) (s : State) : State :=
  { s with slt := { s.slt with claims := kvPut (fun _ => {}) s.slt.claims r v } }

/-- R236, Table 8-4: GSLOT, GSER and GPOS of the beacons of ring r. -/
def State.beaconAnswer (s : State) (r : Nat) : Nat × Nat × Nat :=
  match (s.claim r).answer with
  | some (g, ser, pos, first) => if first ≤ s.cyc && s.cyc < first + 4 then (g, ser, pos) else (0x7F, 0, 0x7F)
  | none => (0x7F, 0, 0x7F)

/-- Table 8-4: REF of ring r in 25 bits: E − TAUB of the granted slot or of the claim slot. -/
def State.beaconRef (s : State) (r g : Nat) : Nat :=
  match (s.ring r).taub with
  | none => 0x1000000
  | some t =>
    let e := if 128 ≤ g then s.af (Reg.SLT_UE (80 * r + g % 128)) 23 0 else s.af (Reg.SLT_CLM r) 23 0
    ofSigned 25 ((e : Int) - t)

/-- Table 8-4: the payload of a beacon with an answer and REF. -/
def State.beaconWords (s : State) (ans : Nat × Nat × Nat) (ref : Nat) : List Nat :=
  let (g, ser, pos) := ans
  let img := (s.act Reg.SLT_IMG).toNat
  let b12 := s.af Reg.SLT_CFG 2 0 + s.af Reg.SLT_CFG 3 3 * 8 + s.ownId * 16 + (s.csState - 3) % 4 * 64
  [s.cyc % 2 ^ 32, s.cyc / 2 ^ 32 % 65536 + img % 65536 * 65536, img / 65536 + s.af Reg.SLT_OPH 15 0 * 65536,
   b12 + g * 256 + ser * 65536, ref % 2 ^ 25 + pos % 128 * 2 ^ 25]

/-- Beacons are sent: COLD without a collision, INTEG, RUN. -/
def State.beaconing (s : State) : Bool :=
  (s.csState = 3 && !s.slt.collided) || s.csState = 4 || s.csState = 5

/-- R234: the first beacon opens the coldstart window. -/
def openWindow (s : State) : State :=
  if s.csState = 3 && s.slt.window.isNone then { s with slt := { s.slt with window := some s.time.ns } } else s

/-- BEACON_SEND (R236). -/
def beaconSend (r : Nat) (s : State) : State :=
  let inst := s.af (Reg.SLT_BCN r) 23 0
  let s := openWindow (advanceNs (min (s.at16 inst) (s.time.nextNs - 1)) s)
  let ans := s.beaconAnswer r
  (sendFrame (2 * r) inst (mkFrame (headOf 4 1 0x70 r (s.owner r) s.cyc 0 0)
    (s.beaconWords ans (s.beaconRef r ans.1))) s).2

/-- BEACON_SEND (R236). -/
def execBeaconSend (ring : Fin 4) (s : State) : Host.Outcome State Fault Refusal :=
  done (onlyIf (s.netOn && s.beaconing && s.ringEn ring && decide (s.role ring ≠ 2) &&
    s.ab (Reg.SLT_BCN ring) 31) (beaconSend ring) s)

/-! Claims (R243 to R245). -/

/-- Slot n is an enabled spare slot that no grant holds, or whose release is due. -/
def State.freeSpare (s : State) (n : Nat) : Bool :=
  s.ab (Reg.SLT_SLOT n) 31 && s.ab (Reg.SLT_SLOT n) 30 &&
    (!(s.rb (Reg.SLT_SST n) 29) || s.slt.release.contains n)

/-- The lowest-numbered free spare slot of ring r. -/
def State.firstSpare (s : State) (r : Nat) : Option Nat := (List.range 80).find? fun i => s.freeSpare (80 * r + i)

/-- RTTA of a position as measured, if valid. -/
def State.rtta (s : State) (r k : Nat) : Option Nat :=
  if s.rb (Reg.NET_RTTA (80 * r + k)) 31 then some (s.rf (Reg.NET_RTTA (80 * r + k)) 23 0) else none

/-- Table 8-6, 5: RTTA lies between those of the nearest integrated positions; where there is none on a side, or its
RTTA is invalid, that side sets no bound (DESIGN CHOICE, log entry 238). -/
def State.rttBetween (s : State) (r k x : Nat) : Bool :=
  let is := s.integrated r
  let lo := (is.filter (· < k)).getLast?
  let hi := (is.filter (k < ·)).head?
  (match lo with | some j => (s.rtta r j).all (fun y => decide (y < x)) | none => true) &&
  (match hi with | some j => (s.rtta r j).all (fun y => decide (x < y)) | none => true)

/-- Table 8-6: the reason against the claim of ring r, 0 for none. -/
def State.claimReason (s : State) (r : Nat) : Nat :=
  let k := (s.claim r).pos
  let fixed := (List.range 80).any fun i =>
    s.ab (Reg.SLT_SLOT (80 * r + i)) 31 && !(s.ab (Reg.SLT_SLOT (80 * r + i)) 30) && s.af (Reg.SLT_SLOT (80 * r + i)) 6 0 = k
  let held := (List.range 80).any fun i =>
    s.rb (Reg.SLT_SST (80 * r + i)) 29 && s.rf (Reg.SLT_SST (80 * r + i)) 28 22 = k && !(s.slt.release.contains (80 * r + i))
  if 79 < k || fixed then 1
  else if held then 2
  else if (s.firstSpare r).isNone then 3
  else
    match s.rtta r k, (s.ring r).taub with
    | some x, some _ => if s.rttBetween r k x then 0 else 5
    | _, _ => 4

/-- R244: a refusal of the claim of ring r with its reason. -/
def refuseClaim (r rsn : Nat) (s : State) : State :=
  let c := s.claim r
  let s := setRf (Reg.SLT_CLAIM r) 23 20 rsn (setRb (Reg.SLT_CLAIM r) 31 false s)
  regEvent 6 2 20 clsWarn r (Reg.SLT_CLAIM r)
    (putClaim r { c with judged := false, fw := none, answer := some (0x7E, c.ser, 0x7F, s.cyc + 1) } s)

/-- R244: a grant of spare slot i. -/
def grantClaim (r i : Nat) (s : State) : State :=
  let c := s.claim r
  let k := s.rf (Reg.SLT_CLAIM r) 30 24
  let s := setRb (Reg.SLT_CLAIM r) 31 false s
  regEvent 6 2 31 clsWarn r (Reg.SLT_CLAIM r)
    (putClaim r { c with judged := false, fw := none, grant := some (i, k),
                         answer := some (0x80 + i, c.ser, k, s.cyc + 1) } s)

/-- CLAIM_EVALUATE at a cutoff (R243): the hardware's conditions, firmware's refusal, the grant of CLAIMAUTO; else the
claim waits for firmware. -/
def claimCutoff (r : Nat) (s : State) : State :=
  let c := s.claim r
  if !(s.rb (Reg.SLT_CLAIM r) 31) || !c.probed then s
  else
    let rsn := if c.judged then 0 else s.claimReason r
    if rsn ≠ 0 then refuseClaim r rsn s
    else
      match c.fw, s.ab Reg.SLT_CFG 5 && !c.judged with
      | some none, _ => refuseClaim r 6 s
      | _, true => (match s.firstSpare r with | some i => grantClaim r i s | none => refuseClaim r 3 s)
      | some (some i), false =>
        if i < 80 && s.freeSpare (80 * r + i) then grantClaim r i s else refuseClaim r 3 s
      | none, false => putClaim r { c with judged := true } s

/-- Firmware's answer to the pending claim of ring r; ignored without one. -/
def answerClaim (r : Nat) (a : Option Nat) (s : State) : State :=
  if s.rb (Reg.SLT_CLAIM r) 31 then putClaim r { s.claim r with fw := some a } s else s

/-- R245: slot i of ring r is to be released, if a grant holds it. -/
def wantRelease (r i : Nat) (s : State) : State :=
  if i < 80 && s.rb (Reg.SLT_SST (80 * r + i)) 29 && !(s.slt.release.contains (80 * r + i)) then
    { s with slt := { s.slt with release := s.slt.release ++ [80 * r + i] } }
  else s

/-- GRANT (R243). -/
def execClaimGrant (ring : Fin 4) (slot : Fin 128) (s : State) : Host.Outcome State Fault Refusal :=
  done (regWrite (Reg.SLT_GRANT ring) (answerClaim ring (some slot)) s)

/-- REFUSE (R243). -/
def execClaimRefuse (ring : Fin 4) (s : State) : Host.Outcome State Fault Refusal :=
  done (regWrite (Reg.SLT_GRANT ring) (answerClaim ring none) s)

/-- RELEASE (R245). -/
def execClaimRelease (ring : Fin 4) (slot : Fin 128) (s : State) : Host.Outcome State Fault Refusal :=
  done (regWrite (Reg.SLT_GRANT ring) (wantRelease ring slot) s)

/-- R245: cycles in a row, up to this one or the one before, in which uplink slot n has been missed. -/
def State.missRun (s : State) (n : Nat) : Nat :=
  let (row, last) := kvGet (fun _ => (0, 0)) s.slt.missed n
  if s.cyc ≤ last + 1 then row else 0

/-- SPARE_AUTO_RELEASE (R245): missed for SPAREREL × 256 cycles in a row. -/
def execSpareAutoRelease (ring : Fin 4) (slot : Fin 80) (s : State) : Host.Outcome State Fault Refusal :=
  let lim := s.af Reg.SLT_GUARD 31 16 * 256
  done (onlyIf (s.live 6 && decide (lim ≠ 0) && decide (lim ≤ s.missRun (80 * ring + slot))) (wantRelease ring slot) s)

/-- R245: releases at a cycle start. -/
def applyReleases (s : State) : State :=
  let s := forAll s.slt.release (fun n t =>
    setRf (Reg.SLT_SST n) 28 22 0 (setRb (Reg.SLT_SST n) 29 false (setRb (Reg.SLT_SST n) 31 false t))) s
  { s with slt := { s.slt with release := [] } }

/-- R244: grants at the start of cycle cyc, served from cyc + 2. -/
def applyGrants (cyc : Nat) (s : State) : State :=
  forAll (List.range 4) (fun r t =>
    match (t.claim r).grant with
    | some (i, k) =>
      let n := 80 * r + i
      let t := putClaim r { t.claim r with grant := none } t
      let t := setRf (Reg.SLT_SST n) 28 22 k (setRb (Reg.SLT_SST n) 29 true t)
      { t with slt := { t.slt with served := kvPut (fun _ => 0) t.slt.served n (cyc + 2)
                                   missed := kvPut (fun _ => (0, 0)) t.slt.missed n (0, 0) } }
    | none => t) s

/-! Mutes (R250). -/

/-- Running mutes count a cycle; mutes decided in the last cycle start. -/
def muteCycle (s : State) : State :=
  let s := forAll (List.range 324) (fun n t =>
    if t.rb (Reg.SLT_SST n) 30 then setRf (Reg.SLT_SST n) 15 8 (t.rf (Reg.SLT_SST n) 15 8 - 1) t else t) s
  let s := forAll s.slt.muteNext (fun n t =>
    setRf (Reg.SLT_SST n) 15 8 (t.af Reg.SLT_GUARD 15 8) (setRb (Reg.SLT_SST n) 30 true t)) s
  { s with slt := { s.slt with muteNext := [] } }

/-- MUTE_END (R250). -/
def execMuteEnd (n : Fin 324) (s : State) : Host.Outcome State Fault Refusal :=
  done (onlyIf (s.live 6 && s.rb (Reg.SLT_SST n) 30 && decide (s.rf (Reg.SLT_SST n) 15 8 = 0))
    (fun t => setRf (Reg.SLT_SST n) 3 0 0 (setRb (Reg.SLT_SST n) 30 false t)) s)

/-- Slots and rings at the start of cycle cyc. -/
def netCycleStart (cyc : Nat) (s : State) : State :=
  let s := latchValues s
  let s := { s with net := { s.net with got := [], served := [], departed := [] } }
  let s := muteCycle (applyGrants cyc (applyReleases s))
  forAll (List.range 4) (fun r t => ringCycleStart r cyc t) s

/-- Slots and rings at a cutoff. -/
def netCutoff (s : State) : State :=
  forAll (List.range 4) (fun r t => claimCutoff r (ringCutoff r t)) s

end Sys2Proof.Machine
end

