-- ==== Sys2Proof/Machine/Syn.lean ====
section
/-! DEFINITION. The time base and its synchronisation (chapter 9). Deviations are in units of 2^−16 ns. -/

namespace Sys2Proof.Machine

/-- TSET (R255). -/
def tset (s : State) : State :=
  if s.running then
    accessError 7 Reg.SYN_CMD true (flagEvent 7 0 4 clsWarn 0 Reg.SYN_ERR s)
  else
    let ns := ((s.reg Reg.SYN_TSET_LO).toNat + (s.reg Reg.SYN_TSET_HI).toNat * 2 ^ 32) * 2 ^ 32
    renumber { s with time := { s.time with ns := ns, ahead := 0 } }

/-- TSET (R255). -/
def execTset (s : State) : Host.Outcome State Fault Refusal := done (regWrite Reg.SYN_CMD tset s)

/-- R254: the five registers take the same TBCLK. -/
def timeLatch (s : State) : State :=
  let put (a v : Nat) (t : State) : State := setReg a (BitVec.ofNat 32 v) t
  put Reg.SYN_TIME_LO (s.nsNow % 2 ^ 32) <| put Reg.SYN_TIME_HI (s.nsNow / 2 ^ 32) <|
    put Reg.SYN_TIME_FR (s.time.ns % 2 ^ 32 / 2 ^ 16) <| put Reg.SYN_CYC_LO (s.cyc % 2 ^ 32) <|
    put Reg.SYN_CYC_HI (s.cyc / 2 ^ 32) s

/-- TIME_READ (R254). -/
def execTimeRead (s : State) : Host.Outcome State Fault Refusal := done (regWrite Reg.SYN_TIME_LO timeLatch s)

/-- What the spread of a correction has still to apply at count k of TBCLK (R269). -/
def State.ocLeft (s : State) (k : Nat) : Int :=
  if k < s.syn.fin then s.syn.oc * ((s.syn.fin - max s.syn.beg k : Nat) : Int) + s.syn.ocRem else 0

/-- CORRECTION_APPLY (R269 to R271): 1,000 ns after cycle start the spread over CL − 1,000 TBCLK begins, with the
remainder in the last of them, and the new RATE. What an earlier spread has left is applied at once (DESIGN CHOICE, log
entry 185). -/
def correctionApply (s : State) : State :=
  let s := advanceNs (s.cycStart + 1000 * 2 ^ 32) s
  let k := s.tbReach s.time.ns
  let n := s.clen - 1000
  let c := s.syn.pendC.getD 0 * 65536
  let ns := s.time.ns + (s.ocLeft k).toNat
  let rate := s.syn.pendRate.getD s.syn.rate
  let s := { s with time := { s.time with ns := ns }
                    syn := { s.syn with oc := c.tdiv n, ocRem := c - c.tdiv n * n, beg := k, fin := k + n,
                                        rate0 := s.syn.rate, rate := rate, pendC := none, pendRate := none } }
  setReg Reg.SYN_RATE (BitVec.ofNat 32 (ofSigned 32 rate)) s

/-- CORRECTION_APPLY (R271). -/
def execCorrectionApply (s : State) : Host.Outcome State Fault Refusal :=
  done (onlyIf (s.loopOn && s.running && (s.syn.pendC.isSome || s.syn.pendRate.isSome)) correctionApply s)

/-- R274: SLOST is set; the evaluations that clear it are counted from now on. -/
def loseSync (s : State) : State :=
  flagEvent 7 0 0 clsWarn 0 Reg.SYN_ERR (setRb Reg.SYN_STAT 3 true { s with syn := { s.syn with okCnt := 0 } })

/-- R272, R274: the controller has locked in this FOLLOW. -/
def State.followDone (s : State) : Bool := s.syn.stepped && 8 ≤ s.syn.lockCnt

/-- FOLLOW_LOCK_TIMEOUT (R274). -/
def execFollowLockTimeout (s : State) : Host.Outcome State Fault Refusal :=
  done (onlyIf (s.sysOn && decide (s.csState = 6) && !s.followDone && decide (1024 ≤ s.syn.followCnt)
      && !(s.rb Reg.SYN_STAT 3))
    (fun t => loseSync { t with syn := { t.syn with lossCnt := 0 } }) s)

/-! SYNC frames of the rings (R258 to R260). -/

/-- Table 9-1: the SYNC slot that port p has to serve in this cycle. -/
def State.syncDue (s : State) (p : Nat) : Bool :=
  let r := p / 2
  let v := s.ring r
  (s.csState = 3 || s.csState = 4 || s.csState = 5) && s.ringEn r && !(s.silenced r) &&
    s.ab (Reg.SYN_SS (8 * r + p % 2)) 31 &&
    (if p % 2 = 0 then decide (s.role r ≠ 2)
     else decide (s.role r = 2) || (decide (s.role r = 0) && v.jb.isSome && !v.emptyB))

/-- SYNC_SEND (R259). -/
def syncSend (p : Nat) (s : State) : State :=
  let r := p / 2
  let inst := s.af (Reg.SYN_SS (8 * r + p % 2)) 23 0
  let s := advanceNs (min (s.at16 inst) (s.time.nextNs - 1)) s
  let (sd, s) := sendSd p inst s
  let k := s.cyc % 80
  let (v, m, pv) := match s.delayUsed r k with | some (v, m) => (v, m, 1) | none => (0, 0, 0)
  let b := k + pv * 128 + m * 256 + b2n (s.rb Reg.SYN_STAT 1) * 1024 + b2n (s.rb Reg.SYN_STAT 3) * 2048
  emitFrame p sd (mkFrame (headOf 3 1 (0x60 + p % 2) r (s.owner r) s.cyc 0 0)
    (timeWords sd b ++ [v % 2 ^ 24, (s.taubUsed r).getD 0 % 2 ^ 24])) s

/-- SYNC_SEND (R259). -/
def execSyncSend (port : Fin 8) (s : State) : Host.Outcome State Fault Refusal :=
  done (onlyIf (s.netOn && s.syncDue port) (syncSend port) s)

/-! Deviations of cascade partners (R264, R265). -/

/-- Sources that name cascade port p. -/
def State.casSources (s : State) (p : Nat) : List Nat :=
  (List.range 8).filter fun j => s.af (Reg.SYN_SRC j) 1 0 = 1 && s.af (Reg.SYN_SRC j) 4 2 = p

/-- R265: t2, completed from t3. -/
def completeRxl (t3 rxl : Nat) : Int :=
  let m : Nat := 2 ^ 64
  let c : Int := ((t3 / m) * m + rxl % m : Nat)
  if (t3 : Int) < c then c - m else c

/-- R253: the number of the cycle that holds an instant in 2^−16 ns. -/
def State.cycOf (s : State) (t : Nat) : Nat := if s.clen = 0 then 0 else t / 65536 / s.clen % 2 ^ 48

/-- R265: θ and δ of a partner's SYNC on port p whose SD came at t4, in 2^−16 ns. -/
def casSync (p t4 : Nat) (f : Frame) (s : State) : State :=
  let cyc := s.cycOf t4
  let old := kvGet (fun _ => []) s.syn.arrived p
  let arr := kvPut (fun _ => []) s.syn.arrived p ((cyc, t4) :: old.take 1)
  let s := { s with syn := { s.syn with arrived := arr } }
  let fl := fByte f 18
  let s := putCasPort p { s.casPort p with locked := fl.testBit 1, slost := fl.testBit 3 } s
  let own : Option (Nat × Nat) := (kvGet (fun _ => []) s.syn.sent p).find? fun e => e.1 + 1 = cyc
  match own, (fByte f 18).testBit 0 with
  | some (_, t1), true =>
    let t3 := fTime f
    let rxl := (fWord f 2 / 65536 + fWord f 3 * 65536) * 65536 + fWord f 4 % 65536
    let t2 := completeRxl t3 rxl
    let theta := ((t2 - (t1 : Int)) - ((t4 : Int) - t3)).tdiv 2
    let delta := ((t2 - (t1 : Int)) + ((t4 : Int) - t3)).tdiv 2
    let ok := (fByte f 18).testBit 1 && !((fByte f 18).testBit 3)
    let dev := kvPut (fun _ => (0, false)) s.syn.casDev p (theta, ok)
    let s := { s with syn := { s.syn with casDev := dev } }
    let s := setReg (Reg.SYN_CASDLY p) (BitVec.ofNat 32 (2 ^ 31 + (delta.tdiv 4096).toNat % 2 ^ 24)) s
    forAll (s.casSources p) (fun j u => setReg (Reg.SYN_DEV j) (sat32 theta) u) s
  | _, _ => s

/-! Evaluation (R266 to R274). -/

/-- R267: the correction value of a set. -/
def ftAverage (xs : List Int) : Option Int :=
  match xs with
  | [] => none
  | [x] => some x
  | [x, y] => some ((x + y).tdiv 2)
  | x :: rest =>
    let sum := rest.foldl (· + ·) x
    let hi := rest.foldl max x
    let lo := rest.foldl min x
    some ((sum - hi - lo).tdiv ((rest.length : Int) - 1))

/-- The deviation of source j in this cycle, valid but for an exclusion (R266). -/
def State.srcDev (s : State) (j : Nat) : Option Int :=
  let w := s.act (Reg.SYN_SRC j)
  let d := match fld w 1 0 with
    | 1 => s.syn.casDev.lookup (fld w 4 2)
    | 2 => s.syn.refDev.lookup (8 * fld w 6 5 + fld w 9 7)
    | _ => none
  match d with
  | some (x, true) => if 2 * x.natAbs < s.clen * 65536 then some x else none
  | _ => none

/-- EXCL bit of source j. -/
def State.excluded (s : State) (j : Nat) : Bool := s.rb Reg.SYN_STAT (24 + j)

/-- The valid sources with their deviations. -/
def State.validSources (s : State) : List (Nat × Int) :=
  (List.range 8).filterMap fun j =>
    if s.excluded j then none else (s.srcDev j).map fun x => (j, x)

/-- R268: source j after an evaluation with result o. -/
def judgeSource (j : Nat) (o : Int) (s : State) : State :=
  let lim := s.af Reg.SYN_LIM 25 16 * 65536
  match s.srcDev j with
  | some x =>
    let far := decide (lim < (x - o).natAbs)
    if s.excluded j then
      let n := if far then 0 else kvGet (fun _ => 0) s.syn.inside j + 1
      let ins := kvPut (fun _ => 0) s.syn.inside j (if 64 ≤ n then 0 else n)
      let s := { s with syn := { s.syn with inside := ins } }
      if 64 ≤ n then setRb Reg.SYN_STAT (24 + j) false s else s
    else
      let n := if far then kvGet (fun _ => 0) s.syn.beyond j + 1 else 0
      let bey := kvPut (fun _ => 0) s.syn.beyond j (if 4 ≤ n then 0 else n)
      let s := { s with syn := { s.syn with beyond := bey } }
      if 4 ≤ n then flagEvent 7 0 2 clsWarn j Reg.SYN_ERR (setRb Reg.SYN_STAT (24 + j) true s) else s
  | none =>
    let bey := kvPut (fun _ => 0) s.syn.beyond j 0
    let ins := kvPut (fun _ => 0) s.syn.inside j 0
    { s with syn := { s.syn with beyond := bey, inside := ins } }

/-- R274: SLOST after an evaluation with result o. -/
def judgeLoss (o : Int) (s : State) : State :=
  let big := decide (s.af Reg.SYN_LIM2 15 0 * 65536 < o.natAbs)
  let small := decide (o.natAbs ≤ s.af Reg.SYN_LIM2 23 16 * 65536)
  let s := { s with syn := { s.syn with lossCnt := if big then s.syn.lossCnt + 1 else 0,
                                        okCnt := if small then s.syn.okCnt + 1 else 0 } }
  if s.rb Reg.SYN_STAT 3 then (if 64 ≤ s.syn.okCnt then setRb Reg.SYN_STAT 3 false s else s)
  else if 8 ≤ s.syn.lossCnt then loseSync s
  else s

/-- R270: the rate deviation ρ of a source between cycle e − n and cycle e. -/
def State.rho (s : State) (j e n : Nat) (now : Int) : Option Int :=
  match s.syn.hist.find? fun h => h.1 + n = e && h.2.1 = j with
  | some (_, _, old) =>
    let sum := (s.syn.cLog.filter fun c => e < c.1 + n && c.1 ≤ e).foldl (fun a c => a + c.2) 0
    some (((now - old + sum) * 65536).tdiv ((n * s.clen : Nat) : Int))
  | none => none

/-- R270: RATE corrected by ρ and limited to ±RLIM. -/
def State.newRate (s : State) (rho : Int) (rsh : Nat) : Int :=
  let lim : Int := s.af Reg.SYN_LIM 9 0 * 2 ^ 32 / 1000000
  clampInt (-lim) lim (s.syn.rate + rho.tdiv (2 ^ rsh))

/-- 2^RINT. -/
def State.rateEvery (s : State) : Nat := 2 ^ s.af Reg.SYN_CFG 3 1

/-- What an evaluation remembers: deviations of cycle e and the correction that begins in cycle n, from so many
values (R264). -/
def remember (e : Nat) (vals : List (Nat × Int)) (n : Nat) (c : Option Int) (count : Nat) (s : State) : State :=
  let hist := vals.map (fun v => (e, v.1, v.2)) ++ s.syn.hist.filter (fun h => e ≤ h.1 + 128)
  let cs := s.syn.cLog.filter (fun x => e ≤ x.1 + 128)
  { s with syn := { s.syn with hist := hist, cLog := match c with | some x => (n, x) :: cs | none => cs, pendC := c,
                               nsrc := if c.isSome then count else s.syn.nsrc } }

/-- A source is configured (R273). -/
def State.anySource (s : State) : Bool := (List.range 8).any fun j => s.af (Reg.SYN_SRC j) 1 0 ≠ 0

/-- SYN_STAT after an evaluation that averaged `count` values with the sources `valid` (R266, R273, R277). -/
def showEval (valid : List Nat) (count : Nat) (hold : Bool) (s : State) : State :=
  let mask := (List.range 8).foldl (fun m j => m + b2n (valid.contains j) * 2 ^ j) 0
  let s := setRf Reg.SYN_STAT 23 16 mask (setRf Reg.SYN_STAT 15 12 count s)
  let s := setRb Reg.SYN_STAT 2 (s.anySource && decide (count < 3)) s
  let s := if hold && !(s.rb Reg.SYN_STAT 1) then flagEvent 7 0 1 clsWarn 0 Reg.SYN_ERR s else s
  setRb Reg.SYN_STAT 1 hold s

/-- R268, R274: an evaluation without an offset result ends every run of evaluations. -/
def judgeNothing (s : State) : State :=
  { s with syn := { s.syn with beyond := [], inside := [], lossCnt := 0, okCnt := 0 } }

/-- R268, R274: every source and the controller itself are judged by the offset result o. -/
def judge (o : Int) (s : State) : State := judgeLoss o (forAll (List.range 8) (fun j t => judgeSource j o t) s)

/-- R269 to R274: the evaluation over cycle e at the start of cycle n, all sources taking part. In holdover the own
clock still gives O, which corrects nothing. -/
def evaluateAll (e n : Nat) (s : State) : State :=
  let own := s.ab Reg.SYN_CFG 0
  let vals := s.validSources
  let set : List Int := (if own then [0] else []) ++ vals.map (·.2)
  let hold := s.anySource && vals.isEmpty
  let s := showEval (vals.map (·.1)) set.length hold s
  match ftAverage set with
  | none => judgeNothing (remember e vals n none 0 s)
  | some o =>
    let lim : Int := s.af Reg.SYN_CFG 15 8 * 65536
    let rhos : List Int := (if own then [0] else []) ++ vals.filterMap (fun v => s.rho v.1 e s.rateEvery v.2)
    let rate := if !hold && n % s.rateEvery = 0 then
        (ftAverage rhos).map (fun x => s.newRate x (s.af Reg.SYN_CFG 6 4)) else none
    let s := setReg Reg.SYN_OFS (sat32 o) s
    let s := remember e vals n (if hold then none else some (clampInt (-lim) lim o)) set.length s
    judge o { s with syn := { s.syn with pendRate := rate } }

/-- R266: the deviation that a controller in FOLLOW uses: that of the port followed, at any size before the step. -/
def State.followDev (s : State) : Option Int :=
  if (s.casSources s.syn.followPort).any s.excluded then none
  else
    match s.syn.casDev.lookup s.syn.followPort with
    | some (x, true) => if !s.syn.stepped || 2 * x.natAbs < s.clen * 65536 then some x else none
    | _ => none

/-- R272: NS steps by θ; the next cycle start is the first multiple of CL above it whose number has not been executed. -/
def stepNs (e : Nat) (x : Int) (s : State) : State :=
  let ns := ((s.time.ns : Int) + x * 65536).toNat
  let next := max (ns / s.clenU + 1) (e + 1) * s.clenU
  flagEvent 7 0 3 clsWarn 0 Reg.SYN_ERR (renumber
    { s with time := { s.time with ns := ns, nextNs := next }
             syn := { s.syn with stepped := true } })

/-- R272: the evaluation over cycle e in FOLLOW, in which the source of the port followed alone takes part; a step moves
NS. The port followed counts as a source against holdover (DEDUCED, log entry 186). -/
def evaluateFollow (e n : Nat) (s : State) : State :=
  let p := s.syn.followPort
  let d := s.followDev
  let vals := s.validSources
  let valid := vals.map (·.1) ++ (if d.isSome then s.casSources p else [])
  let s := { s with syn := { s.syn with followCnt := s.syn.followCnt + 1 } }
  let s := showEval valid (b2n d.isSome) (s.anySource && valid.isEmpty && d.isNone) s
  match d with
  | none => judgeNothing (remember e vals n none 0 { s with syn := { s.syn with lockCnt := 0 } })
  | some x =>
    if !s.syn.stepped then stepNs e x (judgeNothing s)
    else
      let rate := if s.syn.rated || n % s.rateEvery ≠ 0 then none
        else (s.rho (8 + p) e s.rateEvery x).map (fun r => s.newRate r 0)
      let near := decide (x.natAbs ≤ s.af Reg.SYN_LIM2 23 16 * 65536)
      let s := remember e ((8 + p, x) :: vals) n (some x) 1 (setReg Reg.SYN_OFS (sat32 x) s)
      judge x { s with syn := { s.syn with pendRate := rate, rated := s.syn.rated || rate.isSome,
                                           lockCnt := if near then s.syn.lockCnt + 1 else 0 } }

/-- The evaluation at the start of cycle n, and the next cycle's measurements begin. -/
def synEvaluate (e n : Nat) (s : State) : State :=
  let s := dropCorrection s
  let s := if s.csState = 6 then evaluateFollow e n s else evaluateAll e n s
  { s with syn := { s.syn with casDev := [], refDev := [] } }

/-- R233, R272: entry into FOLLOW on the port that carried the beacon, inside a cycle: CYCLE offsets count from the
start of that cycle (R85). -/
def enterFollow (p : Nat) (s : State) : State :=
  let s := setCs 6 s
  let s := setRf Reg.SLT_CS_STAT 23 16 0 s
  { s with syn := { s.syn with followPort := p, followCnt := 0, stepped := false, rated := false, lockCnt := 0,
                               hist := [], cLog := [], casDev := [], refDev := [] }
           time := { s.time with nextNs := s.nextStart, startTick := s.tickUp, starts := [s.tickAt s.cycStart] } }

/-- R229, R232 to R234: a good beacon on cascade port p. -/
def beaconHeard (p : Nat) (f : Frame) (s : State) : State :=
  let img := fWord f 1 / 65536 + fWord f 2 % 65536 * 65536
  let b := fByte f 12
  let same := decide (img = (s.act Reg.SLT_IMG).toNat) && decide (b % 16 = s.af Reg.SLT_CFG 3 0)
  let s := if same then s else flagEvent 6 0 3 clsWarn 0 Reg.SLT_CS_STAT s
  match s.csState with
  | 1 => if same then enterFollow p s else setRb Reg.SYN_STAT 0 false (setCs 7 s)
  | 2 => if same then enterFollow p s else s
  | 3 => if s.inWindow && !s.slt.collided then
      incRf Reg.SLT_CS_STAT 15 8 { s with slt := { s.slt with collided := true } } else s
  | _ => s

end Sys2Proof.Machine
end

