-- ==== Sys2Proof/Machine/Cas.lean ====
section
/-! DEFINITION. Cascade links and records, the messages of a mode change, mirroring and the pair
(chapter 10). The parts of a mode change that stage and commit groups are in Commit. -/

namespace Sys2Proof.Machine

/-- The cascade works: cascade tier, PD_NET on, sysclk running. -/
def State.casOn (s : State) : Bool := s.live 6 && s.af Reg.SLT_CFG 3 3 = 1

/-- EN and link of cascade port p. -/
def State.casUp (s : State) (p : Nat) : Bool := s.ab (Reg.CAS_PORT_CTL p) 8 && s.rb (Reg.CAS_PORT_STAT p) 3

/-- Port p is joined (R282). -/
def State.joined (s : State) (p : Nat) : Bool := s.rb (Reg.CAS_PORT_STAT p) 4

/-- PEER of port p. -/
def State.peer (s : State) (p : Nat) : Nat := s.rf (Reg.CAS_PORT_STAT p) 7 6

/-- UNITS. -/
def State.units (s : State) : Nat := s.af Reg.CAS_CFG 3 0

/-- PAIR. -/
def State.paired (s : State) : Bool := s.ab Reg.CAS_CFG 5

/-- PARTNER. -/
def State.partner (s : State) : Nat := s.af Reg.CAS_CFG 7 6

/-- The joined port to a unit. -/
def State.portTo (s : State) (cid : Nat) : Option Nat :=
  (List.range 3).find? fun p => s.joined p && s.peer p = cid

/-- Sets a bit of CAS_ERR with its event. -/
def casErr (b inst : Nat) (s : State) : State := flagEvent 8 0 b clsFault inst Reg.CAS_ERR s

/-! Mode-change messages (R288 to R295). -/

/-- CAS_MC_STAT takes a cause with the unit it names. -/
def mcCause (cause cid : Nat) (s : State) : State :=
  setRf Reg.CAS_MC_STAT 11 8 cause (setRf Reg.CAS_MC_STAT 5 4 cid s)

/-- R292: the discarded copies leave DIRTY set. -/
def dropHeld (s : State) : State :=
  { (forAll s.cas.held (fun h t => onlyIf (t.domOn (blkDom h.blk)) (orReg (Reg.CMT_DIRTY h.blk) (2 ^ h.grp)) t) s) with
    cas := { s.cas with held := [] } }

/-- R292: the unit abandons the pending change; INST of its event, which concerns no one port, is 0 (DESIGN CHOICE, log
entry 242). -/
def abandon (cause cid : Nat) (s : State) : State :=
  if s.cas.mc.isNone then s
  else
    let t := forAll s.cas.held (fun h t => onlyIf (t.domOn (blkDom h.blk)) (orReg (Reg.CMT_DIRTY h.blk) (2 ^ h.grp)) t) s
    let t := { t with cas := { t.cas with held := [], mc := none, annIn := none, votes := [],
                                          abortUntil := some (t.cyc + 1), gone := t.cas.gone + 1 } }
    let t := setRf Reg.CAS_MC_STAT 2 0 4 (mcCause cause cid t)
    let t := casErr 2 0 t
    forAll (List.range 3) (fun p u =>
      onlyIf (u.joined p) (emit (.casNotice p 0xA0)) (putCasPort p { u.casPort p with abandons := 4 } u)) t

/-- R288: C: the first cycle number above the current one whose low 32 bits equal CAS_MC_CYC. -/
def State.announcedCyc (s : State) : Nat :=
  let n := s.cyc + 1
  n + (s.rf Reg.CAS_MC_CYC 31 0 + 2 ^ 32 - n % 2 ^ 32) % 2 ^ 32

/-- R288: a unit of UNITS that is not joined, not LOCKED or reports SLOST; the own one by its own state. -/
def State.unitMissing (s : State) : Option Nat :=
  (List.range 4).find? fun i =>
    s.units.testBit i &&
      (if i = s.ownId then !(s.rb Reg.SYN_STAT 0) || s.rb Reg.SYN_STAT 3
       else match s.portTo i with
         | none => true
         | some p => !(s.casPort p).locked || (s.casPort p).slost)

/-- R288, Table 10-6: cause and unit for which an announcement is refused. -/
def State.announceCause (s : State) : Option (Nat × Nat) :=
  let c := s.announcedCyc
  if s.cas.mc.isSome || s.rf Reg.CAS_MC_ARG 15 0 = s.rf Reg.CAS_MC_ACT 15 0 then some (1, s.ownId)
  else if c < s.cyc + 4 || s.cyc + 65536 < c then some (2, s.ownId)
  else if s.csState ≠ 5 then some (3, s.ownId)
  else s.unitMissing.map fun i => (3, i)

/-- R288: an announcement that no cutoff of its cycle will take is refused; the unit is not in RUN. -/
def refuseAnnouncement (s : State) : State :=
  if s.cas.annReq.isNone then s
  else
    let s := { s with cas := { s.cas with annReq := none } }
    match s.announceCause with
    | some (cause, cid) => mcCause cause cid s
    | none => mcCause 3 s.ownId s

/-- ANNOUNCE (R288): taken at the cutoff of this cycle, refused at once while no cycles run; ignored when COORD is 0. -/
def announce (s : State) : State :=
  if s.casOn && s.ab Reg.CAS_CFG 4 then
    let s := { s with cas := { s.cas with annReq := some s.cyc } }
    if s.running then s else refuseAnnouncement s
  else s

/-- ANNOUNCE (R288). -/
def execMcAnnounce (s : State) : Host.Outcome State Fault Refusal :=
  done (regWrite Reg.CAS_MC_CMD announce s)

/-- CANCEL (R291). -/
def execMcCancel (s : State) : Host.Outcome State Fault Refusal :=
  done (regWrite Reg.CAS_MC_CMD (fun t => onlyIf t.casOn (abandon 8 t.ownId) t) s)

/-- MABORT (R291): the notice of the unit that port p is joined to. -/
def execMabort (port : Fin 3) (s : State) : Host.Outcome State Fault Refusal :=
  done (onlyIf (s.casOn && s.joined port) (abandon 6 (s.peer port)) s)

/-- R290, R291, R295: an accepted MODE record of the unit on port p. -/
def modeRecord (p : Nat) (f : Frame) (s : State) : State :=
  let cid := s.peer p
  let mid := fWord f 0 % 65536
  let c := fWord f 0 / 65536 + fWord f 1 * 65536
  let st := fByte f 9 % 8
  let votes := kvPut (fun _ => (0, 0, 0, 0)) s.cas.votes cid (st, s.cyc, mid, c)
  let s := { s with cas := { s.cas with votes := votes } }
  let s := if (fByte f 8).testBit 4 && s.cas.mc.isNone && (fByte f 8).testBit s.ownId then
      { s with cas := { s.cas with annIn := some ⟨mid, c, fByte f 8 % 16, false⟩ } } else s
  let s := if s.cas.mc.isNone then s
    else if st = 2 then
      abandon 4 cid (setRf Reg.CAS_MC_STAT 20 16 (fByte f 12) (setRf Reg.CAS_MC_STAT 28 24 (fByte f 13) s))
    else if st = 4 then abandon 6 cid s else s
  if fWord f 2 / 65536 ≠ s.rf Reg.CAS_MC_ACT 15 0 then
    casErr 3 p { s with cas := { s.cas with modex := true } }
  else s

/-- R290, Table 10-5: the words of this unit's MODE record, which states the change as the last cutoff left it. -/
def State.modeWords (s : State) (abandoning : Bool) : List Nat :=
  let (mid, c, pm, ann, st) :=
    if abandoning then (s.rf Reg.CAS_MC_ACT 31 16, (s.reg Reg.CAS_MC_CYCS).toNat, 0, false, 4)
    else match s.cas.said with
      | some (m, st) => (m.mid, m.c, m.pmask, m.ann, st)
      | none => (0, 0, 0, false, 0)
  [mid + c % 65536 * 65536, c / 65536 % 2 ^ 32,
   pm + b2n ann * 16 + st * 256 + s.rf Reg.CAS_MC_ACT 15 0 * 65536,
   s.rf Reg.CAS_MC_STAT 20 16 + s.rf Reg.CAS_MC_STAT 28 24 * 256, 0]

/-! Links and joining (R279, R282, R287). -/

/-- R201, R279: what the receiver of port p has of its link, which is up after 1,024 symbols in a row without an
error. -/
def casLinkUp (p : Nat) (rx : CasUp) (s : State) : State :=
  if s.rb (Reg.CAS_PORT_STAT p) 3 then s
  else setRf (Reg.CAS_PORT_STAT p) 31 24 rx.eye (setRf (Reg.CAS_PORT_STAT p) 3 0 (linkBits rx.has rx.clean) s)

/-- CASCADE_LINK_UP (R279). -/
def execCascadeLinkUp (port : Fin 3) (rx : CasUp) (s : State) : Host.Outcome State Fault Refusal :=
  done (onlyIf (s.live 6) (casLinkUp port rx) s)

/-- R300: PLINK, PLOST after a change of the joined ports or of the pair, on port p. -/
def showPair (p : Nat) (s : State) : State :=
  if !s.paired then setRf Reg.CAS_PSTAT 1 0 0 s
  else
    let link := (s.portTo s.partner).isSome
    let lost := s.rb Reg.CAS_PSTAT 0 && !link
    let s := setRb Reg.CAS_PSTAT 0 link s
    let s := if link then setRb Reg.CAS_PSTAT 1 false s else s
    if lost then casErr 7 p (setRb Reg.CAS_PSTAT 1 true s) else s

/-- R282, R287: port p leaves the joined state. -/
def leaveJoined (p : Nat) (s : State) : State :=
  let was := s.joined p
  let cid := s.peer p
  let s := setRb (Reg.CAS_PORT_STAT p) 4 false (putCasPort p { s.casPort p with good := 0, accepts := [], relays := [] } s)
  let part := match s.cas.mc with | some m => m.pmask.testBit cid | none => false
  showPair p (onlyIf (was && part) (abandon 7 cid) s)

/-- R275, R287: the link of port p is lost, with what its receiver has seen. -/
def casLinkLost (p : Nat) (rx : RxFail) (s : State) : State :=
  let s := setRf (Reg.CAS_PORT_STAT p) 3 0 (afterLoss rx (s.rf (Reg.CAS_PORT_STAT p) 2 0)) s
  let s := { s with syn := { s.syn with casDev := s.syn.casDev.filter (fun e => e.1 ≠ p)
                                        sent := s.syn.sent.filter (fun e => e.1 ≠ p)
                                        arrived := s.syn.arrived.filter (fun e => e.1 ≠ p) } }
  let s := casErr 0 p (incRf (Reg.CAS_PORT_CNT p) 31 24 s)
  leaveJoined p (observed (regEvent 8 1 24 clsWarn p (Reg.CAS_PORT_CNT p) s))

/-- R201, R279, R281: what the receiver of port p has seen, RFAULT in idle and lead pairs among it, is a loss or not;
without a link up a loss shows in SIGDET, CDRLOCK and ALIGNED alone. -/
def casLinkLoss (p : Nat) (rx : RxFail) (s : State) : State :=
  if !(lossSeen true rx) then s
  else if s.rb (Reg.CAS_PORT_STAT p) 3 then casLinkLost p rx s
  else setRf (Reg.CAS_PORT_STAT p) 3 0 (afterLoss rx (s.rf (Reg.CAS_PORT_STAT p) 2 0)) s

/-- CASCADE_LINK_LOSS (R287). -/
def execCascadeLinkLoss (rx : CasLoss) (s : State) : Host.Outcome State Fault Refusal :=
  done (onlyIf (s.live 6) (casLinkLoss rx.port rx.rx) s)

/-- R282: the LINK record meets the conditions; UNITS is the sender's. -/
def State.linkGood (s : State) (p : Nat) (f : Frame) : Bool :=
  let cid := fRing f
  let b4 := fByte f 4
  let own := s.paired && s.partner = cid
  let his := b4.testBit 6 && (fByte f 5 / 16) % 4 = s.ownId
  (fByte f 5 % 16).testBit cid && cid ≠ s.ownId &&
    !((List.range 3).any fun q => q ≠ p && s.joined q && s.peer q = cid) &&
    fWord f 0 = (s.act Reg.SLT_IMG).toNat && b4 % 16 = s.af Reg.SLT_CFG 3 0 && own == his

/-- R282: an accepted LINK record on port p. -/
def linkRecord (p : Nat) (f : Frame) (s : State) : State :=
  if s.joined p then s
  else if s.linkGood p f then
    let v := s.casPort p
    if v.good = 0 then putCasPort p { v with good := 1 } s
    else
      let s := putCasPort p { v with good := 0, known := [], now := [], relays := [],
                                     fresh := s.running } s
      showPair p (setRf (Reg.CAS_PORT_STAT p) 7 6 (fRing f) (setRb (Reg.CAS_PORT_STAT p) 4 true s))
  else
    let s := putCasPort p { s.casPort p with good := 0 } s
    casErr 1 p (flagEvent 8 1 5 clsWarn p (Reg.CAS_PORT_STAT p) s)

/-- Table 10-4. -/
def State.linkWords (s : State) : List Nat :=
  let b4 := s.af Reg.SLT_CFG 3 0 + s.ownId * 16 + b2n s.paired * 64
  [(s.act Reg.SLT_IMG).toNat, b4 + (s.units + s.partner * 16) * 256, 0, 0, 0]

/-! Relays (R285, R286). -/

/-- Word index of RELAY record idx of port p in a cycle. -/
def State.relayWord (s : State) (cyc p idx : Nat) : Nat := (s.afAt cyc (Reg.CAS_RXCFG p) 16 0 + 10 * idx) % 131072

/-- R285: words 0 to 2 of a RELAY record of a cycle; 0.0 in words 0 and 1 if it releases no descriptor. -/
def relayHead (cyc p idx age : Nat) (fresh : Bool) (pos dstat : Nat) (s : State) : State :=
  let w := s.relayWord cyc p idx
  let axis := s.releaseAxis 2 (p + idx * 4)
  let s := feedbackHead cyc w axis age fresh false (!fresh) pos dstat s
  if axis.isNone then writeNet w [0, 0] s else s

/-- RELAY_ACCEPT (R285). -/
def relayAccept (p idx : Nat) (s : State) : State :=
  let v := s.casPort p
  match v.accepts.find? (fun a => a.n = idx && s.inCycle a.due) with
  | none => s
  | some a =>
    let own := a.cyc = s.cyc
    let s := putCasPort p { v with accepts := v.accepts.filter (fun b => b ≠ a)
                                   now := if own then idx :: v.now else v.now
                                   late := if own then v.late else v.late.map fun (m, is) => (m, is.filter (· ≠ idx))
                                   known := if v.known.contains idx then v.known else v.known ++ [idx] } s
    let s := keepUq (s.relayWord a.cyc p idx) a.cyc (advanceTo a.due s)
    let s := writeNet (s.relayWord a.cyc p idx + 3) a.words s
    releaseCascade p idx (relayHead a.cyc p idx a.age true (a.words.getD 0 0) (a.words.getD 1 0) s)

/-- RELAY_ACCEPT (R285). -/
def execRelayAccept (port : Fin 3) (idx : Fin 256) (s : State) : Host.Outcome State Fault Refusal :=
  done (onlyIf (s.casOn && s.netOn) (relayAccept port idx) s)

/-- R286: one index of port p is missed in a cycle. -/
def relayMissOne (p cyc idx : Nat) (s : State) : State :=
  let w := s.relayWord cyc p idx
  let ((old, ok), s) := read32 5 0 (netAddr ((w + 2) % 131072)) s
  let (age, s) := if ok then (min 255 (old % 256 + 1), s) else (s.freeBits 8, useFree s)
  let ((pos, _), s) := read32 5 0 (netAddr ((w + 3) % 131072)) s
  let (dst, s) := keptStat w s
  let s := incRf (Reg.CAS_PORT_CNT p) 23 12 (relayHead cyc p idx age false pos dst s)
  releaseCascade p idx s

/-- R286: the miss tick of port p in the present cycle. -/
def State.relayMissTick (s : State) (p : Nat) : Nat := s.tickAt (s.at16 (s.af (Reg.CAS_RXDL p) 23 0)) + 32

/-- R286: port p has a miss tick in the present cycle that has not come. -/
def State.relayMissDue (s : State) (p : Nat) : Bool :=
  s.csState = 5 && s.af (Reg.CAS_RXDL p) 23 0 ≠ 0 && (s.casPort p).missCyc ≠ some s.cyc

/-- The indices that port p has not accepted in the present cycle. -/
def State.relayMissing (s : State) (p : Nat) : List Nat :=
  (s.casPort p).known.filter fun i => !((s.casPort p).now.contains i)

/-- R26, R286: the miss tick of port p that comes next, of the cycle before or of this one. -/
def relayMiss (p : Nat) (s : State) : State :=
  match (s.casPort p).late with
  | some (m, is) => forAll is (relayMissOne p m.cyc) (advanceTo m.due (putCasPort p { s.casPort p with late := none } s))
  | none =>
    if s.relayMissDue p && s.inCycle (s.relayMissTick p) then
      let s := advanceTo (s.relayMissTick p) s
      let s := putCasPort p { s.casPort p with missCyc := some s.cyc } s
      forAll (s.relayMissing p) (relayMissOne p s.cyc) s
    else s

/-- RELAY_MISS (R286). -/
def execRelayMiss (port : Fin 3) (s : State) : Host.Outcome State Fault Refusal :=
  done (onlyIf (s.casOn && s.netOn) (relayMiss port) s)

/-- R26: the misses of the present cycle, of slots and of cascade ports, whose miss ticks are not in it are kept. -/
def keepMisses (s : State) : State :=
  let s := if s.netOn then { s with net := { s.net with late := s.missesLeft } } else s
  forAll (List.range 3) (fun p t =>
    onlyIf (t.casOn && t.netOn && t.relayMissDue p && !(t.inCycle (t.relayMissTick p)))
      (putCasPort p { t.casPort p with late := some (⟨p, t.cyc, t.relayMissTick p⟩, t.relayMissing p) }) t) s

/-! Mirroring (R301 to R304) and the pair (R299, R305, R306). -/

/-- MIR_EN of axis a. -/
def State.mirEn (s : State) (a : Nat) : Bool := s.ab (Reg.CAS_MIR_EN (a / 32)) (a % 32)

/-- R301: SEL0 to SEL5. -/
def State.mirSel (s : State) : List Nat :=
  [s.af Reg.CAS_MIR_SEL0 6 0, s.af Reg.CAS_MIR_SEL0 13 7, s.af Reg.CAS_MIR_SEL0 20 14, s.af Reg.CAS_MIR_SEL0 27 21,
   s.af Reg.CAS_MIR_SEL1 6 0, s.af Reg.CAS_MIR_SEL1 13 7]

/-- The axis of the descriptor that a waiting release of pod p names; none where its word does not read well. -/
def State.relAxis (s : State) (p : Nat) (r : RelReq) : Option Nat :=
  let w := s.decodeAt (yWordAddr p ((s.graphTable r.cyc p).1 + 4 * r.idx))
  if w.ok then some (bitsOf w.data 57 50) else none

/-- R302, R303: the law and profile graphs of axis a for this cycle have ended: its law graph has, and none of its
graphs is in service, queued or still to be registered. -/
def State.graphsEnded (s : State) (a : Nat) : Bool :=
  (s.ax a).lawEnd = some s.cyc &&
  (List.range 4).all fun p =>
    ((s.pod p).carry.all fun r => s.relAxis p r ≠ some a) && ((s.pod p).queue.all fun e => e.desc.axis ≠ a) && ((podCtxs p).all fun n => !((s.ctx n).live && (s.ctx n).desc.axis = a))

/-- R301: the addresses of the mirrored elements of axis a, from the mirror map. -/
def mirAddrs (a : Nat) (s : State) : (List Nat × Bool) × State :=
  let ((w, ok), s) := read32 6 0 (netAddr ((s.af Reg.CAS_MIR_MAPB 16 0 + a) % 131072)) s
  ((s.mirSel.map fun o => elemAddr (w / 131072 % 4) ((w % 131072 + o) % 131072), ok), s)

/-- Words read by agent 6. -/
def readAddrs (as : List Nat) (s : State) : (List Nat × Bool) × State :=
  as.foldl (fun acc a =>
    let ((v, ok), t) := read32 6 0 a acc.2
    ((acc.1.1 ++ [v], acc.1.2 && ok), t)) (([], true), s)

/-- R302, R304: the sample of axis a in this cycle was valid and its RSTATE is 0. -/
def cleanSample (a : Nat) (s : State) : Bool × State :=
  match (s.ax a).lawIb with
  | some ib =>
    let ((v, ok), s) := read32 12 0 (netAddr (ib % 131072)) s
    (ok && v = 0x3F800000 && s.rstateAt s.cyc a = 0, s)
  | none => (false, s)

/-- One axis of a MIRROR record as the lead forms it (R302): VALID, CLEAN, six elements; none is read by a bad word of
the mirror map (R398). -/
def mirrorAxis (a : Nat) (s : State) : (Bool × Bool × List Nat) × State :=
  if !(s.mirEn a) then ((false, false, [0, 0, 0, 0, 0, 0]), s)
  else
    let ((as, ok), s) := mirAddrs a s
    let ((vs, ok2), s) := if ok then readAddrs as s else (([], false), s)
    let (cl, s) := cleanSample a s
    let h := (s.reg Reg.CAS_HEALTH).toNat
    let valid := ok && ok2 && s.graphsEnded a && (s.ax a).badEnd ≠ some s.cyc && h.testBit 0 && h.testBit 1 && h.testBit 9
    ((valid, cl, if ok && ok2 then vs else [0, 0, 0, 0, 0, 0]), s)

/-- Table 10-7: the words of the MIRROR record of group g. -/
def mirrorWords (g : Nat) (s : State) : List Nat × State :=
  let ((v, c, ws), s) := (List.range 8).foldl (fun acc i =>
    let ((x, y, es), t) := mirrorAxis (8 * g + i) acc.2
    ((acc.1.1 + b2n x * 2 ^ i, acc.1.2.1 + b2n y * 2 ^ i, acc.1.2.2 ++ es), t)) ((0, 0, []), s)
  ((v + c * 256) :: ws, s)

/-- R303: a mirrored axis that port p has brought is not applied. -/
def mirrorLate (p : Nat) (s : State) : State := casErr 5 p (incRf Reg.CAS_MIRCNT 31 16 s)

/-- R303, R304: the standby takes the state of axis a from port p. -/
def mirrorApply (p a : Nat) (clean : Bool) (vs : List Nat) (s : State) : State :=
  let before := decide (s.time.ns + 1000 * 2 ^ 32 < s.time.nextNs)
  if !(s.rb Reg.CAS_PHEALTH 0 && s.rb Reg.CAS_PHEALTH 1 && s.graphsEnded a && before) then mirrorLate p s
  else
    let ((as, ok), s) := mirAddrs a s
    if !ok then mirrorLate p s
    else
      let (own, s) := cleanSample a s
      let ((mine, ok2), s) := readAddrs as s
      let differ := s.cas.mirrored.contains a && clean && own && !(ok2 && mine == vs)
      let s := if differ then
          casErr 4 p (incRf Reg.CAS_MIRCNT 15 0 { s with cas := { s.cas with mirx := true } }) else s
      let s := forAll (as.zip vs) (fun e t => put32 e.1 e.2 false t) s
      { s with cas := { s.cas with mirroring := a :: s.cas.mirroring } }

/-- R303: an accepted MIRROR record on port p. -/
def mirrorRecord (p : Nat) (f : Frame) (s : State) : State :=
  if s.paired && !(s.ab Reg.CAS_CFG 8) && s.peer p = s.partner then
    forAll (List.range 8) (fun i t =>
      let a := 8 * (fRidx f % 32) + i
      if (fByte f 0).testBit i && t.mirEn a then
        mirrorApply p a ((fByte f 1).testBit i) ((List.range 6).map fun e => fWord f (1 + 6 * i + e)) t
      else t) s
  else s

/-- R298, R299, R306: an accepted PAIR record on port p. -/
def pairRecord (p : Nat) (f : Frame) (s : State) : State :=
  if s.paired && s.peer p = s.partner then
    let s := setReg Reg.CAS_PHEALTH (BitVec.ofNat 32 (fWord f 0)) s
    let s := setRf Reg.CAS_PSTAT 15 8 0 (setRb Reg.CAS_PSTAT 2 (s.casPort p).slost s)
    let s := { s with cas := { s.cas with gap := 0, heard := true, psig := some (fWord f 9, (List.range 4).map fun i => fWord f (1 + i)) } }
    let s := onlyIf (fWord f 0 % 1024 ≠ 1023) (casErr 6 p) s
    forAll (List.range 4) (fun r t =>
      onlyIf (decide (t.role r = 1) && (fWord f (5 + r)).testBit 31) (showValue (keyT r) (some (fWord f (5 + r) % 2 ^ 24))) t) s
  else s

/-- PAIR_TIMEOUT (R306). -/
def execPairTimeout (s : State) : Host.Outcome State Fault Refusal :=
  done (onlyIf (s.casOn && s.paired && (s.portTo s.partner).isSome && decide (8 ≤ s.cas.gap))
    (casErr 6 ((s.portTo s.partner).getD 0)) s)

/-- The newest cycle whose signatures a pod has latched (R100). -/
def State.sigCycle (s : State) : Nat :=
  (List.range 4).foldl (fun m p => match (s.pod p).sigLog.head? with | some (c, _) => max m c | none => m) 0

/-- Table 10-8; the cycle number is the newest of those of the pods (DESIGN CHOICE, log entry 229). -/
def State.pairWords (s : State) : List Nat :=
  let sigs := (List.range 4).map fun p => (s.reg (Reg.DS_SIG p)).toNat
  let tb (r : Nat) : Nat := if s.role r = 2 then (s.reg (Reg.NET_TAUB r)).toNat else 0
  (s.reg Reg.CAS_HEALTH).toNat :: sigs ++ (List.range 4).map tb ++ [s.sigCycle % 2 ^ 32]

/-! Receiving (R284). -/

/-- R284: the record must be discarded. -/
def State.casBad (s : State) (p : Nat) (f : Frame) : Bool :=
  let t := fType f
  !(fHcsOk f) || !(fClean f) || !(fCrcOk f) || !([1, 2, 3, 4, 7, 8, 9].contains t) ||
    (t ≠ 2 && s.joined p && fRing f ≠ s.peer p) ||
    ([1, 7, 8, 9].contains t && (!(s.joined p) || fSeq f ≠ s.cyc % 65536))

/-- R285: an accepted RELAY record is on its way. -/
def relayRecord (p sd16 : Nat) (f : Frame) (s : State) : State :=
  let due := s.tickAt (s.at80 (sd16 * 5 + (f.edAt - 1) * 128)) + 32
  let v := s.casPort p
  putCasPort p { v with accepts := v.accepts ++ [⟨fRidx f, s.cyc, due, (List.range 7).map (fWord f), fAge f⟩] } s

/-- R281, R291: a MABORT notice in a record's lead pair. -/
def casLead (p : Nat) (f : Frame) (s : State) : State :=
  onlyIf (decide (f.lead = some 0xA0) && s.joined p) (abandon 6 (s.peer p)) s

/-- R291: a participant reports SLOST. -/
def slostSeen (p : Nat) (s : State) : State :=
  let part := match s.cas.mc with | some m => m.pmask.testBit (s.peer p) | none => false
  onlyIf (part && (s.casPort p).slost) (abandon 3 (s.peer p)) s

/-- An instant of the present cycle comes; while cycles run the next one is not entered. -/
def advanceIn (u : Nat) (s : State) : State := advanceNs (if s.running then min u (s.time.nextNs - 1) else u) s

/-- A record with its SD at sd16 reaches cascade port p: its SD, which wakes pods (R451), its lead pair, then its end,
at which it is accepted (R303). -/
def casArrive (p sd16 : Nat) (f : Frame) (s : State) : State :=
  let ed := s.at80 (sd16 * 5 + (f.edAt - 1) * 128)
  let s := advanceIn (s.at16 sd16) s
  let s := onlyIf (fType f = 1) (wakeNamed 2 (p + fRidx f * 4)) s
  advanceIn ed (casLead p f s)

/-- A record on cascade port p with its SD at sd16: discarded, or what its type says. -/
def casReceive (p sd16 : Nat) (f : Frame) (s : State) : State :=
  let t4 := s.cycStart / 2 ^ 16 + sd16 * 4096
  let s := casArrive p sd16 f s
  if s.casBad p f then incRf (Reg.CAS_PORT_CNT p) 11 0 s
  else
    match fType f with
    | 1 => relayRecord p sd16 f s
    | 2 => linkRecord p f s
    | 3 => slostSeen p (casSync p t4 f s)
    | 4 => beaconHeard p f s
    | 7 => modeRecord p f s
    | 8 => mirrorRecord p f s
    | _ => pairRecord p f s

/-- A command that brings a record of one TYPE, or of any. -/
def casCmd (p : Nat) (type : Option Nat) (sd : Nat) (f : Frame) (s : State) : State :=
  onlyIf (s.casOn && s.memDone 5 && s.casUp p && type.all (fun t => decide (t = fType f))) (casReceive p sd f) s

/-- CASCADE_RECORD (R284). -/
def execCascadeRecord (port : Fin 3) (sd : Nat) (fr : Frame) (s : State) : Host.Outcome State Fault Refusal :=
  done (casCmd port none sd fr s)

/-- LINK_RECORD (R282). -/
def execLinkRecord (port : Fin 3) (sd : Nat) (fr : Frame) (s : State) : Host.Outcome State Fault Refusal :=
  done (casCmd port (some 2) sd fr s)

/-- CASCADE_SYNC (R265). -/
def execCascadeSync (port : Fin 3) (sd : Nat) (fr : Frame) (s : State) : Host.Outcome State Fault Refusal :=
  done (casCmd port (some 3) sd fr s)

/-- BEACON_RECEIVE (R233, R234). -/
def execBeaconReceive (port : Fin 3) (sd : Nat) (fr : Frame) (s : State) : Host.Outcome State Fault Refusal :=
  done (casCmd port (some 4) sd fr s)

/-- MODE_RECORD (R290). -/
def execModeRecord (port : Fin 3) (sd : Nat) (fr : Frame) (s : State) : Host.Outcome State Fault Refusal :=
  done (casCmd port (some 7) sd fr s)

/-- MIRROR_RECORD (R303). -/
def execMirrorRecord (port : Fin 3) (sd : Nat) (fr : Frame) (s : State) : Host.Outcome State Fault Refusal :=
  done (casCmd port (some 8) sd fr s)

/-- PAIR_RECORD (R306). -/
def execPairRecord (port : Fin 3) (sd : Nat) (fr : Frame) (s : State) : Host.Outcome State Fault Refusal :=
  done (casCmd port (some 9) sd fr s)

/-! Sending (R283). -/

/-- Header of a cascade record (Table 10-2), without its check. -/
def State.headC (s : State) (type ridx seq age : Nat) : Nat :=
  type % 16 + 16 + ridx % 256 * 2 ^ 8 + s.ownId * 2 ^ 16 + seq % 65536 * 2 ^ 24 + age % 256 * 2 ^ 40

/-- A record of rank k has been sent in this cycle. -/
def State.casSent (s : State) (p k : Nat) : Bool := kvGet (fun _ => none) (s.casPort p).sent k = some s.cyc

/-- Notes that it has. -/
def markSent (p k : Nat) (s : State) : State :=
  let m := kvPut (fun _ => none) (s.casPort p).sent k (some s.cyc)
  putCasPort p { s.casPort p with sent := m } s

/-- The groups of eight axes to mirror (R302). -/
def State.mirGroups (s : State) : List Nat :=
  (List.range 32).filter fun g => (List.range 8).any fun i => s.mirEn (8 * g + i)

/-- The next MIRROR group of port p in this cycle. -/
def State.nextMirror (s : State) (p : Nat) : Option Nat :=
  let (c, k) := (s.casPort p).mirror
  s.mirGroups.find? fun g => if c = s.cyc then decide (k ≤ g) else true

/-- Port p carries the records of a joined port. -/
def State.carries (s : State) (p : Nat) : Bool := s.joined p && !((s.casPort p).fresh && s.running)

/-- The rank of the record that port p has to send and the instant it is ready from, in 1/16 ns after
cycle start, in rank order (R283). -/
def State.casReady (s : State) (p : Nat) : List (Nat × Nat) :=
  let cinst := s.af Reg.SYN_CINST 23 0
  let st := s.csState
  let pair := s.paired && s.carries p && s.peer p = s.partner
  (if st ≠ 0 && st ≠ 7 && !(s.casSent p 1) then [(1, cinst)] else []) ++
  (if s.beaconing && !(s.casSent p 2) then [(2, cinst)] else []) ++
  (if s.carries p && !(s.casSent p 3) then [(3, cinst)] else []) ++
  (if s.carries p && !(s.casPort p).relays.isEmpty then [(4, 0)] else []) ++
  (if pair && !(s.casSent p 5) then [(5, s.af Reg.CAS_PAIR_TIM 23 0)] else []) ++
  (if pair && s.ab Reg.CAS_CFG 8 && (s.nextMirror p).isSome then [(6, s.af Reg.CAS_MIR_TIM 23 0)] else []) ++
  (if !(s.joined p) then [(7, 0)] else [])

/-- The first rank that is ready at an instant. -/
def readyAt (x : Nat) (rs : List (Nat × Nat)) : Option Nat := (rs.find? fun r => r.2 ≤ x).map (·.1)

/-- The earliest ready instant. -/
def earliest : List (Nat × Nat) → Option Nat
  | [] => none
  | r :: rs => match earliest rs with | none => some r.2 | some y => some (min r.2 y)

/-- R264: the words of a cascade SYNC that leaves with its SD at sd. -/
def State.casSyncWords (s : State) (p sd : Nat) : List Nat :=
  let arr : Option (Nat × Nat) := (kvGet (fun _ => []) s.syn.arrived p).find? fun e => e.1 + 1 = s.cyc
  let t := match arr with | some (_, x) => x | none => 0
  let rxl := t / 65536 % 2 ^ 48
  let fl := b2n arr.isSome + b2n (s.rb Reg.SYN_STAT 0) * 2 + b2n (s.rb Reg.SYN_STAT 1) * 4 +
    b2n (s.rb Reg.SYN_STAT 3) * 8 + s.ownId * 16
  timeWords sd (rxl % 65536) ++ [rxl / 65536, t % 65536 + fl * 65536 + s.syn.nsrc % 16 * 2 ^ 24]

/-- The record of a rank, and what sending it changes. -/
def casForm (p k sd : Nat) (s : State) : Frame × State :=
  match k with
  | 1 =>
    let sent := kvPut (fun _ => []) s.syn.sent p ((s.cyc, sd * 4096) :: (kvGet (fun _ => []) s.syn.sent p).take 1)
    let f := mkFrame (s.headC 3 0 s.cyc 0) (s.casSyncWords p sd)
    (f, markSent p 1 { s with syn := { s.syn with sent := sent } })
  | 2 => (mkFrame (s.headC 4 0 s.cyc 0) (s.beaconWords (0x7F, 0, 0x7F) 0x1000000), markSent p 2 (openWindow s))
  | 3 =>
    let n := (s.casPort p).abandons
    (mkFrame (s.headC 7 0 s.cyc 0) (s.modeWords (n ≠ 0)), markSent p 3 (putCasPort p { s.casPort p with abandons := n - 1 } s))
  | 4 =>
    match (s.casPort p).relays with
    | r :: rs => (mkFrame (s.headC 1 r.idx r.seq r.age) r.words, putCasPort p { s.casPort p with relays := rs } s)
    | [] => (mkFrame (s.headC 2 0 s.cyc 0) s.linkWords, s)
  | 5 => (mkFrame (s.headC 9 0 s.cyc 0) s.pairWords, markSent p 5 s)
  | 6 =>
    let g := (s.nextMirror p).getD 0
    let (ws, s) := mirrorWords g s
    (mkFrame (s.headC 8 g s.cyc 0) ws, putCasPort p { s.casPort p with mirror := (s.cyc, g + 1) } s)
  | _ => (mkFrame (s.headC 2 0 s.cyc 0) s.linkWords, s)

/-- R292: MABORT stands in the lead pair of what port p sends, until the end of the cycle after an abandonment. -/
def State.leadOf (s : State) (p : Nat) : Option Byte :=
  match s.cas.abortUntil with
  | some n => if s.joined p && decide (s.cyc ≤ n) then some 0xA0 else none
  | none => none

/-- R283: the pair boundary of port p, in 1/80 TBCLK, at which a record ready at NS u starts: where the record before
ends, or the next one of the port's symbol clock. -/
def State.pairStart (s : State) (p u : Nat) : Nat :=
  let l := 80 * s.tbReach (max s.time.ns u)
  let busy := (s.casPort p).busy
  if l ≤ busy then busy else l + (256 + (Config.symbolPhase s.net.phase (8 + p)).toNat - l % 256) % 256

/-- CASCADE_RECORD_SEND (R283): at the next pair boundary with no record in progress port p starts its
highest-ranked ready record; the lead pair of each is the idle pair between two (R279). The SD is read to within
0.25 ns (R257). -/
def casSend (p : Nat) (s : State) : State :=
  let rs := s.casReady p
  match earliest rs with
  | none => s
  | some e =>
    let l := s.pairStart p (s.at16 e)
    let start := s.nsOfTb l
    let sd := s.nsOfTb (l + 256) / 2 ^ 28 + s.freeBits 16 % 9 - 4
    if s.running && s.time.nextNs ≤ start then s
    else
      let s := useFree (advanceNs start s)
      match readyAt ((start - s.cycStart) / 2 ^ 28) rs with
      | none => s
      | some k =>
        let (f, s) := casForm p k sd s
        let len := (16 + 4 * f.words.length) * 128
        emit (.record p sd { f with lead := s.leadOf p }) (putCasPort p { s.casPort p with busy := l + len } s)

/-- CASCADE_RECORD_SEND (R283). -/
def execCascadeRecordSend (port : Fin 3) (s : State) : Host.Outcome State Fault Refusal :=
  done (onlyIf (s.casOn && s.memDone 5 && s.casUp port) (casSend port) s)

end Sys2Proof.Machine
end

