-- ==== Sys2Proof/Machine/Evl.lean ====
section
/-! DEFINITION. The event recorder (chapter 16): acceptance, rate limits, records, the two kinds of flush
and the persistent log in flash. -/

namespace Sys2Proof.Machine

/-! Records and space (R431, R436). -/

/-- SEQ of the next record to be written. -/
def State.wseq (s : State) : Nat := s.rf Reg.EVL_WSEQ 31 0

/-- SEQ of the next record to be flushed. -/
def State.fseq (s : State) : Nat := s.rf Reg.EVL_FSEQ 31 0

/-- Records from one SEQ up to another, modulo 2^32. -/
def seqDist (a b : Nat) : Nat := (b + 2 ^ 32 - a) % 2 ^ 32

/-- Records not yet flushed. -/
def State.unflushed (s : State) : Nat := seqDist s.fseq s.wseq

/-- FLEN, active. -/
def State.flen (s : State) : Bool := s.ab Reg.EVL_CFG 0

/-- R436: slots whose record is neither flushed nor, while FLEN is 0, consumed: every one is where RDSEQ stands at
WSEQ or above it. -/
def State.slotsUsed (s : State) : Nat :=
  let rd := s.rf Reg.EVL_RDSEQ 31 0
  if s.flen then s.unflushed else if seqDist s.wseq rd < 2 ^ 31 then 0 else min s.unflushed (seqDist rd s.wseq)

/-- R436: free slots. -/
def State.slotsFree (s : State) : Nat := 16384 - s.slotsUsed

/-- UNFL and UOVF of EVL_STAT (R441). -/
def showUnfl (s : State) : State :=
  setRb Reg.EVL_STAT 4 (4 * s.af Reg.EVL_CFG 15 10 < s.unflushed) (setRf Reg.EVL_STAT 31 16 (min 65535 s.unflushed) s)

/-- R423, R438: the recorder takes the master where no operation of it runs. -/
def holdMaster (s : State) : State := onlyIf (!(s.rb Reg.HIF_FL_STAT 31)) (setRb Reg.HIF_FL_STAT 28 true) s

/-- R439: a forced flush of every unflushed record starts, or one in progress takes in the new ones. It
suspends an erase in progress, and holds the master at the next operation boundary (R438). -/
def startForced (s : State) : State :=
  if !s.flen || s.rb Reg.EVL_STAT 3 then s
  else
    let s := onlyIf (s.evl.erasing && !(s.rb Reg.EVL_STAT 2)) (fun s => emitPins .flashSuspend (setRb Reg.EVL_STAT 2 true s)) s
    let since := match s.evl.forced with | some (_, t) => t | none => s.time.tick
    let s := { s with evl := { s.evl with forced := some (s.wseq, since) } }
    setRf Reg.EVL_STAT 1 0 3 (holdMaster s)

/-- R431, R437: a record with the next SEQ: word 0 as 0xFFFF_FFFF, words 2 to 7, then words 0 and 1. FSEQ stays within
one buffer of WSEQ. -/
def writeRecord (code cls inst arg0 arg1 ns cyc supp : Nat) (s : State) : State :=
  let q := s.wseq
  let a := memBase 6 + 32 * (q % 16384)
  let s := put32 a 0xFFFFFFFF false s
  let s := write64 (a + 8) (arg0 % 2 ^ 32 + 2 ^ 32 * (arg1 % 2 ^ 32)) s
  let s := write64 (a + 16) (ns % 2 ^ 64) s
  let s := write64 (a + 24) (cyc % 2 ^ 32 + 2 ^ 32 * (min supp 65535 + q % 65536 * 65536)) s
  let s := write64 a (q + 2 ^ 32 * (code % 65536 + cls % 4 * 2 ^ 16 + inst % 256 * 2 ^ 24)) s
  let s := setRf Reg.EVL_WSEQ 31 0 ((q + 1) % 2 ^ 32) s
  let s := onlyIf (16384 < s.unflushed) (setRf Reg.EVL_FSEQ 31 0 ((s.wseq + 2 ^ 32 - 16384) % 2 ^ 32)) s
  showUnfl (onlyIf (cls = clsFault) startForced s)

/-- A record of the recorder's own (Table 16-2), stamped now. -/
def ownRecord (code cls arg0 arg1 supp : Nat) (s : State) : State :=
  writeRecord code cls 0 arg0 arg1 s.nsNow s.cyc supp s

/-- R435: the key of a budget: CODE and INST, and the ring for a mute event (R429). -/
def budgetKey (e : Ev) : Nat :=
  e.code * 1024 + e.inst * 4 + (if e.code = evCode 6 1 8 then bitsOf e.arg0 17 16 else 0)

/-- The budget of a key. -/
def budgetOf (k : Nat) : List EvBudget → EvBudget
  | [] => ⟨k, 0, 0⟩
  | b :: bs => if b.key = k then b else budgetOf k bs

/-- Stores the budget of a key. -/
def putBudget (b : EvBudget) : List EvBudget → List EvBudget
  | [] => [b]
  | x :: xs => if x.key = b.key then b :: xs else x :: putBudget b xs

/-- R435: records allowed to a class in one window. -/
def State.budgetMax (s : State) (cls : Nat) : Nat :=
  if cls = clsFault then s.af Reg.EVL_RL 15 12 else s.af Reg.EVL_RL 11 8

/-- R435, R436: an accepted event is recorded, suppressed or lost. -/
def recordEvent (e : Ev) (s : State) : State :=
  let b := budgetOf (budgetKey e) s.evl.budgets
  let hw := e.code / 1024 ≤ 0x1D
  let keep (b : EvBudget) (s : State) : State := { s with evl := { s.evl with budgets := putBudget b s.evl.budgets } }
  if hw && s.budgetMax e.cls ≤ b.used then keep { b with supp := b.supp + 1 } s
  else if s.slotsFree < 2 then noteLost (incRf Reg.EVL_LOST 15 0 s)
  else
    writeRecord e.code e.cls e.inst e.arg0 e.arg1 e.ns e.cyc b.supp
      (onlyIf hw (keep { b with used := b.used + 1, supp := 0 }) s)

/-- R433: BOOT, once the buffer is initialised. -/
def writeBoot (s : State) : State :=
  match s.evl.boot with
  | none => s
  | some c =>
    let s := { s with evl := { s.evl with boot := none } }
    if s.slotsFree < 2 then noteLost (incRf Reg.EVL_LOST 15 0 s) else ownRecord 0x7800 0 c 0 0 s

/-- R433: the events held before DONE are written in order. -/
def writeHeld (s : State) : State :=
  let es := s.evl.held
  forAll es recordEvent { s with evl := { s.evl with held := [] } }

/-- R436: LOST, as soon as a second slot is free. -/
def writeLost (s : State) : State :=
  if s.evl.lostNow = 0 || s.slotsFree < 2 then s
  else
    let n := s.evl.lostNow
    let q := s.evl.lostSeq
    ownRecord 0x7802 1 n q 0 { s with evl := { s.evl with lostNow := 0 } }

/-- R433, R436: what comes before every other record once DONE is set: BOOT, the events held, LOST. -/
def writeWaiting (s : State) : State := if s.memDone 6 then writeLost (writeHeld (writeBoot s)) else s

/-- The recorder's work of one sysclk (R432, R433, R436). -/
def evAccept (s : State) : State :=
  let s := if s.evl.acceptAt = some s.sclk then advanceTo (2 * (s.sclk + 1)) s else s
  let s := { s with evl := { s.evl with acceptAt := some s.sclk } }
  let s := writeWaiting s
  match s.evl.queue with
  | [] => s
  | e :: q =>
    let s := { s with evl := { s.evl with queue := q } }
    if s.memDone 6 then recordEvent e s
    else if s.evl.held.length < 16 then { s with evl := { s.evl with held := s.evl.held ++ [e] } }
    else noteLost (incRf Reg.EVL_LOST 31 16 s)

/-- EVENT_ACCEPT (R432). -/
def execEventAccept (s : State) : Host.Outcome State Fault Refusal := done (onlyIf (s.live 1) evAccept s)

/-- R435: SUPPRESSED for a pair that still holds a count. -/
def writeSuppressed (b : EvBudget) (s : State) : State :=
  if b.supp = 0 then s
  else if s.slotsFree < 2 then noteLost (incRf Reg.EVL_LOST 15 0 s)
  else ownRecord 0x7801 0 (b.key / 1024 + b.key / 4 % 256 * 65536) 0 b.supp s

/-- R435: the end of a window; the next began in the tick in which it ended. BOOT and what was held come first (R433),
and a LOST that has its slot (R436). -/
def rateWindowEnd (s : State) : State :=
  let s := writeWaiting s
  let bs := s.evl.budgets
  let w := s.af Reg.EVL_RL 7 0 * 800000
  let start := s.evl.winStart + (s.time.tick - s.evl.winStart) / w * w
  forAll bs writeSuppressed { s with evl := { s.evl with budgets := [], winStart := start } }

/-- RATE_WINDOW_END (R435). -/
def execRateWindowEnd (s : State) : Host.Outcome State Fault Refusal :=
  done (onlyIf (s.live 1 && s.memDone 6 && s.af Reg.EVL_RL 7 0 * 800000 ≤ s.time.tick - s.evl.winStart) rateWindowEnd s)

/-! Flush (R438 to R440). -/

/-- The four 64-bit words of a buffer slot, or RECBAD for a slot that reads bad (R440). -/
def flushWords (q : Nat) (s : State) : List Nat × State :=
  let a := memBase 6 + 32 * (q % 16384)
  let (r0, s) := readWord 10 0 a s
  let (r1, s) := readWord 10 0 (a + 8) s
  let (r2, s) := readWord 10 0 (a + 16) s
  let (r3, s) := readWord 10 0 (a + 24) s
  if r0.ok && r1.ok && r2.ok && r3.ok then ([r0.data, r1.data, r2.data, r3.data], s)
  else ([q + 2 ^ 32 * (0x7803 + 2 ^ 16), q % 16384, s.nsNow, s.cyc % 2 ^ 32 + 2 ^ 32 * (q % 65536 * 65536)], s)

/-- R438: the sector ahead of FLWP is to be erased, when FLEN is set and when FLWP enters a sector, with KEEP = 0; in a
flush the erase begins at its end (DEDUCED, log entry 144). -/
def eraseAhead (s : State) : State :=
  let wp := s.rf Reg.EVL_FLWP 31 0
  let len := s.af Reg.EVL_FLLEN 31 0
  if s.ab Reg.EVL_CFG 1 || len = 0 then s
  else { s with evl := { s.evl with eraseDue := s.evl.eraseDue ++ [(wp / 128 + 1) * 128 % len] } }

/-- An erase of the recorder runs. -/
def State.eraseRuns (s : State) : Bool := s.evl.erasing && !(s.rb Reg.EVL_STAT 2)

/-- The flash is given the erase of the sector that begins at slot n. -/
def eraseSector (n : Nat) (s : State) : State := emitPins (.flashErase (s.af Reg.EVL_FLBASE 31 0 + 32 * n)) s

/-- R423, R438: an erase that is due begins at an operation boundary, with no flush forced and none suspended. -/
def beginErase (s : State) : State :=
  match s.evl.eraseDue with
  | [] => s
  | n :: ns =>
    if s.rb Reg.HIF_FL_STAT 31 || s.evl.forced.isSome || s.evl.erasing then s
    else eraseSector n (holdMaster { s with evl := { s.evl with erasing := true, eraseAt := n, eraseDue := ns } })

/-- R438: the sector that FLWP stands in is still to be erased: only erased bytes are programmed. -/
def State.sectorWaits (s : State) : Bool :=
  let at_ := s.rf Reg.EVL_FLWP 31 0 / 128 * 128
  (s.evl.erasing && at_ = s.evl.eraseAt) || s.evl.eraseDue.contains at_

/-- R438, R439: the erase of the sector that FLWP stands in ends first, one that is due begins first; one that a forced
flush has suspended resumes for that. None of this while the VDD_IO warning is present and the erase stands. -/
def finishErase (s : State) : State :=
  let viow := s.rb Reg.PCR_SUP_STAT 0
  if !s.sectorWaits || (viow && !s.eraseRuns) then s
  else
    let s := if s.eraseRuns then { s with evl := { s.evl with erasing := false } }
      else onlyIf s.evl.erasing (fun s =>
        emitPins .flashResume (setRb Reg.EVL_STAT 2 false { s with evl := { s.evl with erasing := false } })) s
    if !s.sectorWaits || viow then s
    else
      let n := s.rf Reg.EVL_FLWP 31 0 / 128 * 128
      eraseSector n { s with evl := { s.evl with eraseDue := s.evl.eraseDue.filter (· ≠ n) } }

/-- R438: one record goes to the flash; FLWP moves on, wraps, or ends the log with KEEP = 1. LOST comes as soon as a
second slot is free (R436). -/
def flushOne (s : State) : State :=
  if s.rb Reg.EVL_STAT 3 || s.unflushed = 0 then s
  else
    let q := s.fseq
    let wp := s.rf Reg.EVL_FLWP 31 0
    let len := s.af Reg.EVL_FLLEN 31 0
    if len ≤ wp && s.ab Reg.EVL_CFG 1 then setRb Reg.EVL_STAT 3 true s
    else
      let s := finishErase s
      if s.sectorWaits then s
      else
        let (ws, s) := flushWords q s
        let s := emitPins (.flashProg (s.af Reg.EVL_FLBASE 31 0 + 32 * wp) ws) s
        let s := setRf Reg.EVL_FSEQ 31 0 ((q + 1) % 2 ^ 32) s
        let nx := if len ≤ wp + 1 then (if s.ab Reg.EVL_CFG 1 then len else 0) else wp + 1
        let s := setRf Reg.EVL_FLWP 31 0 nx s
        let s := onlyIf (s.ab Reg.EVL_CFG 1 && len ≤ nx) (setRb Reg.EVL_STAT 3 true) s
        writeLost (showUnfl (onlyIf (nx % 128 = 0) eraseAhead s))

/-- The first n unflushed records go to the flash in order. -/
def flushMany : Nat → State → State
  | 0, s => s
  | n + 1, s => flushMany n (flushOne s)

/-- R389: age of the oldest unflushed record in ns of network time, by the stamp that the decoder delivers; none
where it delivers none. -/
def State.oldestAge (s : State) : Nat :=
  let r := s.decodeAt (memBase 6 + 32 * (s.fseq % 16384) + 16)
  if r.ok then s.nsNow - r.data else 0

/-- R439: a background flush may start. -/
def State.backgroundDue (s : State) : Bool :=
  s.live 1 && s.memDone 6 && s.flen && !(s.rb Reg.EVL_STAT 3) && s.evl.forced.isNone && !(s.rb Reg.HIF_FL_STAT 31)
    && !(s.rb Reg.EVL_STAT 0) && s.unflushed ≠ 0 && (8 ≤ s.unflushed || s.af Reg.EVL_CFG 23 16 * 1000000 ≤ s.oldestAge)

/-- R438, R439: a background flush of what is unflushed at its start, which takes the master at an operation boundary: an
erase of an earlier flush that is not suspended has ended. The flash has it until FLASH_DONE; the erase ahead comes
last. -/
def backgroundFlush (s : State) : State :=
  let s := { s with evl := { s.evl with erasing := s.evl.erasing && s.rb Reg.EVL_STAT 2 } }
  setRb Reg.EVL_STAT 0 true (beginErase (holdMaster (flushMany s.unflushed s)))

/-- BACKGROUND_FLUSH (R439). -/
def execBackgroundFlush (s : State) : Host.Outcome State Fault Refusal :=
  done (onlyIf s.backgroundDue backgroundFlush s)

/-- FLUSH (R439): a write of 1 to FLUSH in EVL_CMD. -/
def execEvlFlush (s : State) : Host.Outcome State Fault Refusal := done (regWrite Reg.EVL_CMD startForced s)

/-- R439: the erase resumes unless the VDD_IO warning is still present. -/
def resumeErase (s : State) : State :=
  onlyIf (s.rb Reg.EVL_STAT 2 && !(s.rb Reg.PCR_SUP_STAT 0))
    (fun s => holdMaster (emitPins .flashResume (setRb Reg.EVL_STAT 2 false s))) s

/-- R377: a confirmation copy of the flash has a new content. -/
def confStore (x : Option (Bool × ConfCopy)) (s : State) : State :=
  match x with
  | some (second, c) => { s with boot := if second then { s.boot with confB := c } else { s.boot with confA := c } }
  | none => s

/-- The master starts an operation. The erase of a confirmation copy ends its content. -/
def flashStart (o : FlashOp) (s : State) : State :=
  onlyIf o.erase (confStore o.conf) (setRb Reg.HIF_FL_STAT 31 true { s with hif := { s.hif with flash := some o } })

/-- R423: the next operation: a GO that has waited, else the next of Glipor's tasks. -/
def nextOp (s : State) : State :=
  match s.hif.flashWait, s.hif.flashTasks with
  | some o, _ => flashStart o { s with hif := { s.hif with flashWait := none } }
  | none, o :: os => flashStart o { s with hif := { s.hif with flashTasks := os } }
  | none, [] => s

/-- R423: operations of one of Glipor's tasks, each with a GO of its own once the master is free. -/
def taskOps (os : List FlashOp) (s : State) : State :=
  let s := { s with hif := { s.hif with flashTasks := s.hif.flashTasks ++ os } }
  if s.rb Reg.HIF_FL_STAT 31 || s.rb Reg.HIF_FL_STAT 28 then s else nextOp s

/-- R423: the recorder gives the master back once no erase of it runs or is due, and an operation that has waited runs. -/
def releaseMaster (s : State) : State :=
  let s := beginErase s
  if s.eraseRuns then s else nextOp (setRb Reg.HIF_FL_STAT 28 false s)

/-- FLASH_DONE of an operation of the recorder: a background flush and the erase ahead have ended. -/
def recorderDone (s : State) : State :=
  onlyIf (s.rb Reg.HIF_FL_STAT 28 && s.evl.forced.isNone) (fun s =>
    releaseMaster (setRb Reg.EVL_STAT 0 false { s with evl := { s.evl with erasing := s.evl.erasing && s.rb Reg.EVL_STAT 2 } })) s

/-- R439: a forced flush ends: the records up to its SEQ are in flash, FLUSHED is written and follows. -/
def flushComplete (s : State) : State :=
  let s := writeWaiting s
  match s.evl.forced with
  | none => s
  | some (q, t) =>
    let first := s.fseq
    let s := flushMany (min (seqDist s.fseq q) s.unflushed) s
    let n := seqDist first s.fseq
    let s := { s with evl := { s.evl with forced := none } }
    let s := setRf Reg.EVL_STAT 1 0 0 s
    let s := if s.slotsFree < 2 then noteLost (incRf Reg.EVL_LOST 15 0 s)
      else ownRecord 0x7804 0 n ((s.time.tick - t) / 800) 0 s
    releaseMaster (resumeErase (flushMany s.unflushed s))

/-- FLUSH_COMPLETE (R439). -/
def execFlushComplete (s : State) : Host.Outcome State Fault Refusal :=
  done (onlyIf (s.live 1 && s.rb Reg.HIF_FL_STAT 28 && s.memDone 6) flushComplete s)

/-! Firmware events and commits. -/

/-- A write of w to EVL_FWEV_CTL; GO enters an event (R430). -/
def fwevWrite (w : Word) (s : State) : State :=
  let s := setReg Reg.EVL_FWEV_CTL (w &&& 0x0FFC03FF) s
  if bit w 31 then
    event (evCode 0x1F 0 0 + fld w 9 0) (fld w 27 26) (fld w 25 18) (s.reg Reg.EVL_FWEV_A0).toNat (s.reg Reg.EVL_FWEV_A1).toNat s
  else s

/-- FWEV_GO (R430). -/
def execFwevGo (w : Word) (s : State) : Host.Outcome State Fault Refusal :=
  done (regWrite Reg.EVL_FWEV_CTL (fwevWrite (w ||| 0x80000000)) s)

/-- EVL_ group 0 has become active, given EVL_CFG before: the sector ahead is erased when FLEN is set, at the next
operation boundary, one whose erase a reset cut short too (R423, R438, R439), FLFULL clears with FLEN, and the counts
are shown. -/
def evlCommitted (cfg : Word) (s : State) : State :=
  let s := onlyIf (!(bit cfg 0) && s.flen) (fun s => beginErase (eraseAhead s)) s
  let s := onlyIf (!s.flen) (fun s => releaseMaster (setRf Reg.EVL_STAT 3 0 0
    { s with evl := { s.evl with forced := none, erasing := s.eraseRuns, eraseDue := [] } })) s
  showUnfl s

end Sys2Proof.Machine
end

