-- ==== Sys2Proof/Machine/MemInt.lean ====
section
/-! DEFINITION. Memory integrity: initialisation (R393, R402), scrubbing and its passes (R394 to R397),
clearing a word (R392), soft repair (R403), reads of capture memory by the host (R309, R411). -/

namespace Sys2Proof.Machine

/-! Initialisation. -/

/-- Table 14-3: sysclk of the initialisation of memory m. -/
def initSclk (m : Nat) : Nat := match m with | 0 => 32768 | 7 => 4096 | _ => 16384

/-- R402: the fuse map applied to macro n: MEM_REP_n, and FMAP where its entry fails. -/
def applyFuses (n : Nat) (s : State) : State :=
  let f := (Config.fuseMap n).toNat
  if bitsOf f 5 5 = 1 then
    memErr 24 (memOfPart n) (setReg (Reg.MEM_REP n) 256 s)
  else setReg (Reg.MEM_REP n) (BitVec.ofNat 32 (min 2 (bitsOf f 4 3) * 16 + min 4 (bitsOf f 2 0))) s

/-- R402: the columns of macro n that the fuse map replaces: macro × 256 + position × 16 + segment. -/
def fuseColumns (n : Nat) : List Nat :=
  let f := (Config.fuseMap n).toNat
  if bitsOf f 5 5 = 1 then []
  else (List.range (min 2 (bitsOf f 4 3))).map fun i =>
    let c := (Config.fuseColumn n i).toNat
    n * 256 + c / 8 * 16 + c % 8

/-- Global macros of memory m. -/
def memParts (m : Nat) : List Nat := (List.range (partCount m)).map (· + partBase m)

/-- R402, R403: the fuse map is applied to memory m; soft repairs end. -/
def fuseMemory (m : Nat) (s : State) : State :=
  let s := forAll (memParts m) applyFuses s
  let keep := s.mi.replaced.filter fun k => !((memParts m).contains (k / 256))
  { s with mi := { s.mi with replaced := (memParts m).flatMap fuseColumns ++ keep } }

/-- R393: power-on of the domain of memory m: repairs, then initialisation. -/
def memoryInit (m : Nat) (s : State) : State :=
  let parts := memParts m
  let s := fuseMemory m s
  let pos := parts.foldl (fun t p => kvPut (fun _ => 0) t p 0) s.mi.scrubPos
  clearMem m { s with mi := { s.mi with
    scrubPos := pos
    scrubAt := parts.foldl (fun t p => kvPut (fun _ => 0) t p 0) s.mi.scrubAt
    wrapped := s.mi.wrapped.filter (fun p => !(parts.contains p))
    passStart := kvPut (fun _ => 0) s.mi.passStart m s.mtick
    initUntil := kvPut (fun _ => 0) s.mi.initUntil m (s.time.tick + 2 * initSclk m) } }

/-- The initialisation of memory m is under way. -/
def State.initBusy (s : State) (m : Nat) : Bool := kvGet (fun _ => 0) s.mi.initUntil m ≠ 0

/-- MEMORY_INIT (R393). -/
def execMemoryInit (m : Fin 8) (s : State) : Host.Outcome State Fault Refusal :=
  done (onlyIf (s.live (memDom m) && !(s.memDone m) && !(s.initBusy m)) (memoryInit m) s)

/-- R393: the initialisation of memory m completes. -/
def initDone (m : Nat) (s : State) : State :=
  let s := advanceTo (kvGet (fun _ => 0) s.mi.initUntil m) s
  setRb Reg.MEM_INIT m true { s with mi := { s.mi with initUntil := kvPut (fun _ => 0) s.mi.initUntil m 0 } }

/-- INIT_DONE (R393). -/
def execInitDone (m : Fin 8) (s : State) : Host.Outcome State Fault Refusal :=
  done (onlyIf (s.live (memDom m) && s.initBusy m) (initDone m) s)

/-! Scrubbing. -/

/-- A scrub's outcome is logged while PD_CPU holds the MEM_ registers; one found in a freeze at the resume. -/
def logScrub (a : Nat) (r : RdOut) (s : State) : State :=
  match memOf a with
  | some m =>
    if r.out = .clean || !(s.domOn 1) then s
    else if s.frozen then { s with mi := { s.mi with found := s.mi.found ++ [(a, r)] } }
    else logRead m 9 0 a r s
  | none => s

/-- R394: a scrub access to the word at address a. -/
def scrubWord (a : Nat) (s : State) : State :=
  let r := s.decodeAt a
  let s := logScrub a r s
  match r.out with
  | .clean => s
  | .corrected _ => storeWord a r.data false s
  | .uncorrectable => storeWord a r.data true s
  | .poisoned => s

/-- PLIM of memory m in ticks. -/
def State.passLim (s : State) (m : Nat) : Nat := s.af (Reg.MEM_SCRUB m) 7 0 * 800000

/-- R397: a pass of memory m was complete at a time that always passes. -/
def passAt (now m : Nat) (s : State) : State :=
  if !(s.domOn 1) then { s with mi := { s.mi with wrapped := s.mi.wrapped.filter (fun p => memOfPart p ≠ m) } } else
  let t0 := kvGet (fun _ => 0) s.mi.passStart m
  let dt := now - t0
  let late := s.passLim m < dt
  let cnt := (s.rf (Reg.MEM_SSTAT m) 31 16 + 1) % 65536
  let s := setReg (Reg.MEM_SSTAT m) (BitVec.ofNat 32 (cnt * 65536 + min 65535 (dt / 8000))) s
  let s := { s with mi := { s.mi with
    passStart := kvPut (fun _ => 0) s.mi.passStart m now
    wrapped := s.mi.wrapped.filter (fun p => memOfPart p ≠ m)
    passTime := kvPut (fun _ => 0) s.mi.passTime m dt } }
  onlyIf late (memErr 27 m) s

/-- R397: a pass of memory m is complete; one of capture memory in a freeze shows at the resume (Table 18-3). -/
def passDone (m : Nat) (s : State) : State :=
  if s.frozen then { s with mi := { s.mi with passes := s.mi.passes ++ [s.mtick] } } else passAt s.mtick m s

/-- Table 18-3: what the always-on scrub of capture memory has found and completed in a freeze is logged as the clocks
start (DEDUCED, log entry 244). -/
def takeScrubs (s : State) : State :=
  let fs := s.mi.found
  let ps := s.mi.passes
  let s := { s with mi := { s.mi with found := [], passes := [] } }
  forAll ps (fun t => passAt t 7) (forAll fs (fun (a, r) => logRead 7 9 0 a r) s)

/-- R397: part p of memory m has wrapped. -/
def partWrapped (m p : Nat) (s : State) : State :=
  let s := { s with mi := { s.mi with wrapped := p :: s.mi.wrapped.erase p } }
  onlyIf ((List.range (partCount m)).all fun i => s.mi.wrapped.contains (partBase m + i)) (passDone m) s

/-- R394: the scrubber of macro p of memories 0 to 6 reads its next word. -/
def scrubRead (p : Nat) (s : State) : State :=
  let m := memOfPart p
  let k := kvGet (fun _ => 0) s.mi.scrubPos p
  let s := scrubWord (memBase m + 8 * ((p - partBase m) * partWords m + k)) s
  let nx := if k + 1 = partWords m then 0 else k + 1
  let s := { s with mi := { s.mi with scrubPos := kvPut (fun _ => 0) s.mi.scrubPos p nx } }
  onlyIf (nx = 0) (partWrapped m p) s

/-- R394, R452: the scrubber of memory m runs: enabled and initialised, its domain on, or off with its
contents retained. -/
def State.scrubs (s : State) (m : Nat) : Bool :=
  s.ab (Reg.MEM_SCRUB m) 31 && s.memDone m && !s.frozen &&
    (if s.domOn (memDom m) then s.rf Reg.PCR_PSTATE 18 16 ≠ 3 else s.rb Reg.PCR_RET m)

/-- R394: the scrubber of macro p waits until 2^DIV sysclk have passed since its last read; the sequencer of an
off domain keeps its own time (R452). -/
def scrubWait (p : Nat) (s : State) : State :=
  let m := memOfPart p
  if s.live (memDom m) then
    let s := advanceTo (kvGet (fun _ => 0) s.mi.scrubAt p) s
    let next := s.time.tick + 2 * 2 ^ s.af (Reg.MEM_SCRUB m) 19 16
    { s with mi := { s.mi with scrubAt := kvPut (fun _ => 0) s.mi.scrubAt p next } }
  else s

/-- SCRUB_READ (R394). -/
def execScrubRead (macroNo : Fin 40) (s : State) : Host.Outcome State Fault Refusal :=
  done (onlyIf (s.scrubs (memOfPart macroNo)) (fun s => scrubRead macroNo (scrubWait macroNo s)) s)

/-- R396: one line of capture memory is scrubbed. -/
def scrubLine (s : State) : State :=
  let k := kvGet (fun _ => 0) s.mi.scrubPos 40
  let s := forAll (List.range 8) (fun i => scrubWord (memBase 7 + 64 * k + 8 * i)) s
  let nx := if k + 1 = 65536 then 0 else k + 1
  let s := { s with mi := { s.mi with scrubPos := kvPut (fun _ => 0) s.mi.scrubPos 40 nx } }
  onlyIf (nx = 0) (passDone 7) s

/-- R309: the next slot 15 of the wheel begins. -/
def toSlot15 (s : State) : State :=
  let first := max ((s.time.tick + 3) / 4) (s.acq.slotR + 1)
  let k := first + (15 - first % 16)
  let s := advanceTo (4 * k) s
  { s with acq := { s.acq with slotR := k } }

/-- R396: in this slot 15 a row is due for refresh (512 rows in 250 µs, so one in 390 ticks): one has become due
since the slot 15 before, 64 ticks earlier. -/
def State.refreshDue (s : State) : Bool :=
  s.mi.refreshTick ≤ 4 * s.acq.slotR && (4 * s.acq.slotR - s.mi.refreshTick) % 390 < 64

/-- R396: the row due in this slot 15 is refreshed, as those before it were in the slots 15 in which they were due. -/
def refreshRow (s : State) : State :=
  let n := (4 * s.acq.slotR - s.mi.refreshTick) / 390 + 1
  { s with mi := { s.mi with refreshRow := (s.mi.refreshRow + n) % 512, refreshTick := s.mi.refreshTick + 390 * n } }

/-- R396: the next slot 15 refreshes a row if one is due, else scrubs a line. -/
def refreshSlot (s : State) : State :=
  let s := toSlot15 s
  if s.refreshDue then refreshRow s else onlyIf (s.ab (Reg.MEM_SCRUB 7) 31 && s.memDone 7) scrubLine s

/-- REFRESH_SLOT (R396). -/
def execRefreshSlot (s : State) : Host.Outcome State Fault Refusal := done (onlyIf (s.live 8) refreshSlot s)

/-! Firmware commands. -/

/-- R392: the word at an address may be cleared. -/
def State.mayClear (s : State) (a : Nat) : Bool :=
  match memOf a with
  | some m => m ≠ 8 && s.memDone m && s.domOn (memDom m)
  | none => false

/-- R392: a word of capture memory is cleared in the first slot 15 in which no refresh is due, at the latest in
the third, which ends within the 96 sysclk. -/
def clearInSlot (a : Nat) : Nat → State → State
  | 0, s => storeWord a 0 false s
  | n + 1, s =>
    let s := toSlot15 s
    if s.refreshDue && n ≠ 0 then clearInSlot a n (refreshRow s) else storeWord a 0 false s

/-- R392: a word of memories 0 to 6 is cleared, but where a functional write of hardware has reached it in this tick. -/
def clearSram (a : Nat) (s : State) : State := onlyIf (!(s.wordHit a)) (storeWord a 0 false) s

/-- R392: a write to MEM_WZERO. -/
def wzero (w : Word) (s : State) : State :=
  let a := w.toNat / 8 * 8
  if !(s.mayClear a) then accessError 12 a true s
  else if memOf a = some 7 then clearInSlot a 3 s
  else clearSram a s

/-- MEM_WZERO (R392). -/
def execMemWzero (w : Word) (s : State) : Host.Outcome State Fault Refusal :=
  done (regWrite Reg.MEM_WZERO (wzero w) s)

/-- Adds error e to symbol j of the word at address a. -/
def upsetSymbol (a j : Nat) (e : Byte) (s : State) : State :=
  let d := s.chkAt a
  let d2 := gfPow (e ^^^ gfPow e j) 230
  let s := putChk a (d.1 ^^^ e ^^^ d2, d.2 ^^^ d2) s
  if j < 2 then s else let b := a / 8 * 8 + (j - 2); putByte b (s.byteAt b ^^^ e) s

/-- R403: a spare column starts with undefined content: every word of the segment carries a free error
value at the position. -/
def freeColumn (p pos seg : Nat) (s : State) : State :=
  let m := memOfPart p
  forAll (List.range (partWords m / 8)) (fun i t =>
    let a := memBase m + 8 * ((p - partBase m) * partWords m + 8 * i + seg)
    useFree (upsetSymbol a pos (BitVec.ofNat 8 (t.freeBits 8)) t)) s

/-- R403: a write to MEM_SREP with GO. A MACRO beyond 55 names no memory: INST of its event is free. -/
def srepGo (w : Word) (s : State) : State :=
  let p := fld w 21 16
  let pos := fld w 15 12
  let seg := fld w 10 8
  let key := p * 256 + pos * 16 + seg
  let used := s.rf (Reg.MEM_REP p) 5 4 + s.rf (Reg.MEM_REP p) 7 6
  if 55 < p then memErr 28 (s.freeBits 8) (useFree s)
  else if 9 < pos || !(s.memDone (memOfPart p)) || 2 ≤ used || s.mi.replaced.contains key then memErr 28 (memOfPart p) s
  else
    let s := setRf (Reg.MEM_REP p) 7 6 (s.rf (Reg.MEM_REP p) 7 6 + 1) s
    freeColumn p pos seg { s with mi := { s.mi with replaced := key :: s.mi.replaced } }

/-- SREP_GO (R403). -/
def execSrepGo (w : Word) (s : State) : Host.Outcome State Fault Refusal :=
  done (regWrite Reg.MEM_SREP (srepGo (w ||| 0x80000000)) s)

/-! Host reads of capture memory. -/

/-- R411: the eight bytes of a word of capture memory, 0xFF each if it is bad. -/
def bar2Word (a : Nat) (s : State) : List Nat × State :=
  let (r, s) := readWord 7 0 a s
  (if r.ok then bytesOf64 r.data 8 else List.replicate 8 0xFF, s)
where
  /-- Bytes of a word, low byte first. -/
  bytesOf64 (v : Nat) : Nat → List Nat
    | 0 => []
    | n + 1 => v % 256 :: bytesOf64 (v / 256) n

/-- Words i.. of the line at address a. -/
def bar2Words (a : Nat) : Nat → State → List Nat × State
  | 0, s => ([], s)
  | n + 1, s =>
    let (b, s) := bar2Word a s
    let (bs, s) := bar2Words (a + 8) n s
    (b ++ bs, s)

/-- R309, R411: bytes of BAR2 from an offset, line by line in host slots; nothing is served without a
host slot. -/
def bar2Bytes : Nat → Nat → Nat → State → Option (List Nat) × State
  | 0, _, _, s => (some [], s)
  | fuel + 1, ofs, len, s =>
    if len = 0 then (some [], s)
    else
      let n := min len (64 - ofs % 64)
      let (chunk, s) :=
        if !(s.domOn 8) || !(s.memDone 7) then (some (List.replicate n 0), s)
        else
          match s.nextSlot 2 s.acq.slotH with
          | none => (none, s)
          | some k =>
            let s := advanceTo (4 * k) s
            let s := { s with acq := { s.acq with slotH := k } }
            let w0 := ofs % 64 / 8
            let w1 := (ofs % 64 + n - 1) / 8
            let (bs, s) := bar2Words (memBase 7 + (ofs / 64 % 65536) * 64 + 8 * w0) (w1 - w0 + 1) s
            (some ((bs.drop (ofs % 8)).take n), s)
      match chunk with
      | none => (none, s)
      | some c =>
        let (rest, s) := bar2Bytes fuel (ofs + n) (len - n) s
        (rest.map (c ++ ·), s)

/-- BAR2_READ (R411). -/
def bar2Read (ofs len : Nat) (s : State) : State :=
  match bar2Bytes 65 ofs len s with
  | (some bs, s) => emit (.hostData bs) s
  | (none, s) => s

/-- BAR2_READ (R411): a host read of up to 4,096 bytes. -/
def execBar2Read (ofs : Fin 4194304) (len : Fin 4097) (s : State) : Host.Outcome State Fault Refusal :=
  done (onlyIf (s.live 7 && (s.hostSel || (s.rb Reg.HIF_LINK 0 && s.rf Reg.HIF_LINK 15 14 = 0))) (bar2Read ofs len) s)

end Sys2Proof.Machine
end

