-- ==== Sys2Proof/Machine/Wake.lean ====
section
/-! DEFINITION. Wakes (R449, R450): the sources of Table 17-3, and how an entry to a low state ends early. -/

namespace Sys2Proof.Machine

/-- CUR of PCR_PSTATE. -/
def State.cur (s : State) : Nat := s.rf Reg.PCR_PSTATE 18 16

/-- R456: with AVSEN = 0 the code requested is FIXC, in place of c. -/
def State.fixedCode (s : State) (c : Nat) : Nat := if s.ab Reg.PCR_AVS_CTL 31 then c else s.af Reg.PCR_AVS_CTL 23 16

/-- R456: with AVSEN = 0 the code requested becomes FIXC. -/
def avsFixed (s : State) : State := { s with pcr := { s.pcr with code := s.fixedCode s.pcr.code } }

/-- Table 17-4: an entry ends and the controller returns to the state it left, with the code requested there. -/
def abortEntry (s : State) : State :=
  match s.pcr.trans with
  | some (src, tgt) =>
    if tgt ≤ src then s
    else
      let code := if src < 2 && 2 ≤ tgt then s.fixedCode s.pcr.heldCode else s.pcr.code
      let s := { s with pcr := { s.pcr with trans := none, code := code } }
      setRb Reg.PCR_ERR 2 true (setRf Reg.PCR_PSTATE 18 16 src s)
  | none => s

/-- The present state as Table 17-3 sees it: the lower of the two in a transition. -/
def State.sleepState (s : State) : Nat :=
  match s.pcr.trans with | some (src, tgt) => max src tgt | none => s.cur

/-- Periods of the always-on clock that have passed. -/
def State.aoEdge (s : State) : Nat := s.time.mono / 1562500

/-- Table 17-3: source b is enabled and acts in power state st. -/
def State.sourceActs (s : State) (st b : Nat) : Bool :=
  s.rb Reg.PCR_WAKE_EN b && (st = 2 || st = 3) &&
    (match b with
     | 1 => s.rf Reg.PCR_ALARM_LO 31 0 + 2 ^ 32 * s.rf Reg.PCR_ALARM_HI 31 0 ≤ s.nsNow
     | 3 => st = 2 && s.domOn 9 && s.act Reg.FIO_IN_IEN ≠ 0
     | _ => true)

/-- Table 17-3: source b acts in the present state: STANDBY or DORMANT, or on the way into or out of one. -/
def State.wakeActs (s : State) (b : Nat) : Bool := s.sourceActs s.sleepState b

/-- Table 17-4: source b comes at the always-on edge at which another source has already ended an entry. -/
def State.wakesToo (s : State) (b : Nat) : Bool :=
  !s.frozen && (match s.pcr.wokeAt with | some (e, st) => e = s.aoEdge && s.sourceActs st b | none => false)

/-- Source b acts now. -/
def State.wakes (s : State) (b : Nat) : Bool := s.wakeActs b && !s.frozen

/-- R449, R450: a wake of source b. The code held at the entry to the low states is requested before any domain is
switched on (R456; from STANDBY to DORMANT it is the one held at the entry to STANDBY: DEDUCED, log entry 226). -/
def wake (b : Nat) (s : State) : State :=
  let s := setRb Reg.PCR_WAKE_STAT b true { s with pcr := { s.pcr with wokeAt := some (s.aoEdge, s.sleepState) } }
  match s.pcr.trans with
  | some _ => abortEntry s
  | none =>
    let code := if s.cur = 3 then s.pcr.heldCode else s.pcr.code
    setRf Reg.PCR_PSTATE 18 16 4 { s with pcr := { s.pcr with trans := some (s.cur, 1), code := code } }

/-- R449: what source b watches has happened; under FREEZE it is held until the resume (Table 18-3). -/
def wakeBy (b : Nat) (s : State) : State :=
  if s.wakes b then wake b s
  else if s.wakesToo b then setRb Reg.PCR_WAKE_STAT b true s
  else if s.wakeActs b then { s with pcr := { s.pcr with heldWakes := s.pcr.heldWakes ++ [b] } }
  else s

/-- Table 18-3: the wakes held through a freeze act at the resume. -/
def takeWakes (s : State) : State :=
  forAll s.pcr.heldWakes wakeBy { s with pcr := { s.pcr with heldWakes := [] } }

end Sys2Proof.Machine
end

