-- ==== Sys2Proof/Machine/Host.lean ====
section
/-! DEFINITION. The host's side of the block (chapter 15): the link, BAR0 with its control words and
mailboxes, interrupt messages, the quad-SPI slave. -/

namespace Sys2Proof.Machine

/-- R430 of Table 16-1: a bit of HIF_ERR and its event. -/
def hifErr (b inst : Nat) (s : State) : State := flagEvent 13 0 b clsWarn inst Reg.HIF_ERR s

/-- R405, R406: the host reaches the windows: quad-SPI, or an active link in D0. -/
def State.hostPath (s : State) : Bool :=
  s.hostSel || (s.rb Reg.HIF_LINK 0 && s.rf Reg.HIF_LINK 15 14 = 0)

/-- PD_HOST works. -/
def State.hostOn (s : State) : Bool := s.live 7

/-- HOWN bit m. -/
def State.owned (s : State) (m : Nat) : Bool := s.hif.hown.testBit m

/-- R413: mailbox m is free. -/
def State.mbFree (s : State) (m : Nat) : Bool := !(s.hif.hown.testBit m) && !(s.hif.hdone.testBit m)

/-! Interrupt messages (R418). -/

/-- R418: INTA or HOST_IRQ_N is asserted. -/
def State.irqLine (s : State) : Bool :=
  (s.hif.hdone ≠ 0 || s.hif.hnote ≠ 0) && !s.frozen && !(s.hostSel && s.pinsTaken)
    && (s.hostSel || !(s.rb Reg.HIF_LINK 6 || s.rb Reg.HIF_LINK 7))

/-- Messages that a mask has held and that may go now. -/
def sendHeld (s : State) : State :=
  if s.rb Reg.HIF_LINK 7 then
    forAll (List.range 32) (fun v s => onlyIf (s.hif.msixPend.testBit v) (msixSend v) s) s
  else if s.rb Reg.HIF_LINK 6 then
    forAll (List.range 32) (fun v s => onlyIf (s.hif.msiPend.testBit v) (msiSend v) s) s
  else s

/-! Mailboxes. -/

/-- The vector of mailbox m (R418). -/
def State.mbVector (s : State) (m : Nat) : Nat := s.af (Reg.HIF_VEC (m / 4)) (8 * (m % 4) + 4) (8 * (m % 4))

/-- R414: mailbox m is complete. -/
def completeMb (m : Nat) (s : State) : State :=
  let fresh := !(s.hif.hdone.testBit m)
  let s := { s with hif := { s.hif with
      hown := natSet s.hif.hown m false
      hdone := natSet s.hif.hdone m true
      timers := kvPut (fun _ => none) s.hif.timers m none
      order := s.hif.order.erase m
      jobs := kvPut (fun _ => none) s.hif.jobs m none } }
  onlyIf fresh (signalVector (s.mbVector m)) (markSet (2 ^ m) 0 s)

/-- R413: mailbox m is rung. -/
def ringMb (m : Nat) (s : State) : State :=
  if s.mbFree m then
    let t : MbTimer := ⟨s.time.tick, s.af Reg.HIF_CFG 15 8, false⟩
    irq .mailbox { s with hif := { s.hif with
      hown := natSet s.hif.hown m true
      queue := s.hif.queue ++ [m]
      timers := kvPut (fun _ => none) s.hif.timers m (some t) } }
  else hifErr 0 m s

/-- R413: a host write of w to HDB; in STANDBY it is a wake source (R449). -/
def doorbell (w : Word) (s : State) : State := wakeBy 2 (forAll (List.range 32) (fun m => onlyIf (bit w m) (ringMb m)) s)

/-- DOORBELL (R413). -/
def execDoorbell (w : Word) (s : State) : Host.Outcome State Fault Refusal :=
  done (onlyIf (s.hostOn && s.hostPath) (doorbell w) s)

/-- R9: the bits of w that a clearing write of a word clears: not those that have been set in the same sysclk. -/
def State.clearMask (s : State) (w : Word) (set : Nat) : Nat :=
  if s.hif.setAt = s.sclk && !s.frozen then w.toNat - (w.toNat &&& set) else w.toNat

/-- R414: a host write of w to HDONE. -/
def hdoneClear (w : Word) (s : State) : State :=
  { s with hif := { s.hif with hdone := s.hif.hdone - (s.hif.hdone &&& s.clearMask w s.hif.doneSet) } }

/-- HDONE_CLEAR (R414). -/
def execHdoneClear (w : Word) (s : State) : Host.Outcome State Fault Refusal :=
  done (onlyIf (s.hostOn && s.hostPath) (hdoneClear w) s)

/-- A processor write of w to HNOTE. -/
def hnoteSet (w : Word) (s : State) : State := forAll (List.range 8) (fun j => onlyIf (bit w j) (setNote j)) s

/-- HNOTE_SET (R418). -/
def execHnoteSet (w : Word) (s : State) : Host.Outcome State Fault Refusal := done (onlyIf (s.hostOn && s.cpuOn) (hnoteSet w) s)

/-- A host write of w to HNOTE. -/
def hnoteClear (w : Word) (s : State) : State :=
  { s with hif := { s.hif with hnote := s.hif.hnote - (s.hif.hnote &&& s.clearMask w s.hif.noteSet) } }

/-- HNOTE_CLEAR (R418). -/
def execHnoteClear (w : Word) (s : State) : Host.Outcome State Fault Refusal :=
  done (onlyIf (s.hostOn && s.hostPath) (hnoteClear w) s)

/-! BAR0 (Table 15-3). -/

/-- R410: where the stored ranges of BAR0 lie. -/
def barBase : Nat := 0x101F0000

/-- Offsets whose bytes are in tightly coupled memory. -/
def barStored (ofs : Nat) : Bool := ofs < 0x2000 || (0x2020 ≤ ofs && ofs < 0x2030)

/-- R410, R393: the stored ranges can be reached. -/
def State.storedOn (s : State) : Bool := s.domOn 1 && s.memDone 0

/-- Writes the bytes of a 32-bit word that be enables. -/
def writeLanes (a v be : Nat) (s : State) : State :=
  if be % 16 = 0 then s
  else if a / 4 % 2 = 0 then writeMasked a (v % 2 ^ 32) (be % 16) false s
  else writeMasked a ((v % 2 ^ 32) <<< 32) (be % 16 * 16) false s

/-- The bits of the bytes that be enables. -/
def laneMask (be : Nat) : Word :=
  BitVec.ofNat 32 ((List.range 4).foldl (fun m i => m + (if be.testBit i then 255 * 256 ^ i else 0)) 0)

/-- R410, R415: a host write of a word of BAR0. -/
def barWrite (ofs : Nat) (w : Word) (be : Nat) (s : State) : State :=
  let v := w &&& laneMask be
  if ofs < 0x2000 then
    if !s.storedOn then s
    else if s.owned (ofs / 256) then hifErr 1 (ofs / 256) s
    else writeLanes (barBase + ofs) w.toNat be s
  else if ofs = 0x2000 then doorbell v s
  else if ofs = 0x2008 then hdoneClear v s
  else if ofs = 0x200C then hnoteClear v s
  else if barStored ofs then onlyIf s.storedOn (writeLanes (barBase + ofs) w.toNat be) s
  else if 0x3000 ≤ ofs && ofs < 0x3200 then
    let i := (ofs - 0x3000) / 4
    let x := (s.msixWord i &&& ~~~(laneMask be)) ||| v
    sendHeld { s with hif := { s.hif with msix := kvPut (fun i => if i % 4 = 3 then 1 else 0) s.hif.msix i x } }
  else s

/-- R410, R415: a processor write of a word of the mailbox window; a debug write passes ownership (R470). The
STAGE 3 that follows a processor reset, or the system reset of the restart rung, is a recovery that Glipor has
performed (R464); the STAGE 4 that Glipor writes, as after a failed start-up self-test, is logged with HNOTE bit 1
(R420). -/
def windowWrite (debug : Bool) (ofs : Nat) (w : Word) (be : Nat) (s : State) : State :=
  if ofs < 0x2000 then
    if !s.storedOn then s
    else if s.owned (ofs / 256) || debug then writeLanes (barBase + ofs) w.toNat be s
    else hifErr 2 (ofs / 256) s
  else if ofs = 0x200C then hnoteSet (w &&& laneMask be) s
  else if ofs = 0x2010 then
    let x := ((s.hstateNow &&& ~~~(laneMask be)) ||| (w &&& laneMask be)) &&& 0xFFFFFF0F
    let old := s.stage
    let s := putHstate x s
    if fld x 3 0 = 3 && (s.pcr.awaitStage.isSome || (old ≠ 3 && s.rf Reg.PCR_RST_CAUSE 7 0 = 8)) then
      onlyIf (!debug) (gliporNotes 0) { s with pcr := { s.pcr with awaitStage := none } }
    else onlyIf (!debug && fld x 3 0 = 4 && old ≠ 4) (gliporNotes 1) s
  else s

/-- MAILBOX_WRITE (R415): a host or processor write to the windows. -/
def execMailboxWrite (host : Bool) (ofs : Fin 65536) (data : Word) (be : BitVec 4) (s : State) :
    Host.Outcome State Fault Refusal :=
  let o := ofs.val / 4 * 4
  done (if host then onlyIf (s.hostOn && s.hostPath) (barWrite o data be.toNat) s
    else if !s.cpuOn then s
    else if s.domOn 7 then windowWrite false o data be.toNat s
    else accessError 13 (0x50000000 + o) true s)

/-- The control words of BAR0 and the interrupt tables as a read returns them. -/
def State.barWord (s : State) (host : Bool) (ofs : Nat) : Nat :=
  if ofs = 0x2004 then s.hif.hown
  else if ofs = 0x2008 then s.hif.hdone
  else if ofs = 0x200C then s.hif.hnote
  else if ofs = 0x2010 then s.hstateNow.toNat
  else if !host then 0
  else if 0x3000 ≤ ofs && ofs < 0x3200 then (s.msixWord ((ofs - 0x3000) / 4)).toNat
  else if ofs = 0x3800 then s.hif.msixPend
  else 0

/-- A host read of a word of BAR0. The spec states neither the value of a bad stored word nor the AGENT of
such a read: both are free. -/
def barRead (ofs : Nat) (s : State) : Nat × State :=
  if barStored ofs then
    if !s.storedOn then (0, s)
    else
      let ag := s.freeBits 3
      let ((v, ok), s) := read32 ag 0 (barBase + ofs) (useFree s)
      if ok then (v, s) else (s.freeBits 32, useFree s)
  else (s.barWord true ofs, s)

/-! Doorbell queue, acceptance, completion (R414 to R417). -/

/-- R414: the entry that HIF_DBQ returns next: mailbox 31 first. -/
def State.nextRung (s : State) : Option Nat :=
  if s.hif.queue.contains 31 then some 31 else s.hif.queue.head?

/-- R414: a read of HIF_DBQ: the word returned, the entry removed. -/
def dbqTake (s : State) : Nat × State :=
  match s.nextRung with
  | none => (0, s)
  | some m => (2 ^ 31 + m % 32, { s with hif := { s.hif with queue := s.hif.queue.erase m, order := s.hif.order.erase m ++ [m] } })

/-- DBQ_READ (R414). -/
def execDbqRead (s : State) : Host.Outcome State Fault Refusal :=
  done (if !s.cpuOn then s
    else if s.domOn 7 then (let (v, t) := dbqTake s; emit (.value v) t)
    else emit (.value 0) (accessError 13 Reg.HIF_DBQ false s))

/-- R417: a write to HIF_FACC. -/
def faccWrite (mb bound : Nat) (s : State) : State :=
  if s.owned mb then
    let t : MbTimer := ⟨s.time.tick, bound + s.af Reg.HIF_CFG 23 16, true⟩
    { s with hif := { s.hif with timers := kvPut (fun _ => none) s.hif.timers mb (some t) } }
  else s

/-- R414, R415: a write to HIF_FDONE with GO. -/
def fdoneWrite (mb : Nat) (s : State) : State := if s.owned mb then completeMb mb s else hifErr 3 mb s

/-- FDONE (R414). -/
def execFdone (mb : Fin 32) (s : State) : Host.Outcome State Fault Refusal :=
  done (regWrite Reg.HIF_FDONE (fdoneWrite mb) s)

/-- Address of byte ofs of mailbox m. -/
def mbAddr (m ofs : Nat) : Nat := barBase + 256 * m + ofs

/-- STATUS, DETAIL and RLEN of mailbox m (Table 15-4). -/
def putStatus (m status detail rlen : Nat) (s : State) : State :=
  writeLanes (mbAddr m 12) rlen 3 (writeLanes (mbAddr m 8) (status + detail % 65536 * 65536) 15 s)

/-- The timer of mailbox m. -/
def State.mbTimer (s : State) (m : Nat) : Option MbTimer := kvGet (fun _ => none) s.hif.timers m

/-- R417: the hardware completes mailbox m with 0x00FE. -/
def hwComplete (m : Nat) (s : State) : State :=
  let acc := match s.mbTimer m with | some t => t.accepted | none => false
  completeMb m (onlyIf s.storedOn (putStatus m 0xFE (b2n acc) 0) s)

/-- Strikes within the last 1 s. -/
def State.strikesNow (s : State) : List Nat := s.pcr.strikes.filter (fun t => s.time.tick < t + 800000000)

/-- R417, R465: a strike to the watchdog, which expires at the STRMAX-th within 1 s. -/
def watchdogStrike (s : State) : State :=
  let now := s.strikesNow ++ [s.time.tick]
  { s with pcr := { s.pcr with strikes := now, struck := s.pcr.struck || s.af Reg.PCR_WDT_CTL 23 16 ≤ now.length } }

/-- R417: the timer of mailbox m expires. -/
def mailboxTimeout (m : Nat) (s : State) : State :=
  observed (watchdogStrike (flagEvent 13 1 m clsWarn m Reg.HIF_MTO (hwComplete m s)))

/-- MAILBOX_TIMEOUT (R417). It acts at the end of the present sysclk, so that an HIF_FDONE of the same sysclk, which
wins (R415), has come before it. -/
def execMailboxTimeout (m : Fin 32) (s : State) : Host.Outcome State Fault Refusal :=
  done (match s.mbTimer m with
    | some t => onlyIf (s.hostOn && s.owned m && t.ms * 800000 ≤ s.time.tick - t.since)
        (fun s => mailboxTimeout m (advanceTo (2 * (s.sclk + 1)) s)) s
    | none => s)

/-! Glipor's commands (Table 15-6). -/

/-- The code of a command in the table. -/
def knownOpc (o : Nat) : Bool :=
  [1, 2, 3, 4, 5, 0x10, 0x11, 0x12, 0x20, 0x21, 0x22, 0x23, 0x30, 0x31, 0x32, 0x33, 0x34, 0x40, 0x41, 0x50,
   0x60, 0x61, 0x62, 0x70, 0x80, 0x81, 0x82, 0x83, 0x90, 0xA0].contains o

/-- Commands marked Recovery. -/
def recoveryOpc (o : Nat) : Bool := [1, 2, 3, 4, 5, 0x10, 0x23, 0x60, 0x70].contains o

/-- R420: commands served in STAGE 4. -/
def haltedOpc (o : Nat) : Bool := [1, 2, 3, 4, 0x23, 0x60, 0x70].contains o

/-- Default and minimum timeout in ms. -/
def opcTimeout (o : Nat) : Nat × Nat :=
  match o with
  | 0x20 => (5000, 1000) | 0x22 => (10000, 100) | 0x30 => (1000, 10) | 0x40 => (5000, 100)
  | 0x61 => (2000, 500) | 0x80 => (2000, 500) | 0x81 => (1000, 200) | 0x82 => (1000, 200)
  | 0x83 => (1000, 200) | 0xA0 => (1000, 10) | 0x60 => (10, 1)
  | o => if o ≤ 0x10 then (10, 1) else (100, 10)

/-- R417: the effective timeout of a command in ms: TMO, or the default, and never less than the minimum. -/
def effectiveMs (opc tmo : Nat) : Nat := max (if tmo = 0 then (opcTimeout opc).1 else tmo) (opcTimeout opc).2

/-- Table 15-6: the blocks among whose shadows a command writes; CFG_WRITE and SCHED_LOAD those that they name. -/
def shadowBlocks (o : Nat) : List Nat :=
  match o with
  | 0x11 => List.range 17 | 0x20 => List.range 17
  | 0x30 => [1, 2] | 0x32 => [3] | 0x40 => [8]
  | _ => []

/-- The request that mailbox m holds, or the one that a job without its mailbox has read (R389, R407). -/
def State.request (s : State) (m : Nat) : List Nat :=
  if m < 32 then (List.range 256).map fun i => (s.decodeAt (barBase + 256 * m + i)).data / 256 ^ (i % 8) % 256
  else match kvGet (fun _ => none) s.hif.jobs m with | some j => j.req | none => []

/-- R419 to R422: Glipor answers a command of mailbox m with its status at once and executes nothing, in STAGE 4 or not. -/
def State.answersOnly (s : State) (m opc len : Nat) : Option (Nat × Nat) :=
  if s.stage = 4 && !(haltedOpc opc) then some (4, 4)
  else if m % 32 = 31 && !(recoveryOpc opc) then some (7, 0)
  else if !(knownOpc opc) then some (1, 0)
  else if 240 < len || !(Config.lenOk opc len) then some (2, 0)
  else none

/-! The host's resets and link (R406, R407). -/

/-- R407, R421: a channel halts with its cause; one that uses it for a command is reported there. -/
def dmaHalt (c cause : Nat) (s : State) : State :=
  let s := setRf (Reg.HIF_DMA_STAT c) 27 24 cause (setRb (Reg.HIF_DMA_STAT c) 29 true (setRb (Reg.HIF_DMA_STAT c) 31 false s))
  hifErr 8 c { s with hif := { s.hif with dma := kvPut (fun _ => none) s.hif.dma c none } }

/-- The code and TMO of the request that mailbox m holds, and its LEN, as the decoder delivers them (R389). -/
def State.requestHead (s : State) (m : Nat) : Nat × Nat × Nat :=
  let w := (s.decodeAt (barBase + 256 * m)).data
  (w % 65536, w / 2 ^ 48 % 65536, w / 2 ^ 32 % 65536)

/-- PCIE_LINK_UP (R406): the data link is active. -/
def execPcieLinkUp (gen2 x2 : Bool) (s : State) : Host.Outcome State Fault Refusal :=
  done (onlyIf (s.hostOn && !s.hostSel && !(s.rb Reg.HIF_LINK 0))
    (setRf Reg.HIF_LINK 4 0 (1 + 4 * (1 + b2n x2) + 16 * b2n gen2)) s)

/-- R406: the host writes configuration space. -/
def pcieConfig (c : PcieCfg) (s : State) : State :=
  let n := if c.msiEn then 2 ^ c.msiLog.val else 0
  let low := s.rf Reg.HIF_LINK 4 0
  let w := low + 32 * b2n c.bme + 64 * b2n c.msiEn + 128 * b2n c.msixEn + 256 * n
    + (if c.d3hot then 3 else 0) * 2 ^ 14 + b2n c.mps256 * 2 ^ 16
  sendHeld (setReg Reg.HIF_LINK (BitVec.ofNat 32 w) { s with hif := { s.hif with
      msixMask := c.msixMask, msiMask := c.msiMask.toNat, msiAddr := c.msiAddr.toNat, msiData := c.msiData.toNat
      bar0 := c.bar0.toNat / 65536 * 65536, bar2 := c.bar2.toNat / 4194304 * 4194304, mrrs := c.mrrs } })

/-- Table 15-1: words of the header of configuration space: identities, Bus Master Enable and the capability list,
revision and class code, BAR0 (32-bit, not prefetchable, 64 KiB), BAR2 with BAR3 (64-bit, prefetchable, 4 MiB), the
other BARs 0, subsystem identities, at the offsets that PCI Express gives them (PRESUMED, log entry 223). -/
def State.pcieHeader (s : State) (ofs : Nat) : Nat :=
  match ofs with
  | 0x00 => 0x25601F3C
  | 0x04 => 0x100000 + 4 * s.rf Reg.HIF_LINK 5 5
  | 0x08 => 0x118000B1
  | 0x10 => s.hif.bar0
  | 0x18 => s.hif.bar2 % 2 ^ 32 + 0xC
  | 0x1C => s.hif.bar2 / 2 ^ 32
  | 0x2C => 0x25601F3C
  | 0x34 => 0x40
  | _ => 0

/-- log2 of the MSI vectors that the host has enabled. -/
def State.msiLog (s : State) : Nat := Nat.log2 (s.rf Reg.HIF_LINK 13 8)

/-- Table 15-1: words of the capabilities: power management (D0 and D3hot), MSI (32 vectors, 64-bit, per-vector masking),
MSI-X (32 entries, tables in BAR0), PCI Express (256 bytes, Gen 2, two lanes, ASPM L1), advanced error reporting, of which
the spec gives the name alone. Their layouts are those of PCI Express (PRESUMED, log entry 223), their places the model's
(DESIGN CHOICE, log entry 245). -/
def State.pcieCaps (s : State) (ofs : Nat) : Nat :=
  let l (hi lo : Nat) : Nat := s.rf Reg.HIF_LINK hi lo
  match ofs with
  | 0x40 => 0x00035001
  | 0x44 => l 15 14
  | 0x50 => 0x7005 + (l 6 6 + 2 * 5 + 16 * s.msiLog + 0x180) * 2 ^ 16
  | 0x54 => s.hif.msiAddr % 2 ^ 32
  | 0x58 => s.hif.msiAddr / 2 ^ 32
  | 0x5C => s.hif.msiData
  | 0x60 => s.hif.msiMask
  | 0x64 => s.hif.msiPend
  | 0x70 => 0x8011 + (31 + 2 ^ 14 * b2n s.hif.msixMask + 2 ^ 15 * l 7 7) * 2 ^ 16
  | 0x74 => 0x3000
  | 0x78 => 0x3800
  | 0x80 => 0x00020010
  | 0x84 => 1
  | 0x88 => l 18 16 * 2 ^ 5 + s.hif.mrrs * 2 ^ 12
  | 0x8C => 2 + 2 * 2 ^ 4 + 2 * 2 ^ 10
  | 0x90 => ((1 + l 4 4) + l 3 2 * 2 ^ 4) * 2 ^ 16
  | 0x100 => 0x00010001
  | _ => 0

/-- A word of configuration space. -/
def State.pcieWord (s : State) (ofs : Nat) : Nat := if ofs < 0x40 then s.pcieHeader ofs else s.pcieCaps ofs

/-- PCIE_CONFIG_WRITE (R406). -/
def execPcieConfigWrite (cfg : PcieCfg) (s : State) : Host.Outcome State Fault Refusal :=
  done (onlyIf (s.hostOn && !s.hostSel && s.rb Reg.HIF_LINK 0) (pcieConfig cfg) s)

/-- BAR2_WRITE (R410): discarded. -/
def execBar2Write (s : State) : Host.Outcome State Fault Refusal :=
  done (onlyIf (s.hostOn && s.hostPath) (hifErr 4 0) s)

/-! The quad-SPI slave (R408, R409). -/

/-- Byte i of a 32-bit word. -/
def wordByte (v i : Nat) : Nat := v / 256 ^ i % 256

/-- R408, R409: n bytes from an address; the ones that are not ready read 0xFF. -/
def spiChunk (addr n : Nat) (s : State) : (List Nat × Bool) × State :=
  if addr < 0x10000 then
    let (v, s) := barRead (addr / 4 * 4) s
    (((List.range n).map fun i => wordByte v (addr % 4 + i), false), s)
  else if 0x400000 ≤ addr && addr < 0x800000 then
    match bar2Bytes 65 (addr - 0x400000) n s with
    | (some bs, s) => ((bs, false), s)
    | (none, s) => ((List.replicate n 0xFF, true), s)
  else ((List.replicate n 0xFF, false), s)

/-- Bytes read in ascending order, within one word of BAR0 or one line of BAR2 at a time. -/
def spiBytes : Nat → Nat → Nat → State → (List Nat × Bool) × State
  | 0, _, _, s => (([], false), s)
  | fuel + 1, addr, len, s =>
    if len = 0 then (([], false), s)
    else
      let a := addr % 2 ^ 24
      let n := min len (if 0x400000 ≤ a then 64 - a % 64 else 4 - a % 4)
      let ((bs, u), s) := spiChunk a n s
      let ((cs, v), s) := spiBytes fuel (a + n) (len - n) s
      ((bs ++ cs, u || v), s)

/-- Table 15-2: the status read of a transaction is over: bits 1 and 2 clear. -/
def spiEnd (s : State) : State :=
  if s.hif.spiShown.isSome then { s with hif := { s.hif with spiShown := none, spiUnder := false, spiErr := false } } else s

/-- SPI_READ: the bytes with positions in `late` were not ready (R409). -/
def spiRead (addr len : Nat) (late : List Nat) (s : State) : State :=
  let ((bs, u), s) := spiBytes (len + 1) addr len (spiEnd s)
  let s := emitPins (.hostData ((List.range bs.length).map fun i => if late.contains i then 0xFF else bs.getD i 0)) s
  if u || late.any (· < len) then hifErr 6 0 { s with hif := { s.hif with spiUnder := true } } else s

/-- SPI_READ (R408). -/
def execSpiRead (addr : BitVec 24) (len : Nat) (late : List Nat) (s : State) : Host.Outcome State Fault Refusal :=
  done (onlyIf (s.hostOn && s.hostSel) (spiRead addr.toNat len late) s)

/-- Bytes of a write with their addresses, which advance by one. -/
def spiPlace (addr : Nat) : List (BitVec 8) → List (Nat × Nat)
  | [] => []
  | b :: bs => (addr % 2 ^ 24, b.toNat) :: spiPlace (addr + 1) bs

/-- SPI_WRITE (R408, R409): the bytes wait for the rise of HSPI_CS_N. -/
def execSpiWrite (addr : BitVec 24) (data : List (BitVec 8)) (s : State) : Host.Outcome State Fault Refusal :=
  done (onlyIf (s.hostOn && s.hostSel)
    (fun s => let s := spiEnd s; { s with hif := { s.hif with spi := s.hif.spi ++ spiPlace addr.toNat data } }) s)

/-- Table 15-2: the status byte as a status read begins. -/
def State.spiByte (s : State) : Nat :=
  b2n (s.hif.hdone ≠ 0 || s.hif.hnote ≠ 0) + 2 * b2n s.hif.spiUnder + 4 * b2n s.hif.spiErr + 128 * b2n (s.stage = 3)

/-- SPI_STATUS: one byte of a status read; until HSPI_CS_N rises each further one repeats it (Table 15-2). -/
def spiStatus (s : State) : State :=
  let v := s.hif.spiShown.getD s.spiByte
  emitPins (.hostData [v]) { s with hif := { s.hif with spiShown := some v } }

/-- SPI_STATUS (R408). -/
def execSpiStatus (s : State) : Host.Outcome State Fault Refusal :=
  done (onlyIf (s.hostOn && s.hostSel) spiStatus s)

/-- A whole word written by quad-SPI takes effect. -/
def spiPut (addr v : Nat) (s : State) : State :=
  if addr < 0x10000 then barWrite addr (BitVec.ofNat 32 v) 15 s
  else if 0x400000 ≤ addr && addr < 0x800000 then hifErr 4 0 s
  else s

/-- R408: an incomplete word is discarded. -/
def spiShort (s : State) : State := hifErr 5 0 { s with hif := { s.hif with spiErr := true } }

/-- R408, R409: the writes of a transaction in order, in whole aligned words. -/
def spiFlush : List (Nat × Nat) → State → State
  | (a, b0) :: (_, b1) :: (_, b2) :: (a3, b3) :: rest, s =>
    if a % 4 = 0 && a3 = a + 3 then spiFlush rest (spiPut a (b0 + 256 * b1 + 65536 * b2 + 2 ^ 24 * b3) s)
    else spiShort s
  | [], s => s
  | _, s => spiShort s

/-- SPI_CS_RISE (R409). -/
def execSpiCsRise (s : State) : Host.Outcome State Fault Refusal :=
  done (onlyIf (s.hostOn && s.hostSel) (fun s => let s := spiEnd s; spiFlush s.hif.spi { s with hif := { s.hif with spi := [] } }) s)

end Sys2Proof.Machine
end

