-- ==== Sys2Proof/Machine/Dma.lean ====
section
/-! DEFINITION. The DMA channels (R421) and the flash master (R423). -/

namespace Sys2Proof.Machine

/-! DMA. -/

/-- The transfer of channel c. -/
def State.dma (s : State) (c : Nat) : Option DmaJob := kvGet (fun _ => none) s.hif.dma c

/-- R421: the local range lies wholly in one of the memories a channel reaches. -/
def dmaRange (a len : Nat) : Option Nat :=
  match memOf a with
  | some m => if m < 7 && a + len ≤ memBase m + 8 * memWords m then some m else none
  | none => none

/-- R406: where requests of at most n bytes cut a range of host addresses: at the multiples of n (PRESUMED, log
entry 223). -/
def requests (n a len : Nat) : List (Nat × Nat) :=
  if len = 0 then []
  else (List.range ((a % n + len + n - 1) / n)).map fun k =>
    let lo := max a (a / n * n + k * n)
    (lo, min (a + len) (a / n * n + (k + 1) * n) - lo)

/-- R406: the read requests of a transfer from the host: at most 256 bytes and the maximum read request size. -/
def readRequests (c a len : Nat) (s : State) : State :=
  forAll (requests (min 256 (128 * 2 ^ s.hif.mrrs)) a len) (fun r => emit (.dmaRead c r.1 r.2)) s

/-- R406: the write requests of a transfer to the host: at most the programmed maximum payload size. -/
def writeRequests (c a : Nat) (bs : List Nat) (s : State) : State :=
  forAll (requests (if s.rb Reg.HIF_LINK 16 then 256 else 128) a bs.length)
    (fun r => emit (.dmaWrite c r.1 ((bs.drop (r.1 - a)).take r.2))) s

/-- R421: GO on channel c. A length that the field does not allow is a range fault. -/
def dmaGo (c : Nat) (out : Bool) (len : Nat) (s : State) : State :=
  let a := Reg.HIF_DMA_STAT c
  let laddr := (s.reg (Reg.HIF_DMA_LADR c)).toNat / 4 * 4
  let haddr := (s.reg (Reg.HIF_DMA_HLO c)).toNat / 4 * 4 + 2 ^ 32 * (s.reg (Reg.HIF_DMA_HHI c)).toNat
  if s.hostSel || s.rb a 31 || s.rb a 29 then s
  else
    let s := setRf a 21 0 0 (setRb a 31 true s)
    match dmaRange laddr len with
    | none => dmaHalt c 6 s
    | some m =>
      if len % 4 ≠ 0 || len = 0 || 2097152 < len || !(s.domOn (memDom m)) then dmaHalt c 6 s
      else if !(s.rb Reg.HIF_LINK 5) then dmaHalt c 4 s
      else
        let s := { s with hif := { s.hif with dma := kvPut (fun _ => none) s.hif.dma c (some ⟨haddr, laddr, len, out, s.time.tick⟩) } }
        if out then s else readRequests c haddr len s

/-- R393: the memory at an address is initialised. -/
def State.ready (s : State) (a : Nat) : Bool := match memOf a with | some m => s.memDone m | none => false

/-- One local read of the 64-bit word at a (Table 19-2): the bytes from a on that channel c needs of it, `none` if it
is bad. -/
def dmaRead (c a n : Nat) (s : State) : Option (List Nat) × State :=
  if s.ready a then
    let (r, s) := readWord 2 c a s
    (if r.ok then some ((List.range n).map fun i => r.data / 256 ^ (a % 8 + i) % 256) else none, s)
  else (some (List.replicate n 0), accessError 12 a false s)

/-- Local words sent to the host up to the first bad one: bytes and whether all were good. -/
def dmaFetch (c a : Nat) : Nat → State → (List Nat × Bool) × State
  | 0, s => (([], true), s)
  | 1, s =>
    match dmaRead c a 4 s with
    | (some bs, s) => ((bs, true), s)
    | (none, s) => (([], false), s)
  | n + 2, s =>
    let k := if a % 8 = 0 then 8 else 4
    match dmaRead c a k s with
    | (none, s) => (([], false), s)
    | (some bs, s) =>
      let ((cs, g), s) := if a % 8 = 0 then dmaFetch c (a + 8) n s else dmaFetch c (a + 4) (n + 1) s
      ((bs ++ cs, g), s)

/-- The transfer has moved n bytes. -/
def dmaCount (c n : Nat) (s : State) : State := setRf (Reg.HIF_DMA_STAT c) 21 0 n s

/-- R421: a transfer of channel c to the host is stopped in progress: the write requests issued before that, of which
the number is free, but not the last one (log entry 232), have taken their words. -/
def dmaPart (c : Nat) (s : State) : State :=
  match s.dma c with
  | none => s
  | some j =>
    if !j.out then s
    else
      let rs := requests (if s.rb Reg.HIF_LINK 16 then 256 else 128) j.haddr j.len
      let n := s.freeBits 15 % rs.length
      let len := ((rs.take n).map (·.2)).sum
      let ((bs, ok), s) := dmaFetch c j.laddr (len / 4) (useFree s)
      onlyIf (!ok) (dmaHalt c 1) (dmaCount c bs.length (writeRequests c j.haddr bs s))

/-- R421: RST on channel c; a transfer in progress is stopped first. -/
def dmaRst (c : Nat) (s : State) : State :=
  let s := dmaPart c s
  let v := s.reg (Reg.HIF_DMA_STAT c) &&& 0x40000000
  setReg (Reg.HIF_DMA_STAT c) v { s with hif := { s.hif with dma := kvPut (fun _ => none) s.hif.dma c none } }

/-- R421, R428: a write of w to HIF_DMA_CTL_c. -/
def dmaCtl (c : Nat) (w : Word) (s : State) : State :=
  let s := setReg (Reg.HIF_DMA_CTL c) (w &&& 0x013FFFFF) s
  let s := onlyIf (bit w 30) (dmaRst c) s
  onlyIf (bit w 31) (dmaGo c (bit w 24) (fld w 21 0)) s

/-- DMA_GO (R421): GO, DIR and LEN of channel c. -/
def execDmaGo (ch : Fin 4) (dir : Bool) (len : BitVec 22) (s : State) : Host.Outcome State Fault Refusal :=
  done (regWrite (Reg.HIF_DMA_CTL ch)
    (dmaCtl ch (BitVec.ofNat 32 (2 ^ 31 + b2n dir * 2 ^ 24 + len.toNat))) s)

/-- DMA_RST (R421): RST, with DIR and LEN as they stand. -/
def execDmaRst (ch : Fin 4) (s : State) : Host.Outcome State Fault Refusal :=
  done (regWrite (Reg.HIF_DMA_CTL ch) (fun s => dmaCtl ch ((s.reg (Reg.HIF_DMA_CTL ch) &&& 0x013FFFFF) ||| 0x40000000) s) s)

/-- A word from the host reaches local memory; before DONE it is an access error without effect (R393), and a pea's
write of the same tick to an element of pod memory wins (R55, R421). -/
def dmaPut (a : Nat) (w : Word) (s : State) : State :=
  if !(s.ready a) then accessError 12 a true s else onlyIf (!(s.peaHit a)) (put32 a w.toNat false) s

/-- R390: two words from the host that fill a 64-bit word store it whole. -/
def dmaPair (a : Nat) (w x : Word) (s : State) : State :=
  if s.ready a && !(s.peaHit a) && !(s.peaHit (a + 4)) then write64 a (w.toNat + 2 ^ 32 * x.toNat) s
  else dmaPut (a + 4) x (dmaPut a w s)

/-- Stores the words that the host has returned, in ascending order. -/
def dmaStore (a : Nat) : List Word → State → State
  | [], s => s
  | [w], s => dmaPut a w s
  | w :: x :: ws, s =>
    if a % 8 = 0 then dmaStore (a + 8) ws (dmaPair a w x s) else dmaStore (a + 4) (x :: ws) (dmaPut a w s)

/-- R421: the transfer of channel c ends: `words` came from the host before it ended, `refusal` tells an
Unsupported Request or Completer Abort. -/
def dmaEnd (c : Nat) (words : List Word) (refusal : Bool) (s : State) : State :=
  match s.dma c with
  | none => s
  | some j =>
    if j.out then
      if !(s.rb Reg.HIF_LINK 5) then (let s := dmaPart c s; onlyIf (s.dma c).isSome (dmaHalt c 4) s)
      else
        let ((bs, ok), s) := dmaFetch c j.laddr (j.len / 4) s
        let s := dmaCount c bs.length (writeRequests c j.haddr bs s)
        if !ok then dmaHalt c 1 s else dmaFinish c s
    else
      let ws := words.take (j.len / 4)
      let s := dmaCount c (4 * ws.length) (dmaStore j.laddr ws s)
      if refusal then dmaHalt c 3 s
      else if ws.length < j.len / 4 then (if !(s.rb Reg.HIF_LINK 5) then dmaHalt c 4 s else s)
      else dmaFinish c s
where
  /-- BUSY clears and DONE is set. -/
  dmaFinish (c : Nat) (s : State) : State :=
    setRf (Reg.HIF_DMA_STAT c) 31 30 1 { s with hif := { s.hif with dma := kvPut (fun _ => none) s.hif.dma c none } }

/-- DMA_DONE (R421). -/
def execDmaDone (ch : Fin 4) (words : List Word) (refusal : Bool) (s : State) : Host.Outcome State Fault Refusal :=
  done (onlyIf (s.hostOn && s.domOn 1) (dmaEnd ch words refusal) s)

/-- R421: a completion of channel c is missing 10 ms after the start of its transfer, or later; `words` had come before. -/
def dmaTimeout (c : Nat) (words : List Word) (s : State) : State :=
  match s.dma c with
  | some j =>
    if j.out || s.time.tick < j.since + 8000000 then s
    else
      let ws := words.take (j.len / 4 - 1)
      observed <| dmaHalt c 2 (dmaCount c (4 * ws.length) (dmaStore j.laddr ws s))
  | none => s

/-- DMA_COMPLETION_TIMEOUT (R421). -/
def execDmaCompletionTimeout (ch : Fin 4) (words : List Word) (s : State) : Host.Outcome State Fault Refusal :=
  done (onlyIf (s.hostOn && s.domOn 1) (dmaTimeout ch words) s)

/-! The host's resets (R407). -/

/-- Where the job of a command that loses mailbox m goes: to the first of m + 32, m + 64 … that is free. -/
def State.orphanSlot (s : State) (m : Nat) : Nat :=
  let ns := (List.range (s.hif.jobs.length + 1)).map fun k => m + 32 * (k + 1)
  (ns.find? fun n => (kvGet (fun _ => none) s.hif.jobs n).isNone).getD (m + 32)

/-- The job of mailbox m loses its mailbox and keeps the request that it has read. -/
def orphanJob (m : Nat) (j : GlJob) (s : State) : State :=
  let n := s.orphanSlot m
  let jobs := kvPut (fun _ => none) (kvPut (fun _ => none) s.hif.jobs m none) n (some { j with req := s.request m })
  { s with hif := { s.hif with jobs := jobs, order := s.hif.order.map fun k => if k = m then n else k } }

/-- R407, R415: a completion finds its mailbox no longer owned. -/
def lostDone (m : Nat) (s : State) : State := hifErr 3 (m % 32) (hifErr 2 (m % 32) s)

/-- R407: a command that Glipor executes in mailbox m loses its mailbox and runs on; one accepted and not begun too, but
one that it only answers is answered in vain. -/
def orphanMb (m : Nat) (s : State) : State :=
  match kvGet (fun _ => none) s.hif.jobs m, kvGet (fun _ => none) s.hif.timers m with
  | some j, _ => orphanJob m j s
  | none, some t =>
    if !(s.owned m && t.accepted && (s.stage = 3 || s.stage = 4)) then s
    else
      let (opc, tmo, len) := s.requestHead m
      if (s.answersOnly m opc len).isSome then lostDone m s
      else orphanJob m { opc := opc, since := t.since, ms := effectiveMs opc tmo, begun := false } s
  | none, none => s

/-- R407: what a reset of the host interface does; the link's settings return to those of PCI Express. -/
def hostReset (s : State) : State :=
  let s := forAll (List.range 32) orphanMb (forAll (List.range 4) dmaPart s)
  let s := setReg Reg.HIF_LINK 0 { s with hif := { s.hif with
      hown := 0, hdone := 0, hnote := 0, timers := [], msix := [], msixPend := 0, msixMask := false,
      msiMask := 0, msiPend := 0, msiAddr := 0, msiData := 0, bar0 := 0, bar2 := 0, mrrs := 2 } }
  hifErr 7 0 (forAll (List.range 4) (fun c => dmaHalt c 5) s)

/-- HOST_RESET (R407): PERST_N, a hot reset or a loss of the data link. -/
def execHostReset (s : State) : Host.Outcome State Fault Refusal :=
  done (onlyIf (s.hostOn && !s.hostSel) hostReset s)

/-! Flash. -/

/-- Data bytes of an operation: at most 256 (R423). -/
def FlashOp.len (o : FlashOp) : Nat := min 256 (fld o.cmd 16 8)

/-- R423: a write of w to HIF_FL_CMD. A GO behind one that waits already is ignored like one while BUSY. -/
def flashCmd (w : Word) (s : State) : State :=
  let s := setReg Reg.HIF_FL_CMD (w &&& 0x3F81FFFF) s
  if !(bit w 31) then s
  else
    let o : FlashOp := { cmd := w &&& 0x3F81FFFF, addr := (s.reg Reg.HIF_FL_ADDR).toNat, ladr := (s.reg Reg.HIF_FL_LADR).toNat }
    if s.rb Reg.HIF_FL_STAT 31 || s.hif.flashWait.isSome then setRb Reg.HIF_FL_STAT 29 true s
    else if s.rb Reg.HIF_FL_STAT 28 then { s with hif := { s.hif with flashWait := some o } }
    else flashStart o s

/-- FLASH_GO (R423). -/
def execFlashGo (w : Word) (s : State) : Host.Outcome State Fault Refusal :=
  done (regWrite Reg.HIF_FL_CMD (flashCmd (w ||| 0x80000000)) s)

/-- A byte of tightly coupled memory is reached at a. -/
def inTcm (a : Nat) : Bool := memOf a == some 0

/-- Stores bytes in tightly coupled memory, by 32-bit words (R390). -/
def tcmStore (a : Nat) (bs : List Nat) (s : State) : State :=
  forAll (List.range ((a % 4 + bs.length + 3) / 4)) (fun k =>
    let w := a / 4 * 4 + 4 * k
    let lanes := (List.range 4).filter fun i => a ≤ w + i && w + i < a + bs.length
    let v := lanes.foldl (fun v i => v + bs.getD (w + i - a) 0 % 256 * 256 ^ i) 0
    onlyIf (inTcm w) (writeLanes w v (lanes.foldl (fun m i => m + 2 ^ i) 0))) s

/-- Bytes of tightly coupled memory through the decoder, as the DMA reader, each 64-bit word read once; a bad one, or
one outside, is free: the spec states no value. -/
def tcmLoad (first : Bool) (a : Nat) : Nat → State → List Nat × State
  | 0, s => ([], s)
  | n + 1, s =>
    let r := s.decodeAt a
    let s := onlyIf (inTcm a && (first || a % 8 = 0)) (fun s => (readWord 2 0 a s).2) s
    let (b, s) := if inTcm a && r.ok then (r.data / 256 ^ (a % 8) % 256, s) else (s.freeBits 8, useFree s)
    let (bs, s) := tcmLoad false (a + 1) n s
    (b :: bs, s)

/-- R438: the recorder takes the master at the operation boundary, for a forced flush or an erase, else the next
operation runs. -/
def flashNext (s : State) : State :=
  let s := beginErase s
  if s.evl.forced.isSome || s.eraseRuns then setRb Reg.HIF_FL_STAT 28 true s else nextOp s

/-- What an operation has done: one of Glipor's tasks its erase or its bytes, one of a GO in HIF_FL_CMD its transfer
between the flash, which has returned `data` to a read, and tightly coupled memory. -/
def flashEffect (o : FlashOp) (data : List (BitVec 8)) (s : State) : State :=
  if o.task.isSome then
    if o.erase then emitPins (.flashErase o.addr) s
    else confStore o.conf (emitPins (.flashOp o.cmd o.addr o.bytes) s)
  else if bit o.cmd 23 then
    let (bs, s) := tcmLoad true o.ladr o.len s
    emitPins (.flashOp o.cmd o.addr bs) s
  else emitPins (.flashOp o.cmd o.addr []) (tcmStore o.ladr ((data.take o.len).map (·.toNat)) s)

/-- R423: the operation of the master, of Glipor's or of the recorder's (R438), completes. -/
def flashDone (data : List (BitVec 8)) (s : State) : State :=
  match s.hif.flash with
  | none => recorderDone s
  | some o =>
    flashNext (setRf Reg.HIF_FL_STAT 31 30 1 { (flashEffect o data s) with
      hif := { (flashEffect o data s).hif with flash := none } })

/-- FLASH_DONE (R423). -/
def execFlashDone (data : List (BitVec 8)) (s : State) : Host.Outcome State Fault Refusal :=
  done (onlyIf (s.hostOn && s.domOn 1) (flashDone data) s)

end Sys2Proof.Machine
end

