-- ==== Sys2Proof/Machine/Check.lean ====
section
/-! DEFINITION. The consistency checks of commit groups (R37): reserved bits, ranges, and the cross-field
conditions that each chapter states, with their DETAIL values. -/

namespace Sys2Proof.Machine

/-- The registers as they would be active if the checked group were applied. -/
abbrev View := Nat → Word

/-- Members of a group as staged: address, shadow, the bits that belong to the group. -/
abbrev GroupVals := List (Nat × Word × Word)

/-- R512: the view of staged members over the active copies, with the SLT_CFG that will be active. -/
def viewOf (vals : GroupVals) (cfg : Word) (s : State) : View := fun a =>
  match vals.find? (fun e => e.1 == a) with
  | some (_, v, m) => (s.act a &&& ~~~m) ||| (v &&& m)
  | none => if a = Reg.SLT_CFG then cfg else s.act a

/-- Field of a view. -/
def View.f (v : View) (a hi lo : Nat) : Nat := fld (v a) hi lo

/-- Bit of a view. -/
def View.b (v : View) (a b : Nat) : Bool := bit (v a) b

/-- Cycle length of a view in ns. -/
def View.clen (v : View) : Nat := clenNs (v.f Reg.SLT_CFG 2 0)

/-- Cascade tier of a view. -/
def View.cascade (v : View) : Bool := v.b Reg.SLT_CFG 3

/-- An instant of 1/16 ns in bits 23:0 of a register is not below the cycle length. -/
def View.late (v : View) (a : Nat) : Bool := 16 * v.clen ≤ v.f a 23 0

/-- The DETAIL of the first condition that holds. -/
def firstBad : List (Bool × Nat) → Option Nat
  | [] => none
  | (c, d) :: cs => if c then some d else firstBad cs

/-- A field differs between the active copy and the view. -/
def View.changed (v : View) (s : State) (a hi lo : Nat) : Bool := v.f a hi lo != s.af a hi lo

/-- Some element of a list has a property of a pair with a later one. -/
def anyPair {α : Type} (p : α → α → Bool) : List α → Bool
  | [] => false
  | x :: xs => xs.any (p x) || anyPair p xs

/-! Ranges beyond the plain ones. -/

/-- R310, R335: a signal descriptor with a reserved KIND, or KIND 3 with an INDEX. -/
def descRange (w : Word) : Bool := 4 ≤ fld w 31 29 || (fld w 31 29 = 3 && fld w 16 0 ≠ 0)

/-- A binary32 pattern above zero and finite; zero allowed where `z`. -/
def limitBad (z : Bool) (w : Word) : Bool :=
  let n := w.toNat
  0x7F800000 ≤ n || (n = 0 && !z)

/-- The four bits of each of n owners exceed 4 (R309). -/
def ownerBad (w : Word) (n : Nat) : Bool := (List.range n).any fun i => 4 < fld w (4 * i + 3) (4 * i)

/-- R37, R193, R167, R335: ranges that depend on other fields, for the register at offset `off` of a row of
block k. -/
def specialRange (k off a i : Nat) (w : Word) (v : View) : Bool :=
  match k, off with
  | 3, 0x0800 => limitBad false w
  | 3, 0x0C00 => limitBad false w
  | 3, 0x1000 => limitBad false w
  | 3, 0x1800 => limitBad false w
  | 3, 0x1C00 => limitBad false w
  | 3, 0x1400 => limitBad true w
  | 3, 0x2000 => limitBad true w
  | 3, 0x3000 => fld w 1 0 ≠ 0 && fld w 15 8 = 0
  | 4, 0x0000 => fld w 2 0 = 1 && 8 < fld w 19 16
  | 4, 0x0010 => v.f (Reg.FB_CH_CTL i) 2 0 = 3
      && (fld w 12 7 = 0 || 32 < fld w 12 7 || fld w 5 0 < 10 || 32 < fld w 5 0)
  | 4, 0x0014 => v.f (Reg.FB_CH_CTL i) 2 0 = 3 && (fld w 15 0 % 2 = 1 || fld w 15 0 < 200 || 8000 < fld w 15 0)
  | 4, 0x0018 => v.f (Reg.FB_CH_CTL i) 2 0 = 3 && 8000 < fld w 31 16
  | 4, 0x0400 => bit w 0 && !(bit w 1) && 7 < fld w 15 8
  | 4, 0x0404 => v.b (Reg.FB_EMU_CTL i) 0 && (fld w 31 16 = 0 || fld w 15 0 = 0)
  | 4, 0x0408 => v.b (Reg.FB_EMU_CTL i) 0 && fld w 11 0 < 80
  | 8, 0x0200 => bit w 4 && bit w 8
  | 9, 0x0004 => ownerBad w 8
  | 9, 0x0008 => ownerBad w 7
  | 9, 0x0100 => 16 < fld w 20 16
  | 9, 0x0200 => descRange w
  | 9, 0x0404 => fld w 1 0 = 0 && 27 < fld w 8 4
  | 9, _ => 0x40091000 ≤ a && descRange w
  | _, _ => false

/-- R37: the register at a holds a value outside a range. -/
def rangeBad (a : Nat) (v : View) : Bool :=
  match regRow a with
  | none => false
  | some (r, i) =>
    let w := v a
    (blockRanges (blkOf a)).any (fun (o, hi, lo, mn, mx) => o = r.off && (fld w hi lo < mn || mx < fld w hi lo))
      || specialRange (blkOf a) r.off a i w v

/-- R10, R37: reserved bits of a member register beyond those its row leaves out: bit 15 of a branch
(Table 11-3) and bits 28:19 of a signal descriptor. -/
def reservedExtra (a : Nat) : Word :=
  if 0x40090100 ≤ a && a < 0x40090120 then 0x80008000
  else if (0x40090200 ≤ a && a < 0x40090280 && a % 16 = 0) || (0x40091000 ≤ a && a < 0x40091200) then 0x1FF80000
  else 0

/-- R37: a reserved bit of the register at a is 1 in its shadow. -/
def reservedBad (a : Nat) (w : Word) : Bool :=
  match regRow a with
  | none => false
  | some (r, _) => (w &&& (~~~(definedMask r) ||| reservedExtra a)) ≠ 0

/-! Cross-field conditions, block by block. -/

/-- R103. -/
def crossDs (g : Nat) (v : View) : Option Nat :=
  let a := v (Reg.DS_GTAB_A g)
  let b := v (Reg.DS_GTAB_B g)
  let fin (w : Word) : Nat := fld w 14 0 + 4 * fld w 24 16
  let sel := if v.b (Reg.DS_POD_CTL g) 0 then b else a
  let d := v.f (Reg.DS_DEADLINE g) 20 0
  firstBad [ (32768 < fin a || 32768 < fin b, 1),
    (fld a 24 16 ≠ 0 && fld b 24 16 ≠ 0 && fld a 14 0 < fin b && fld b 14 0 < fin a, 2),
    (v.b (Reg.DS_POD_CTL g) 1 && fld sel 24 16 = 0, 3),
    (d ≠ 0 && (d < 1000 || 2 * v.clen < d), 4) ]

/-- Axes of group g of the AX and PG blocks. -/
def groupAxes (g : Nat) : List Nat := (List.range 16).map (· + 16 * g)

/-- TMPL of an axis in a view. -/
def View.tmpl (v : View) (n : Nat) : Nat := v.f (Reg.AX_MODE n) 2 1

/-- R136. -/
def crossAx (g : Nat) (v : View) (s : State) : Option Nat :=
  if 16 ≤ g then none
  else
    let xs := groupAxes g
    firstBad [ (v.clen ≠ 15625 && xs.any (fun n => v.tmpl n = 2), 1),
      (xs.any (fun n =>
        let none_ := v.b (Reg.AX_MODE n) 9
        (none_ && v.tmpl n ≠ 3) || (v.tmpl n = 3 && !(v.b (Reg.AX_MODE n) 4) && !none_)), 2),
      (64 < ((List.range 256).filter (fun n => v.tmpl n = 2)).length, 3),
      (xs.any (fun n => v.f (Reg.SAF_AXGRP (n / 16)) (2 * (n % 16) + 1) (2 * (n % 16)) = 0 &&
        (List.range 9).any (fun b => v.f (Reg.AX_REACT n) (3 * b + 2) (3 * b) = 4)), 4),
      (xs.any (fun n => v.changed s (Reg.AX_MODE n) 2 1 && (v.b (Reg.AX_MODE n) 0 || s.ab (Reg.AX_MODE n) 0)), 5) ]

/-- R167. -/
def crossPg (g : Nat) (v : View) (s : State) : Option Nat :=
  let xs := groupAxes g
  let tlen (n : Nat) : Nat := v.f (Reg.PG_TAB n) 30 16
  let pair (n : Nat) : Nat := v.f (Reg.PG_MODE n) 22 20
  let steps := (List.range 256).filter (fun n => v.tmpl n = 3)
  firstBad [ (xs.any (fun n => (v (Reg.PG_DHARD n)).toNat < (v (Reg.PG_DMAX n)).toNat), 1),
    (xs.any (fun n => 131072 < 4 * (v.f (Reg.PG_TAB n) 14 0 + tlen n) || tlen n = 1), 2),
    (xs.any (fun n => v.f (Reg.PG_MODE n) 2 0 = 2 && tlen n < 2), 3),
    (anyPair (fun a b => pair a = pair b && (a / 16 = g || b / 16 = g)) steps, 4),
    (xs.any (fun n => v.f (Reg.PG_LACFG n) 3 2 = 2 && v.tmpl n ≠ 3), 5),
    (xs.any (fun n => v.f (Reg.PG_LACFG n) 1 0 = 2 && v.f (Reg.PG_MODE n) 19 8 < 4), 6),
    (xs.any (fun n => s.rb (Reg.PG_STAT n) 19 && v (Reg.PG_TAB n) ≠ s.act (Reg.PG_TAB n)), 7) ]

/-- R193. -/
def crossFb (g : Nat) (v : View) : Option Nat :=
  if g < 8 then
    if v.f (Reg.FB_CH_CTL g) 2 0 ≠ 3 then none
    else
      let len := v.f (Reg.FB_SSI_CFG g) 5 0
      let posb := v.f (Reg.FB_SSI_CFG g) 12 7
      let div := v.f (Reg.FB_SSI_TIM g) 15 0
      firstBad [ (len < posb || len < posb + v.f (Reg.FB_SSI_CFG g) 21 16, 1),
        (1592 * v.clen < 1000 * ((2 * len - 1) * div + 2 * v.f (Reg.FB_SSI_TIM g) 31 16), 2),
        (2 * v.f (Reg.FB_SSI_SPH g) 31 16 < div, 3) ]
  else if g < 10 then
    let c := v (Reg.FB_EMU_CTL (g - 8))
    firstBad [ (bit c 0 && !(bit c 1) && v.f (Reg.FB_CH_CTL (fld c 15 8 % 8)) 2 0 = 4, 4) ]
  else
    let pw := v.f (Reg.FB_STEP_CFG (g - 10)) 11 0
    firstBad [ (v.b (Reg.FB_STEP_CFG (g - 10)) 23 && (v.f (Reg.FB_STEP_TIM (g - 10)) 15 0 ≤ pw || pw = 0), 5) ]

/-- R223. -/
def crossNet (g : Nat) (v : View) (s : State) : Option Nat :=
  if 4 ≤ g then
    firstBad [ (v.b (Reg.NET_PORT_CTL (g - 4)) 4 && v.b (Reg.NET_RING_CTL ((g - 4) / 2)) 0, 5) ]
  else
    let own := (List.range 80).map (· + 80 * g)
    let c := Reg.NET_RING_CTL g
    let live := (List.range 320).filter (fun n => v.b (Reg.NET_RLY n) 31)
    firstBad [ (v.f c 2 1 ≠ 0 && !v.cascade, 1),
      (v.changed s c 2 1 && (v.b c 0 || s.ab c 0), 2),
      (anyPair (fun a b => v.f (Reg.NET_RLY a) 30 22 = v.f (Reg.NET_RLY b) 30 22 && (a / 80 = g || b / 80 = g)) live, 3),
      (!v.cascade && own.any (fun n => v.f (Reg.NET_RLY n) 21 19 ≠ 0), 4),
      (v.b c 0 && (v.b (Reg.NET_PORT_CTL (2 * g)) 4 || v.b (Reg.NET_PORT_CTL (2 * g + 1)) 4), 5) ]

/-- R251, group 0. -/
def crossSlt0 (v : View) (s : State) : Option Nat :=
  firstBad [ (s.running && (v.changed s Reg.SLT_CFG 3 0 || v Reg.SLT_IMG ≠ s.act Reg.SLT_IMG), 1),
    (v.f Reg.SLT_OPH 15 0 = 0 || 64 * v.clen ≤ 1000 * v.f Reg.SLT_OPH 15 0, 2),
    (v.f Reg.SLT_GUARD 3 0 = 0 || v.f Reg.SLT_GUARD 15 8 = 0, 7),
    (!(v.b Reg.SLT_CFG 3) && !(v.b Reg.SLT_CFG 4), 8) ]

/-- R251, groups 1 to 4: ring r. -/
def crossSltRing (r : Nat) (v : View) (s : State) : Option Nat :=
  let ns := (List.range 80).map (· + 80 * r)
  let fixed := ns.filter (fun n => v.b (Reg.SLT_SLOT n) 31 && !(v.b (Reg.SLT_SLOT n) 30))
  let spare := ns.filter (fun n => v.b (Reg.SLT_SLOT n) 31 && v.b (Reg.SLT_SLOT n) 30)
  let pos (n : Nat) : Nat := v.f (Reg.SLT_SLOT n) 6 0
  firstBad [ (v.late (Reg.SLT_BCN r) || v.late (Reg.SLT_PRA r) || v.late (Reg.SLT_PRB r) || v.late (Reg.SLT_CLM r)
      || ns.any (fun n => v.late (Reg.SLT_UE n) || v.late (Reg.SLT_DD n)), 3),
    (anyPair (fun a b => pos a = pos b) fixed || fixed.any (fun n => 79 < pos n), 4),
    (64 < fixed.length || 16 < spare.length, 5),
    (ns.any (fun n => (s.rb (Reg.SLT_SST n) 31 || s.rb (Reg.SLT_SST n) 29)
      && (v.changed s (Reg.SLT_SLOT n) 31 30 || v.changed s (Reg.SLT_SLOT n) 6 0)), 6) ]

/-- R277. -/
def crossSyn (g : Nat) (v : View) (s : State) : Option Nat :=
  if g = 0 then
    let js := (List.range 8).map (fun j => v (Reg.SYN_SRC j))
    firstBad [ (anyPair (fun a b => fld a 1 0 = fld b 1 0 &&
        ((fld a 1 0 = 1 && fld a 4 2 = fld b 4 2) || (fld a 1 0 = 2 && fld a 9 5 = fld b 9 5))) js, 1),
      (!v.cascade && js.any (fun a => fld a 1 0 = 1), 2),
      (js.any (fun a => fld a 1 0 = 2 && !(v.b (Reg.SYN_SS (8 * fld a 6 5 + fld a 9 7 + 2)) 31)), 3),
      (v.late Reg.SYN_CINST, 4),
      (js.any (fun a => 79 < fld a 16 10), 6),
      (v.f Reg.SYN_LIM2 15 0 ≤ v.f Reg.SYN_LIM2 23 16, 7) ]
  else
    let ns := (List.range 8).map (· + 8 * (g - 1))
    firstBad [ (ns.any (fun n => v.late (Reg.SYN_SS n)), 4),
      (s.running && ns.any (fun n => v (Reg.SYN_SS n) ≠ s.act (Reg.SYN_SS n)), 5),
      (ns.any (fun n => 79 < v.f (Reg.SYN_SS n) 30 24), 6) ]

/-- R307. -/
def crossCas (g : Nat) (v : View) (s : State) : Option Nat :=
  if g = 0 then
    let c := v Reg.CAS_CFG
    let sel (a i : Nat) : Nat := v.f a (7 * i + 6) (7 * i)
    firstBad [ (!(bit c s.ownId), 1),
      (bit c 5 && (fld c 7 6 = s.ownId || !(bit c (fld c 7 6))), 2),
      ((List.range 4).any (fun i => 0x7D < sel Reg.CAS_MIR_SEL0 i)
        || 0x7D < sel Reg.CAS_MIR_SEL1 0 || 0x7D < sel Reg.CAS_MIR_SEL1 1, 3),
      (!(bit c 5) && (List.range 8).any (fun m => v (Reg.CAS_MIR_EN m) ≠ 0), 4),
      (s.running && (v.changed s Reg.CAS_CFG 3 0 || v.changed s Reg.CAS_CFG 5 5 || v.changed s Reg.CAS_CFG 7 6), 6),
      (v.late Reg.CAS_MIR_TIM || v.late Reg.CAS_PAIR_TIM, 7) ]
  else if g = 4 then
    firstBad [ (s.cas.mc.isSome || v.b (Reg.CAS_MC_MASK 8) 4, 5) ]
  else
    firstBad [ (v.b (Reg.CAS_PORT_CTL (g - 1)) 8 && !v.cascade, 1), (v.late (Reg.CAS_RXDL (g - 1)), 7) ]

/-- The wheel has a slot for the capture writer. -/
def View.writerSlot (v : View) : Bool :=
  (List.range 8).any (fun i => v.f Reg.ACQ_WHEEL_0 (4 * i + 3) (4 * i) = 1) ||
    (List.range 7).any (fun i => v.f Reg.ACQ_WHEEL_1 (4 * i + 3) (4 * i) = 1)

/-- MODE of an area in a view. -/
def View.amode (v : View) (a : Nat) : Nat := v.f (Reg.ACQ_AREA_CTL a) 1 0

/-- First line and lines of an area in a view. -/
def View.lines (v : View) (a : Nat) : Nat × Nat :=
  (v.f (Reg.ACQ_AREA_GEO a) 15 0, v.f (Reg.ACQ_AREA_GEO a) 31 16 + 1)

/-- R335. -/
def crossAcq (g : Nat) (v : View) (s : State) : Option Nat :=
  if g = 0 then
    let capi := v.f Reg.ACQ_CFG 23 0
    firstBad [ (v.b Reg.ACQ_CFG 31 && (capi < 16000 || 16 * v.clen < capi + 32000), 1),
      ((List.range 4).any (fun a => v.amode a ≠ 0) && !v.writerSlot, 3) ]
  else if g = 1 then none
  else
    let a := g - 2
    let (base, len) := v.lines a
    let ctl := v (Reg.ACQ_AREA_CTL a)
    let mode := v.amode a
    let meets (b : Nat) : Bool := b ≠ a && v.amode b ≠ 0 && base < (v.lines b).1 + (v.lines b).2 && (v.lines b).1 < base + len
    let alen := alenOf (v (Reg.ACQ_AREA_GEO a)) ctl
    let pp := v (Reg.ACQ_AREA_PP a)
    let descs := ((List.range 27).map (· + 32 * a)).any (fun n => v (Reg.ACQ_SIG n) ≠ s.act (Reg.ACQ_SIG n))
    firstBad [ ((mode ≠ 0 && (List.range 4).any meets) || 65536 < base + len, 2),
      (mode ≠ 0 && !v.writerSlot, 3),
      (mode ≠ 0 && (fld ctl 8 4 = 0 || 27 < fld ctl 8 4), 4),
      ((mode = 1 && alen < fld pp 15 0 + fld pp 31 16 + 1) || (mode = 2 && alen < 2), 5),
      (s.areaArmed a && (v.changed s (Reg.ACQ_AREA_GEO a) 15 0 || v.changed s (Reg.ACQ_AREA_CTL a) 2 0
        || v.changed s (Reg.ACQ_AREA_CTL a) 8 4 || v.changed s (Reg.ACQ_AREA_CTL a) 15 12 || descs
        || (s.areaMode a = 1 && v.changed s (Reg.ACQ_AREA_GEO a) 31 16)), 6) ]

/-- R356. -/
def crossFio (g : Nat) (v : View) (s : State) : Option Nat :=
  if g ≠ 1 then none
  else
    firstBad [ (s.safState = 1 && [6, 7].any (fun k => v.changed s (Reg.FIO_OUT_CFG k) 2 2), 1),
      ([6, 7].any (fun k => v.b (Reg.FIO_OUT_CFG k) 2 && v.b (Reg.FIO_OUT_CFG k) 1), 2) ]

/-- R382. -/
def crossSaf (v : View) (s : State) : Option Nat :=
  let ts := 250 * 2 ^ v.f Reg.SAF_CFG 2 0
  let func (g : Nat) : Nat := v.f (Reg.SAF_GCTL g) 1 0
  let ss1t (g : Nat) : Nat := v.f (Reg.SAF_GTIM g) 15 0
  let rst := v Reg.SAF_RST
  let masks := [0, 1].flatMap (fun g => [v.f (Reg.SAF_GMASK g) 15 0, v.f (Reg.SAF_GMASK g) 31 16])
  firstBad [ (s.safState = 1 || s.safState = 3 || s.safState = 4, 1),
    (1000 * ts < v.clen || (1000 * ts) % v.clen ≠ 0, 2),
    ([0, 1].any (fun g => func g ≠ 0 && 970 * v.f (Reg.SAF_GTIM g) 31 16 < 3 * ts + (if func g = 2 then 1000 * ss1t g else 0)), 3),
    ([0, 1].any (fun g => (func g ≠ 0 && !(v.b (Reg.FIO_OUT_CFG (6 + g)) 2)) || (func g = 2 && ss1t g = 0)
      || (func g = 0 && (List.range 256).any (fun n => v.f (Reg.SAF_AXGRP (n / 16)) (2 * (n % 16) + 1) (2 * (n % 16)) = g + 1))), 4),
    ((!(bit rst 4) && [0, 1].any (fun g => func g ≠ 0)) || (bit rst 4 && masks.any (fun m => m.testBit (fld rst 3 0))), 5),
    ((List.range 8).any (fun j => v.b Reg.SAF_INPAIR j && masks.any (fun m => m.testBit (2 * j) != m.testBit (2 * j + 1))), 6),
    (fld rst 27 16 ≤ fld rst 15 8, 7) ]

/-- R404. -/
def crossMem (g : Nat) (v : View) : Option Nat :=
  let w := v (Reg.MEM_SCRUB g)
  if g = 8 then none
  else if g = 7 then firstBad [ (fld w 7 0 < 7, 1) ]
  else firstBad [ (398000 * fld w 7 0 < partWords g * 2 ^ fld w 19 16, 1) ]

/-- R444. -/
def crossEvl (v : View) (s : State) : Option Nat :=
  let base := v.f Reg.EVL_FLBASE 31 0
  let size := 32 * v.f Reg.EVL_FLLEN 31 0
  firstBad [ (v.b Reg.EVL_CFG 0 && (Config.flashSize < base + size || base < 0x410000 || base % 4096 ≠ 0 || size % 4096 ≠ 0), 1),
    ((v.b Reg.EVL_CFG 0 || s.flen) && (v.changed s Reg.EVL_FLBASE 31 0 || v.changed s Reg.EVL_FLLEN 31 0 || v.changed s Reg.EVL_CFG 1 1), 2) ]

/-- R466. -/
def crossPcr (g : Nat) (v : View) : Option Nat :=
  if g = 0 then
    let c := v Reg.PCR_AVS_CTL
    firstBad [ (fld c 7 0 < 16 || fld c 15 8 < fld c 7 0 + 16 || fld c 23 16 < 10 || 50 < fld c 23 16, 1),
      (v.f Reg.PCR_WDT_CTL 15 8 < 10 || v.f Reg.PCR_WDT_CTL 23 16 = 0, 3) ]
  else firstBad [ (v.late (Reg.PCR_PODSLP (g - 1)), 2) ]

/-- The cross-field conditions of group g of block k: the DETAIL of the first that fails. -/
def crossBad (k g : Nat) (v : View) (s : State) : Option Nat :=
  match k with
  | 0 => firstBad [ (g < 4 && (s.running || s.cmt.ran.testBit g), 1) ]      -- R79
  | 1 => crossDs g v
  | 2 => crossAx g v s
  | 3 => crossPg g v s
  | 4 => crossFb g v
  | 5 => crossNet g v s
  | 6 => if g = 0 then crossSlt0 v s else if g ≤ 4 then crossSltRing (g - 1) v s else none
  | 7 => crossSyn g v s
  | 8 => crossCas g v s
  | 9 => crossAcq g v s
  | 10 => crossFio g v s
  | 11 => crossSaf v s
  | 12 => crossMem g v
  | 14 => crossEvl v s
  | 15 => crossPcr g v
  | _ => none

/-- R37: REASON and DETAIL of a group with the given members, under a view. -/
def groupCheck (k g : Nat) (vals : GroupVals) (v : View) (s : State) : Option (Nat × Nat) :=
  if !(s.domOn (blkDom k)) then some (4, 0)
  else if vals.any (fun (a, w, _) => reservedBad a w) then some (1, 0)
  else if vals.any (fun (a, _, _) => rangeBad a v) then some (2, 0)
  else (crossBad k g v s).map (fun d => (3, d))

/-- R38: the groups that their chapter declares coupled. -/
def coupled (k g : Nat) : Bool :=
  match k with
  | 1 => g < 4 | 2 => g < 20 | 3 => g < 16 | 5 => g < 4 | 6 => g < 5 | 8 => g < 4 | 9 => g < 6 | _ => false

end Sys2Proof.Machine
end

