-- ==== Sys2Proof/Machine/Saf.lean ====
section
/-! DEFINITION. Safety: the reaction states of the axes at a cycle start (R126 to R129, R358), the safety task
(R359 to R365), reset pulses (R365, R366, R369), program flow (R372), test pulses (R373), STO feedback
(R374), check values (R375, R378), the commands of SAF_CMD. -/

namespace Sys2Proof.Machine

/-! Axes and groups. -/

/-- R357: the safety group of axis n. -/
def State.axGroup (s : State) (n : Nat) : Option Nat :=
  match s.af (Reg.SAF_AXGRP (n / 16)) (2 * (n % 16) + 1) (2 * (n % 16)) with
  | 1 => some 0
  | 2 => some 1
  | _ => none

/-- FUNC of group g. -/
def State.safFunc (s : State) (g : Nat) : Nat := s.af (Reg.SAF_GCTL g) 1 0

/-- The safety task's view of group g. -/
def State.grp (s : State) (g : Nat) : SafGrp := kvGet (fun _ => {}) s.saf.groups g

/-- Stores it, with SS1ACT of SAF_STATE. -/
def putGrp (g : Nat) (v : SafGrp) (s : State) : State :=
  setRb Reg.SAF_STATE (20 + g) v.ss1.isSome { s with saf := { s.saf with groups := kvPut (fun _ => {}) s.saf.groups g v } }

/-- R358, R361: the latched state that safety asks of axis n: 4 in STO, 2 in SS1. -/
def State.safAsks (s : State) (n : Nat) : Nat :=
  match s.axGroup n with
  | some g => if !(s.permit g) then 4 else if (s.grp g).ss1.isSome then 2 else 0
  | none => 0

/-- RSTATE and DISABLED of axis n as AX_STAT_n shows them. -/
def showAxis (n : Nat) (s : State) : State :=
  let en := s.axEn s.cyc n
  setRb (Reg.AX_STAT n) 3 (!en) (setRf (Reg.AX_STAT n) 2 0 (if en then (s.ax n).rs else 3) s)

/-- R126: the reaction code of source b of axis n. -/
def State.reactCode (s : State) (n b : Nat) : Nat := s.af (Reg.AX_REACT n) (3 * b + 2) (3 * b)

/-- R127: the highest code among the tripped sources of a set. -/
def State.tripCode (s : State) (n trips : Nat) : Nat :=
  (List.range 9).foldl (fun m b => if trips.testBit b then max m (s.reactCode n b) else m) 0

/-- R127, R128: the latched state, the reaction state and the HOLD count of the new cycle, from the latched
state, the code of the trips, what safety asks, whether FBLOSS tripped, HOLD cycles so far, HOLDMAX. -/
def nextReaction (latched code asks : Nat) (fbloss : Bool) (hold holdmax : Nat) : Nat × Nat × Nat :=
  let l := max (max latched asks) (if 2 ≤ code then code else 0)
  let rs := max l code
  if rs = 2 && fbloss then (3, 3, 0)
  else if rs = 1 then (if holdmax ≠ 0 && holdmax ≤ hold then (3, 3, 0) else (l, 1, hold + 1))
  else (l, rs, 0)

/-- R127 to R129, R295: axis n at a cycle start. Where EN becomes 0, sources tripped in the cycle before enter neither
the latched state nor the HOLD count, and the HOLD count stands until EN is 1 again; where EN becomes 1, those tripped
in the cycle before count no more (DESIGN CHOICE, log entry 215). -/
def axisCycleStart (n : Nat) (s : State) : State :=
  let v := s.ax n
  let en := s.ab (Reg.AX_MODE n) 0
  let counted := if en && bit (s.actPrev (Reg.AX_MODE n)) 0 then v.trips else 0
  let bad := (List.range 9).any fun b => v.trips.testBit b && 2 ≤ s.reactCode n b && s.reactCode n b ≤ 4
  let latched := if v.ack && !bad then 0 else v.latched
  let s := onlyIf v.ack (setRb (Reg.AX_STAT n) 6 bad) s
  let s := onlyIf (v.ack && bad) (regEvent 2 1 6 clsWarn n (Reg.AX_STAT n)) s
  let s := setRf (Reg.AX_STAT n) 24 16 v.trips s
  let mx := if s.cas.modex then s.af Reg.CAS_CFG 11 9 else 0
  let four := (en && mx = 4) || (List.range 9).any fun b => counted.testBit b && s.reactCode n b = 4
  let s := match four, s.axGroup n with
    | true, some g => { s with saf := { s.saf with react4 := g :: s.saf.react4.erase g } }
    | _, _ => s
  let (l, rs, hold) :=
    if en then nextReaction (max latched mx) (s.tripCode n counted) (s.safAsks n) (counted.testBit 4) v.hold
      (s.af (Reg.AX_REACT n) 31 27)
    else (latched, v.rs, v.hold)
  showAxis n (putAx n { v with latched := l, rs := rs, rsPrev := v.rs, hold := hold, ack := false, trips := 0 } s)

/-- R358, R361: what safety asks at a period start acts on the axes in the cycle that starts with it. -/
def safRaise (n : Nat) (s : State) : State :=
  let v := s.ax n
  let a := s.safAsks n
  if s.axEn s.cyc n && v.latched < a then
    let rs := if v.rs < a then (if a = 2 && (s.rf (Reg.AX_STAT n) 20 20 = 1) then 3 else a) else v.rs
    showAxis n (putAx n { v with latched := max a rs, rs := rs } s)
  else s

/-! Demands and speeds. -/

/-- R364: the pairs that are discrepant hold both their inputs at 0 for the safety task. -/
def State.discMask (s : State) : Nat := s.saf.disc.foldl (fun m j => m ||| (3 * 4 ^ j)) 0

/-- R364: some input of a mask is at 0 for the safety task. -/
def State.demanded (s : State) (mask : Nat) : Bool :=
  !(s.inputsHigh mask) || mask &&& s.discMask ≠ 0

/-- DMASK of group g. -/
def State.dmask (s : State) (g : Nat) : Nat := s.af (Reg.SAF_GMASK g) 15 0

/-- SLSMASK of group g. -/
def State.slsmask (s : State) (g : Nat) : Nat := s.af (Reg.SAF_GMASK g) 31 16

/-- Axes of group g. -/
def State.grpAll (s : State) (g : Nat) : List Nat := (List.range 256).filter fun n => s.axGroup n = some g

/-- Enabled axes of group g. -/
def State.grpAxes (s : State) (g : Nat) : List Nat := (s.grpAll g).filter (s.axEn s.cyc)

/-- R359, R382: the cycles of a safety period. -/
def State.periodCycles (s : State) : Nat := 250000 * 2 ^ s.af Reg.SAF_CFG 2 0 / s.clen

/-- R360: POS of the last cycle before the one that lies `back` cycles before the present, if that sample is valid. -/
def State.samplePos (s : State) (n back : Nat) : Option Nat :=
  if s.running then ((s.ax n).valid.find? fun x => x.1 + back + 1 = s.cyc).map (·.2) else none

/-- R360: Δ_n of the period that ends now. -/
def State.delta (s : State) (n : Nat) : Option Int :=
  match s.samplePos n 0, s.samplePos n s.periodCycles with
  | some p, some q => some (toSigned 32 (ofSigned 32 ((p : Int) - q)))
  | _, _ => none

/-- |Δ_n|. -/
def State.speed (s : State) (n : Nat) : Option Nat := (s.delta n).map Int.natAbs

/-- R360: two unknown values in a row, the present one and that of an earlier period. -/
def State.unknownTwice (s : State) (n : Nat) : Bool :=
  (s.delta n).isNone && !(kvGet (fun _ => false) s.saf.known n) && s.saf.ran

/-- R360: notes whether the speed of axis n is known in the period that ends now. -/
def keepSample (n : Nat) (s : State) : State :=
  { s with saf := { s.saf with known := kvPut (fun _ => false) s.saf.known n (s.delta n).isSome } }

/-- R361: an axis of group g breaks its speed limit. -/
def State.slsBroken (s : State) (g : Nat) : Bool :=
  (s.grpAll g).any fun n =>
    let lim := (s.act (Reg.SAF_SLSLIM n)).toNat
    lim ≠ 0 && (match s.speed n with | some v => lim < v | none => s.unknownTwice n)

/-- R362: a speed above the envelope, with times in quarter milliseconds. -/
def aboveEnvelope (v v0 dt ss1t sstill : Nat) : Bool := v0 * (ss1t - dt) + sstill * ss1t < v * ss1t

/-- R362: SS1 of group g in a later period: an axis left the envelope, standstill periods, the end. -/
def ss1Judge (g t : Nat) (r : Ss1St) (s : State) : Bool × Nat × Bool :=
  let ss1t := 4 * s.af (Reg.SAF_GTIM g) 15 0
  let still := s.af (Reg.SAF_GCTL g) 23 16
  let out := (s.grpAll g).any fun n =>
    match s.speed n, r.v0.find? (fun e => e.1 = n) with
    | some v, some (_, v0) => aboveEnvelope v v0 (t - r.s) ss1t still
    | some v, none => aboveEnvelope v 0 (t - r.s) ss1t still
    | none, _ => s.unknownTwice n
  let calm := (s.grpAxes g).all fun n => match s.speed n with | some v => v ≤ still | none => false
  let k := if calm then r.still + 1 else 0
  (out, k, out || 3 ≤ k || ss1t ≤ t - r.s)

/-! The safety task. -/

/-- R359, R382: the safety task writes REQ_g; a clear by hardware in the same sysclk wins (R9). -/
def putReq (g : Nat) (v : Bool) (s : State) : State := writeRf Reg.SAF_REQ g g (b2n v) s

/-- R361, R362: SS1 of group g starts at quarter millisecond t; STO at once without a known v0. -/
def ss1Start (g t : Nat) (s : State) : State :=
  let axes := s.grpAll g
  if axes.any fun n => (s.speed n).isNone then putReq g false (putGrp g { s.grp g with ss1 := none } s)
  else putGrp g { s.grp g with ss1 := some ⟨t, axes.map fun n => (n, (s.speed n).getD 0), 0⟩ } s

/-- R359: the decisions of the period before take effect for group g. -/
def grpDecide (g t : Nat) (s : State) : State :=
  let v := s.grp g
  let s := putGrp g { v with stoNext := false, ss1Next := false, reqNext := false } s
  if v.stoNext then putReq g false (putGrp g { s.grp g with ss1 := none } s)
  else if v.ss1Next then ss1Start g t s
  else if v.reqNext then putReq g true s
  else s

/-- R361 to R363: the evaluation of group g at quarter millisecond t. A demand that has arisen while the group was
in STO has no effect; one that Husk has answered already by its agreement clears REQ_g, whatever FUNC: the group has
reached STO, which is latched (DEDUCED, log entry 222). SLS holds the axes to their limits from the period start after
the one that sees its demand, until the one after it is gone (DEDUCED, log entry 231). Of an accepted reset only what held at its falling edge counts. -/
def grpEvaluate (g t : Nat) (s : State) : State :=
  if s.safFunc g = 0 then setRb Reg.SAF_STATE (22 + g) false (putGrp g {} s)
  else
    let v := s.grp g
    let demand := s.demanded (s.dmask g)
    let sls := s.demanded (s.slsmask g)
    let broken := v.sls && s.slsBroken g
    let four := s.saf.react4.contains g
    let s := setRb Reg.SAF_STATE (22 + g) sls s
    let s := onlyIf broken (safErr 11 g) s
    let started : Bool := match v.ss1 with | some r => r.s < t | none => false
    let (out, still, fin) :=
      match v.ss1 with
      | some r => if r.s < t then ss1Judge g t r s else (false, 0, false)
      | none => (false, 0, false)
    let s := onlyIf (started && out) (safErr 12 g) s
    let up := s.permit g
    let slsr := s.af (Reg.SAF_GCTL g) 5 4
    let sto := (up && ((demand && s.safFunc g = 1) || four || (broken && slsr = 1) || (started && fin)))
      || (!up && demand && v.arose)
    let ss1 := up && !sto && v.ss1.isNone && ((demand && s.safFunc g = 2) || (broken && slsr = 2))
    let ss1' := match v.ss1 with | some r => some { r with still := still } | none => none
    putGrp g { v with
      ss1 := ss1', stoNext := sto, ss1Next := ss1, reqNext := v.reset, reset := false, slsPend := broken,
      arose := false, sls := sls } s

/-- R360: SPDU for the axes of the groups. -/
def speedFlags (s : State) : State :=
  forAll [0, 1] (fun g t =>
    onlyIf (s.safFunc g ≠ 0 && (s.grpAll g).any fun n => (s.delta n).isNone) (safErr 10 g) t) s

/-- R378, Table 13-4: HCHECK against the safety task's computation: HUSKX, which in RUN and TEST moves the
state; elsewhere a difference is flagged once, until it is cleared. -/
def hcheckJudge (s : State) : State :=
  if (s.reg Reg.SAF_HCHECK).toNat = s.taskHcheck then s
  else if s.safState = 1 || s.safState = 2 then safFault 4 0 false s
  else onlyIf (!(s.rb Reg.SAF_ERR 4)) (safErr 4 0) s

/-- R359: the start of the period with index k. -/
def safetyPeriod (k : Nat) (s : State) : State :=
  let t := k * 2 ^ s.af Reg.SAF_CFG 2 0
  let s := { s with saf := { s.saf with period := some k } }
  let s := showRecs s.recentRecs s
  let s := grpDecide 1 t (grpDecide 0 t s)
  let s := deriveSafety s
  let s := onlyIf s.running (forAll (List.range 256) safRaise) s
  let s := grpEvaluate 1 t (grpEvaluate 0 t (speedFlags s))
  let s := forAll (List.range 256) keepSample s
  let s := { s with saf := { s.saf with react4 := [], ran := true } }
  hcheckJudge (onlyIf (s.safState = 1 && s.reg Reg.SAF_CHECK ≠ s.reg Reg.SAF_CONFIRM) (safFault 3 0 false) s)

/-- R359: the period index of the present instant. -/
def State.periodIdx (s : State) : Nat := s.nsNow / (250000 * 2 ^ s.af Reg.SAF_CFG 2 0)

/-- R359: the next period start: in running cycles at the cycle start that begins a period, else the next
multiple of TS. -/
def safetyPeriodCmd (s : State) : State :=
  let k := s.periodIdx
  if s.saf.period ≠ some k then safetyPeriod k s
  else if s.running then s
  else
    let s := advanceNs ((k + 1) * 250000 * 2 ^ s.af Reg.SAF_CFG 2 0 * 2 ^ 32) s
    safetyPeriod s.periodIdx s

/-- SAFETY_PERIOD (R359). -/
def execSafetyPeriod (s : State) : Host.Outcome State Fault Refusal :=
  done (onlyIf (s.live 1) safetyPeriodCmd s)

/-! Husk's timers. -/

/-- HDLY_EXPIRY (R367): a demand of group g has stood for HDLY_g in RUN. -/
def hdlyExpiry (g : Nat) (s : State) : State :=
  let hdly := fld (s.huskReg (3 + g)) 31 16 * 800000
  let mask := fld (s.huskReg (1 + g)) 15 0
  let due := (List.range 16).any fun i => mask.testBit i && !(s.rb Reg.FIO_IN_LVL i) &&
    s.marrowReached (s.mtick - kvGet (fun _ => 0) s.saf.zeroAt i) hdly
  onlyIf (s.safState = 1 && due) (setAgr g false) s

/-- HDLY_EXPIRY (R367). -/
def execHdlyExpiry (g : Fin 2) (s : State) : Host.Outcome State Fault Refusal :=
  done (onlyIf s.huskOn (hdlyExpiry g) s)

/-- R429: the group that an event of pair j names: the lower one whose masks contain the pair (DESIGN CHOICE, log entry 221). -/
def State.pairGroup (s : State) (j : Nat) : Nat :=
  if (s.dmask 0 ||| s.slsmask 0) &&& (3 * 4 ^ j) = 0 && (s.dmask 1 ||| s.slsmask 1) &&& (3 * 4 ^ j) ≠ 0 then 1 else 0

/-- R364: pair j has differed for longer than DISC ms. -/
def discrepancy (j : Nat) (s : State) : State :=
  match kvGet (fun _ => none) s.saf.diffAt j with
  | some t =>
    if s.ab Reg.SAF_INPAIR j && s.af Reg.SAF_INPAIR 23 8 * 800000 < s.time.tick - t && !(s.saf.disc.contains j) then
      safErr (16 + j) (s.pairGroup j) { s with saf := { s.saf with disc := j :: s.saf.disc } }
    else s
  | none => s

/-- DISCREPANCY (R364). -/
def execDiscrepancy (pair : Fin 8) (s : State) : Host.Outcome State Fault Refusal :=
  done (onlyIf (s.live 1) (discrepancy pair) s)

/-! Reset pulses. -/

/-- R339: the level, after INV, that a filter change due at input i brings. -/
def State.finDue (s : State) (i : Nat) : Option Bool :=
  let v := kvGet (fun _ => ({} : FinSt)) s.fio.ins i
  let inv := s.ab (Reg.FIO_IN_CFG i) 3
  if !v.filt && s.af (Reg.FIO_IN_CFG i) 15 8 ≤ v.cnt then some (true != inv)
  else if v.filt && v.cnt = 0 then some (false != inv)
  else none

/-- R366, R381: every demand input of a mask is at 1, none falling in this filter sample. -/
def State.demandsClear (s : State) (mask : Nat) : Bool :=
  s.inputsHigh mask && (List.range 16).all fun i => !(mask.testBit i) || s.finDue i ≠ some false

/-- R374: STO_ACTIVE in the most recent record of axis n with FRESH = 1. -/
def State.stoShown (s : State) (n : Nat) : Bool :=
  match (s.ax n).dstat with
  | some (_, d) => d.testBit 3
  | none => false

/-- R366, R369, Table 13-4: a LOCKOUT cause is present: external drive on a safety output, a group without permit
whose STO feedback failed and whose drives still do not report STO, the flag of a failed self-test or of two failed
test pulses until it is cleared (DESIGN CHOICE, log entry 187). -/
def State.lockCause (s : State) : Bool :=
  let shown (a : Nat) : Nat := (s.reg a).toNat ||| kvGet (fun _ => 0) s.fio.heldBits a
  bitsOf (shown Reg.FIO_OUT_FLT) 23 22 ≠ 0 || (shown Reg.SAF_ERR).testBit 5 || (shown Reg.SAF_ERR).testBit 8 ||
    s.saf.stoBad.any fun g => !(s.permit g) && (s.grpAxes g).any fun n => !(s.stoShown n)

/-- R365: the safety task's judgement of a pulse of w ticks; R381: none while HBLOSS is set. -/
def taskPulse (w : Nat) (s : State) : Bool × State :=
  let inside := decide (s.af Reg.SAF_RST 15 8 * 8000000 ≤ w ∧ w ≤ s.af Reg.SAF_RST 27 16 * 8000000)
  (inside && !(s.rb Reg.FIO_SUP 2), onlyIf (!inside) (safErr 13 0) s)

/-- R365: Husk's judgement of a pulse of w ticks of the time that always passes. -/
def State.huskPulse (s : State) (w : Nat) : Bool :=
  s.huskOn && s.marrowReached w (fld (s.huskReg 5) 15 8 * 8000000) &&
    !(s.marrowReached w (fld (s.huskReg 5) 27 16 * 8000000 + 1))

/-- R366: Husk agrees to group g where it sees every demand input at 1. -/
def huskAgree (g : Nat) (s : State) : State :=
  onlyIf (s.demandsClear (fld (s.huskReg (1 + g)) 15 0)) (setAgr g true) s

/-- R366, R369: a reset pulse accepted by the safety task, by Husk, or by both. -/
def resetAccepted (task husk : Bool) (s : State) : State :=
  let st := s.safState
  let s := onlyIf (husk && st ≠ 4) (fun s => huskAgree 1 (huskAgree 0 s)) s
  let s :=
    if husk && task then
      if (st = 0 || st = 3) && s.saf.runreq && s.saf.stok && s.confirmed && !s.lockCause then
        huskAgree 1 (huskAgree 0 (setSafState 1 { s with saf := { s.saf with runreq := false } }))
      else if st = 4 && !s.lockCause then setSafState 0 s
      else s
    else s
  onlyIf task (forAll [0, 1] fun g s =>
    onlyIf (s.demandsClear (s.dmask g) && !(s.grp g).slsPend && (s.dmask g ||| s.slsmask g) &&& s.discMask = 0)
      (putGrp g { s.grp g with reset := true }) s) s

/-- R365: the reset input falls, for the safety task after w ticks, for Husk after hw ticks of the time that
always passes. -/
def resetPulse (w hw : Option Nat) (s : State) : State :=
  let (task, s) := match w with | some w => taskPulse w s | none => (false, s)
  resetAccepted task (match hw with | some h => s.huskPulse h | none => false) s

/-- R365: an edge at the reset input of the safety task, of Husk, which goes by its own copy (R378), or both. -/
def resetEdge (task husk lvl : Bool) (s : State) : State :=
  if lvl then
    { s with saf := { s.saf with
      riseAt := if task then some s.time.tick else s.saf.riseAt
      huskRise := if husk then some s.mtick else s.saf.huskRise } }
  else
    let w := if task then s.saf.riseAt.map (s.time.tick - ·) else none
    let hw := if husk then s.saf.huskRise.map (s.mtick - ·) else none
    resetPulse w hw { s with saf := { s.saf with
      riseAt := if task then none else s.saf.riseAt, huskRise := if husk then none else s.saf.huskRise } }

/-- R364, R365: the level of input i after INV has become `lvl`. -/
def safLevel (i : Nat) (lvl : Bool) (s : State) : State :=
  let j := i / 2
  let a := s.rb Reg.FIO_IN_LVL (2 * j)
  let b := s.rb Reg.FIO_IN_LVL (2 * j + 1)
  let now := s.time.tick
  let s := onlyIf (!lvl) (fun s => { s with saf := { s.saf with zeroAt := kvPut (fun _ => 0) s.saf.zeroAt i s.mtick } }) s
  let s := forAll [0, 1] (fun g s =>
    onlyIf (!lvl && s.permit g && (s.dmask g).testBit i) (fun s => putGrp g { s.grp g with arose := true } s) s) s
  let old := kvGet (fun _ => none) s.saf.diffAt j
  let diff := if a = b then none else some (old.getD now)
  let disc := if !a && !b then s.saf.disc.erase j else s.saf.disc
  let s := { s with saf := { s.saf with diffAt := kvPut (fun _ => none) s.saf.diffAt j diff, disc := disc } }
  let task := s.live 1 && s.ab Reg.SAF_RST 4 && s.af Reg.SAF_RST 3 0 = i
  let husk := s.huskOn && bit (s.huskReg 5) 4 && fld (s.huskReg 5) 3 0 = i
  onlyIf (task || husk) (resetEdge task husk lvl) s

/-! SAF_CMD, SAF_REQ, SAF_PFM. -/

/-- R369, R370, R381: a write to SAF_CMD. -/
def safCmd (w : Word) (s : State) : State :=
  if bit w 0 && bit w 1 then accessError 11 Reg.SAF_CMD true s
  else
    let s := onlyIf (bit w 1 && s.safState = 0 && s.huskOn) (fun s => setSafState 2 (setRf Reg.SAF_REQ 1 0 0 s)) s
    let s := onlyIf (bit w 2 && s.safState = 2) (fun s => setSafState 0 (setRf Reg.SAF_REQ 1 0 0 s)) s
    let s := onlyIf (bit w 3) (fun s => { s with saf := { s.saf with stok := true } }) s
    onlyIf (bit w 0) (fun s => { s with saf := { s.saf with runreq := true } }) s

/-- STOK (R369). -/
def execSafStok (s : State) : Host.Outcome State Fault Refusal := done (regWrite Reg.SAF_CMD (safCmd 8) s)

/-- TEST (R370). -/
def execSafTest (s : State) : Host.Outcome State Fault Refusal := done (regWrite Reg.SAF_CMD (safCmd 2) s)

/-- ENDTEST (R370). -/
def execEndtest (s : State) : Host.Outcome State Fault Refusal := done (regWrite Reg.SAF_CMD (safCmd 4) s)

/-- RUNREQ (R369). -/
def execRunreq (s : State) : Host.Outcome State Fault Refusal := done (regWrite Reg.SAF_CMD (safCmd 1) s)

/-- REQ_WRITE (R358). -/
def execReqWrite (req : BitVec 2) (s : State) : Host.Outcome State Fault Refusal :=
  done (regWrite Reg.SAF_REQ (writeRf Reg.SAF_REQ 1 0 req.toNat) s)

/-- One bit step of the flow CRC (R372). -/
def pfmBit (c : Nat) : Nat := if 0x8000 ≤ c then ((c * 2) ^^^ 0x1021) % 65536 else c * 2

/-- R372: folds one byte. -/
def pfmByte (c b : Nat) : Nat :=
  pfmBit (pfmBit (pfmBit (pfmBit (pfmBit (pfmBit (pfmBit (pfmBit (c ^^^ (b * 256)))))))))

/-- R372: a checkpoint identity, high byte first. -/
def pfmFold (id : Nat) (s : State) : State :=
  setRf Reg.SAF_PFM_SIG 15 0 (pfmByte (pfmByte (s.rf Reg.SAF_PFM_SIG 15 0) (id / 256 % 256)) (id % 256)) s

/-- PFM (R372). -/
def execSafPfm (id : BitVec 16) (s : State) : Host.Outcome State Fault Refusal :=
  done (regWrite Reg.SAF_PFM (pfmFold id.toNat) s)

/-- R372: the signature reaches Husk. -/
def pfmJudge (sig : Nat) (s : State) : State :=
  let dt := s.mtick - s.saf.wdRef
  let ts := tsTicks (s.huskReg 0)
  if sig = fld (s.huskReg 6) 15 0 && (s.marrowReached dt (ts * 3 / 4) || s.saf.wdFirst) &&
      !(s.marrowReached dt (ts * 5 / 4 + 1)) then
    { s with saf := { s.saf with wdRef := s.mtick, wdFirst := false } }
  else safFault 0 0 false s

/-- R372: PFM_END. -/
def pfmEnd (s : State) : State :=
  let sig := s.rf Reg.SAF_PFM_SIG 15 0
  let s := setRf Reg.SAF_PFM_SIG 15 0 0xFFFF s
  onlyIf (s.linkUp && (s.safState = 1 || s.safState = 2)) (pfmJudge sig) s

/-- PFM_END (R372). -/
def execPfmEnd (s : State) : Host.Outcome State Fault Refusal := done (regWrite Reg.SAF_PFM_END pfmEnd s)

/-- R372: no accepted signature within 1.25 × TS. -/
def flowWatchdog (s : State) : State :=
  let ts := tsTicks (s.huskReg 0)
  onlyIf ((s.safState = 1 || s.safState = 2) && s.marrowReached (s.mtick - s.saf.wdRef) (ts * 5 / 4))
    (safFault 0 0 false) s

/-- FLOW_WATCHDOG (R372). -/
def execFlowWatchdog (s : State) : Host.Outcome State Fault Refusal := done (flowWatchdog s)

/-- HSELF (R371). -/
def execHself (s : State) : Host.Outcome State Fault Refusal := done (onlyIf s.huskOn (safFault 8 0 true) s)

/-! Test pulses and STO feedback. -/

/-- R373: when the test pulse of output 6 + g that is under way began; one begun before the output last
turned on is none. -/
def State.pulseOf (s : State) (g : Nat) : Option Nat :=
  match kvGet (fun _ => none) s.saf.pulse g with
  | some t => if kvGet (fun _ => 0) s.fio.since (6 + g) ≤ t then some t else none
  | none => none

/-- R342, R373: the ball of output k is driven: on, and in no test pulse; ON keeps showing 1 in a pulse. -/
def State.ballDriven (s : State) (k : Nat) : Bool := s.outOn k && (k < 6 || (s.pulseOf (k - 6)).isNone)

/-- R373: the ball is judged at the end of a pulse. -/
def pulseEnd (g : Nat) (low : Bool) (s : State) : State :=
  let n := if low then 0 else kvGet (fun _ => 0) s.saf.tpFail g + 1
  let s := { s with saf := { s.saf with
    tpFail := kvPut (fun _ => 0) s.saf.tpFail g n, pulse := kvPut (fun _ => none) s.saf.pulse g none } }
  if n = 0 then s
  else if 2 ≤ n then safFault 5 g true s
  else marrowEvent 11 0x19 0 5 clsFault g Reg.SAF_ERR s

/-- R373: the pulse of output 6 + g that is under way ends once TPW has passed; with none, one begins once TPP
has passed since the last began, or since the output turned on. -/
def testPulse (g : Nat) (low : Bool) (s : State) : State :=
  let cfg := s.huskReg 0
  match s.pulseOf g with
  | some t =>
    onlyIf (s.marrowReached (s.mtick - t) (fld cfg 15 12 * 40000)) (pulseEnd g low) s
  | none =>
    let dt := min (s.outFor (6 + g)) (s.mtick - kvGet (fun _ => 0) s.saf.pulseAt g)
    onlyIf (s.marrowReached dt (fld cfg 23 16 * 8000000)) (fun s => { s with saf := { s.saf with
      pulse := kvPut (fun _ => none) s.saf.pulse g (some s.mtick), pulseAt := kvPut (fun _ => 0) s.saf.pulseAt g s.mtick } }) s

/-- TEST_PULSE (R373): Husk switches output 6 + g off, or ends the pulse, with the ball below 0.25 × VF or not. -/
def execTestPulse (g : Fin 2) (low : Bool) (s : State) : Host.Outcome State Fault Refusal :=
  done (onlyIf (s.huskOn && s.permit g && s.outOn (6 + g)) (testPulse g low) s)

/-- R374: STO_ACTIVE of the enabled axes of group g in the records of this cycle. -/
def stoCheck (g : Nat) (s : State) : State :=
  match kvGet (fun _ => none) s.saf.permAt g with
  | some c =>
    if s.running && c + s.af (Reg.SAF_GCTL g) 31 24 ≤ s.cyc then
      let s := { s with saf := { s.saf with permAt := kvPut (fun _ => none) s.saf.permAt g none } }
      let sto (n : Nat) : Option Bool :=
        match (s.ax n).dstat with
        | some (k, d) => if k = s.cyc then some (d.testBit 3) else none
        | none => none
      if s.permit g then onlyIf ((s.grpAxes g).any fun n => sto n = some true) (safErr 9 g) s
      else
        let bad := (s.grpAxes g).any fun n => sto n ≠ some true
        let rest := s.saf.stoBad.erase g
        onlyIf bad (safFault 6 g true) { s with saf := { s.saf with stoBad := if bad then g :: rest else rest } }
    else s
  | none => s

/-- STO_FEEDBACK_CHECK (R374). -/
def execStoFeedbackCheck (g : Fin 2) (s : State) : Host.Outcome State Fault Refusal :=
  done (onlyIf (s.live 1) (stoCheck g) s)

/-! Check values. -/

/-- R375: the registers of SAF_ commit group 0, ascending. -/
def safGroup : List Nat :=
  [Reg.SAF_CFG, Reg.SAF_GMASK 0, Reg.SAF_GMASK 1, Reg.SAF_GCTL 0, Reg.SAF_GCTL 1, Reg.SAF_GTIM 0, Reg.SAF_GTIM 1,
   Reg.SAF_INPAIR, Reg.SAF_RST, Reg.SAF_PFM_EXP] ++ (List.range 16).map Reg.SAF_AXGRP ++ (List.range 256).map Reg.SAF_SLSLIM

/-- R375: the inputs that the parameters name. -/
def State.safInputs (s : State) : Nat :=
  s.dmask 0 ||| s.dmask 1 ||| s.slsmask 0 ||| s.slsmask 1 |||
    (if s.ab Reg.SAF_RST 4 then 2 ^ s.af Reg.SAF_RST 3 0 else 0)

/-- R375: CHECK. -/
def State.checkValue (s : State) : Nat :=
  let ins := (List.range 16).filter (s.safInputs.testBit ·)
  crc32Words ((safGroup ++ ins.map Reg.FIO_IN_CFG ++ [Reg.FIO_OUT_CFG 6, Reg.FIO_OUT_CFG 7]).map fun a => (s.act a).toNat)

/-- CHECK_COMPUTE (R375). -/
def execCheckCompute (s : State) : Host.Outcome State Fault Refusal :=
  done (onlyIf (s.live 1 && s.saf.checkDue)
    (fun s => setReg Reg.SAF_CHECK (BitVec.ofNat 32 s.checkValue) { s with saf := { s.saf with checkDue := false } }) s)

/-- R361: a commit that names a demand input already at 0 demands a group that is not in STO. -/
def commitDemand (old : Nat → Word) (g : Nat) (s : State) : State :=
  onlyIf (s.permit g && s.demanded (s.dmask g) && !(s.demanded (fld (old (Reg.SAF_GMASK g)) 15 0)))
    (fun s => putGrp g { s.grp g with arose := true } s) s

/-- R359: periods of a new length count on from the present one. -/
def newPeriods (s : State) : State :=
  let now := s.time.ns % (250000 * 2 ^ s.af Reg.SAF_CFG 2 0 * 2 ^ 32) = 0
  { s with saf := { s.saf with period := if now then none else some s.periodIdx } }

/-- R375, R378: SAF_ group 0 has become active, given the words before. A pulse at another reset input is no pulse of the
new one (R365). -/
def safCommitted (old : Nat → Word) (s : State) : State :=
  let rst (w : Word) : Nat := fld w 4 0
  let s := { s with saf := { s.saf with checkDue := true } }
  let s := onlyIf (fld (old Reg.SAF_CFG) 2 0 ≠ s.af Reg.SAF_CFG 2 0) newPeriods s
  let s := commitDemand old 1 (commitDemand old 0 s)
  let s := onlyIf (rst (old Reg.SAF_RST) ≠ rst (s.act Reg.SAF_RST)) (fun s => { s with saf := { s.saf with riseAt := none } }) s
  if s.linkUp && s.huskOn then
    let same := rst (s.huskReg 5) = rst (s.act Reg.SAF_RST)
    let s := { s with saf := { s.saf with husk := huskRegs.map s.act, huskRise := if same then s.saf.huskRise else none } }
    setReg Reg.SAF_HCHECK (BitVec.ofNat 32 s.taskHcheck) s
  else s

end Sys2Proof.Machine
end

