-- ==== Sys2Proof/Machine/Fio.lean ====
section
/-! DEFINITION. Field inputs and outputs: filter, levels, wire breaks and thresholds (R337 to R341), output
commands and faults (R343 to R349), heartbeat and field supply (R350 to R353). -/

namespace Sys2Proof.Machine

/-! Inputs. -/

/-- Hidden state of input i. -/
def State.fin (s : State) (i : Nat) : FinSt := kvGet (fun _ => {}) s.fio.ins i

/-- Stores it. -/
def putFin (i : Nat) (v : FinSt) (s : State) : State :=
  { s with fio := { s.fio with ins := kvPut (fun _ => {}) s.fio.ins i v } }

/-- Sets a bit of a FIO_ register and reports it. -/
def fioFlag (reg b cls inst a : Nat) (s : State) : State :=
  marrowEvent 10 0x18 reg b cls inst a (onlyIf s.fieldOn (orMarrow a (2 ^ b)) s)

/-- R340: the level of input i after INV becomes `lvl`; a change enabled in FIO_IN_IEN is a wake source (R449). -/
def setLevel (i : Nat) (lvl : Bool) (s : State) : State :=
  if s.rb Reg.FIO_IN_LVL i = lvl then s
  else
    let b := if lvl then i else 16 + i
    let s := orReg Reg.FIO_IN_EDGE (2 ^ b) (setRb Reg.FIO_IN_LVL i lvl s)
    safLevel i lvl (onlyIf (s.ab Reg.FIO_IN_IEN b) (fun s => wakeBy 3 (irq .fieldInput s)) s)

/-- FILTERED_LEVEL_CHANGE (R339): the counter of input i stands at FLIM or at 0. -/
def filterChange (i : Nat) (s : State) : State :=
  match s.finDue i with
  | some lvl => setLevel i lvl (putFin i { s.fin i with filt := !(s.fin i).filt } s)
  | none => s

/-- FILTERED_LEVEL_CHANGE (R339). -/
def execFilteredLevelChange (i : Fin 16) (s : State) : Host.Outcome State Fault Refusal :=
  done (onlyIf s.fieldOn (filterChange i) s)

/-- R339: the sample period of input i in ticks: 1 µs, 10 µs, 100 µs or 1 ms, as FTB says. -/
def State.samplePeriod (s : State) (i : Nat) : Nat := 800 * 10 ^ s.af (Reg.FIO_IN_CFG i) 5 4

/-- R339: a sample of input i is due: FTB has passed since the last, by Marrow's oscillator (R480). -/
def State.sampleDue (s : State) (i : Nat) : Bool :=
  match (s.fin i).at_ with
  | some t => s.marrowReached (s.mtick - t) (s.samplePeriod i)
  | none => true

/-- R339: one sample of input i, once every FTB period; a change that is due comes first. -/
def filterSample (i : Nat) (s : State) : State :=
  if !(s.sampleDue i) then s
  else
    let s := filterChange i s
    let v := s.fin i
    putFin i { v with cnt := if v.raw then min (v.cnt + 1) (s.af (Reg.FIO_IN_CFG i) 15 8) else v.cnt - 1
                      at_ := some s.mtick } s

/-- FILTER_SAMPLE (R339). -/
def execFilterSample (i : Fin 16) (s : State) : Host.Outcome State Fault Refusal :=
  done (onlyIf s.fieldOn (filterSample i) s)

/-- R337, R338: the rising threshold of input i in mV/256: the tracked one of its type, or the fixed one. -/
def State.rising (s : State) (i : Nat) : Nat :=
  let t3 := s.ab (Reg.FIO_IN_CFG i) 0
  if s.ab (Reg.FIO_IN_CFG i) 1 then (if t3 then s.fio.thr3 else s.fio.thr1)
  else if t3 then 2048000 else 2816000

/-- R336, R337: the raw level of input i with the ball at a voltage in mV: it rises at the rising threshold
and falls below the falling one, 1.0 V lower, each within ±0.4 V; a free value where the tolerance leaves it open. -/
def rawLevel (i mv : Nat) (s : State) : Bool × State :=
  let raw := (s.fin i).raw
  let thr := s.rising i - (if raw then 256000 else 0)
  if thr + 102400 ≤ 256 * mv then (true, s)
  else if 256 * mv + 102400 < thr then (false, s)
  else (s.freeBits 1 = 1, useFree s)

/-- R341: input i has a raw level; 1 ends the measurement and clears a break. -/
def rawChange (i : Nat) (lvl : Bool) (s : State) : State :=
  onlyIf (lvl && s.fieldOn) (setRb Reg.FIO_IN_WB i false) (putFin i { s.fin i with raw := lvl } s)

/-- RAW_LEVEL_CHANGE (R336, R337, R341): the ball of input i stands at a voltage in mV. -/
def execRawLevelChange (i : Fin 16) (mv : BitVec 16) (s : State) : Host.Outcome State Fault Refusal :=
  done (onlyIf s.huskOn (fun s =>
    let (lvl, s) := rawLevel i mv.toNat s
    rawChange i lvl s) s)

/-- R341: input i measures its current. -/
def State.wbMeasures (s : State) (i : Nat) : Bool :=
  s.fieldOn && s.huskOn && s.ab (Reg.FIO_IN_CFG i) 2 && !(s.fin i).raw

/-- WIRE_BREAK (R341). -/
def execWireBreak (i : Fin 16) (s : State) : Host.Outcome State Fault Refusal :=
  done (onlyIf (s.wbMeasures i && !(s.rb Reg.FIO_IN_WB i))
    (fun s => fioFlag 2 (16 + i) clsWarn i Reg.FIO_IN_WB (setRb Reg.FIO_IN_WB i true s)) s)

/-- WIRE_BREAK_CLEAR (R341). -/
def execWireBreakClear (i : Fin 16) (s : State) : Host.Outcome State Fault Refusal :=
  done (onlyIf (s.wbMeasures i) (setRb Reg.FIO_IN_WB i false) s)

/-- R338: an input of type t (0 Type 1, 1 Type 3) tracks. -/
def State.tracking (s : State) (t : Nat) : Bool :=
  (List.range 16).any fun i => s.ab (Reg.FIO_IN_CFG i) 1 && s.af (Reg.FIO_IN_CFG i) 0 0 = t

/-- FIO_IN_THR shows the thresholds, 1/16 V (R338). -/
def showThr (s : State) : State :=
  setReg Reg.FIO_IN_THR (BitVec.ofNat 32 (s.fio.thr1 * 16 / 256000 % 256 + s.fio.thr3 * 16 / 256000 % 256 * 256)) s

/-- R338: a type that no input tracks rests at its fixed threshold. -/
def restThr (s : State) : State :=
  let t1 := if s.tracking 0 then s.fio.thr1 else 2816000
  let t3 := if s.tracking 1 then s.fio.thr3 else 2048000
  showThr { s with fio := { s.fio with thr1 := t1, thr3 := t3 } }

/-- R338: one step of a threshold toward its target, at most 0.25 V, in mV/256. -/
def thrStep (cur ratio vf lo hi : Nat) : Nat :=
  let tgt := max lo (min hi (ratio * vf))
  if cur ≤ tgt then min tgt (cur + 64000) else max tgt (cur - 64000)

/-- R338: the 1 ms recomputation. -/
def thrRecompute (s : State) : State :=
  let vf := s.rf Reg.FIO_VF 15 0
  let t1 := if s.tracking 0 then thrStep s.fio.thr1 (s.af Reg.FIO_IN_TRK 7 0) vf 1792000 3584000 else 2816000
  let t3 := if s.tracking 1 then thrStep s.fio.thr3 (s.af Reg.FIO_IN_TRK 15 8) vf 1792000 2688000 else 2048000
  showThr { s with fio := { s.fio with thr1 := t1, thr3 := t3 } }

/-- THRESHOLD_RECOMPUTE (R338). -/
def execThresholdRecompute (s : State) : Host.Outcome State Fault Refusal :=
  done (onlyIf (s.fieldOn && s.huskOn) thrRecompute s)

/-! Outputs. -/

/-- What an acknowledgement leaves of the output commands (R351, R353). -/
def setOutputs (cmd : Nat) (s : State) : State := setRf Reg.FIO_OUT 7 0 cmd s

/-- Commands left by a write to FIO_OUT, FIO_OUT_SET or FIO_OUT_CLR; one after an acknowledgement stands
(R343, Table 12-5). -/
def outBits (cmd : Nat) (s : State) : State := setReg Reg.FIO_OUT (setFld (s.reg Reg.FIO_OUT) 7 0 cmd) s

/-- FIO_OUT (R343). -/
def execFioOut (w : Word) (s : State) : Host.Outcome State Fault Refusal :=
  done (regWrite Reg.FIO_OUT (outBits (fld w 7 0)) s)

/-- FIO_OUT_SET (R343). -/
def execFioOutSet (w : Word) (s : State) : Host.Outcome State Fault Refusal :=
  done (regWrite Reg.FIO_OUT_SET (fun s => outBits (s.rf Reg.FIO_OUT 7 0 ||| fld w 7 0) s) s)

/-- R343: the commands that a write of w to FIO_OUT_CLR leaves. -/
def clearBits (cmd w : Nat) : Nat := cmd - (cmd &&& w)

/-- FIO_OUT_CLR (R343). -/
def execFioOutClr (w : Word) (s : State) : Host.Outcome State Fault Refusal :=
  done (regWrite Reg.FIO_OUT_CLR (fun s => outBits (clearBits (s.rf Reg.FIO_OUT 7 0) (fld w 7 0)) s) s)

/-- Sets a bit of FIO_OUT_FLT for channel k. -/
def outFault (lo k : Nat) (s : State) : State := fioFlag 1 (lo + k) clsFault k Reg.FIO_OUT_FLT s

/-- R344, R345, R347: a fault that latches channel k off, with PD_FIELD off too (R18). -/
def latchFault (lo k : Nat) (s : State) : State :=
  outFault lo k (onlyIf (!s.fieldOn) (fun t => { t with fio := { t.fio with latch := t.fio.latch ||| 2 ^ k } }) s)

/-- Runs a function where a span of `dt` ticks has reached `ms` milliseconds of Marrow's oscillator. -/
def onReached (dt ms : Nat) (f : State → State) (s : State) : State :=
  onlyIf (s.marrowReached dt (ms * 800000)) f s

/-- R344: the limit has acted on channel k for dur ticks. -/
def overload (k dur : Nat) (s : State) : State :=
  onReached (min dur (s.outFor k)) (fld (s.outCfg k) 11 8) (latchFault 0 k) s

/-- OVERLOAD (R344): only a channel that drives can be in its limit. -/
def execOverload (chan : ChanTime) (s : State) : Host.Outcome State Fault Refusal :=
  done (onlyIf (s.huskOn && s.outOn chan.ch) (overload chan.ch chan.dur) s)

/-- OVER_TEMPERATURE (R345). -/
def execOverTemperature (ch : Fin 8) (s : State) : Host.Outcome State Fault Refusal :=
  done (onlyIf s.huskOn (latchFault 8 ch) s)

/-- R347, R354: the ball of channel k, off for so many ticks, has stood above 0.5 × VF for dur ticks; a drive counts once
the channel has been off for BLANK ms. On output 6 or 7 it is EXTX too (Table 13-4). -/
def externalDrive (k off dur : Nat) (s : State) : State :=
  onReached dur 1 (onReached off (fld (s.outCfg k) 19 16 + 1) fun s =>
    onlyIf (6 ≤ k) (safFault 7 (k - 6) true) (latchFault 16 k s)) s

/-- EXTERNAL_DRIVE (R347). -/
def execExternalDrive (chan : ChanTime) (s : State) : Host.Outcome State Fault Refusal :=
  done (match s.offFor chan.ch with
    | some off => onlyIf s.huskOn (externalDrive chan.ch off chan.dur) s
    | none => s)

/-- R346: the open-wire test of channel k is under way. -/
def State.owTests (s : State) (k : Nat) : Bool := bit (s.outCfg k) (if s.outOn k then 0 else 1)

/-- R346: channel k is open; it has been on, or off, for the 50 ms at least. -/
def openWire (k : Nat) (s : State) : State :=
  onReached (s.outFor k) 50 (fun s => onlyIf s.fieldOn (setRb Reg.FIO_OUT_STAT (16 + k) true) (outFault 24 k s)) s

/-- OPEN_WIRE (R346). -/
def execOpenWire (ch : Fin 8) (s : State) : Host.Outcome State Fault Refusal :=
  done (onlyIf (s.huskOn && s.owTests ch) (openWire ch) s)

/-- OPEN_WIRE_CLEAR (R346). -/
def execOpenWireClear (ch : Fin 8) (s : State) : Host.Outcome State Fault Refusal :=
  done (onlyIf s.fieldOn (setRb Reg.FIO_OUT_STAT (16 + ch) false) s)

/-- R9, R349: a write of w to FIO_OUT_FLT; channels in current limit, above 145 °C, at or above 0.5 × VF; a bit
that hardware has set in this sysclk stays. -/
def faultClear (w : Word) (lim hot ext : Nat) (s : State) : State :=
  let m := fld w 7 0 - (fld w 7 0 &&& lim) + 256 * (fld w 15 8 - (fld w 15 8 &&& hot))
    + 65536 * (fld w 23 16 - (fld w 23 16 &&& ext)) + 2 ^ 24 * fld w 31 24
  setReg Reg.FIO_OUT_FLT (s.reg Reg.FIO_OUT_FLT &&& ~~~(BitVec.ofNat 32 m &&& ~~~(s.noted Reg.FIO_OUT_FLT).ev)) s

/-- FAULT_CLEAR (R349). -/
def execFaultClear (w : Word) (lim hot ext : BitVec 8) (s : State) : Host.Outcome State Fault Refusal :=
  done (regWrite Reg.FIO_OUT_FLT (faultClear w lim.toNat hot.toNat ext.toNat) s)

/-! Heartbeat and field supply. -/

/-- R350: one heartbeat is sent and reaches the supervisor. -/
def heartbeat (s : State) : State :=
  let n := (s.fio.hbSent + 1) % 16
  let down := s.fio.linkDown
  let s := { s with fio := { s.fio with hbSent := n } }
  if !s.huskOn then s
  else if n = (s.fio.hbLast + 1) % 16 then
    let s := { s with fio := { s.fio with hbLast := n, hbRow := s.fio.hbRow + 1, hbAt := s.mtick, linkDown := false } }
    let s := if s.fio.held.isEmpty then s else passHeld s
    onlyIf down observed s
  else { s with fio := { s.fio with hbRow := 0 } }

/-- HEARTBEAT (R350). -/
def execHeartbeat (s : State) : Host.Outcome State Fault Refusal :=
  done (onlyIf (s.sysOn && s.fieldOn) heartbeat s)

/-- Sets a status bit of FIO_SUP and, on a change to 1, its sticky bit. -/
def supSet (b ev : Nat) (s : State) : State :=
  if s.rb Reg.FIO_SUP b then s else fioFlag 0 ev clsFault 0 Reg.FIO_SUP (setRb Reg.FIO_SUP b true s)

/-- R350: 2 ms without an accepted heartbeat: a loss sets HBLOSS and is logged, whether HBLOSS stood or not. -/
def heartbeatLoss (s : State) : State :=
  let s := { s with fio := { s.fio with linkDown := true, hbRow := 0 } }
  safFault 2 0 false (fioFlag 0 10 clsFault 0 Reg.FIO_SUP (setRb Reg.FIO_SUP 2 true s))

/-- HEARTBEAT_LOSS (R350). -/
def execHeartbeatLoss (s : State) : Host.Outcome State Fault Refusal :=
  done (onlyIf (s.huskOn && !s.fio.linkDown && s.marrowReached (s.mtick - s.fio.hbAt) 1600000) heartbeatLoss s)

/-- R351, R353: a write to FIO_SUP_CMD. -/
def supCmd (w : Word) (s : State) : State :=
  let refuse (s : State) : State := fioFlag 0 12 clsFault 0 Reg.FIO_SUP s
  let s :=
    if bit w 0 && s.rb Reg.FIO_SUP 2 then
      (if 32 ≤ s.fio.hbRow then setOutputs 0 (setRb Reg.FIO_SUP 2 false s) else refuse s)
    else s
  if bit w 1 && s.rb Reg.FIO_SUP 1 then
    (if s.rb Reg.FIO_SUP 0 then refuse s else setOutputs 0 (setRb Reg.FIO_SUP 1 false s))
  else s

/-- HBACK (R351). -/
def execHback (s : State) : Host.Outcome State Fault Refusal := done (regWrite Reg.FIO_SUP_CMD (supCmd 1) s)

/-- UVACK (R353). -/
def execUvack (s : State) : Host.Outcome State Fault Refusal := done (regWrite Reg.FIO_SUP_CMD (supCmd 2) s)

/-- R352: a measurement of VFIELD in mV; three in a row act (Table 12-3). -/
def vfieldMeasure (mv : Nat) (s : State) : State :=
  let log := (mv :: s.fio.vlog).take 100
  let s := { s with fio := { s.fio with vlog := log } }
  let s := onlyIf s.fieldOn (setReg Reg.FIO_VF (BitVec.ofNat 32 (log.foldl (· + ·) 0 / log.length))) s
  let three (p : Nat → Bool) : Bool := 3 ≤ log.length && (log.take 3).all p
  let s := onlyIf (three (· ≤ 19000)) (supSet 0 8) s
  let s := onlyIf (three (19500 ≤ ·)) (setRb Reg.FIO_SUP 0 false) s
  let s := onlyIf (three (· ≤ 16500)) (supSet 1 9) s
  let s := onlyIf (three (31000 ≤ ·)) (supSet 4 11) s
  onlyIf (three (· ≤ 30500)) (setRb Reg.FIO_SUP 4 false) s

/-- VFIELD_MEASURE (R352). -/
def execVfieldMeasure (mv : BitVec 16) (s : State) : Host.Outcome State Fault Refusal :=
  done (onlyIf s.huskOn (vfieldMeasure mv.toNat) s)

/-- VFOFF (R352, Table 12-3). -/
def execVfoff (s : State) : Host.Outcome State Fault Refusal := done (setRb Reg.FIO_SUP 3 true s)

/-- R353, R367: the supervisor and Husk power up. -/
def supervisorUp (s : State) : State :=
  let s := setRf Reg.FIO_SUP 4 0 6 s
  let s := { s with fio := { s.fio with vlog := [], thr1 := 2816000, thr3 := 2048000, hbLast := 0, hbRow := 0,
                                        hbAt := s.mtick, linkDown := false, cmd := 0, latch := 0
                                        since := (List.range 8).foldl (fun m k => kvPut (fun _ => 0) m k s.mtick) [] } }
  huskPowerUp (showThr s)

/-- SUPERVISOR_POWER_UP (R353). -/
def execSupervisorPowerUp (s : State) : Host.Outcome State Fault Refusal :=
  done (onlyIf (s.rb Reg.FIO_SUP 3) supervisorUp s)

/-! Commits. -/

/-- R340, R341: what a commit does to input i, given its word before. -/
def inputCommitted (i : Nat) (old : Word) (s : State) : State :=
  let s := onlyIf (bit old 3 != s.ab (Reg.FIO_IN_CFG i) 3) (fun s => setLevel i (!(s.rb Reg.FIO_IN_LVL i)) s) s
  onlyIf (!(s.ab (Reg.FIO_IN_CFG i) 2)) (setRb Reg.FIO_IN_WB i false) s

/-- FIO_ group 0 has become active, given the words before. -/
def fioInCommitted (old : Nat → Word) (s : State) : State :=
  let s := forAll (List.range 16) (fun i => inputCommitted i (old (Reg.FIO_IN_CFG i))) s
  restThr { s with saf := { s.saf with checkDue := true } }

/-- FIO_ group 1 has become active. -/
def fioOutCommitted (s : State) : State := { s with saf := { s.saf with checkDue := true } }

end Sys2Proof.Machine
end

