-- ==== Sys2Proof/Machine/Commit.lean ====
section
/-! DEFINITION. Shadow and commit (R32 to R44): taking requested groups, applying and refusing them, what
each block does when a group becomes active, and the two-phase mode change (R288 to R293). -/

namespace Sys2Proof.Machine

/-! Taking groups (R35). -/

/-- Groups whose bits a mask holds. -/
def maskGroups (m : Nat) : List Nat := (List.range 32).filter m.testBit

/-- Shadows of a group (R34, R35). -/
def stageVals (k g : Nat) (s : State) : GroupVals := (groupMembers k g).map fun (a, m) => (a, s.reg a, m)

/-- A staging copy is taken: DIRTY clears (R43). -/
def clearDirty (k g : Nat) (s : State) : State :=
  setReg (Reg.CMT_DIRTY k) (s.reg (Reg.CMT_DIRTY k) &&& ~~~(BitVec.ofNat 32 (2 ^ g))) s

/-- Groups of SLT_ that R512 checks first. -/
def sltFirst (t : Nat × Nat × GroupVals) : Bool := t.1 = 6 && t.2.1 ≤ 4

/-- The members in whose view a group is checked: its own, with those of the groups coupled to it that are
taken with it (R38). -/
def viewVals (ts : List (Nat × Nat × GroupVals)) (k g : Nat) (own : GroupVals) : GroupVals :=
  if coupled k g then own ++ (ts.filter (fun t => t.1 = k && t.2.1 ≠ g && coupled k t.2.1)).flatMap (fun t => t.2.2)
  else own

/-- Checks groups under an SLT_CFG. -/
def checkAll (ts : List (Nat × Nat × GroupVals)) (cfg : Word) (s : State) : List Staged :=
  ts.map fun (k, g, vals) => ⟨k, g, vals, groupCheck k g vals (viewOf (viewVals ts k g vals) cfg s) s⟩

/-- R38: the refusal of one coupled group refuses those taken with it. -/
def coupleAll (xs : List Staged) : List Staged :=
  xs.map fun x =>
    if x.bad.isNone && coupled x.blk x.grp
        && xs.any (fun y => y.blk = x.blk && coupled y.blk y.grp && y.bad.isSome) then { x with bad := some (5, 0) }
    else x

/-- Table 14-5, AGENT 8: the memory words that a commit copies are those of the match copy (R510), of the table
that is active after the application; a group whose words do not all read well is refused with REASON 0x06
(DEDUCED, log entry 27). -/
def stageMatch (x : Staged) (s : State) : Staged × State :=
  if x.blk = 1 && x.grp < 4 && x.bad.isNone && s.domOn (2 + x.grp) && s.memDone (1 + x.grp) then
    let v := viewOf x.vals (s.act Reg.SLT_CFG) s
    let (base, count) := tableOf (v (Reg.DS_POD_CTL x.grp)) (v (Reg.DS_GTAB_A x.grp)) (v (Reg.DS_GTAB_B x.grp))
    let ((_, good), s) := readMatch 8 x.grp base count s
    (if good then x else { x with bad := some (6, 0) }, s)
  else (x, s)

/-- The staging copies of a list, with the words of memory that they take. -/
def stageMatches : List Staged → State → List Staged × State
  | [], s => ([], s)
  | x :: xs, s =>
    let (y, s) := stageMatch x s
    let (ys, s) := stageMatches xs s
    (y :: ys, s)

/-- R37, R38, R512: staging copies of groups taken together, with the outcome of their checks. -/
def stageGroups (gs : List (Nat × Nat)) (s : State) : List Staged × State :=
  let ts := gs.map fun (k, g) => (k, g, stageVals k g s)
  let first := ts.filter sltFirst
  let own := (first.filter (fun t => t.2.1 = 0)).flatMap (fun t => t.2.2)
  let cfg0 := viewOf own (s.act Reg.SLT_CFG) s Reg.SLT_CFG
  let slt := coupleAll (checkAll first cfg0 s)
  let ok := slt.any (fun x => x.grp = 0 && x.bad.isNone)
  let cfg := if ok then cfg0 else s.act Reg.SLT_CFG
  let (rest, s) := stageMatches (checkAll (ts.filter (fun t => !(sltFirst t))) cfg s) s
  (slt ++ coupleAll rest, s)

/-! Applying and refusing (R41). -/

/-- REASON, DETAIL and GROUP as CMT_REASON holds them. -/
def reasonWord (g : Nat) (bad : Nat × Nat) : Nat := bad.2 * 65536 + bad.1 * 256 + g

/-- R41, R429: a group is refused; `first` is true for the lowest one of its block in this batch. A block whose domain
is off shows nothing (R11, R31). -/
def refuseGroup (x : Staged) (bad : Nat × Nat) (first : Bool) (s : State) : State :=
  let on := s.domOn (blkDom x.blk)
  let s := onlyIf on (fun s => orReg (Reg.CMT_DIRTY x.blk) (2 ^ x.grp) (orReg (Reg.CMT_REFUSED x.blk) (2 ^ x.grp) s)) s
  let s := onlyIf (on && first) (setReg (Reg.CMT_REASON x.blk) (BitVec.ofNat 32 (reasonWord x.grp bad))) s
  event (evCode x.blk 31 0) clsWarn x.grp (reasonWord x.grp bad) (s.cyc % 2 ^ 32) s

/-- Words of axis n whose change is a motion command (R144). -/
def pgWords (n : Nat) : List Nat :=
  [Reg.PG_MODE n, Reg.PG_TGT n, Reg.PG_VMAX n, Reg.PG_AMAX n, Reg.PG_DMAX n, Reg.PG_JMAX n, Reg.PG_DHARD n,
   Reg.PG_QSDEC n, Reg.PG_QSJRK n, Reg.PG_TAB n, Reg.PG_LACFG n, Reg.PG_LAK n, Reg.PG_LAL n]

/-- R26, R88: the first cycle that a change of configuration made now concerns. -/
def State.newCyc (s : State) : Nat := if s.cmt.ended = some s.cyc then s.cyc + 1 else s.cyc

/-- R158: a geometry commit of axis n, given the MODE before it. -/
def pgGeometry (n mode : Nat) (s : State) : State :=
  let base := s.af (Reg.PG_TAB n) 14 0
  let len := s.af (Reg.PG_TAB n) 30 16
  if mode ≠ 2 || s.rf (Reg.PG_TPTR n) 14 0 = s.rf (Reg.PG_TPTR n) 30 16 then
    setReg (Reg.PG_TPTR n) 0 (setReg (Reg.PG_TACT n) (BitVec.ofNat 32 len)
      (let s := keepGeometry n s.newCyc s
       putPg n { s.pgAx n with abase := base } s))
  else setRb (Reg.PG_STAT n) 19 true (putPg n { s.pgAx n with nlen := len, nbase := base } s)

/-- R144, R158: a PG group has become active for axis n; `old` is the state before. -/
def pgCommitted (old : State) (n : Nat) (s : State) : State :=
  if (pgWords n).all (fun a => old.act a == s.act a) then s
  else
    let g := s.pgAx n
    let s := if s.running then putPg n { g with cmds := s.cyc :: g.cmds.take 3 } s else putPg n { g with cmdWait := true } s
    onlyIf (old.act (Reg.PG_TAB n) != s.act (Reg.PG_TAB n)) (pgGeometry n (old.af (Reg.PG_MODE n) 2 0)) s

/-- R456: a committed AVSEN = 0 requests FIXC; in STANDBY and on the way into a low state c = 10 stays requested. -/
def avsCommitted (s : State) : State := onlyIf (s.cur < 2 || s.pcr.trans.any (fun x => x.2 < 2)) avsFixed s

/-- R110, R136: a new AX_MODE_n is active: AX_STAT_n follows it, and the retained copy is zeros once EN is 0. -/
def axCommitted (old : State) (n : Nat) (s : State) : State :=
  if old.act (Reg.AX_MODE n) == s.act (Reg.AX_MODE n) then s
  else showAxis n (onlyIf (!(s.ab (Reg.AX_MODE n) 0)) (fun t => putAx n { t.ax n with copy := (0, 0, 0, 0) } t) s)

/-- What a block does when group g of block k has become active; `old` is the state before. -/
def committed (k g : Nat) (old : State) (s : State) : State :=
  match k with
  | 0 => if g < 4 then setRb (Reg.LE_POD_STAT g) 8 (s.compat g) s else s
  | 1 => if g < 4 then takeMatch g s else s
  | 2 => if g < 16 then forAll (List.range 8) showStep (forAll (groupAxes g) (axCommitted old) s) else s
  | 3 => forAll (List.range 8) showStep (forAll (groupAxes g) (pgCommitted old) s)
  | 4 =>
    if g < 8 then chanCommitted g (old.act (Reg.FB_CH_CTL g)) (old.act (Reg.FB_SSI_CFG g)) s
    else if g < 10 then emuCommitted (g - 8) (old.act (Reg.FB_EMU_CTL (g - 8))) s
    else showStep (g - 10) s
  | 6 => onlyIf (g = 0 && old.clen ≠ s.clen) renumber s
  | 5 => if g < 4 then showRing g s else adaptPort (g - 4) (old.ab (Reg.NET_PORT_CTL (g - 4)) 7) s
  | 8 => if g = 0 then showPair ((old.portTo old.partner).getD 0) s
    else if 1 ≤ g && g ≤ 3 && !(s.ab (Reg.CAS_PORT_CTL (g - 1)) 8) && s.joined (g - 1) then leaveJoined (g - 1) s else s
  | 9 => if g = 1 then sqCommitted (old.act Reg.ACQ_SQ_CTL) s
    else if 2 ≤ g then areaCommitted (g - 2) (old.act (Reg.ACQ_AREA_GEO (g - 2))) s else s
  | 10 => if g = 0 then fioInCommitted old.act s else fioOutCommitted s
  | 11 => safCommitted old.act s
  | 14 => evlCommitted (old.act Reg.EVL_CFG) s
  | 15 => if g = 0 then avsCommitted s else s
  | _ => s

/-- R35, R41: a group becomes active. -/
def applyGroup (x : Staged) (s : State) : State :=
  let t := x.vals.foldl (fun u (a, v, m) => setAct a ((u.act a &&& ~~~m) ||| (v &&& m)) u) s
  let t := orReg (Reg.CMT_DONE x.blk) (2 ^ x.grp) t
  let t := onlyIf t.running (setReg (Reg.CMT_CYCLE x.blk) (BitVec.ofNat 32 t.cyc)) t
  committed x.blk x.grp s t

/-- A batch of staged groups is applied or refused, in the order of blocks and groups; `seen` holds the
blocks in which one has been refused. -/
def settleGroups : List Nat → List Staged → State → State
  | _, [], s => s
  | seen, x :: xs, s =>
    match x.bad with
    | none => settleGroups seen xs (applyGroup x s)
    | some b => settleGroups (x.blk :: seen) xs (refuseGroup x b (!(seen.contains x.blk)) s)

/-- Groups in ascending order of block and number. -/
def stagedInsert (x : Staged) : List Staged → List Staged
  | [] => [x]
  | y :: ys => if x.blk < y.blk || (x.blk = y.blk && x.grp ≤ y.grp) then x :: y :: ys else y :: stagedInsert x ys

/-- R39, R41: everything staged is applied or refused. -/
def applyStaged (s : State) : State :=
  settleGroups [] (s.staged.foldr stagedInsert []) { s with staged := [] }

/-- R26: the cycles have stopped in the present cycle: what is applied now does not concern its work. -/
def endCycles (s : State) : State := { s with prev := s.actv, cmt := { s.cmt with ended := some s.cyc } }

/-- R39: copies that wait are applied as the network stops; an announcement that waits is refused (R288). -/
def applyStopped (s : State) : State := applyStaged <| refuseAnnouncement (onlyIf (s.cmt.ended.isNone) endCycles s)

/-- The network stops: a pending change is abandoned (R291), OFF is entered, copies that wait are applied (R39). -/
def stopNet (s : State) : State := applyStopped (goOff (abandon 3 s.ownId s))

/-! Requests (R36, R39). -/

/-- Defined groups of block k as a mask (R43). -/
def definedGroups (k : Nat) : Nat := (List.range 32).foldl (fun m g => if groupDefined k g then m + 2 ^ g else m) 0

/-- R43: a write of w to xx_CMT_REQ of block k, as one of the writes of a batch. -/
def requestGroups (k : Nat) (w : Nat) (s : State) : State := orReg (Reg.CMT_REQ k) (w &&& definedGroups k) s

/-- The sysclk in which a write is made; none while sysclk stands: every write of the debug port then is one of its
own (DEDUCED, log entry 25). -/
def State.askClk (s : State) : Option Nat := if s.frozen then none else some s.sclk

/-- R512: requests set in a sysclk join those of the same sysclk, or follow the earlier ones; writes made while sysclk
stands are never joined (DEDUCED, log entry 25). -/
def askGroups (k : Option Nat) (rs : List (Nat × Nat)) :
    List (Option Nat × List (Nat × Nat)) → List (Option Nat × List (Nat × Nat))
  | [] => [(k, rs)]
  | [(j, qs)] => if j = k && k.isSome then [(j, qs ++ rs)] else [(j, qs), (k, rs)]
  | x :: xs => x :: askGroups k rs xs

/-- The bits of requests that still wait. -/
def State.waiting (s : State) (rs : List (Nat × Nat)) : List (Nat × Nat) :=
  (rs.map fun (k, m) => (k, s.rf (Reg.CMT_REQ k) 31 0 &&& m)).filter fun x => x.2 ≠ 0

/-- The requests that still wait keep their order. -/
def keepAsked (s : State) : State :=
  { s with cmt := { s.cmt with
      asked := (s.cmt.asked.map fun (t, rs) => (t, s.waiting rs)).filter fun x => !x.2.isEmpty
      ran := s.cmt.ran &&& s.rf (Reg.CMT_REQ 0) 31 0 } }

/-- R36, R39: requests of several blocks set in one sysclk. -/
def requestBatch (rs : List (Nat × Nat)) (s : State) : State :=
  let s := keepAsked s
  let was := s.rf (Reg.CMT_REQ 0) 31 0
  let s := forAll rs (fun (k, w) => requestGroups k w) s
  let ran := if s.running then clearBits (s.rf (Reg.CMT_REQ 0) 31 0) was else 0
  { s with cmt := { s.cmt with asked := askGroups s.askClk rs s.cmt.asked, ran := s.cmt.ran ||| ran } }

/-- CMT_REQ (R36). -/
def execCmtReq (blk : Fin 17) (w : Word) (s : State) : Host.Outcome State Fault Refusal :=
  done (regWrite (Reg.CMT_REQ blk) (requestBatch [(blk.val, w.toNat)]) s)

/-- The set request bits of block k under a mask, held back from groups in `skip`. -/
def State.requested (s : State) (k mask : Nat) (skip : List (Nat × Nat)) : List (Nat × Nat) :=
  ((maskGroups (s.rf (Reg.CMT_REQ k) 31 0 &&& mask)).map (fun g => (k, g))).filter (fun x => !(skip.contains x))

/-- R35: groups are taken: their request bits and DIRTY clear, their copies are staged and checked. A copy that still
waits, since a step of NS has left a cycle start out (R272), makes place for the new one. -/
def takeGroups (gs : List (Nat × Nat)) (s : State) : State :=
  let (st, s) := stageGroups gs s
  let s := forAll gs (fun (k, g) t => clearDirty k g
    (setReg (Reg.CMT_REQ k) (t.reg (Reg.CMT_REQ k) &&& ~~~(BitVec.ofNat 32 (2 ^ g))) t)) s
  { s with staged := s.staged.filter (fun x => x.bad.isSome || !(gs.contains (x.blk, x.grp))) ++ st }

/-- R512: the requests of one sysclk are taken and applied together. -/
def applyAsked (rs : List (Nat × Nat)) (s : State) : State :=
  let gs := (rs.flatMap (fun (k, m) => s.requested k m [])).eraseDups
  if gs.isEmpty then s else applyStaged (takeGroups gs s)

/-- R9: a request set in the present sysclk is not taken in it: the next sysclk takes it. -/
def afterRequest (s : State) : State :=
  if (List.range 17).any (fun k => (s.noted (Reg.CMT_REQ k)).ev ≠ 0) then advanceTo (2 * (s.sclk + 1)) s else s

/-- R39, R512: the requests that wait, in the order of their writes, those left from the cycles first. -/
def applyIdle (s : State) : State :=
  let s := afterRequest s
  forAll (s.cmt.asked.map (·.2)) applyAsked { s with cmt := { s.cmt with asked := [] } }

/-- COMMIT_APPLY_IDLE (R39). -/
def execCommitApplyIdle (s : State) : Host.Outcome State Fault Refusal :=
  done (onlyIf (s.sysOn && !s.running) applyIdle s)

/-! The mode change (R288 to R293). -/

/-- R289: the armed groups. -/
def State.armedGroups (s : State) : List (Nat × Nat) :=
  (List.range 17).flatMap fun k =>
    ((maskGroups (s.act (Reg.CAS_MC_MASK k)).toNat).map (fun g => (k, g))).filter
      (fun x => groupDefined x.1 x.2)

/-- R289: the unit prepares a change: it holds the copies and enters ACK, or enters NAK and abandons. -/
def prepareChange (m : McPend) (s : State) : State :=
  let gs := s.armedGroups
  let (st, s) := stageGroups gs s
  let s := forAll gs (fun (k, g) t => clearDirty k g t) s
  let votes := s.cas.votes.filter (fun v => v.2.2.2 = (m.mid, m.c % 2 ^ 48))
  let s := { s with cas := { s.cas with mc := some m, annReq := none, annIn := none, held := st, votes := votes } }
  let s := setRf Reg.CAS_MC_ACT 31 16 m.mid (setReg Reg.CAS_MC_CYCS (BitVec.ofNat 32 m.c) s)
  match st.find? (fun x => x.bad.isSome) with
  | none => setRf Reg.CAS_MC_STAT 2 0 1 s
  | some x =>
    let s := setRf Reg.CAS_MC_STAT 28 24 x.grp (setRf Reg.CAS_MC_STAT 20 16 x.blk (setRf Reg.CAS_MC_STAT 2 0 2 s))
    abandon 4 s.ownId (settleGroups [] (st.filter (fun x => x.bad.isSome)) s)

/-- R288: an announcement is taken at the cutoff of the cycle in which it was written. -/
def takeAnnouncement (s : State) : State :=
  if s.cas.annReq ≠ some s.cyc then s
  else
    let s := { s with cas := { s.cas with annReq := none } }
    match s.announceCause with
    | some (cause, cid) => mcCause cause cid s
    | none => prepareChange ⟨s.rf Reg.CAS_MC_ARG 15 0, s.announcedCyc, s.units, true⟩ s

/-- The other participants of a change. -/
def State.others (s : State) (m : McPend) : List Nat := (List.range 4).filter (fun i => m.pmask.testBit i && i ≠ s.ownId)

/-- What participant i said last: STATE, cycle, MID, C. -/
def State.vote (s : State) (i : Nat) : Nat × Nat × Nat × Nat := kvGet (fun _ => (0, 0, 0, 0)) s.cas.votes i

/-- R291: a change prepared at the cutoff of C − 1 or later is not READY there. -/
def latePrepared (s : State) : State :=
  match s.cas.mc with
  | some m => if m.c ≤ s.cyc + 1 then abandon 5 (((s.others m).find? fun i => s.vote i ≠ (3, s.cyc, m.mid, m.c % 2 ^ 48)).getD s.ownId) s else s
  | none => s

/-- R290, R291: the pending change at a cutoff. -/
def changeCutoff (m : McPend) (s : State) : State :=
  let st := s.rf Reg.CAS_MC_STAT 2 0
  let own := s.csState = 5 && !(s.rb Reg.SYN_STAT 3)
  let lost := (s.others m).find? (fun i => match s.portTo i with | some p => (s.casPort p).slost | none => false)
  if !own then abandon 3 s.ownId s
  else match lost with
    | some i => abandon 3 i s
    | none =>
      let bad := (s.others m).find? (fun i => s.vote i ≠ (3, s.cyc, m.mid, m.c % 2 ^ 48))
      if s.cyc + 1 = m.c && (st ≠ 3 || bad.isSome) then abandon 5 (bad.getD s.ownId) s
      else if st = 1 && (s.others m).all (fun i => ((s.vote i).1 = 1 || (s.vote i).1 = 3) && (s.vote i).2.2.1 = m.mid) then
        setRf Reg.CAS_MC_STAT 2 0 3 s
      else s

/-- R290: what MODE records say of the change until the next cutoff. -/
def noteSaid (s : State) : State :=
  { s with cas := { s.cas with said := s.cas.mc.map fun m => (m, s.rf Reg.CAS_MC_STAT 2 0) } }

/-- The mode change at a cutoff. -/
def mcCutoff (s : State) : State :=
  if !s.casOn then s
  else
    let s := match s.cas.mc with | some m => changeCutoff m s | none => s
    let s := takeAnnouncement s
    noteSaid (match s.cas.mc, s.cas.annIn with
      | none, some m => latePrepared (prepareChange m s)
      | _, _ => s)

/-- R291: SLOST of the unit itself, found at a cycle start, abandons a change that is still pending. -/
def ownSlost (s : State) : State := onlyIf (s.rb Reg.SYN_STAT 3) (abandon 3 s.ownId) s

/-- R292: in the cycle after an abandonment too MABORT stands in every idle pair. -/
def abortNotices (s : State) : State :=
  onlyIf (s.cas.abortUntil = some s.cyc)
    (forAll (List.range 3) (fun p t => onlyIf (t.joined p) (emit (.casNotice p 0xA0)) t)) s

/-- R293: a change that has not been abandoned becomes active at the start of C. The spec names no code for
its event: the local code is free. -/
def mcCycleStart (s : State) : State :=
  match s.cas.mc with
  | none => s
  | some m =>
    if m.c ≠ s.cyc then s
    else
      let held := s.cas.held
      let s := { s with cas := { s.cas with mc := none, held := [], votes := [] } }
      let s := settleGroups [] (held.foldr stagedInsert []) s
      let s := setRf Reg.CAS_MC_STAT 2 0 5 (setRf Reg.CAS_MC_ACT 15 0 m.mid s)
      event (evCode 8 0 0 + s.freeBits 10) clsWarn 0 m.mid (s.cyc % 2 ^ 32) (useFree s)

/-! The cutoff (R35). -/

/-- Groups that a pending change holds back (R289). -/
def State.heldBack (s : State) : List (Nat × Nat) := if s.cas.mc.isSome then s.armedGroups else []

/-- R292: a change abandoned at a cutoff, be it in its preparation, releases its groups to the next one. -/
def State.heldHere (before after : State) : List (Nat × Nat) :=
  if before.cas.mc.isSome || after.cas.mc.isSome || before.cas.gone ≠ after.cas.gone then after.armedGroups else []

/-- R9, R36: the requests of block k that a cutoff takes: not those set in its own sysclk. -/
def State.dueRequests (s : State) (k : Nat) : Nat := (~~~((s.noted (Reg.CMT_REQ k)).ev)).toNat

/-- R35: at the cutoff of the present cycle. -/
def commitCutoff (s : State) : State :=
  let s := advanceNs (s.time.nextNs - 1000 * 2 ^ 32) s
  let s := netCutoff s
  let before := s
  let s := mcCutoff { s with cmt := { s.cmt with cut := some s.cyc, ended := none } }
  let skip := before.heldHere s
  keepAsked <| takeGroups ((List.range 17).flatMap (fun k => s.requested k (s.dueRequests k) skip)) s

/-- COMMIT_CUTOFF (R35). -/
def execCommitCutoff (s : State) : Host.Outcome State Fault Refusal :=
  done (onlyIf (s.sysOn && s.domOn 6 && s.running && s.cmt.cut ≠ some s.cyc && s.time.ns ≤ s.time.nextNs - 1000 * 2 ^ 32) commitCutoff s)

end Sys2Proof.Machine
end

