-- ==== Sys2Proof/Machine/Cycle.lean ====
section
/-! DEFINITION. The start of a network cycle, and how cycles begin and end (R22, R39, R231 to R235, R253). -/

namespace Sys2Proof.Machine

/-! The health word (R305). -/

/-- SCRUBOK (R397): every memory of a powered domain is scrubbed, and its last pass took no longer than PLIM ms. -/
def State.scrubOk (s : State) : Bool :=
  (List.range 8).all fun m => !(s.domOn (memDom m)) ||
    (s.ab (Reg.MEM_SCRUB m) 31 && kvGet (fun _ => 0) s.mi.passTime m ≤ s.passLim m)

/-- SIGOK: the partner's latest signatures equal the own ones of the same cycle. -/
def State.sigOk (s : State) : Bool :=
  (List.range 4).all fun p =>
    !(s.ab Reg.CAS_CFG (12 + p)) ||
      (match s.cas.psig with
       | some (c, sigs) => ((s.pod p).sigLog.find? fun x => x.1 % 2 ^ 32 = c % 2 ^ 32).any fun x => x.2 = sigs.getD p 0
       | none => false)

/-- RINGOK: the port that this member holds of every shared ring is up. -/
def State.ringOk (s : State) : Bool :=
  (List.range 4).all fun r =>
    match s.role r with
    | 1 => s.portUp (2 * r)
    | 2 => s.portUp (2 * r + 1)
    | _ => true

/-- Table 10-10: the health word over cycle e. -/
def State.healthWord (s : State) (e : Nat) : Nat :=
  b2n (!s.cas.lsx) + 2 * b2n (!s.mi.ueCycle) + 4 * b2n s.scrubOk + 8 * b2n s.sigOk
    + 16 * b2n (!s.cas.mirx || s.ab Reg.CAS_CFG 8)
    + 32 * b2n (s.rb Reg.SYN_STAT 0 && !(s.rb Reg.SYN_STAT 3) && !(s.rb Reg.SYN_STAT 1))
    + 64 * b2n s.ringOk + 128 * b2n (s.rf Reg.FIO_SUP 0 0 = 0 && !(s.rb Reg.FIO_SUP 2) && !s.fio.linkDown)
    + 256 * b2n (s.csState = 5) + 512 * b2n (!s.dsBad) + e % 65536 * 65536

/-- R305: a member of a pair forms its health word, and the cycle after PAIR counts on (CAS_PSTAT). -/
def pairCycle (e : Nat) (s : State) : State :=
  if s.casOn && s.paired then
    let gap := if (s.portTo s.partner).isSome && !s.cas.heard then s.cas.gap + 1 else 0
    incRf Reg.CAS_PSTAT 15 8 (setReg Reg.CAS_HEALTH (BitVec.ofNat 32 (s.healthWord e))
      { s with cas := { s.cas with gap := gap, heard := false } })
  else s

/-- What was gathered in the cycle that has ended makes place for the next one. -/
def newCycleFlags (s : State) : State :=
  { s with
    dsBad := false
    mi := { s.mi with ueCycle := false }
    cas := { s.cas with
      lsx := false, mirx := false, mirrored := s.cas.mirroring, mirroring := []
      ports := s.cas.ports.map fun (p, v) => (p, { v with now := [], fresh := false }) } }

/-! The blocks at a cycle start. -/

/-- R81: the issue slots of the cycle that has ended; those that a word of several takes from the cycle start on count
in the cycle that begins. -/
def latchIssued (p : Nat) (s : State) : State :=
  let more := ((podCtxs p).map fun n => s.slotsFrom n s.time.startTick).foldl (· + ·) 0
  let used := kvGet (fun _ => 0) s.le.issued p - more
  setReg (Reg.LE_ISSUE_CNT p) (BitVec.ofNat 32 (min used (2 ^ 22 - 1)))
    { s with le := { s.le with issued := kvPut (fun _ => 0) s.le.issued p more } }

/-- R144: a motion command that an idle application has left. -/
def motionCommand (n : Nat) (s : State) : State :=
  let g := s.pgAx n
  if g.cmdWait then putPg n { g with cmdWait := false, cmds := s.cyc :: g.cmds.take 3, cmdOwed := some s.cyc } s else s

/-- R163: SPOS of step pair p at the sampling instant. -/
def latchSteps (p : Nat) (s : State) : State :=
  match s.stepAxis p with
  | some n => writeAxisElem n 0x7F (s.step p).spos s
  | none => s

/-- R39, R41: the staged groups, the mode change due now, and what was staged when cycles stop. -/
def applyCycle (s : State) : State :=
  abortNotices (ownSlost (mcCycleStart (applyStaged { s with prev := s.actv })))

/-- R127: the reaction state of every axis. -/
def axesCycleStart (s : State) : State :=
  let s := forAll (List.range 256) axisCycleStart s
  { s with cas := { s.cas with modex := false } }

/-- What the start of the present cycle does in the blocks, after its commits. -/
def blocksCycleStart (s : State) : State :=
  let s := axesCycleStart (netCycleStart s.cyc s)
  let s := forAll (List.range 4) latchIssued s
  let s := forAll (List.range 256) motionCommand s
  let s := forAll (List.range 8) chanLatch s
  let s := forAll (List.range 8) latchSteps s
  acqCycleStart s

/-- The present instant is a cycle start: where it stands in ticks, and the next one in NS. -/
def markStart (s : State) : State :=
  { s with time := { s.time with
      startTick := s.tickUp, nextNs := s.nextStart
      starts := s.tickUp :: s.time.starts.filter (fun t => s.time.tick < t + 2 ^ 20) } }

/-- R272: a controller in FOLLOW that has locked runs COLD from the next cycle. -/
def followLocked (s : State) : State :=
  if s.csState = 6 && s.syn.stepped && 8 ≤ s.syn.lockCnt then enterCold false s else s

/-- R272: LOCK after 8 cycles in a row within LOCKLIM. -/
def followLock (s : State) : State :=
  if s.csState = 6 && s.syn.stepped && 8 ≤ s.syn.lockCnt then setRb Reg.SYN_STAT 0 true s else s

/-- CYCLE_START: NS reaches the next multiple of the cycle length. A step of NS here leaves the cycle unexecuted: the
next one starts at the multiple that the step puts ahead (R272); no offset counts from it (R85), and work of the
cycle that has ended keeps that cycle's configuration (R26). -/
def cycleStart (s : State) : State :=
  let e := s.cyc
  let s := followLocked (markStart (advanceNs s.time.nextNs (keepMisses s)))
  let before := s.syn.stepped
  let s := followLock (synEvaluate e s.cyc s)
  let s := newCycleFlags (pairCycle e s)
  if s.slt.stop then stopNet s
  else if s.syn.stepped && !before then { s with prev := s.actv, time := { s.time with starts := s.time.starts.drop 1 } }
  else blocksCycleStart (applyCycle s)

/-- CYCLE_START (R253). -/
def execCycleStart (s : State) : Host.Outcome State Fault Refusal :=
  done (onlyIf (s.loopOn && s.running && decide (s.clen ≠ 0)) cycleStart s)

/-! Start-up. -/

/-- R231: a STOP; withStart tells that START is set too. -/
def stopCmd (withStart : Bool) (s : State) : State :=
  if s.running then { s with slt := { s.slt with stop := true } }
  else
    let off := s.csState = 0
    let s := stopNet s
    if off && withStart then enterListen s else s

/-- STOP (R231). -/
def execCsStop (withStart : Bool) (s : State) : Host.Outcome State Fault Refusal :=
  done (regWrite Reg.SLT_CS_CMD (stopCmd withStart) s)

/-- R233: two cycle lengths in LISTEN have ended without a beacon: COLD at the next cycle start. -/
def listenTimeout (s : State) : State :=
  let s := advanceNs (s.slt.since + 2 * s.clenU) s
  let s := if s.time.ns % s.clenU = 0 then s else advanceNs s.nextStart s
  blocksCycleStart (applyCycle (newCycleFlags (enterCold true (markStart s))))

/-- LISTEN_TIMEOUT (R232, R233). -/
def execListenTimeout (s : State) : Host.Outcome State Fault Refusal :=
  done (onlyIf (s.loopOn && s.domOn 6 && decide (s.csState = 1) && s.ab Reg.SLT_CFG 4 && decide (s.clen ≠ 0)) listenTimeout s)

/-- End of the coldstart window after a collision, while no cycle start comes before it. -/
def State.windowEnds (s : State) : Option Nat :=
  match s.slt.window with
  | some w => if s.csState = 3 && s.slt.collided && w + s.clenU < s.time.nextNs then some (w + s.clenU) else none
  | none => none

/-- R234: BACKOFF is entered; copies that wait are applied (R39). A STOP that waits takes effect, since no cycles run
now (R231). -/
def enterBackoff (u : Nat) (s : State) : State :=
  let s := advanceNs u s
  if s.slt.stop then stopNet s
  else
  let s := setCs 2 s
  let s := setRf Reg.SLT_CS_STAT 23 16 (3 * (s.ownId + 1)) s
  applyStopped (dropCorrection { s with slt := { s.slt with since := s.time.ns, window := none, collided := false } })

/-- COLDSTART_WINDOW_END (R234). -/
def execColdstartWindowEnd (s : State) : Host.Outcome State Fault Refusal :=
  done (match s.windowEnds with
    | some u => onlyIf s.loopOn (enterBackoff u) s
    | none => s)

/-- Cycle lengths of BACKOFF that remain (SLT_CS_STAT). -/
def State.backoffLeft (s : State) : Nat :=
  if s.csState = 2 && s.clen ≠ 0 then
    let ns := if s.frozen then s.dbg.stopNs else s.time.ns
    (s.slt.since + 3 * (s.ownId + 1) * s.clenU - ns + (s.clenU - 1)) / s.clenU
  else 0

end Sys2Proof.Machine
end

