-- ==== Sys2Proof/Machine/Crypto.lean ====
section
/-! DEFINITION. The computations of the boot ROM's checks (R426): SHA-256 and the verification of an ECDSA
P-256 signature. The spec names the two; their constants and steps are those of FIPS 180-4 and FIPS 186-4
(log entry 40, PRESUMED). -/

namespace Sys2Proof.Machine

/-! SHA-256. -/

/-- First half of the round constants. -/
def shaK0 : List Word := [
  0x428A2F98, 0x71374491, 0xB5C0FBCF, 0xE9B5DBA5, 0x3956C25B, 0x59F111F1, 0x923F82A4, 0xAB1C5ED5,
  0xD807AA98, 0x12835B01, 0x243185BE, 0x550C7DC3, 0x72BE5D74, 0x80DEB1FE, 0x9BDC06A7, 0xC19BF174,
  0xE49B69C1, 0xEFBE4786, 0x0FC19DC6, 0x240CA1CC, 0x2DE92C6F, 0x4A7484AA, 0x5CB0A9DC, 0x76F988DA,
  0x983E5152, 0xA831C66D, 0xB00327C8, 0xBF597FC7, 0xC6E00BF3, 0xD5A79147, 0x06CA6351, 0x14292967]

/-- Second half of the round constants. -/
def shaK1 : List Word := [
  0x27B70A85, 0x2E1B2138, 0x4D2C6DFC, 0x53380D13, 0x650A7354, 0x766A0ABB, 0x81C2C92E, 0x92722C85,
  0xA2BFE8A1, 0xA81A664B, 0xC24B8B70, 0xC76C51A3, 0xD192E819, 0xD6990624, 0xF40E3585, 0x106AA070,
  0x19A4C116, 0x1E376C08, 0x2748774C, 0x34B0BCB5, 0x391C0CB3, 0x4ED8AA4A, 0x5B9CCA4F, 0x682E6FF3,
  0x748F82EE, 0x78A5636F, 0x84C87814, 0x8CC70208, 0x90BEFFFA, 0xA4506CEB, 0xBEF9A3F7, 0xC67178F2]

/-- Initial hash value. -/
def shaInit : List Word := [
  0x6A09E667, 0xBB67AE85, 0x3C6EF372, 0xA54FF53A, 0x510E527F, 0x9B05688C, 0x1F83D9AB, 0x5BE0CD19]

/-- Rotation to the right. -/
def rotr (x : Word) (n : Nat) : Word := (x >>> n) ||| (x <<< (32 - n))

/-- The next word of the message schedule from the last sixteen, newest first. -/
def shaNext (ws : List Word) : Word :=
  let a := ws.getD 14 0
  let b := ws.getD 1 0
  (rotr b 17 ^^^ rotr b 19 ^^^ (b >>> 10)) + ws.getD 6 0 + (rotr a 7 ^^^ rotr a 18 ^^^ (a >>> 3)) + ws.getD 15 0

/-- The schedule extended by n words, newest first. -/
def shaExtend : Nat → List Word → List Word
  | 0, ws => ws
  | n + 1, ws => shaExtend n (shaNext ws :: ws)

/-- One round on the eight working variables. -/
def shaRound (v : List Word) (k w : Word) : List Word :=
  match v with
  | [a, b, c, d, e, f, g, h] =>
    let t1 := h + (rotr e 6 ^^^ rotr e 11 ^^^ rotr e 25) + ((e &&& f) ^^^ (~~~e &&& g)) + k + w
    let t2 := (rotr a 2 ^^^ rotr a 13 ^^^ rotr a 22) + ((a &&& b) ^^^ (a &&& c) ^^^ (b &&& c))
    [t1 + t2, a, b, c, d + t1, e, f, g]
  | _ => v

/-- One block of sixteen words. -/
def shaBlock (h : List Word) (ws : List Word) : List Word :=
  let sched := (shaExtend 48 ws.reverse).reverse
  let v := (List.zip (shaK0 ++ shaK1) sched).foldl (fun v e => shaRound v e.1 e.2) h
  (List.zip h v).map fun e => e.1 + e.2

/-- Big-endian words of a list of bytes. -/
def beWords : List Nat → List Word
  | a :: b :: c :: d :: bs => BitVec.ofNat 32 (((a * 256 + b) * 256 + c) * 256 + d) :: beWords bs
  | _ => []

/-- The blocks of a padded message. -/
def shaBlocks : Nat → List Word → List Word → List Word
  | 0, h, _ => h
  | n + 1, h, ws => shaBlocks n (shaBlock h (ws.take 16)) (ws.drop 16)

/-- Bytes of a number, high byte first. -/
def beBytes (v : Nat) : Nat → List Nat
  | 0 => []
  | n + 1 => beBytes (v / 256) n ++ [v % 256]

/-- A number from bytes, high byte first. -/
def ofBytes (bs : List Nat) : Nat := bs.foldl (fun v b => v * 256 + b) 0

/-- SHA-256 of a list of bytes, as a number. -/
def sha256 (bs : List Nat) : Nat :=
  let n := bs.length
  let msg := bs ++ [0x80] ++ List.replicate ((119 - n % 64) % 64) 0 ++ beBytes (8 * n) 8
  (shaBlocks (msg.length / 64) shaInit (beWords msg)).foldl (fun v w => v * 2 ^ 32 + w.toNat) 0

/-! ECDSA on P-256. -/

/-- The prime of the field. -/
def p256P : Nat := 0xFFFFFFFF00000001000000000000000000000000FFFFFFFFFFFFFFFFFFFFFFFF

/-- The order of the group. -/
def p256N : Nat := 0xFFFFFFFF00000000FFFFFFFFFFFFFFFFBCE6FAADA7179E84F3B9CAC2FC632551

/-- The base point. -/
def p256G : Nat × Nat :=
  (0x6B17D1F2E12C4247F8BCE6E563A440F277037D812DEB33A0F4A13945D898C296,
   0x4FE342E2FE1A7F9B8EE7EB4A7C0F9E162BCE33576B315ECECBB6406837BF51F5)

/-- b ^ e modulo m, over at most n bits of e. -/
def powMod (m : Nat) : Nat → Nat → Nat → Nat
  | 0, _, _ => 1 % m
  | n + 1, b, e => (if e % 2 = 1 then b else 1) * powMod m n (b * b % m) (e / 2) % m

/-- Inverse modulo a prime. -/
def invMod (m a : Nat) : Nat := powMod m 256 (a % m) (m - 2)

/-- Sum of two points, `none` the point at infinity. -/
def ecAdd : Option (Nat × Nat) → Option (Nat × Nat) → Option (Nat × Nat)
  | none, q => q
  | p, none => p
  | some (x1, y1), some (x2, y2) =>
    if x1 = x2 && (y1 + y2) % p256P = 0 then none
    else
      let l := if x1 = x2 then 3 * (x1 * x1 + p256P - 1) * invMod p256P (2 * y1)
        else (y2 + p256P - y1) * invMod p256P (x2 + p256P - x1)
      let l := l % p256P
      let x3 := (l * l + 2 * p256P - x1 - x2) % p256P
      some (x3, (l * (x1 + p256P - x3) + p256P - y1) % p256P)

/-- k times a point, over n bits of k. -/
def ecMul : Nat → Nat → Option (Nat × Nat) → Option (Nat × Nat)
  | 0, _, _ => none
  | n + 1, k, p => ecAdd (if k % 2 = 1 then p else none) (ecMul n (k / 2) (ecAdd p p))

/-- The signature (r, s) of a hash verifies under a public key. -/
def ecdsaVerify (hash x y r s : Nat) : Bool :=
  if r = 0 || s = 0 || p256N ≤ r || p256N ≤ s then false
  else
    let w := invMod p256N s
    match ecAdd (ecMul 256 (hash * w % p256N) (some p256G)) (ecMul 256 (r * w % p256N) (some (x, y))) with
    | none => false
    | some (vx, _) => vx % p256N = r

end Sys2Proof.Machine
end

