-- ==== Sys2Proof/Machine/Pcr.lean ====
section
/-! DEFINITION. Power domains and states, clocks, supplies, resets and the watchdog (chapter 17). -/

namespace Sys2Proof.Machine

/-! What a domain loses when it is switched off or reset. -/

/-- Registers of the blocks that a test names return to their reset values (R11); copies staged for them
are dropped. -/
def resetBlocks (p : Nat → Bool) (s : State) : State :=
  let keep (e : Nat × Word) : Bool := !(p (blkOf e.1))
  { s with regs := s.regs.filter keep, actv := s.actv.filter keep, prev := s.prev.filter keep
           clk := { s.clk with notes := s.clk.notes.filter (fun e => !(p (blkOf e.1))) }
           staged := s.staged.filter (fun x => !(p x.blk))
           cas := { s.cas with held := s.cas.held.filter (fun x => !(p x.blk)) } }

/-- R382: the fields of SAF_STATE that reflect Husk: AGR, PERMIT and STATE. -/
def State.huskState (s : State) : Word := s.reg Reg.SAF_STATE &&& 0x000F0007

/-- R18, R382: what Husk holds over a reset of the logic die. -/
def SafSt.huskKeeps (v : SafSt) : SafSt :=
  { husk := v.husk, zeroAt := v.zeroAt, huskRise := v.huskRise, recs := v.recs, wdRef := v.wdRef, wdFirst := v.wdFirst
    stok := v.stok, runreq := v.runreq, tpFail := v.tpFail, pulse := v.pulse, pulseAt := v.pulseAt }

/-- R404: macro n belongs to a memory whose domain a reset of PD_CPU leaves powered. -/
def State.repairKept (s : State) (n : Nat) : Bool := memDom (memOfPart n) ≠ 1 && s.domOn (memDom (memOfPart n))

/-- R382, R404: PD_CPU is reset; what reflects Husk stays, and the repair state of memories that stay powered. -/
def resetCpu (s : State) : State :=
  let st := s.huskState
  let hc := s.reg Reg.SAF_HCHECK
  let mi := s.reg Reg.MEM_INIT
  let reps := ((List.range 56).filter s.repairKept).map (fun n => (Reg.MEM_REP n, s.reg (Reg.MEM_REP n)))
  let s := resetBlocks (fun k => blkDom k = 1) s
  let s := reps.foldl (fun t e => setReg e.1 e.2 t) (setReg Reg.MEM_INIT mi (setReg Reg.SAF_HCHECK hc (setReg Reg.SAF_STATE st s)))
  { s with
    le := {}, pods := [], ovrAlarm := [], dsBad := false, axes := [], pg := [], steps := [], chans := [], emus := []
    fio := { s.fio with heldBits := s.fio.heldBits.filter (fun e => blkOf e.1 ≠ 11) }
    saf := s.saf.huskKeeps
    mi := { scrubPos := s.mi.scrubPos, passStart := s.mi.passStart, replaced := s.mi.replaced,
            refreshRow := s.mi.refreshRow, refreshTick := s.mi.refreshTick, initUntil := s.mi.initUntil }
    evl := { boot := s.evl.boot }
    cmt := {}, fwIrq := [] }

/-- PD_POD_p is reset: its contexts and queue, with what LE_POD_STAT and LE_CTX_STAT show of them: no context is
active, and AXIS, PC and FLAGS stay those of its last graph (R81; that they outlast the domain is a DESIGN CHOICE,
log entry 210). Its match copy is empty until its DS_ group is applied again (DESIGN CHOICE, log entry 178). -/
def resetPod (p : Nat) (s : State) : State :=
  let s := { s with pods := kvPut (fun _ => {}) s.pods p {}
                    le := { s.le with writes := s.le.writes.filter (fun w => w.pod ≠ p) } }
  setRb (Reg.LE_POD_STAT p) 9 false (forAll (podCtxs p) (fun n t => putCtx n { t.ctx n with live := false, next := 0 } t) s)

/-- The comparators of the inputs live on VFIELD (R336): a reset of PD_FIELD clears counters and filtered
levels, not the raw levels. -/
def keepRaw : KV FinSt → KV FinSt
  | [] => []
  | (i, v) :: m => if v.raw then (i, { raw := true }) :: keepRaw m else keepRaw m

/-- R18, R350: what the supervisor keeps of the outputs when PD_FIELD goes off. -/
def keepOutputs (s : State) : State :=
  { s with fio := { s.fio with
    cmd := s.rf Reg.FIO_OUT 7 0, cfg := (List.range 8).map (fun k => s.act (Reg.FIO_OUT_CFG k)), latch := s.latches } }

/-- PD_FIELD is reset: every input reads 0, every output command is 0; the RO bits 4:0 of FIO_SUP stay
(R356), no input tracks (R338), and no flag that Marrow holds for FIO_ is delivered any more. -/
def resetField (s : State) : State :=
  let sup := s.rf Reg.FIO_SUP 4 0
  let s := onlyIf s.fieldOn keepOutputs s
  let s := { s with saf := { s.saf with riseAt := none, huskRise := none } }
  let s := forAll (List.range 16) (fun i t => onlyIf (t.rb Reg.FIO_IN_LVL i)
    (fun t => safLevel i false (setRb Reg.FIO_IN_LVL i false t)) t) s
  let s := resetBlocks (fun k => k = 10) s
  setRf Reg.FIO_SUP 4 0 sup { s with fio := { s.fio with
    ins := keepRaw s.fio.ins, thr1 := 2816000, thr3 := 2048000, heldBits := s.fio.heldBits.filter (fun e => blkOf e.1 ≠ 10) } }

/-- PD_NET is reset: the network is off, with what its chapter clears on that (R238). CLEN is at its reset value, so
cycles may have new numbers. -/
def resetNet (s : State) : State :=
  let cl := s.clen
  let s := resetBlocks (fun k => blkDom k = 6) (if s.csState = 0 then s else stopNet s)
  let s := useFree { s with net := { phase := s.free }, slt := {}, cas := {} }
  onlyIf (s.clen ≠ cl) renumber s

/-- The logic of domain d is reset. -/
def resetDomain (d : Nat) (s : State) : State :=
  match d with
  | 1 => resetCpu s
  | 2 => resetPod 0 s | 3 => resetPod 1 s | 4 => resetPod 2 s | 5 => resetPod 3 s
  | 6 => resetNet s
  | 7 => { (resetBlocks (fun k => k = 13) s) with hif := {} }
  | 8 => { (resetBlocks (fun k => k = 9) s) with acq := {} }
  | 9 => resetField s
  | _ => s

/-- R447: memory m loses its contents. -/
def loseMem (m : Nat) (s : State) : State :=
  let s := setRb Reg.MEM_INIT m false (clearMem m s)
  { s with mi := { s.mi with initUntil := kvPut (fun _ => 0) s.mi.initUntil m 0 } }

/-- Domain d is switched off; its memories are kept where RET says so and the state change retains them. -/
def powerOff (retain : Bool) (d : Nat) (s : State) : State :=
  if !(s.domOn d) then s
  else
    let s := forAll (List.range 8) (fun m t =>
      onlyIf (memDom m = d && !(retain && t.rb Reg.PCR_RET m && t.rb Reg.MEM_INIT m)) (loseMem m) t) s
    setRb Reg.PCR_PD_STAT d false (resetDomain d s)

/-- Domain d is switched on, with its registers at their reset values. The fuse map is applied to a retained memory
too (R402); refresh by the wheel begins with PD_ACQ (R396). -/
def powerOn (d : Nat) (s : State) : State :=
  let s := { s with fio := { s.fio with curAt := if d = 9 then s.mtick else s.fio.curAt }
                    mi := { s.mi with refreshTick := if d = 8 then s.time.tick else s.mi.refreshTick } }
  let s := setRb Reg.PCR_PD_STAT d true s
  forAll (List.range 8) (fun m t => onlyIf (memDom m = d && t.rb Reg.MEM_INIT m) (fuseMemory m) t) s

/-! Power states (R445 to R450). -/

/-- Table 17-1: domain d is on in state st, given the PD_CTL value in effect. -/
def domWanted (st pd d : Nat) : Bool :=
  match d with
  | 0 => true
  | 1 => st ≠ 3
  | 6 => st ≤ 1 && pd.testBit 6
  | 7 => st ≠ 3
  | 8 => st ≤ 1 && pd.testBit 8
  | 9 => st ≤ 2 && pd.testBit 9
  | d => st = 0 && pd.testBit d

/-- Domains brought to what a state wants: off in the order of R446, on in the reverse order. A memory whose
domain is off is lost where RET is 0 at the transition, and in RUN (R447). -/
def setDomains (st : Nat) (s : State) : State :=
  let pd := s.pcr.pdAct
  let order := [9, 8, 6, 2, 3, 4, 5, 7, 1]
  let s := forAll order (fun d => onlyIf (!(domWanted st pd d)) (powerOff true d)) s
  let s := forAll (List.range 8) (fun m t =>
    onlyIf (!(t.domOn (memDom m)) && (!(t.rb Reg.PCR_RET m) || (st = 0 && !(domWanted st pd (memDom m))))) (loseMem m) t) s
  forAll order.reverse (fun d => onlyIf (domWanted st pd d && !(s.domOn d)) (powerOn d)) s

/-- R446: a request for state tgt is refused. -/
def State.stateRefused (s : State) (tgt : Nat) : Bool :=
  s.cur = 4 || (tgt ≠ 0 && s.csState ≠ 0 && !(tgt = 1 && (s.cur = 1 || s.cur = 2))) || (s.cur = 3 && 2 ≤ tgt) ||
    (tgt = 3 && (s.rf Reg.FIO_OUT 7 0 ≠ 0 || s.rf Reg.SAF_STATE 17 16 ≠ 0 || s.rb Reg.PCR_CLK_STAT 5
      || (List.range 4).any (fun c => s.rb (Reg.HIF_DMA_STAT c) 31)))

/-- R446: a write of tgt to TGT. -/
def requestState (tgt : Nat) (s : State) : State :=
  let s := setRf Reg.PCR_PSTATE 1 0 tgt s
  if s.stateRefused tgt then setRb Reg.PCR_ERR 1 true s
  else if tgt = s.cur then s
  else
    let low := 2 ≤ tgt
    let s := { s with pcr := { s.pcr with trans := some (s.cur, tgt),
                                          heldCode := if low && s.cur < 2 then s.pcr.code else s.pcr.heldCode,
                                          code := if low then 10 else s.pcr.code } }
    onlyIf (tgt = 3) startForced (setRf Reg.PCR_PSTATE 18 16 4 s)

/-- POWER_STATE_REQUEST (R446). -/
def execPowerStateRequest (tgt : Fin 4) (s : State) : Host.Outcome State Fault Refusal :=
  done (regWrite Reg.PCR_PSTATE (requestState tgt) s)

/-- An event of the PCR_ or DBG_ block k: the spec says that it is logged and gives it no code, so the local
code is free. -/
def codelessEvent (k a : Nat) (s : State) : State :=
  event (evCode k 0 0 + s.freeBits 10) clsWarn 0 (s.reg a).toNat (s.cyc % 2 ^ 32) (useFree s)

/-- R459: what the VDD_IO warning does beyond its bits, while clocks run. -/
def warnNow (s : State) : State := startForced (irq .supply (codelessEvent 15 Reg.PCR_SUP_STAT s))

/-- R459, R477: a VDD_IO warning that came while no clock ran, and AOXF of a failure during a freeze, act as the clocks
start. -/
def takeWarning (s : State) : State :=
  let s := onlyIf s.pcr.heldAox (fun s => setRb Reg.PCR_ERR 5 true { s with pcr := { s.pcr with heldAox := false } }) s
  onlyIf s.pcr.heldViow (fun s => warnNow { s with pcr := { s.pcr with heldViow := false } }) s

/-- R445, R448: the transition in progress completes. -/
def transitionComplete (s : State) : State :=
  match s.pcr.trans with
  | none => s
  | some (src, tgt) =>
    let s := { s with pcr := { s.pcr with trans := none, pdAct := if tgt = 0 then s.rf Reg.PCR_PD_CTL 9 0 else s.pcr.pdAct } }
    let s := if src = 3 then { s with pcr := { s.pcr with procReset := some 0x20, kickAt := s.time.tick },
                                      evl := { s.evl with boot := some 0x20 }, syn := { s.syn with stopped := false } }
      else s
    let s := onlyIf (2 ≤ src && tgt < 2) avsFixed s
    let s := setDomains tgt s
    let s := setRb Reg.PCR_CLK_STAT 4 (decide (tgt ≤ 1)) (setRf Reg.PCR_CLK_STAT 3 2 (if tgt = 3 then 0 else 3) s)
    let s := onlyIf (tgt = 3) (fun s => setRf Reg.DBG_STAT 2 1 0
      { s with syn := { s.syn with stopped := true }, dbg := { s.dbg with stopping := false } }) s
    let s := setRf Reg.PCR_PSTATE 18 16 tgt s
    onlyIf (src = 3) takeWarning s

/-- TRANSITION_COMPLETE (R448): an entry to DORMANT waits for its forced flush. -/
def execTransitionComplete (s : State) : Host.Outcome State Fault Refusal :=
  done (onlyIf (!s.frozen && (s.pcr.trans.map (·.2) ≠ some 3 || s.evl.forced.isNone)) transitionComplete s)

/-- WAKE (R449). -/
def execPcrWake (src : Fin 4) (s : State) : Host.Outcome State Fault Refusal := done (wakeBy src s)

/-- R466: domain d may not be switched off now. -/
def State.pdRefused (s : State) (d : Nat) : Bool :=
  match d with
  | 6 => s.running
  | 9 => s.rf Reg.FIO_OUT 7 0 ≠ 0
  | d => 2 ≤ d && d ≤ 5 && s.ab (Reg.DS_POD_CTL (d - 2)) 1

/-- Table 17-4: a write of PCR_PD_CTL acts at once: in RUN, and in a transition on the way out of RUN, where every
domain is still as in RUN (DEDUCED, log entry 225). -/
def State.pdActs (s : State) : Bool :=
  match s.pcr.trans with | some (src, _) => src = 0 | none => s.cur = 0

/-- R466, Table 17-4: a write of w to PCR_PD_CTL. -/
def pdWrite (w : Word) (s : State) : State :=
  let old := s.rf Reg.PCR_PD_CTL 9 0
  let ds := [2, 3, 4, 5, 6, 8, 9]
  let no := ds.filter (fun d => old.testBit d && !(bit w d) && s.pdRefused d)
  let v := ds.foldl (fun m d => if bit w d || no.contains d then m + 2 ^ d else m) 0x83
  let s := onlyIf (!no.isEmpty) (setRb Reg.PCR_ERR 0 true) (setRf Reg.PCR_PD_CTL 9 0 v s)
  if !s.pdActs then s
  else
    let s := { s with pcr := { s.pcr with pdAct := v } }
    let s := forAll ds (fun d => onlyIf (!(v.testBit d)) (powerOff false d)) s
    forAll ds (fun d t => onlyIf (v.testBit d && !(t.domOn d)) (powerOn d) t) s

/-- PD_CTL_WRITE (R466). -/
def execPdCtlWrite (w : Word) (s : State) : Host.Outcome State Fault Refusal :=
  done (regWrite Reg.PCR_PD_CTL (pdWrite w) s)

/-! Supplies (R459). -/

/-- R459, Table 17-4, Table 18-5: VDD_IO falls below 3.05 V. -/
def supplyWarning (s : State) : State :=
  let s := orReg Reg.PCR_SUP_STAT 0x101 s
  let s := onlyIf (s.pcr.trans.map (·.2) = some 3) abortEntry s
  if s.sysOn then warnNow s else { s with pcr := { s.pcr with heldViow := true } }

/-- SUPPLY_WARNING (R459). -/
def execSupplyWarning (s : State) : Host.Outcome State Fault Refusal :=
  done (onlyIf (!(s.rb Reg.PCR_SUP_STAT 0)) supplyWarning s)

/-- SUPPLY_WARNING_CLEARED (R459): an erase that the warning has kept suspended resumes (R439). -/
def execSupplyWarningCleared (s : State) : Host.Outcome State Fault Refusal :=
  done (onlyIf (s.rb Reg.PCR_SUP_STAT 0) (fun s =>
    let s := setRb Reg.PCR_SUP_STAT 0 false s
    onlyIf (s.sysOn && s.evl.forced.isNone) resumeErase s) s)

/-! Resets (R460 to R464). -/

/-- R460: a power-on reset. Fuses, Marrow and the external flash keep what they hold. -/
def powerOnReset (s : State) : State :=
  let sup := s.rf Reg.FIO_SUP 4 0
  let st := s.huskState
  let hc := s.reg Reg.SAF_HCHECK
  let s := resetField s
  setRf Reg.FIO_SUP 4 0 sup (setReg Reg.SAF_HCHECK hc (setReg Reg.SAF_STATE st
    { State.reset with
      outs := s.outs, free := s.free, pending := s.pending, time := { mono := s.time.mono }
      fio := { vlog := s.fio.vlog, hbLast := s.fio.hbLast, hbAt := s.fio.hbAt, hbRow := s.fio.hbRow, linkDown := s.fio.linkDown
               held := s.fio.held, ins := s.fio.ins
               cmd := s.fio.cmd, cfg := s.fio.cfg, latch := s.fio.latch, drive := s.fio.drive, since := s.fio.since }
      saf := { s.saf.huskKeeps with huskRise := none }
      boot := { svnBurn := s.boot.svnBurn, revBurn := s.boot.revBurn, confA := s.boot.confA, confB := s.boot.confB }
      evl := {} }))

/-- POWER_ON_RESET (R460). -/
def execPowerOnReset (s : State) : Host.Outcome State Fault Refusal := done (powerOnReset s)

/-- R493: the cascade transmitters idle while reset is held: no port is joined any more. -/
def idlePorts (s : State) : State := forAll (List.range 3) (fun p => setRb (Reg.CAS_PORT_STAT p) 4 false) s

/-- R460, R476: a system reset with its cause. From a low state, or on the way into or out of one, the code held at the
entry is requested before the domains come up (R456: DEDUCED, log entry 226). -/
def systemReset (cause : Nat) (s : State) : State :=
  let low : Bool := 2 ≤ s.sleepState
  let s := onlyIf (s.csState ≠ 0) stopNet (idlePorts s)
  let s := forAll [9, 8, 6, 2, 3, 4, 5, 7, 1] (powerOff false) s
  let s := forAll (List.range 8) loseMem s
  let s := setReg Reg.PCR_PD_CTL 0x83 (setReg Reg.PCR_PSTATE 0 (setReg Reg.PCR_RST_CAUSE (BitVec.ofNat 32 cause) s))
  let s := setRf Reg.DBG_STAT 2 0 0 s
  { s with
    pcr := { code := s.fixedCode (if low then s.pcr.heldCode else s.pcr.code), heldCode := s.pcr.heldCode, kickAt := s.pcr.kickAt, strikes := s.pcr.strikes
             first := s.pcr.first, heldViow := s.pcr.heldViow, heldAox := s.pcr.heldAox }
    evl := { s.evl with boot := some cause }
    dbg := { s.dbg with stopping := false }
    syn := { s.syn with stopped := false } }

/-- SYSTEM_RESET (R460): RESET_N is low (Table 17-9). -/
def execSystemReset (s : State) : Host.Outcome State Fault Refusal := done (systemReset 2 s)

/-- SUPPLY_RESET (R459, Table 17-7): rails VDD_IO, VDD_CORE, VDD_SRAM, the two VDD_SERDES, VDD_18. -/
def execSupplyReset (rail : Fin 6) (s : State) : Host.Outcome State Fault Refusal :=
  done (if rail.val = 5 then powerOnReset s else systemReset (if rail.val = 0 then 3 else 4) s)

/-- R462, Table 17-10: the reset sequence; the straps are sampled (R405, R495), and the boot ROM kicks the watchdog
(R465). -/
def resetRelease (pins : Straps) (s : State) : State :=
  let s := setReg Reg.PCR_PD_STAT 0x83 s
  let s := setRf Reg.PCR_CLK_STAT 4 0 (if s.rb Reg.PCR_CLK_STAT 5 then 0x1D else 0x1F) s
  takeWarning { s with
    pcr := { s.pcr with inReset := false, first := false, kickAt := s.time.tick, hostSel := pins.hostSel, cid := pins.cid }
    hif := { s.hif with hstate := 0 }
    dbg := { s.dbg with ballSeen := !pins.freeze } }

/-- RESET_RELEASE (R462). -/
def execResetRelease (pins : Straps) (s : State) : Host.Outcome State Fault Refusal :=
  done (onlyIf s.pcr.inReset (resetRelease pins) s)

/-- A processor reset is to happen; a pending one keeps its cause. -/
def askProcReset (cause : Nat) (s : State) : State :=
  if s.pcr.procReset.isSome then s else { s with pcr := { s.pcr with procReset := some cause } }

/-- R461, R466: a write of w to PCR_RST_CMD. -/
def rstWrite (w : Word) (s : State) : State :=
  if fld w 31 16 ≠ 0x9A5D then accessError 15 Reg.PCR_RST_CMD true s
  else if bit w 1 then systemReset 6 s
  else onlyIf (bit w 0) (askProcReset 0x13) s

/-- RST_SYS (R461): a write with SYS set and the given KEY. -/
def execRstSys (key : BitVec 16) (s : State) : Host.Outcome State Fault Refusal :=
  done (regWrite Reg.PCR_RST_CMD (rstWrite (BitVec.ofNat 32 (key.toNat * 65536 + 2))) s)

/-- RST_CPU (R461): a write with CPU set and the given KEY. -/
def execRstCpu (key : BitVec 16) (s : State) : Host.Outcome State Fault Refusal :=
  done (regWrite Reg.PCR_RST_CMD (rstWrite (BitVec.ofNat 32 (key.toNat * 65536 + 1))) s)

/-- LOCKSTEP_MISMATCH (R371, Table 13-4): LSX, and a processor reset with RCAUSE 0x10. -/
def execLockstepMismatch (s : State) : Host.Outcome State Fault Refusal :=
  done (onlyIf (s.live 1) (fun s =>
    askProcReset 0x10 { (safFault 1 0 false s) with cas := { s.cas with lsx := true } }) s)

/-- Bytes of n words of tightly coupled memory as the processor reads them, with the logging of the reads
(R399); `none` if one is bad. -/
def tcmBody : Nat → Nat → State → Option (List Nat) × State
  | 0, _, s => (some [], s)
  | n + 1, a, s =>
    let (r, s) := readWord 1 0 a s
    if r.ok then
      let (bs, s) := tcmBody n (a + 8) s
      (bs.map (fun bs => (List.range 8).map (wordByte r.data) ++ bs), s)
    else (none, s)

/-- R463: the retained image body has the digest that PD_AO holds. -/
def imageKept (s : State) : Bool × State :=
  match s.boot.digest with
  | none => (false, s)
  | some d =>
    if s.memDone 0 then
      let (bs, s) := tcmBody (s.boot.len / 8) (memBase 0) s
      (bs.any (fun bs => sha256 bs == d), s)
    else (false, s)

/-- R417, R463: one owned mailbox is completed by a processor reset. -/
def resetMb (m : Nat) (s : State) : State :=
  onlyIf (s.owned m) (fun s => flagEvent 13 1 m clsWarn m Reg.HIF_MTO (hwComplete m s)) s

/-- R377: MAGIC of a confirmation copy. -/
def confMagic : Word := 0x46434B53

/-- R377: a copy is valid: MAGIC and CRC are correct. -/
def ConfCopy.ok (c : ConfCopy) : Bool :=
  c.magic = confMagic && c.crc.toNat = crc32Words [c.magic.toNat, c.count.toNat, c.value.toNat]

/-- R377: the copy that a rewrite with a count and a value leaves. -/
def confCopy (count value : Word) : ConfCopy :=
  ⟨confMagic, count, value, BitVec.ofNat 32 (crc32Words [confMagic.toNat, count.toNat, value.toNat])⟩

/-- R377: the copy whose value is the confirmed one; `none` without such a copy. -/
def confChosen (a b : ConfCopy) : Option ConfCopy :=
  match a.ok, b.ok with
  | true, true => if a.count = b.count then (if a.value = b.value then some a else none) else some (if a.count < b.count then b else a)
  | true, false => some a
  | false, true => some b
  | false, false => none

/-- R377: the bytes of a copy, little-endian. -/
def ConfCopy.bytes (c : ConfCopy) : List Nat :=
  [c.magic, c.count, c.value, c.crc].flatMap fun w => (List.range 4).map (wordByte w.toNat)

/-- R377: flash address of the first or second copy. -/
def confAddr (second : Bool) : Nat := if second then 0x401000 else 0x400000

/-- R377, R424: the operations that rewrite a copy for a task, its sector erased and its sixteen bytes programmed, with
words of HIF_FL_CMD that the spec does not give (PRESUMED, log entry 243); a rewrite that fails leaves the copy without a
valid content. -/
def confOps (task : Nat) (second ok : Bool) (c : ConfCopy) : List FlashOp :=
  [{ cmd := 0x00800000, addr := confAddr second, ladr := 0, task := some task, erase := true, conf := some (second, {}) },
   { cmd := 0x00801002, addr := confAddr second, ladr := 0, task := some task, bytes := c.bytes
     conf := some (second, if ok then c else {}) }]

/-- The number under which Glipor's start-up runs flash operations. -/
def startTask : Nat := 0x100

/-- R377: copy c replaces a copy of another count, or without a valid content, at start-up. -/
def confMatch (second : Bool) (c : ConfCopy) (s : State) : State :=
  let old := if second then s.boot.confB else s.boot.confA
  if old.ok && old.count = c.count then s else taskOps (confOps startTask second true c) s

/-- R376, R377: Glipor sets CONFIRM at its start-up and rewrites a copy that does not match; without a confirmed
value it logs an event of its own choosing. -/
def loadConfirm (s : State) : State :=
  match confChosen s.boot.confA s.boot.confB with
  | some c => setReg Reg.SAF_CONFIRM c.value (confMatch true c (confMatch false c s))
  | none => gliporEvent (setReg Reg.SAF_CONFIRM 0 s)

/-- R463: a processor reset. -/
def processorReset (cause : Nat) (s : State) : State :=
  let s := setRf Reg.PCR_RST_CAUSE 7 0 cause (setRf Reg.PCR_RST_CAUSE 23 16 (satAdd 8 (s.rf Reg.PCR_RST_CAUSE 23 16) 1) s)
  let recent := s.pcr.prAt.filter (fun t => s.mtick < t + 8000000000)
  let s := { s with pcr := { s.pcr with procReset := none, prAt := s.mtick :: recent } }
  if 2 ≤ recent.length then systemReset 8 s
  else
    let s := onlyIf (s.domOn 7) (forAll (List.range 32) resetMb) s
    let (kept, s) := imageKept s
    let hst := (s.hstateNow &&& 0xFFFF0000) ||| BitVec.ofNat 32 ((if kept then 2 else 0) + cause * 256)
    onlyIf kept loadConfirm { s with
      hif := { s.hif with queue := [], jobs := [], order := [], flashTasks := [], hstate := hst }
      fwIrq := []
      evl := { s.evl with boot := some cause }
      pcr := { s.pcr with awaitStage := some s.time.tick, kickAt := s.time.tick } }

/-- PROCESSOR_RESET (R463). -/
def execProcessorReset (s : State) : Host.Outcome State Fault Refusal :=
  done (match s.pcr.procReset with
    | some c => onlyIf (s.live 1) (processorReset c) s
    | none => s)

/-- RESTART_TIMEOUT (R464): no STAGE 3 within 500 ms of a processor reset. -/
def execRestartTimeout (s : State) : Host.Outcome State Fault Refusal :=
  done (match s.pcr.awaitStage with
    | some t => onlyIf (s.sysOn && 400000000 ≤ s.time.tick - t) (systemReset 8) s
    | none => s)

/-! Clocks and voltage (R455 to R457). -/

/-- CRYSTAL_FAILURE (R455). -/
def execCrystalFailure (s : State) : Host.Outcome State Fault Refusal :=
  done (systemReset 5 (setRb Reg.PCR_CLK_STAT 0 false s))

/-- R455: the always-on clock fails; in a freeze PCR_ERR shows it only afterwards (R477). -/
def aoFailure (s : State) : State :=
  let s := setRb Reg.PCR_CLK_STAT 5 true (setRb Reg.PCR_CLK_STAT 1 false s)
  if s.frozen then { s with pcr := { s.pcr with heldAox := true } } else setRb Reg.PCR_ERR 5 true s

/-- AO_CLOCK_FAILURE (R455): checked while the crystal runs. -/
def execAoClockFailure (s : State) : Host.Outcome State Fault Refusal :=
  done (onlyIf (s.rb Reg.PCR_CLK_STAT 0 && !(s.rb Reg.PCR_CLK_STAT 5)) aoFailure s)

/-- R456: one evaluation of the worst slack. -/
def avsEvaluate (mw : Nat) (s : State) : State :=
  let s := setRf Reg.PCR_AVS_STAT 23 16 mw s
  let c := s.pcr.code
  let n := if s.af Reg.PCR_AVS_CTL 15 8 < mw then s.pcr.aboveHi + 1 else 0
  let put (c n : Nat) (s : State) : State :=
    { s with pcr := { s.pcr with code := max 10 (min 50 c), aboveHi := n } }
  if mw < 8 then put 50 0 (setRb Reg.PCR_ERR 4 true s)
  else if mw < s.af Reg.PCR_AVS_CTL 7 0 then put (c + 2) 0 s
  else if 16 ≤ n then put (c - 1) 0 s
  else put c n s

/-- AVS_EVALUATE (R456). -/
def execAvsEvaluate (mworst : BitVec 8) (s : State) : Host.Outcome State Fault Refusal :=
  done (onlyIf (s.sysOn && s.ab Reg.PCR_AVS_CTL 31) (avsEvaluate mworst.toNat) s)

/-- R457: a request on VREQ_DA between start and acknowledge: the 8 bits of c, MSB first, and an odd parity bit. -/
def vreqBits (c : Nat) : List Bool :=
  let bs := (List.range 8).map (fun i => c.testBit (7 - i))
  bs ++ [decide (bs.count true % 2 = 0)]

/-- R457: a frame with up to two repetitions; `acks` says which attempts the regulator acknowledges. -/
def vreqFrame (acks : Nat) (s : State) : State :=
  let c := s.pcr.code
  let n := if acks.testBit 0 then 1 else if acks.testBit 1 then 2 else 3
  let s := forAll (List.range n) (fun _ => emitPins (.vreq (vreqBits c))) s
  if acks % 8 ≠ 0 then setRf Reg.PCR_AVS_STAT 7 0 c s
  else codelessEvent 15 Reg.PCR_ERR (setRb Reg.PCR_ERR 3 true s)

/-- VREQ_FRAME (R457), also before the first domain is on after DORMANT (R456). -/
def execVreqFrame (acks : BitVec 3) (s : State) : Host.Outcome State Fault Refusal :=
  done (onlyIf (s.sysOn || s.pcr.trans.map (·.1) = some 3) (vreqFrame acks.toNat) s)

/-! The watchdog (R465). -/

/-- A write to KEY in PCR_WDT_KICK. -/
def kick (key : Nat) (s : State) : State :=
  if key = 0x6B1D then { s with pcr := { s.pcr with kickAt := s.time.tick } } else accessError 15 Reg.PCR_WDT_KICK true s

/-- WDT_KICK (R465): the kick of Glipor's supervisor task, which kicks no longer in STAGE 4 (R420). -/
def execWdtKick (key : BitVec 16) (s : State) : Host.Outcome State Fault Refusal :=
  done (if s.domOn 7 && s.stage = 4 then s else regWrite Reg.PCR_WDT_KICK (kick key.toNat) s)

/-- R465: WDTO has passed since the last kick. -/
def State.kickLate (s : State) : Bool := s.af Reg.PCR_WDT_CTL 15 8 * 800000 ≤ s.time.tick - s.pcr.kickAt

/-- WATCHDOG_EXPIRY (R465): at the end of WDTO, or by the STRMAX-th strike within 1 s; the strikes stay, so that the
next one may expire it again (DEDUCED, log entry 127). -/
def execWatchdogExpiry (s : State) : Host.Outcome State Fault Refusal :=
  let late := s.kickLate
  done (onlyIf (s.live 1 && (late || s.pcr.struck)) (fun s =>
    askProcReset (if late then 0x11 else 0x12)
      { s with pcr := { s.pcr with kickAt := s.time.tick, struck := false } }) s)

/-! The always-on sequencer (R452). -/

/-- R452, Table 18-3: capture memory is kept by the always-on sequencer: retained with PD_ACQ off, and in a freeze. -/
def State.aoKeeps (s : State) : Bool :=
  s.memDone 7 && (if s.domOn 8 then s.frozen else s.rb Reg.PCR_RET 7)

/-- R452: one line of each of the 16 banks is scrubbed. -/
def aoScrub (s : State) : State :=
  let k := kvGet (fun _ => 0) s.mi.scrubPos 41
  let s := forAll (List.range 16) (fun b => forAll (List.range 8) (fun i =>
    scrubWord (memBase 7 + 64 * (4096 * b + k) + 8 * i))) s
  let nx := if k + 1 = 4096 then 0 else k + 1
  let s := { s with mi := { s.mi with scrubPos := kvPut (fun _ => 0) s.mi.scrubPos 41 nx } }
  onlyIf (nx = 0) (passDone 7) s

/-- R452: one burst: every bank refreshed, then a scrub under R394, which EN of MEM_SCRUB_7 enables. -/
def aoRefresh (s : State) : State := onlyIf (s.ab (Reg.MEM_SCRUB 7) 31) aoScrub s

/-- ALWAYS_ON_REFRESH (R452). -/
def execAlwaysOnRefresh (s : State) : Host.Outcome State Fault Refusal := done (onlyIf s.aoKeeps aoRefresh s)

end Sys2Proof.Machine
end

