-- ==== Sys2Proof/Machine/Bus.lean ====
section
/-! DEFINITION. Accesses of the control processor and the debug port to the map of Table 1-4 (R7 to R10,
R27 to R33, R43): what each register reads as and what a write to it does, the memories, aborts. -/

namespace Sys2Proof.Machine

/-- What an address names. -/
def State.dest (s : State) (a : Nat) : BusDest :=
  if inWindows a then (if s.domOn (blkDom (blkOf a)) then .reg (blkOf a) else .regOff (blkOf a))
  else if 0x50000000 ≤ a && a < 0x50010000 then (if s.domOn 7 then .box else .boxOff)
  else match memOf a with
    | none => .hole
    | some m => if s.domOn (memDom m) && s.memDone m then .mem m else .memOff

/-! Reads. -/

/-- Milliseconds to the watchdog's expiry (R465). -/
def State.wdtRemain (s : State) : Nat :=
  let wdto := s.af Reg.PCR_WDT_CTL 15 8
  wdto - min wdto ((s.time.tick - s.pcr.kickAt) / 800000)

/-- Registers whose value follows from straps, fuses or other state: their bits as they read. The processor's
registers read as at the stop of a freeze, and 0 outside one (R479). -/
def State.derivedReg (s : State) (k off : Nat) : Option Nat :=
  match k, off with
  | 6, 0x14 => some (setFld (s.reg Reg.SLT_CS_STAT) 23 16 s.backoffLeft).toNat
  | 7, 0x40 => some (s.nsNow % 2 ^ 32)
  | 8, 0 => some s.ownId
  | 10, 0x104 => some (s.rf Reg.FIO_OUT 7 0)
  | 10, 0x108 => some (s.rf Reg.FIO_OUT 7 0)
  | 13, 0 => some ((s.reg Reg.HIF_CFG).toNat % 2 ^ 31 + b2n s.hostSel * 2 ^ 31)
  | 15, 0 => some (0x2560B100 + b2n Config.grade)
  | 15, 0x68 => some (min 15 s.strikesNow.length * 256 + s.wdtRemain)
  | 16, 4 => some (fld (s.reg Reg.DBG_STAT) 3 0 + 16 * b2n Config.dbgLock)
  | 16, o => if 0x100 ≤ o && o < 0x200 then some (if s.frozen then (s.dbg.cpu.getD ((o - 0x100) / 4) 0).toNat else 0) else none
  | _, _ => none

/-- Registers that show what the model leaves free: the output currents (Table 12-4), 0 until
their first 1 ms mean. -/
def State.freeReg (s : State) (k off : Nat) : Option Nat :=
  if k = 10 && 0x140 ≤ off && off < 0x160 then some (if s.marrowReached (s.mtick - s.fio.curAt) 800000 then 12 else 0)
  else none

/-- R200: the receiver's settings as they are when NET_PORT_STAT is read; in a freeze as at the stop (R477). -/
def freshReg (k off : Nat) (s : State) : State :=
  if !s.frozen && k = 5 && 0x400 ≤ off && off < 0x480 && off % 16 = 4 then
    let p := (off - 0x400) / 16
    adaptPort p (s.ab (Reg.NET_PORT_CTL p) 7) s
  else s

/-- A register as a read returns it, with what a free value uses up (R9, R10). -/
def peekReg (a : Nat) (s : State) : Nat × State :=
  let s := freshReg (blkOf a) (offOf a) s
  match regRow a with
  | none => (0, s)
  | some (r, _) =>
    let k := blkOf a
    let off := offOf a
    match s.freeReg k off with
    | some w => (s.freeBits w, useFree s)
    | none =>
      match s.derivedReg k off with
      | some v => ((BitVec.ofNat 32 v &&& readMask r).toNat, s)
      | none => ((s.reg a &&& readMask r).toNat, s)

/-- The RC fields of the register at a address. -/
def rcMask (a : Nat) : Word :=
  match regRow a with
  | some (r, _) => rowMask (fun f => decide (f.acc = .rc)) r.flds
  | none => 0

/-- R9: what a read of the register at a returns of the value v: an RC field without what arrived in this
sysclk. -/
def State.rcValue (s : State) (a : Nat) (v : Nat) : Nat :=
  let n := s.noted a
  let m := rcMask a &&& n.upd
  ((BitVec.ofNat 32 v &&& ~~~m) ||| (n.was &&& m)).toNat

/-- R9: the RC fields of a register clear, but for what arrived in this sysclk. -/
def clearRc (a : Nat) (s : State) : State :=
  let m := rcMask a
  if m = 0 then s
  else
    let n := s.noted a
    let s := setReg a ((s.reg a &&& ~~~m) ||| (n.ev &&& m)) s
    if n.upd = 0 then s
    else { s with clk := { s.clk with notes := kvPut (fun _ => {}) s.clk.notes a { n with was := n.was &&& ~~~m } } }

/-- A processor read of a register: latched time first (R254), the queue's next entry (R414), RC fields. -/
def readReg (a : Nat) (s : State) : Nat × State :=
  if a = Reg.HIF_DBQ then dbqTake s
  else
    let s := onlyIf (a = Reg.SYN_TIME_LO) timeLatch s
    let (v, s) := peekReg a s
    (s.rcValue a v, clearRc a s)

/-! Writes. -/

/-- R43: DIRTY of every group that register i of a row has shadows of. -/
def markDirty (k : Nat) (r : RegSpec) (i : Nat) (s : State) : State :=
  forAll r.flds (fun f t =>
    match fldGroup f i with
    | some g => orReg (Reg.CMT_DIRTY k) (2 ^ g) t
    | none => t) s

/-- R9, R32: a write as the access codes of the fields say. A hardware update of a RW field and a hardware
set of a W1C bit in the same sysclk win over it. A register with shadowed fields keeps written
reserved bits in its shadow, where its group's check finds them (R37). -/
def storeReg (a : Nat) (r : RegSpec) (i : Nat) (w : Word) (s : State) : State :=
  let n := s.noted a
  let rw := rowMask (fun f => decide (f.acc = .rw)) r.flds &&& ~~~n.upd
  let keep := if shadowMask r = 0 then rw else rw ||| ~~~(definedMask r)
  let c := rowMask (fun f => decide (f.acc = .w1c)) r.flds &&& ~~~n.ev
  let t := rowMask (fun f => decide (f.acc = .w1s)) r.flds
  let old := s.reg a
  let v := (old &&& ~~~keep) ||| (w &&& keep)
  markDirty (blkOf a) r i (setReg a ((v &&& ~~~(w &&& c)) ||| (w &&& t)) s)

/-- SLT_CS_CMD: STOP wins over START (R231). -/
def csCmd (w : Word) (s : State) : State :=
  if bit w 1 then stopCmd (bit w 0) s else onlyIf (bit w 0) startCmd s

/-- SLT_GRANT_r: more than one of its three orders is an access error. -/
def grantCmd (r : Nat) (w : Word) (s : State) : State :=
  match fld w 31 29 with
  | 4 => answerClaim r (some (fld w 6 0)) s
  | 2 => answerClaim r none s
  | 1 => wantRelease r (fld w 6 0) s
  | 0 => s
  | _ => accessError 6 (Reg.SLT_GRANT r) true s

/-- NET_RING_CMD_r (R222, R239). -/
def ringCmd (r : Nat) (w : Word) (s : State) : State :=
  onlyIf (bit w 1) (probeRound r) (onlyIf (bit w 0) (restoreOrder r) s)

/-- CAS_MC_CMD (R288, R291). -/
def mcCmd (w : Word) (s : State) : State :=
  if !s.casOn then s
  else
    onlyIf (bit w 0) announce (onlyIf (bit w 1) (abandon 8 s.ownId) s)

/-- ACQ_SQ_CMD (R320, R325). -/
def sqCmd (w : Word) (s : State) : State :=
  { s with acq := { s.acq with arm := s.acq.arm || bit w 0, stop := s.acq.stop || bit w 1 } }

/-- A write to FIO_OUT_FLT: what the channels feel at that moment is free. -/
def faultWrite (w : Word) (s : State) : State :=
  let v := s.freeBits 24
  faultClear w (v % 256) (v / 256 % 256) (v / 65536) (useFree s)

/-- EVL_FLWP may be written while FLEN is 0 only. -/
def flwpWrite (w : Word) (s : State) : State :=
  if s.flen then accessError 14 Reg.EVL_FLWP true s else setReg Reg.EVL_FLWP w s

/-- Registers whose write acts: the effect of a write of w to register i of the row at an offset of block k. -/
def actWrite (k off i : Nat) (w : Word) : Option (State → State) :=
  match k, off with
  | 2, 0x1000 => some (onlyIf (bit w 0) (fun t => putAx i { t.ax i with ack := true } t))
  | 3, 0x2800 => some (pgTapp i (fld w 14 0) (bit w 31))
  | 5, 0x4 => some (ringCmd i w)
  | 6, 0x10 => some (csCmd w)
  | 6, 0x21C => some (grantCmd i w)
  | 7, 0x5C => some (onlyIf (bit w 0) tset)
  | 8, 0x28 => some (mcCmd w)
  | 9, 0x1C => some (sqCmd w)
  | 10, 0x60 => some (supCmd w)
  | 10, 0x100 => some (outBits (fld w 7 0))
  | 10, 0x104 => some (fun s => outBits (s.rf Reg.FIO_OUT 7 0 ||| fld w 7 0) s)
  | 10, 0x108 => some (fun s => outBits (clearBits (s.rf Reg.FIO_OUT 7 0) (fld w 7 0)) s)
  | 10, 0x134 => some (faultWrite w)
  | 11, 0x48 => some (safCmd w)
  | 11, 0x58 => some (pfmFold (fld w 15 0))
  | 11, 0x5C => some (onlyIf (bit w 0) pfmEnd)
  | 12, 0xE0 => some (wzero w)
  | 12, 0xE4 => some (onlyIf (bit w 31) (srepGo w))
  | 13, 0x44 => some (faccWrite (fld w 4 0) (fld w 31 16))
  | 13, 0x48 => some (onlyIf (bit w 31) (fdoneWrite (fld w 4 0)))
  | 13, 0x10C => some (dmaCtl i w)
  | 13, 0x200 => some (flashCmd w)
  | 14, 0x10 => some (flwpWrite w)
  | 14, 0x20 => some (onlyIf (bit w 0) startForced)
  | 14, 0x30 => some (fwevWrite w)
  | 15, 0x8 => some (rstWrite w)
  | 15, 0x10 => some (requestState (fld w 1 0))
  | 15, 0x14 => some (pdWrite w)
  | 15, 0x64 => some (kick (fld w 15 0))
  | k, 0xFF10 => some (requestBatch [(k, w.toNat)])
  | _, _ => none

/-- R8: a write of w to register i of the row at an offset of block k of which the spec says that it is an access
error: a wrong KEY, a command with two orders, TSET while cycles run, a word that may not be cleared, EVL_FLWP
with FLEN 1. -/
def State.badWrite (s : State) (k off : Nat) (w : Word) : Bool :=
  match k, off with
  | 6, 0x21C => decide (1 < [bit w 29, bit w 30, bit w 31].count true)
  | 7, 0x5C => bit w 0 && s.running
  | 11, 0x48 => bit w 0 && bit w 1
  | 12, 0xE0 => !(s.mayClear (w.toNat / 8 * 8))
  | 14, 0x10 => s.flen
  | 15, 0x8 => fld w 31 16 ≠ 0x9A5D
  | 15, 0x64 => fld w 15 0 ≠ 0x6B1D
  | _, _ => false

/-- A write of a whole word to the register at a of a block that is on (R30, R33). -/
def writeReg (a : Nat) (w : Word) (s : State) : State :=
  match regRow a with
  | none => accessError (blkOf a) a true s
  | some (r, i) =>
    match actWrite (blkOf a) r.off i w with
    | some f => f s
    | none => storeReg a r i w s

/-! The processor. -/

/-- R28, R398: an abort is logged; its arguments are not stated. -/
def abortEvent (instr : Bool) (s : State) : State :=
  event (evCode 0x1D (b2n instr) 0) clsFault 0 (s.freeBits 32) (s.cyc % 2 ^ 32) (useFree s)

/-- R309, R484: an access of the processor to capture memory waits for its next slot, and has it; `none`
if the wheel gives it no slot. The debug port reaches it at any time while sysclk is stopped (R470, R473). -/
def procSlot (s : State) : Option State :=
  if !s.sysOn then some s
  else
    (s.nextSlot 3 s.acq.slotP).map fun k =>
      let s := advanceTo (4 * k) s
      { s with acq := { s.acq with slotP := k } }

/-- A read of a memory word by the processor. -/
def procMem (a : Nat) (s : State) : Option Nat × State :=
  let ((v, ok), s) := read32 1 0 a s
  if ok then (some v, s) else (none, abortEvent false s)

/-- A processor read of the word at a: `none` if it aborts, or if it waits for a slot
of capture memory that never comes (R28, R31, R309, R393, R398). -/
def procRead (a : Nat) (s : State) : Option Nat × State :=
  match s.dest a with
  | .reg _ => let (v, s) := readReg a s; (some v, s)
  | .regOff k => (some 0, accessError k a false s)
  | .box =>
    if barStored (a - 0x50000000) then
      if !s.storedOn then (some 0, s)
      else
        let ((v, ok), s) := read32 1 0 (barBase + (a - 0x50000000)) s
        if ok then (some v, s) else (none, abortEvent false s)
    else (some (s.barWord false (a - 0x50000000)), s)
  | .boxOff => (some 0, accessError 13 a false s)
  | .mem 7 => match procSlot s with
    | some s => procMem a s
    | none => (none, s)
  | .mem _ => procMem a s
  | .memOff => (some 0, accessError 12 a false s)
  | .hole => (none, abortEvent false s)

/-- A processor write of the bytes that be enables of the word at a: whether it aborts, and the state. A
debug write passes mailbox ownership (R470); a pea's write to the element in the same tick wins (R55). -/
def procWrite (debug : Bool) (a : Nat) (be : Nat) (w : Word) (s : State) : Bool × State :=
  let b := a / 4 * 4
  match s.dest b with
  | .reg k => (false, if a % 4 ≠ 0 || be % 16 ≠ 15 then accessError k a true s else writeReg a w s)
  | .regOff k => (false, accessError k a true s)
  | .box => (false, windowWrite debug (b - 0x50000000) w be s)
  | .boxOff => (false, accessError 13 a true s)
  | .mem 7 => (false, match procSlot s with
    | some s => writeLanes b w.toNat be s
    | none => s)
  | .mem 8 => (true, s)
  | .mem _ => (false, onlyIf (!s.peaHit b) (writeLanes b w.toNat be) s)
  | .memOff => (false, accessError 12 a true s)
  | .hole => (true, s)

/-- A processor write, with the abort that it raises logged. -/
def procStore (a be : Nat) (w : Word) (s : State) : State :=
  let (bad, s) := procWrite false a be w s
  onlyIf bad (abortEvent false) s

/-- REGISTER_WRITE (R8, R9, R30 to R33): a processor write to the register windows. -/
def execRegisterWrite (addr : Word) (be : BitVec 4) (w : Word) (s : State) : Host.Outcome State Fault Refusal :=
  done (onlyIf (s.cpuOn && inWindows addr.toNat) (procStore addr.toNat be.toNat w) s)

/-- RC_FIELD_READ (R8, R9, R30, R31): a processor read of the register windows; the addressed bytes leave. -/
def execRcFieldRead (addr : Word) (be : BitVec 4) (s : State) : Host.Outcome State Fault Refusal :=
  done (onlyIf (s.cpuOn && inWindows addr.toNat) (fun s =>
    let (v, s) := procRead (addr.toNat / 4 * 4) s
    emit (.value (BitVec.ofNat 32 (v.getD 0) &&& laneMask be.toNat).toNat) s) s)

/-- PROCESSOR_STORE (R390, R398): a processor write to the memories or the mailbox window. -/
def execProcessorStore (addr : Word) (be : BitVec 4) (w : Word) (s : State) : Host.Outcome State Fault Refusal :=
  done (onlyIf (s.cpuOn && !(inWindows addr.toNat)) (procStore addr.toNat be.toNat w) s)

/-! Aborts. -/

/-- R420: Glipor writes STAGE 4, sets HNOTE bit 1 and logs the cause by an event of its own choosing. -/
def enterStage4 (s : State) : State :=
  gliporNotes 1 (putHstate (setFld s.hstateNow 3 0 4) s)

/-- R420: an abort has struck a task other than the safety task and the recovery task, in STAGE 2 or 3. -/
def ordinaryAbort (s : State) : State := onlyIf (s.stage = 2 || s.stage = 3) enterStage4 s

/-- R28, R398: the access raises an abort. -/
def State.aborts (s : State) (kind : AccessKind) (a : Nat) : Bool :=
  match s.dest a, kind with
  | .hole, _ => true
  | .mem m, .fetch => (m ≠ 0 && m ≠ 8) || !(s.decodeAt a).ok
  | .mem m, .store => m = 8
  | .mem _, .load => !(s.decodeAt a).ok
  | .memOff, .fetch => !(inTcm a)
  | .box, .load => barStored (a - 0x50000000) && s.storedOn && !(s.decodeAt (barBase + (a - 0x50000000))).ok
  | _, .fetch => true
  | _, _ => false

/-- An access that aborts, with the logging of the read that it makes (R399). -/
def abortAccess (kind : AccessKind) (a : Nat) (s : State) : State :=
  match kind with
  | .fetch =>
    match s.dest a with
    | .mem m => abortEvent true (if m = 0 || m = 8 then (readWord 0 0 a s).2 else s)
    | _ => abortEvent true s
  | .load => (procRead a s).2
  | .store => procStore a 15 0 s

/-- PROCESSOR_ABORT (R28, R398, R420): `ordinary` tells that the access was made by a Glipor task other than
the safety task and the recovery task. -/
def execProcessorAbort (addr : Word) (kind : AccessKind) (ordinary : Bool) (s : State) :
    Host.Outcome State Fault Refusal :=
  let a := addr.toNat / 4 * 4
  done (onlyIf (s.cpuOn && s.aborts kind a) (fun s =>
    onlyIf (ordinary && s.domOn 7) ordinaryAbort (abortAccess kind a s)) s)

end Sys2Proof.Machine
end

