-- ==== Sys2Proof/Machine/Boot.lean ====
section
/-! DEFINITION. Firmware images and the boot ROM (R424 to R427). -/

namespace Sys2Proof.Machine

/-! Images (R425). -/

/-- Byte i of an image; what lies beyond its end is erased flash. -/
def imgByte (img : List Nat) (i : Nat) : Nat := img.getD i 0xFF

/-- Little-endian word at byte i. -/
def imgWord (img : List Nat) (i : Nat) : Nat :=
  imgByte img i + 256 * imgByte img (i + 1) + 65536 * imgByte img (i + 2) + 2 ^ 24 * imgByte img (i + 3)

/-- n bytes from byte i. -/
def imgBytes (img : List Nat) (i n : Nat) : List Nat := (List.range n).map fun k => imgByte img (i + k)

/-- SVN, BUILD, LEN, ENTRY and KSLOT of an image. -/
def imgSvn (img : List Nat) : Nat := imgWord img 4
def imgBuild (img : List Nat) : Nat := imgWord img 8
def imgLen (img : List Nat) : Nat := imgWord img 12
def imgEntry (img : List Nat) : Nat := imgWord img 16
def imgKslot (img : List Nat) : Nat := imgByte img 20

/-- The anti-rollback counter (R426). -/
def State.svnCount (s : State) : Nat := max Config.svnFuse s.boot.svnBurn

/-- Key slots programmed, as KPROG. -/
def keysProgrammed : Nat := 1 + 2 * Config.keyProg.toNat

/-- Key slots revoked, as KREV. -/
def State.keysRevoked (s : State) : Nat := Config.revFuse.toNat ||| s.boot.revBurn

/-- R426: the hash over which the signature runs. -/
def imgHash (img : List Nat) : Nat := sha256 (imgBytes img 0 0x60 ++ imgBytes img 256 (imgLen img))

/-- R426: the first check before that of the signature that an image fails, 0 for none: the header decides it. -/
def State.headCause (s : State) (img : List Nat) : Nat :=
  let len := imgLen img
  let k := imgKslot img
  if imgWord img 0 ≠ 0x52504C47 then 1
  else if len % 8 ≠ 0 || len < 8 || 1572864 < len || len ≤ imgEntry img then 2
  else if 3 < k || !(keysProgrammed.testBit k) || s.keysRevoked.testBit k then 3
  else if sha256 (imgBytes img 0x20 64) ≠ (Config.keyHash k).toNat then 4
  else if imgSvn img < s.svnCount then 5
  else 0

/-- R426: the first check that an image fails, 0 for none. -/
def State.imgCause (s : State) (img : List Nat) : Nat :=
  let num (i : Nat) : Nat := ofBytes (imgBytes img i 32)
  if s.headCause img ≠ 0 then s.headCause img
  else if !(ecdsaVerify (imgHash img) (num 0x20) (num 0x40) (num 0x60) (num 0x80)) then 6
  else 0

/-- R426: cause of a slot, 7 where it could not be read. -/
def State.slotCause (s : State) (img : Option (List Nat)) : Nat :=
  match img with
  | some i => s.imgCause i
  | none => 7

/-- R426: image a goes before image b, which lies in the later slot. -/
def imgFirst (a b : List Nat) : Bool :=
  imgSvn b < imgSvn a || (imgSvn a = imgSvn b && imgBuild b ≤ imgBuild a)

/-- The fields of HIF_BOOT that follow from fuses. -/
def State.bootFuses (s : State) : Nat :=
  s.svnCount % 128 * 2 ^ 12 + keysProgrammed * 2 ^ 8 + s.keysRevoked % 16 * 2 ^ 4

/-- HIF_BOOT shows the fuses as they are. -/
def showFuses (s : State) : State :=
  setReg Reg.HIF_BOOT (BitVec.ofNat 32 (s.rf Reg.HIF_BOOT 27 19 * 2 ^ 19 + s.bootFuses + s.rf Reg.HIF_BOOT 3 0)) s

/-- Stores the body of an image in tightly coupled memory, in whole words (R425). -/
def storeBody (a : Nat) : Nat → List Nat → State → State
  | 0, _, s => s
  | n + 1, bs, s =>
    let w := (List.range 8).foldl (fun v i => v + bs.getD i 0xFF * 256 ^ i) 0
    storeBody (a + 8) n (bs.drop 8) (storeWord a w false s)

/-! Starting. -/

/-- STAGE and RCAUSE of HSTATE (R461). -/
def setStage (st : Nat) (s : State) : State :=
  let x := setFld (setFld s.hif.hstate 3 0 st) 15 8 (s.rf Reg.PCR_RST_CAUSE 7 0)
  { s with hif := { s.hif with hstate := x } }

/-- An authenticated image starts: HIF_BOOT names it, PD_AO holds its digest, Glipor is in STAGE 2. -/
def startImage (img : List Nat) (slot : Nat) (host : Bool) (ca cb : Nat) (s : State) : State :=
  let body := imgBytes img 256 (imgLen img)
  let s := setReg Reg.HIF_BOOT (BitVec.ofNat 32 (cb * 2 ^ 24 + ca * 2 ^ 20 + s.bootFuses + b2n host * 8 + slot * 4
    + imgKslot img)) s
  let s := { s with
    boot := { s.boot with svn := imgSvn img, build := imgBuild img, entry := imgEntry img, len := imgLen img,
                          digest := some (sha256 body) }
    pcr := { s.pcr with kickAt := s.time.tick } }
  loadConfirm (setStage 2 s)

/-- R426, R427: the boot ROM has read both slots; `none` is a read failure. -/
def imageBoot (a b : Option (List Nat)) (s : State) : State :=
  let ca := s.slotCause a
  let cb := s.slotCause b
  let go (img : List Nat) (slot : Nat) (s : State) : State :=
    startImage img slot false ca cb (storeBody (memBase 0) (imgLen img / 8) (imgBytes img 256 (imgLen img)) s)
  match a, b, decide (ca = 0), decide (cb = 0) with
  | some x, some y, true, true => if imgFirst x y then go x 0 s else go y 1 s
  | some x, _, true, _ => go x 0 s
  | _, some y, _, true => go y 1 s
  | _, _, _, _ =>
    let s := setReg Reg.HIF_BOOT (BitVec.ofNat 32 (cb * 2 ^ 24 + ca * 2 ^ 20 + s.bootFuses)) s
    setStage 1 { s with boot := { s.boot with loaded := 0 }, pcr := { s.pcr with kickAt := s.time.tick } }

/-- IMAGE_BOOT (R425, R426): in STAGE 0, tightly coupled memory initialised. -/
def execImageBoot (a b : Option (List (BitVec 8))) (s : State) : Host.Outcome State Fault Refusal :=
  done (onlyIf (s.cpuOn && s.hostOn && decide (s.stage = 0))
    (imageBoot (a.map (·.map (·.toNat))) (b.map (·.map (·.toNat)))) s)

end Sys2Proof.Machine
end

