-- ==== Sys2Proof/Machine/Dbg.lean ====
section
/-! DEFINITION. The debug port and FREEZE (chapter 18). -/

namespace Sys2Proof.Machine

/-! Instructions (Table 18-1). -/

/-- R467: the port works, in every power state except DORMANT. -/
def State.tapOn (s : State) : Bool := s.cur ≠ 3

/-- R493: while reset is held TDO and the balls that boundary scan drives are at high impedance. -/
def emitTap (o : Out) (s : State) : State := onlyIf (!s.pcr.inReset) (emit o) s

/-- The instruction with a code becomes current, or BYPASS where its condition does not hold. -/
def selectIr (code : Nat) (ok : Bool) (s : State) : State :=
  { s with dbg := { s.dbg with ir := if ok then code else 0x1F } }

/-- R468: a scan of the boundary register: what it has captured leaves, and what is shifted in stays in it. Its cells are
not in the spec (log entry 14). -/
def scanBoundary (s : State) : State :=
  let s := { emitTap (.tdo (Config.boundary s.free)) s with dbg := { s.dbg with bound := Config.boundaryIn s.free } }
  useFree s

/-- R468: the boundary register drives the balls. -/
def drivePins (s : State) : State := emitTap (.pins (some s.dbg.bound)) s

/-- TAP_RESET (R467). -/
def execTapReset (s : State) : Host.Outcome State Fault Refusal := done (onlyIf s.tapOn (selectIr 2 true) s)

/-- EXTEST (R468): the cells drive the balls from Update-IR on, and a scan's new ones from its Update-DR on. -/
def execTapExtest (s : State) : Host.Outcome State Fault Refusal :=
  done (onlyIf s.tapOn (fun s => onlyIf s.pinsFree (fun s => drivePins (scanBoundary (drivePins s))) (selectIr 0 true s)) s)

/-- SAMPLE/PRELOAD (R468). -/
def execTapSamplePreload (s : State) : Host.Outcome State Fault Refusal :=
  done (onlyIf s.tapOn (fun s => scanBoundary (selectIr 1 true s)) s)

/-- IDCODE (R468). -/
def execTapIdcode (s : State) : Host.Outcome State Fault Refusal :=
  done (onlyIf s.tapOn (fun s => emitTap (.tdo 0x125603CB) (selectIr 2 true s)) s)

/-- HIGHZ (R468). -/
def execTapHighz (s : State) : Host.Outcome State Fault Refusal :=
  done (onlyIf s.tapOn (fun s => onlyIf s.pinsFree (emitTap (.pins none)) (selectIr 0x0A true s)) s)

/-- CLAMP (R468). -/
def execTapClamp (s : State) : Host.Outcome State Fault Refusal :=
  done (onlyIf s.tapOn (fun s => onlyIf s.pinsFree drivePins (selectIr 0x0B true s)) s)

/-- SYSRST (R468, R471): a system reset at Update-IR. -/
def execTapSysrst (s : State) : Host.Outcome State Fault Refusal :=
  done (onlyIf s.tapOn (fun s => onlyIf (!Config.dbgLock) (systemReset 7) (selectIr 0x0C (!Config.dbgLock) s)) s)

/-- BYPASS (R468). -/
def execTapBypass (s : State) : Host.Outcome State Fault Refusal := done (onlyIf s.tapOn (selectIr 0x1F true) s)

/-! Debug accesses (R469, R470). -/

/-- A debug read: data, STS, and the state with what is logged (R470). -/
def debugRead (a : Nat) (s : State) : (Nat × Nat) × State :=
  let word (r : RdOut) : Nat × Nat := (r.half a, if r.ok then 0 else 3)
  match s.dest a with
  | .reg _ => if a = Reg.HIF_DBQ then ((0, 0), s) else let (v, s) := peekReg a s; ((v, 0), s)
  | .regOff k => ((0, 2), accessError k a false s)
  | .box =>
    let o := a - 0x50000000
    if barStored o then ((if s.storedOn then word (s.decodeAt (barBase + o)) else (0, 0)), s)
    else ((s.barWord false o, 0), s)
  | .boxOff => ((0, 2), accessError 13 a false s)
  | .mem 7 => match procSlot s with
    | some s => (word (s.decodeAt a), s)
    | none => ((0, 1), s)
  | .mem _ => (word (s.decodeAt a), s)
  | .memOff => ((0, 2), accessError 12 a false s)
  | .hole => ((0, 2), accessError 16 a false s)

/-- STS of a debug write (Table 18-2). -/
def State.writeSts (s : State) (a : Nat) (w : Word) : Nat :=
  match s.dest a with
  | .reg k =>
    match regRow a with
    | some (r, _) => 2 * b2n (s.badWrite k r.off w)
    | none => 2
  | .box => 0
  | .mem 7 => b2n (procSlot s).isNone
  | .mem m => if m = 8 then 2 else 0
  | _ => 2

/-- A debug write, with what is logged. -/
def debugWrite (a : Nat) (w : Word) (s : State) : State :=
  let (bad, s) := procWrite true a 15 w s
  onlyIf bad (accessError 16 a true) s

/-- Table 18-2: the access register as captured after an access. -/
def accWord (data addr op sts : Nat) : Nat := data % 2 ^ 32 + addr % 2 ^ 32 * 2 ^ 32 + op * 2 ^ 64 + sts * 2 ^ 66

/-- R469, R470: what an access leaves in the access register, and the state after it; STS 01 if it has to go on, as it has
while reset is held and no clock serves it (DEDUCED, log entry 241). -/
def tryAccess (x : DbgAcc) (s : State) : (Nat × Nat) × State :=
  if s.pcr.inReset then ((0, 1), s)
  else if x.op = 2 then ((0, s.writeSts x.addr x.data), debugWrite x.addr x.data s) else debugRead x.addr s

/-- R469: accesses complete in order as far as they can; what has to go on waits. -/
def runAccesses : List DbgAcc → State → State
  | [], s => s
  | x :: xs, s =>
    let ((v, sts), t) := tryAccess x s
    let acc := accWord v x.addr x.op sts
    if sts = 1 then { s with dbg := { s.dbg with acc := acc, waiting := x :: xs } }
    else runAccesses xs { t with dbg := { t.dbg with acc := acc, waiting := xs } }

/-- R469: an access that has gone on completes as soon as it can, as time passes. -/
def runWaiting (s : State) : State := if s.dbg.waiting.isEmpty then s else runAccesses s.dbg.waiting s

/-- R469: Capture-DR of the access register: the result of the last access leaves. -/
def captureAccess (s : State) : State :=
  let s := runAccesses s.dbg.waiting s
  emitTap (.tdo s.dbg.acc) s

/-- DBGACC (R469): the access register is captured with OP 00. -/
def execDbgacc (s : State) : Host.Outcome State Fault Refusal :=
  done (onlyIf s.tapOn (fun s => onlyIf (!Config.dbgLock) captureAccess (selectIr 8 (!Config.dbgLock) s)) s)

/-- A scan of the access register: what it has captured leaves, then the access starts, after any that continues. -/
def debugScan (x : DbgAcc) (s : State) : State :=
  if s.tapOn && s.dbg.ir = 8 && !Config.dbgLock then
    let s := captureAccess s
    runAccesses (s.dbg.waiting ++ [x]) s
  else s

/-- DBGACC_READ (R470). -/
def execDbgaccRead (addr : Word) (s : State) : Host.Outcome State Fault Refusal :=
  done (debugScan ⟨1, addr.toNat / 4 * 4, 0⟩ s)

/-- DBGACC_WRITE (R470). -/
def execDbgaccWrite (addr w : Word) (s : State) : Host.Outcome State Fault Refusal :=
  done (debugScan ⟨2, addr.toNat / 4 * 4, w⟩ s)

/-- DBGACC_READ_NEXT (R470): a read at ADDR + 4; the ADDR shifted in is no operand of the row, and is free (log entry 227). -/
def execDbgaccReadNext (s : State) : Host.Outcome State Fault Refusal :=
  done (debugScan ⟨3, (s.freeBits 32 + 4) % 2 ^ 32 / 4 * 4, 0⟩ (useFree s))

/-! FREEZE (R472 to R475). -/

/-- R472, Table 18-5: a request of source b of DBG_STAT; in a power transition it waits for the end. -/
def freezeRequest (b : Nat) (s : State) : State :=
  let s := setRb Reg.DBG_STAT b true s
  if s.frozen then s else { s with dbg := { s.dbg with stopping := true } }

/-- FREEZE_REQUEST (R472): the filtered rising edge of the ball, after the release of reset. -/
def execFreezeRequest (s : State) : Host.Outcome State Fault Refusal :=
  done (onlyIf (s.tapOn && !s.pcr.inReset && s.ab Reg.DBG_CTL 0 && s.dbg.ballSeen && !Config.dbgLock) (freezeRequest 1) s)

/-- R473, R479: the clocks stop; writes in progress complete first, the snapshot latches. What the processor's registers
hold is free (log entry 156). -/
def freezeStop (s : State) : State :=
  let last := s.le.writes.foldl (fun m w => max m w.due) s.time.tick
  let s := advanceTo last s
  let put (a v : Nat) (t : State) : State := setReg a (BitVec.ofNat 32 v) t
  let s := put Reg.DBG_FRZ_NS_LO (s.nsNow % 2 ^ 32) <| put Reg.DBG_FRZ_NS_HI (s.nsNow / 2 ^ 32) <|
    put Reg.DBG_FRZ_CYC_LO (s.cyc % 2 ^ 32) <| put Reg.DBG_FRZ_CYC_HI (s.cyc / 2 ^ 32) <|
    put Reg.DBG_FRZ_TICK (s.time.tick % 2 ^ 32) s
  setRb Reg.DBG_STAT 0 true { s with
    syn := { s.syn with stopped := true }
    acq := { s.acq with xDrive := none, xDue := none }
    free := s.free + 34
    dbg := { s.dbg with stopping := false, stopAt := s.time.mono, stopNs := s.time.ns
                        cpu := (List.range 34).map fun i => (Config.freeValue (s.free + i)).setWidth 32 } }

/-- FREEZE_STOP (R473), in RUN, IDLE or STANDBY. -/
def execFreezeStop (s : State) : Host.Outcome State Fault Refusal :=
  done (onlyIf (s.dbg.stopping && !s.frozen && !s.pcr.inReset && decide (s.cur ≤ 2)) freezeStop s)

/-- R475: every queue entry and every context in service is discarded, their commands are not sent; a pod that held one is idle from now on (R451). -/
def discardWork (s : State) : State :=
  let busy (p : Nat) : Bool := !(s.podIdle p)
  let s := forAll (List.range 64) (fun n t => onlyIf (t.ctx n).live (putCtx n { t.ctx n with live := false }) t) s
  let s := { s with le := { s.le with writes := [] } }
  let s := forAll (List.range 4) (fun p t => putPod p { t.pod p with queue := [], carry := [], pgDue := [] } t) s
  let s := forAll (List.range 4) (fun p t => onlyIf (busy p) (noteIdle p) t) s
  forAll (List.range 256) (fun n t => if (t.ax n).ready.isSome then putAx n { t.ax n with ready := none } t else t) s

/-- R475: the links of the ports are lost and retrain; the host interface resets (R407). -/
def loseLinks (s : State) : State :=
  let s := forAll (List.range 8) (fun p t => onlyIf (t.portUp p) (linkLoss p ⟨0, 64, 0, 0, 0⟩) t) s
  let s := forAll (List.range 3) (fun p t => onlyIf (t.rb (Reg.CAS_PORT_STAT p) 3) (casLinkLoss p ⟨0, 64, 0, 0, 0⟩) t) s
  onlyIf (s.hostOn && !s.hostSel) hostReset s

/-- R475: the freeze ends; DUR counts always-on periods. -/
def resume (s : State) : State :=
  let dur := (s.time.mono - s.dbg.stopAt) / 1562500
  let s := setRb Reg.DBG_STAT 3 true (setRb Reg.DBG_STAT 0 false s)
  let s := setReg Reg.DBG_FRZ_DUR (BitVec.ofNat 32 (min dur (2 ^ 32 - 1))) s
  let s := { s with syn := { s.syn with stopped := false } }
  let s := takeScrubs (takeEvents s)
  let s := codelessEvent 16 Reg.DBG_STAT (discardWork (stopNet (loseLinks s)))
  takeWakes (takeWarning s)

/-- A request of source b ends; the freeze ends when both are 0. -/
def freezeRelease (b : Nat) (s : State) : State :=
  let s := setRb Reg.DBG_STAT b false s
  if s.rf Reg.DBG_STAT 2 1 ≠ 0 then s
  else if s.frozen then resume s
  else { s with dbg := { s.dbg with stopping := false } }

/-- FREEZE_RELEASE (R475): the ball falls, or FRZ is written 0. -/
def execFreezeRelease (ball : Bool) (s : State) : Host.Outcome State Fault Refusal :=
  done (if ball then freezeRelease 1 { s with dbg := { s.dbg with ballSeen := true } }
    else onlyIf (s.tapOn && decide (s.dbg.ir = 9) && !Config.dbgLock) (freezeRelease 2) s)

/-- FRZ (R468, R472): the bit shifted into the freeze register holds a freeze or releases it. -/
def execTapFrz (hold : Bool) (s : State) : Host.Outcome State Fault Refusal :=
  done (onlyIf s.tapOn (fun s =>
    let s := selectIr 9 (!Config.dbgLock) s
    onlyIf (!Config.dbgLock) (if hold then freezeRequest 2 else freezeRelease 2) s) s)

end Sys2Proof.Machine
end

