-- ==== Sys2Proof/Machine/Glipor.lean ====
section
/-! DEFINITION. Glipor's mailbox commands (R412, R416 to R422, R427). The request layouts are those of the
firmware release and not in the spec: what a request says is the operands here, the layout of a response is
`Config.layout`. A command whose outcome is awaited keeps a job; the same row again looks at the outcome. -/

namespace Sys2Proof.Machine

/-! Completion. -/

/-- The response of mailbox m: payload, STATUS, DETAIL, then HIF_FDONE (R414); it is discarded where a reset of the
host interface has taken the mailbox away (R407, R415), and there is none of a task that an abort has struck (R420). -/
def finish (m status detail : Nat) (bytes : List Nat) (s : State) : State :=
  let bs := bytes.take 240
  if s.hif.struck then s
  else if s.owned m then fdoneWrite m (putStatus m status detail bs.length (tcmStore (mbAddr m 16) bs s))
  else
    let s := hifErr 3 (m % 32) (hifErr 2 (m % 32) s)
    { s with hif := { s.hif with jobs := kvPut (fun _ => none) s.hif.jobs m none, order := s.hif.order.erase m } }

/-- A response whose DETAIL is command-specific and not stated: it is free. -/
def finishFree (m status : Nat) (s : State) : State := finish m status (s.freeBits 16) [] (useFree s)

/-- Done, with the values that the command returns. -/
def finishVals (m opc : Nat) (vals : List Nat) (s : State) : State :=
  finish m 0 0 ((Config.layout opc vals).map (·.toNat)) s

/-! Jobs. -/

/-- The job of mailbox m. -/
def State.job (s : State) (m : Nat) : Option GlJob := kvGet (fun _ => none) s.hif.jobs m

/-- Stores it. -/
def putJob (m : Nat) (j : Option GlJob) (s : State) : State :=
  { s with hif := { s.hif with jobs := kvPut (fun _ => none) s.hif.jobs m j } }

/-- The job of a command opc of mailbox m that begins, timed from its acceptance. For MODE_CHANGE the effective timeout
reaches as far as the BOUND that came with its acceptance (R417). -/
def State.newJob (s : State) (m opc tmo : Nat) : GlJob :=
  match s.mbTimer m with
  | some t =>
    let ms := effectiveMs opc tmo
    { opc := opc, since := t.since, ms := if opc = 0x40 then max ms (t.ms - s.af Reg.HIF_CFG 23 16) else ms }
  | none => { opc := opc, since := s.time.tick, ms := effectiveMs opc tmo }

/-- R417: a job has reached its effective timeout. -/
def State.jobLate (s : State) (j : GlJob) : Bool := j.ms * 800000 ≤ s.time.tick - j.since

/-! Serving (R414, R419, R420, R422). -/

/-- A word of mailbox m as a Glipor task reads it; `none` on an abort. -/
def mbWord (m ofs : Nat) (s : State) : Option Nat × State := procRead (0x50000000 + 256 * m + ofs) s

/-- R420: an abort has struck the task that serves mailbox m. -/
def taskAbort (m : Nat) (s : State) : State := onlyIf (m % 32 ≠ 31) ordinaryAbort s

/-- R417, FACC: BOUND as Glipor sets it for the request in mailbox m: the effective timeout, for MODE_CHANGE at least
`least`, the time in ms to the start of C plus two cycle lengths; 65,535 at most. The boot ROM sets `least`. -/
def faccGlipor (m least : Nat) (s : State) : State :=
  if s.stage ≠ 3 && s.stage ≠ 4 then faccWrite m least s
  else
    let (h0, s) := mbWord m 0 s
    let (h1, s) := mbWord m 4 s
    match h0, h1 with
    | some w0, some w1 =>
      let b := effectiveMs (w0 % 65536) (w1 / 65536)
      faccWrite m (min 65535 (if w0 % 65536 = 0x40 then max b least else b)) s
    | _, _ => taskAbort m s

/-- FACC (R417). -/
def execFacc (mb : Fin 32) (bound : BitVec 16) (s : State) : Host.Outcome State Fault Refusal :=
  done (regWrite Reg.HIF_FACC (faccGlipor mb bound.toNat) s)

/-- The code of the command that runs under number m. -/
def State.opcOf (s : State) (m : Nat) : Nat := match s.job m with | some j => j.opc | none => (s.requestHead (m % 32)).1

/-- R416: the commands under two numbers write shadows of a common commit group: two MODE_CHANGE always do (CAS_ group
4), commands of other blocks never; which groups else a request names is in the layouts of the firmware release, so
that is free (log entry 224). -/
def State.clash (s : State) (n m : Nat) : Bool :=
  let a := s.opcOf n
  let b := s.opcOf m
  (a = 0x40 && b = 0x40) ||
    ((shadowBlocks a).any (shadowBlocks b).contains && Config.shadowClash (s.request n) (s.request m))

/-- R416: no command taken earlier that writes shadows of a common commit group is still to complete. -/
def State.turn (s : State) (m : Nat) : Bool :=
  m % 32 = 31 || (s.hif.order.takeWhile (· ≠ m)).all fun n => !(s.clash n m)

/-- Glipor serves mailbox m: it has taken and accepted it, in STAGE 3 or 4. -/
def State.serves (s : State) (m : Nat) : Bool :=
  s.cpuOn && s.hostOn && s.owned m && (match s.mbTimer m with | some t => t.accepted | none => false)
    && (s.stage = 3 || s.stage = 4)

/-- What precedes every command: STAGE 4, recovery mailbox, unknown code, LEN, the command the mailbox holds, and unless
it has begun its effective timeout (R417) and its turn. `body` takes LEN and TMO. -/
def glipor (m opc : Nat) (body : Nat → Nat → State → State) (s : State) : State :=
  if !(s.serves m) then s
  else
    let (h0, s) := mbWord m 0 s
    let (h1, s) := mbWord m 4 s
    match h0, h1 with
    | some w0, some w1 =>
      let op := w0 % 65536
      let len := w1 % 65536
      let tmo := w1 / 65536
      match s.answersOnly m op len with
      | some (st, d) => if st = 2 && op ≠ opc then s else finish m st d [] s
      | none =>
        if op ≠ opc then s
        else if (s.job m).isNone && s.jobLate (s.newJob m op tmo) then finish m 0xFD 0 [] s
        else if (s.job m).isNone && !(s.turn m) then s
        else body len tmo s
    | _, _ => taskAbort m s

/-- The abort of a task is over. -/
def unstrike (s : State) : State := if s.hif.struck then { s with hif := { s.hif with struck := false } } else s

/-- R407: the number and job of a command of mailbox m that runs on after a reset of the host interface has taken the
mailbox away. -/
def State.orphan (s : State) (m opc : Nat) : Option (Nat × GlJob) :=
  if s.cpuOn && s.hostOn && (s.stage = 3 || s.stage = 4) then
    s.hif.jobs.findSome? fun (n, j) => if 32 ≤ n && n % 32 = m then (j.filter (·.opc = opc)).map ((n, ·)) else none
  else none

/-- Such a command goes on: not in STAGE 4, unless it is served there, and one that has not begun within its effective
timeout, in its turn. -/
def runOrphan (n : Nat) (j : GlJob) (body : State → State) (s : State) : State :=
  if s.stage = 4 && !(haltedOpc j.opc) then finish n 4 4 [] s
  else if j.begun then body s
  else if s.jobLate j then finish n 0xFD 0 [] s
  else if !(s.turn n) then s
  else body s

/-- A command that completes at once; `body` takes the number under which it runs, which is above 31 where its mailbox
has been taken away. -/
def glNow (m : Fin 32) (opc : Nat) (body : Nat → State → State) (s : State) : Host.Outcome State Fault Refusal :=
  done (unstrike (match s.orphan m opc with
    | some (n, j) => runOrphan n j (body n) s
    | none => glipor m opc (fun _ _ => body m) s))

/-- A command that starts a job, and looks at it when the row comes again, with whether its effective timeout is over. -/
def glJob (m : Fin 32) (opc : Nat) (start : Nat → GlJob → State → State) (poll : Nat → GlJob → Bool → State → State)
    (s : State) : Host.Outcome State Fault Refusal :=
  done (unstrike (match s.orphan m opc with
    | some (n, j) =>
      runOrphan n j (fun s =>
        if j.begun then poll n j (s.jobLate j) s
        else start n { j with begun := true } s) s
    | none => glipor m opc (fun _ tmo s =>
        match s.job m with
        | none => start m (s.newJob m opc tmo) s
        | some j => poll m j (s.jobLate j) s) s))

/-! Commits on behalf of a command (R42). -/

/-- R420: a precise abort has struck the task that runs. -/
def strike (s : State) : State := ordinaryAbort { s with hif := { s.hif with struck := true } }

/-- A processor write of one of Glipor's tasks: an abort ends the task, and what it would write further is lost. -/
def glWrite (a : Nat) (w : Word) (s : State) : State :=
  if s.hif.struck then s
  else
    let (bad, s) := procWrite false a 15 w s
    onlyIf bad (fun s => strike (abortEvent false s)) s

/-- Writes of registers by block and offset. -/
def glWrites (xs : List (Fin 17 × BitVec 16 × Word)) (s : State) : State :=
  forAll xs (fun (k, o, w) => glWrite (winBase k + o.toNat / 4 * 4) w) s

/-- The requested groups that a block defines. -/
def definedMasks (gs : List (Nat × Nat)) : List (Nat × Nat) :=
  gs.filterMap fun (k, w) => let w := w &&& definedGroups k; if w = 0 then none else some (k, w)

/-- Old outcomes of groups are cleared and their commits requested together (R36); a block whose domain is
off takes no write (R31). -/
def commitGroups (gs : List (Nat × Nat)) (s : State) : State :=
  let on := gs.filter (fun x => s.domOn (blkDom x.1))
  let s := forAll gs (fun (k, _) => onlyIf (!(s.domOn (blkDom k))) (accessError k (Reg.CMT_REQ k) true)) s
  let s := forAll on (fun (k, w) t =>
    glWrite (Reg.CMT_DONE k) (BitVec.ofNat 32 w) (glWrite (Reg.CMT_REFUSED k) (BitVec.ofNat 32 w) t)) s
  requestBatch on s

/-- Every requested group has been applied or refused. -/
def State.decided (s : State) (gs : List (Nat × Nat)) : Bool :=
  gs.all fun (k, w) => ((s.reg (Reg.CMT_DONE k)).toNat ||| (s.reg (Reg.CMT_REFUSED k)).toNat) &&& w = w

/-- REASON and DETAIL of the lowest refused group, as DETAIL of status 0x0005. -/
def State.refusal (s : State) (gs : List (Nat × Nat)) : Option Nat :=
  (gs.find? fun (k, w) => (s.reg (Reg.CMT_REFUSED k)).toNat &&& w ≠ 0).map fun (k, _) =>
    s.rf (Reg.CMT_REASON k) 15 8 * 256 + s.rf (Reg.CMT_REASON k) 23 16

/-- CMT_DONE, CMT_REFUSED and CMT_REASON per block. -/
def State.commitVals (s : State) (gs : List (Nat × Nat)) : List Nat :=
  gs.flatMap fun (k, _) =>
    [(s.reg (Reg.CMT_DONE k)).toNat, (s.reg (Reg.CMT_REFUSED k)).toNat, (s.reg (Reg.CMT_REASON k)).toNat]

/-- A command that commits groups starts: its job waits for their outcome. -/
def startCommit (m : Nat) (j : GlJob) (gs : List (Nat × Nat)) (s : State) : State :=
  let gs := definedMasks gs
  if s.hif.struck then s else putJob m (some { j with groups := gs }) (commitGroups gs s)

/-- It ends when every group is decided (R42); `vals` are what it returns. -/
def pollCommit (m : Nat) (vals : State → List Nat) (j : GlJob) (s : State) : State :=
  if !(s.decided j.groups) then s
  else
    match s.refusal j.groups with
    | some d => finish m 5 d ((Config.layout j.opc (s.commitVals j.groups)).map (·.toNat)) s
    | none => finishVals m j.opc (vals s) s

/-! Identification and status. -/

/-- PING: the payload is left as the request has it. -/
def execGlPing (m : Fin 32) (s : State) : Host.Outcome State Fault Refusal :=
  done (match s.orphan m 1 with
    | some (n, j) => runOrphan n j (finish n 0 0 []) s
    | none => glipor m 1 (fun len _ s => fdoneWrite m (putStatus m 0 0 len s)) s)

/-- INFO. -/
def execGlInfo (m : Fin 32) (s : State) : Host.Outcome State Fault Refusal :=
  glNow m 2 (fun m s => finishVals m 2
    [s.boot.svn, s.boot.build, 0xB1, b2n Config.grade, s.ownId, b2n s.hostSel, (s.act Reg.SLT_IMG).toNat] s) s

/-- STATUS. -/
def execGlStatus (m : Fin 32) (s : State) : Host.Outcome State Fault Refusal :=
  glNow m 3 (fun m s => finishVals m 3
    ([s.csState, s.safState, (s.reg Reg.CAS_HEALTH).toNat, (s.reg Reg.SYN_STAT).toNat]
      ++ (List.range 4).map (fun r => s.rf (Reg.NET_RING_STAT r) 2 0) ++ [s.cur]) s) s

/-- An operation of task n on the flash runs or waits for the master. -/
def State.taskRuns (s : State) (n : Nat) : Bool :=
  s.hif.flash.any (·.task = some n) || s.hif.flashTasks.any (·.task = some n)

/-- R422: a flash write is in progress for the command of mailbox n: FW_WRITE or SAFETY_CONFIRM under way. -/
def State.flashWriting (s : State) (n : Nat) : Bool :=
  match s.job n with | some j => j.opc = 0x80 || j.opc = 0x61 | none => false

/-- ABORT: ends the command of mailbox n unless a commit has been requested or a flash write is in progress. -/
def abortCommand (m n : Nat) (s : State) : State :=
  if n = m % 32 || !(s.owned n) then finishFree m 3 s
  else
    let requested := match s.job n with | some j => !j.groups.isEmpty | none => false
    if requested || s.flashWriting n then finish m 3 1 [] s
    else
      let s := match s.job n with
        | some j => (match j.chan with | some c => dmaRst c s | none => s)
        | none => s
      finish m 0 0 [] (finish n 0xD (m % 32) [] s)

/-- ABORT (R422). -/
def execGlAbort (m named : Fin 32) (s : State) : Host.Outcome State Fault Refusal :=
  glNow m 4 (fun m => abortCommand m named) s

/-- DMA_RESET (R421, R422). -/
def execDmaReset (m : Fin 32) (ch : Fin 4) (s : State) : Host.Outcome State Fault Refusal :=
  glNow m 5 (fun m s => finish m 0 0 [] (dmaRst ch s)) s

/-! Configuration. -/

/-- Reads of registers by block and offset. -/
def glReads : List (Fin 17 × BitVec 16) → State → List Nat × State
  | [], s => ([], s)
  | (k, o) :: xs, s =>
    let (v, s) := procRead (winBase k + o.toNat / 4 * 4) s
    let (vs, s) := glReads xs s
    (v.getD 0 :: vs, s)

/-- CFG_READ (R422): up to 30 registers, as a processor reads them. -/
def execCfgRead (m : Fin 32) (regs : List (Fin 17 × BitVec 16)) (s : State) : Host.Outcome State Fault Refusal :=
  glNow m 0x10 (fun m s =>
    if 30 < regs.length then finish m 2 0 [] s
    else let (vs, s) := glReads regs s; finishVals m 0x10 vs s) s

/-- Address of an entry of CFG_WRITE. -/
def entryAddr (e : Fin 17 × BitVec 16 × Word × Word) : Nat := winBase e.1 + e.2.1.toNat / 4 * 4

/-- Shadowed bits of the register at an address. -/
def shadowAt (a : Nat) : Word := match regRow a with | some (r, _) => shadowMask r | none => 0

/-- Bits of the register at an address that keep what is written to them. -/
def rwAt (a : Nat) : Word := match regRow a with | some (r, _) => rowMask (fun f => decide (f.acc = .rw)) r.flds | none => 0

/-- CFG_WRITE: shadowed fields take their values, in the bits that the mask of each entry names; the other fields of
the register stay as they are. -/
def cfgWrite (m : Nat) (es : List (Fin 17 × BitVec 16 × Word × Word)) (s : State) : State :=
  if 30 < es.length then finish m 2 0 [] s
  else
    match es.findIdx? (fun e => shadowAt (entryAddr e) = 0) with
    | some i => finish m 3 i [] s
    | none =>
      finish m 0 0 [] (forAll es (fun e t =>
        let a := entryAddr e
        let m := e.2.2.1 &&& shadowAt a
        glWrite a ((t.reg a &&& rwAt a &&& ~~~m) ||| (e.2.2.2 &&& m)) t) s)

/-- CFG_WRITE (R422). -/
def execCfgWrite (m : Fin 32) (entries : List (Fin 17 × BitVec 16 × Word × Word)) (s : State) :
    Host.Outcome State Fault Refusal :=
  glNow m 0x11 (fun m => cfgWrite m entries) s

/-- Requested masks as numbers. -/
def groupMasks (gs : List (Fin 17 × Word)) : List (Nat × Nat) := gs.map fun (k, w) => (k.val, w.toNat)

/-- COMMIT (R422). -/
def execGlCommit (m : Fin 32) (groups : List (Fin 17 × Word)) (s : State) : Host.Outcome State Fault Refusal :=
  glJob m 0x12 (fun m j => startCommit m j (groupMasks groups))
    (fun m j _ s => pollCommit m (fun s => s.commitVals j.groups) j s) s

/-! Schedule images. -/

/-- The mailbox of another command that uses DMA channel c, or has lost it while it does (R407). -/
def State.dmaHolder (s : State) (c m : Nat) : Option Nat :=
  s.hif.jobs.findSome? fun (n, j) => if n ≠ m && j.any (·.chan = some c) then some (n % 32) else none

/-- DETAIL of status 0x0009. -/
def State.haltDetail (s : State) (c : Nat) : Nat := s.rf (Reg.HIF_DMA_STAT c) 27 24 * 256 + c

/-- The image's writes are made and its groups requested. -/
def loadImage (m : Nat) (j : GlJob) (regs : List (Fin 17 × BitVec 16 × Word)) (words : List (Word × Word))
    (gs : List (Nat × Nat)) (s : State) : State :=
  let s := forAll words (fun (a, w) => glWrite a.toNat w) s
  startCommit m j gs (glWrites regs s)

/-- SCHED_LOAD starts: from staged chunks at once, by DMA when the transfer is complete. -/
def schedStart (m : Nat) (j : GlJob) (dma : Option (Fin 4 × BitVec 64 × BitVec 22)) (load : State → State) (s : State) : State :=
  if s.csState ≠ 0 then finishFree m 4 s
  else
    match dma with
    | none => load s
    | some (c, h, len) =>
      if s.hostSel then finish m 8 0 [] s
      else if s.rb (Reg.HIF_DMA_STAT c) 29 then finish m 9 (s.haltDetail c) [] s
      else
        match s.dmaHolder c m with
        | some n => finish m 6 n [] s
        | none =>
          let s := glWrite (Reg.HIF_DMA_HLO c) (BitVec.ofNat 32 h.toNat) s
          let s := glWrite (Reg.HIF_DMA_HHI c) (BitVec.ofNat 32 (h.toNat / 2 ^ 32)) s
          let s := glWrite (Reg.HIF_DMA_LADR c) (BitVec.ofNat 32 Config.stageBase) s
          let s := glWrite (Reg.HIF_DMA_STAT c) 0x40000000 s
          let s := glWrite (Reg.HIF_DMA_CTL c) (BitVec.ofNat 32 (2 ^ 31 + len.toNat)) s
          if s.hif.struck then s else putJob m (some { j with chan := some c }) s

/-- SCHED_LOAD is looked at. -/
def schedPoll (m : Nat) (load : State → State) (j : GlJob) (late : Bool) (s : State) : State :=
  match j.chan with
  | none => pollCommit m (fun s => s.commitVals j.groups) j s
  | some c =>
    let a := Reg.HIF_DMA_STAT c
    if s.rb a 29 then finish m 9 (s.haltDetail c) [] s
    else if s.rb a 30 then (if s.csState ≠ 0 then finishFree m 4 s else load s)
    else if !(s.rb a 31) then finishFree m 3 s
    else if late then finish m 0xFD 0 [] s
    else s

/-- SCHED_LOAD (R422): what the image writes, and the groups it commits. -/
def execSchedLoad (m : Fin 32) (dma : Option (Fin 4 × BitVec 64 × BitVec 22))
    (regs : List (Fin 17 × BitVec 16 × Word)) (words : List (Word × Word)) (groups : List (Fin 17 × Word))
    (s : State) : Host.Outcome State Fault Refusal :=
  glJob m 0x20 (fun m j => schedStart m j dma (loadImage m j regs words (groupMasks groups)))
    (fun m j => schedPoll m (loadImage m { j with chan := none } regs words (groupMasks groups)) j) s

/-- SCHED_CHUNK (R422): up to 232 bytes. -/
def execSchedChunk (m : Fin 32) (ofs : BitVec 32) (data : List (BitVec 8)) (s : State) :
    Host.Outcome State Fault Refusal :=
  glNow m 0x21 (fun m s =>
    if 232 < data.length then finish m 2 0 [] s
    else finish m 0 0 [] (tcmStore (Config.stageBase + ofs.toNat) (data.map (·.toNat)) s)) s

/-! The network. -/

/-- NET_START (R422): completes at RUN, or at HALTED. -/
def execNetStart (m : Fin 32) (s : State) : Host.Outcome State Fault Refusal :=
  glJob m 0x22 (fun m j s => putJob m (some j) (glWrite Reg.SLT_CS_CMD 1 s))
    (fun m _ late s =>
      if s.csState = 5 then finish m 0 0 [] s
      else if s.csState = 7 then finishFree m 4 s
      else if late then finish m 0xFD 0 [] s else s) s

/-- NET_STOP (R422): completes at OFF. -/
def execNetStop (m : Fin 32) (s : State) : Host.Outcome State Fault Refusal :=
  glJob m 0x23
    (fun m j s =>
      let s := glWrite Reg.SLT_CS_CMD 2 s
      if s.csState = 0 then finish m 0 0 [] s else putJob m (some j) s)
    (fun m _ late s =>
      if s.csState = 0 then finish m 0 0 [] s else if late then finish m 0xFD 0 [] s else s) s

/-! Axes. -/

/-- AXIS_CONFIG (R135): the axis's configuration and its pod's graph table at one cutoff. -/
def axisConfig (m : Nat) (j : GlJob) (axis pod : Nat) (regs : List (Fin 17 × BitVec 16 × Word)) (words : List (Word × Word)) (s : State) :
    State :=
  if s.ab (Reg.AX_MODE axis) 0 then finishFree m 4 s
  else
    let s := glWrites regs (forAll words (fun (a, w) => glWrite a.toNat w) s)
    startCommit m j [(1, 2 ^ pod), (2, 2 ^ (axis / 16))] s

/-- AXIS_CONFIG (R135). -/
def execAxisConfig (m : Fin 32) (axis : Fin 256) (pod : Fin 4) (regs : List (Fin 17 × BitVec 16 × Word))
    (words : List (Word × Word)) (s : State) : Host.Outcome State Fault Refusal :=
  glJob m 0x30 (fun m j => axisConfig m j axis pod regs words) (fun m j _ s => pollCommit m (fun s => s.commitVals j.groups) j s) s

/-- COMMUTATE (R117): EZERO, element 0x030 of the axis, whose elements start at xb of a pod. The word that firmware
forms of POS and the commutation offset is the operand (DESIGN CHOICE, log entry 217). -/
def execCommutate (m : Fin 32) (axis : Fin 256) (pod : Fin 4) (xb : BitVec 17) (value : Word) (s : State) :
    Host.Outcome State Fault Refusal :=
  glNow m 0x31 (fun m s =>
    if s.ab (Reg.AX_MODE axis) 0 then finishFree m 4 s
    else finish m 0 0 [] (glWrite (elemAddr pod ((xb.toNat + 0x30) % 131072)) value s)) s

/-- MOTION (R422): PG fields of up to 8 axes, by place in `pgWords`; their groups commit together. -/
def motion (m : Nat) (j : GlJob) (ws : List (Fin 256 × Fin 13 × Word)) (s : State) : State :=
  if 8 < (ws.map (fun w => w.1.val)).dedup.length then finish m 2 0 [] s
  else
    let s := forAll ws (fun (n, i, w) => glWrite ((pgWords n).getD i 0) w) s
    let mask := ws.foldl (fun g w => g ||| 2 ^ (w.1.val / 16)) 0
    startCommit m j [(3, mask)] s

/-- MOTION (R422): returns the cycle of application. -/
def execGlMotion (m : Fin 32) (writes : List (Fin 256 × Fin 13 × Word)) (s : State) : Host.Outcome State Fault Refusal :=
  glJob m 0x32 (fun m j => motion m j writes) (fun m j _ s => pollCommit m (fun s => [(s.reg (Reg.CMT_CYCLE 3)).toNat]) j s) s

/-- R157 to R159: element of point i, counted from WP, of an append to axis n. Points that wrap past ALEN while a
geometry is pending and no mark is set take the active BASE (DESIGN CHOICE, log entry 213). -/
def State.pointElem (s : State) (n i : Nat) (skip : Bool) : Nat :=
  let mark := s.rf (Reg.PG_TACT n) 30 16
  let alen := s.rf (Reg.PG_TACT n) 14 0
  let wp := if skip then 0 else s.rf (Reg.PG_TPTR n) 30 16
  let fresh := skip || mark ≠ 0
  let base := if fresh then (s.pgAx n).nbase else (s.pgAx n).abase
  let k := if !fresh && alen ≤ wp + i then wp + i - alen else wp + i
  4 * (base + k)

/-- Writes one point, four words from an element of pod p. -/
def writePoint (p e : Nat) (x : Word × Word × Word × Word) (s : State) : State :=
  glWrite (elemAddr p (e + 3)) x.2.2.2 (glWrite (elemAddr p (e + 2)) x.2.2.1
    (glWrite (elemAddr p (e + 1)) x.2.1 (glWrite (elemAddr p e) x.1 s)))

/-- TABLE_APPEND (R157): the points, then PG_TAPP; WP, TOVF and TREF return. -/
def tableAppend (m n p : Nat) (skip : Bool) (pts : List (Word × Word × Word × Word)) (s : State) : State :=
  if 14 < pts.length then finish m 2 0 [] s
  else
    let s := forAll pts.zipIdx (fun (x, i) t => writePoint p (s.pointElem n i skip) x t) s
    let s := glWrite (Reg.PG_TAPP n) (BitVec.ofNat 32 (b2n skip * 2 ^ 31 + pts.length)) s
    finishVals m 0x33 [s.rf (Reg.PG_TPTR n) 30 16, s.rf (Reg.PG_STAT n) 15 15, s.rf (Reg.PG_STAT n) 14 14] s

/-- TABLE_APPEND (R157). -/
def execTableAppend (m : Fin 32) (axis : Fin 256) (pod : Fin 4) (skip : Bool)
    (points : List (Word × Word × Word × Word)) (s : State) : Host.Outcome State Fault Refusal :=
  glNow m 0x33 (fun m => tableAppend m axis pod skip points) s

/-- AXIS_ACK (R129): completes after the next cycle start. -/
def execAxisAck (m : Fin 32) (axes : List (Fin 256)) (s : State) : Host.Outcome State Fault Refusal :=
  glJob m 0x34
    (fun m j s =>
      if 32 < axes.length then finish m 2 0 [] s
      else putJob m (some { j with axes := axes.map (·.val) })
        (forAll axes (fun n => glWrite (Reg.AX_ACK n) 1) s))
    (fun m j late s =>
      if j.axes.any (fun n => (s.ax n).ack) then (if late then finish m 0xFD 0 [] s else s)
      else finishVals m 0x34 (j.axes.map fun n => s.rf (Reg.AX_STAT n) 6 6) s) s

/-! Mode changes, claims, capture. -/

/-- MODE_CHANGE: the armed groups are committed first (CAS_ group 4). -/
def modeStart (m : Nat) (j : GlJob) (gs : List (Fin 17 × Word)) (mid : Nat) (s : State) : State :=
  let s := forAll (List.range 17) (fun k t =>
    let w := (gs.filter (fun g => g.1.val = k)).foldl (fun v g => v ||| g.2) 0
    glWrite (Reg.CAS_MC_MASK k) w t) s
  let gs := [(8, 2 ^ 4)]
  putJob m (some { j with groups := gs, axes := [mid, s.cas.gone] }) (commitGroups gs s)

/-- Then the coordinator announces; the job waits for the outcome. `arg` 1: announced or awaited, 2: pending
seen, 3: announced with the MID that is active already. -/
def modeAnnounce (m mid : Nat) (cyc : Word) (j : GlJob) (s : State) : State :=
  let same := s.rf Reg.CAS_MC_ACT 15 0 = mid
  let s := if s.ab Reg.CAS_CFG 4 then
      glWrite Reg.CAS_MC_CMD 1 (glWrite Reg.CAS_MC_CYC cyc (glWrite Reg.CAS_MC_ARG (BitVec.ofNat 32 mid) s))
    else s
  putJob m (some { j with arg := if same then 3 else 1 }) s

/-- CAUSE and CCID as DETAIL of status 0x000A. -/
def State.changeDetail (s : State) : Nat := s.rf Reg.CAS_MC_STAT 11 8 * 256 + s.rf Reg.CAS_MC_STAT 5 4 * 16

/-- The outcome is looked at (R292, R293); with the commit of CAS_ group 4 requested, the command completes with the
outcome alone (R417). -/
def modeOutcome (m mid : Nat) (j : GlJob) (s : State) : State :=
  let pend : Bool := match s.cas.mc with | some p => decide (p.mid = mid) | none => false
  let coord := s.ab Reg.CAS_CFG 4
  if pend then putJob m (some { j with arg := 2 }) s
  else if j.arg ≠ 3 && s.rf Reg.CAS_MC_ACT 15 0 = mid then finish m 0 0 [] s
  else if j.arg = 2 || (coord && s.cas.annReq.isNone) ||
      (s.rf Reg.CAS_MC_ACT 31 16 = mid && j.axes.getD 1 0 < s.cas.gone) then finish m 0xA s.changeDetail [] s
  else s

/-- MODE_CHANGE (R288, R422). -/
def execModeChange (m : Fin 32) (groups : List (Fin 17 × Word)) (mid : BitVec 16) (cyc : Word) (s : State) :
    Host.Outcome State Fault Refusal :=
  glJob m 0x40 (fun m j => modeStart m j groups mid.toNat)
    (fun m j _ s =>
      if j.arg ≠ 0 then modeOutcome m (j.axes.headD 0) j s
      else if !(s.decided j.groups) then s
      else
        match s.refusal j.groups with
        | some d => finish m 5 d ((Config.layout 0x40 (s.commitVals j.groups)).map (·.toNat)) s
        | none => modeAnnounce m mid.toNat cyc j s) s

/-- CLAIM_DECIDE (R243, R245): 0 GRANT, 1 REFUSE, 2 RELEASE. -/
def execClaimDecide (m : Fin 32) (ring : Fin 4) (what : Fin 3) (slot : Fin 128) (s : State) :
    Host.Outcome State Fault Refusal :=
  glNow m 0x41 (fun m s => finish m 0 0 []
    (glWrite (Reg.SLT_GRANT ring) (BitVec.ofNat 32 (2 ^ (31 - what.val) + slot.val)) s)) s

/-- ACQ_CMD: ARM or STOP (R320, R325). -/
def execAcqCmd (m : Fin 32) (arm : Bool) (s : State) : Host.Outcome State Fault Refusal :=
  glNow m 0x50 (fun m s => finish m 0 0 [] (glWrite Reg.ACQ_SQ_CMD (if arm then 1 else 2) s)) s

/-! Safety. -/

/-- SAFETY_STATUS (R422). -/
def execSafetyStatus (m : Fin 32) (s : State) : Host.Outcome State Fault Refusal :=
  glNow m 0x60 (fun m s => finishVals m 0x60
    ([Reg.SAF_STATE, Reg.SAF_CHECK, Reg.SAF_HCHECK, Reg.SAF_CONFIRM, Reg.SAF_ERR].map fun a => (s.reg a).toNat) s) s

/-- R377: the copy to rewrite first is the second one: it is invalid, or its count is the lower. Where the rule
names none, the first one it is (DESIGN CHOICE, log entry 188). -/
def confSecond (a b : ConfCopy) : Bool := a.ok && (!b.ok || b.count < a.count)

/-- R377: the count of a new confirmation: one above the higher valid count. -/
def confCount (a b : ConfCopy) : Word :=
  let of (c : ConfCopy) : Word := if c.ok then c.count else 0
  (if of a < of b then of b else of a) + 1

/-- SAFETY_CONFIRM (R376, R377): the first rewrite succeeds or not, then the second. -/
def safetyConfirm (m : Nat) (j : GlJob) (v : Word) (flash : FlashOk) (s : State) : State :=
  if s.safState ≠ 0 then finishFree m 4 s
  else if v = 0 || v ≠ s.reg Reg.SAF_CHECK then finishFree m 3 s
  else
    let b := confSecond s.boot.confA s.boot.confB
    let c := confCopy (confCount s.boot.confA s.boot.confB) v
    let rest := if flash.first then confOps m (!b) flash.second c else []
    putJob m (some { j with arg := b2n (flash.first && flash.second), axes := [v.toNat] })
      (taskOps (confOps m b flash.first c ++ rest) s)

/-- It ends when its operations have: CONFIRM, or a flash error. -/
def confirmEnd (m : Nat) (j : GlJob) (late : Bool) (s : State) : State :=
  if s.taskRuns m then (if late then finish m 0xFD 0 [] s else s)
  else if j.arg = 0 then finish m 0xC 0 [] s
  else finish m 0 0 [] (glWrite Reg.SAF_CONFIRM (BitVec.ofNat 32 (j.axes.headD 0)) s)

/-- SAFETY_CONFIRM (R377): whether the rewrites of the two copies succeed. -/
def execSafetyConfirm (m : Fin 32) (value : Word) (flash : FlashOk) (s : State) : Host.Outcome State Fault Refusal :=
  glJob m 0x61 (fun m j => safetyConfirm m j value flash) confirmEnd s

/-- SAFETY_CMD (R369, R370): 0 RUNREQ, 1 TEST, 2 ENDTEST. -/
def execSafetyCmd (m : Fin 32) (cmd : Fin 3) (s : State) : Host.Outcome State Fault Refusal :=
  glNow m 0x62 (fun m s => finish m 0 0 [] (glWrite Reg.SAF_CMD (BitVec.ofNat 32 (2 ^ cmd.val)) s)) s

/-! Events. -/

/-- One record of the recorder's buffer, as eight words; `none` on an abort. -/
def readRecord (q : Nat) (s : State) : Option (List Nat) × State :=
  (List.range 8).foldl (fun (acc : Option (List Nat) × State) i =>
    match acc with
    | (some ws, s) => let (v, s) := procRead (memBase 6 + 32 * (q % 16384) + 4 * i) s; (v.map (fun x => ws ++ [x]), s)
    | (none, s) => (none, s)) (some [], s)

/-- Up to n records from SEQ q: the valid ones, and whether a read has aborted (R437). -/
def readRecords : Nat → Nat → State → (List Nat × Bool) × State
  | 0, _, s => (([], false), s)
  | n + 1, q, s =>
    if seqDist q s.wseq = 0 || 16383 < seqDist q s.wseq then (([], false), s)
    else
      let (r, s) := readRecord q s
      match r with
      | none => (([], true), s)
      | some ws =>
        let ok := ws.getD 0 0 = q && ws.getD 7 0 / 65536 = q % 65536
        let ((vs, bad), s) := readRecords n ((q + 1) % 2 ^ 32) s
        ((if ok then ws ++ vs else vs, bad), s)

/-- EVL_READ: from the requested SEQ, or the oldest record held if that one has been overwritten. -/
def evlRead (m seq : Nat) (s : State) : State :=
  let d := seqDist seq s.wseq
  let q := if 16383 < d && d < 2 ^ 31 then (s.wseq + 2 ^ 32 - 16383) % 2 ^ 32 else seq
  let ((vs, bad), s) := readRecords 7 q s
  if bad && m % 32 ≠ 31 then taskAbort m s else finishVals m 0x70 (vs ++ [s.wseq]) s

/-- EVL_READ (R437). -/
def execEvlRead (m : Fin 32) (seq : Word) (s : State) : Host.Outcome State Fault Refusal :=
  glNow m 0x70 (fun m => evlRead m seq.toNat) s

/-! Firmware images. -/

/-- Flash address of the inactive slot (R424). -/
def State.inactiveSlot (s : State) : Nat := if s.rb Reg.HIF_BOOT 2 then 0 else 0x200000

/-- FW_WRITE (R422): up to 232 bytes; offset 0 erases the slot first. `flashOk` tells whether the flash does it. The words
of HIF_FL_CMD are PRESUMED (log entry 243). -/
def fwWrite (m : Nat) (j : GlJob) (ofs : Nat) (data : List Nat) (flashOk : Bool) (s : State) : State :=
  if 232 < data.length then finish m 2 0 [] s
  else if 0x200000 < ofs + data.length then finishFree m 3 s
  else
    let op : FlashOp := { cmd := BitVec.ofNat 32 (0x00800002 + 256 * data.length), addr := s.inactiveSlot + ofs, ladr := 0
                          task := some m, bytes := data }
    let er : FlashOp := { cmd := 0x00800000, addr := s.inactiveSlot, ladr := 0, task := some m, erase := true }
    putJob m (some { j with arg := b2n flashOk })
      (taskOps ((if ofs = 0 then [er] else []) ++ if flashOk then [op] else []) s)

/-- It ends when its operations have. -/
def fwWriteEnd (m : Nat) (j : GlJob) (late : Bool) (s : State) : State :=
  if s.taskRuns m then (if late then finish m 0xFD 0 [] s else s) else finish m (if j.arg = 0 then 0xC else 0) 0 [] s

/-- FW_WRITE (R422). -/
def execFwWrite (m : Fin 32) (ofs : BitVec 32) (data : List (BitVec 8)) (flashOk : Bool) (s : State) :
    Host.Outcome State Fault Refusal :=
  glJob m 0x80 (fun m j => fwWrite m j ofs.toNat (data.map (·.toNat)) flashOk) fwWriteEnd s

/-- R426: a next boot selects the inactive slot, given its image: by SVN, by BUILD, by place. -/
def State.nextBoot (s : State) (img : List Nat) : Bool :=
  let bActive := s.rb Reg.HIF_BOOT 2
  s.boot.svn < imgSvn img || (s.boot.svn = imgSvn img &&
    (s.boot.build < imgBuild img || (s.boot.build = imgBuild img && bActive)))

/-- FW_VERIFY (R426): the inactive slot as the flash returns it, `none` for a read failure. -/
def fwVerify (m : Nat) (img : Option (List Nat)) (s : State) : State :=
  match img with
  | none => finish m 0xC 0 [] s
  | some i =>
    let c := s.imgCause i
    if c ≠ 0 then finish m 0xB c [] s
    else finishVals m 0x81 [b2n (s.rb Reg.HIF_BOOT 3 || s.nextBoot i)] s

/-- FW_VERIFY (R426). -/
def execFwVerify (m : Fin 32) (img : Option (List (BitVec 8))) (s : State) : Host.Outcome State Fault Refusal :=
  glNow m 0x81 (fun m => fwVerify m (img.map (·.map (·.toNat)))) s

/-- FW_COMMIT (R422): the anti-rollback counter rises to the running SVN. -/
def execFwCommit (m : Fin 32) (s : State) : Host.Outcome State Fault Refusal :=
  glNow m 0x82 (fun m s => finish m 0 0 []
    (showFuses { s with boot := { s.boot with svnBurn := max s.boot.svnBurn s.boot.svn } })) s

/-- KEY_REVOKE (R422). -/
def execKeyRevoke (m : Fin 32) (slot : Fin 4) (s : State) : Host.Outcome State Fault Refusal :=
  glNow m 0x83 (fun m s =>
    if s.rf Reg.HIF_BOOT 1 0 = slot.val then finishFree m 3 s
    else finish m 0 0 [] (showFuses { s with boot := { s.boot with revBurn := s.boot.revBurn ||| 2 ^ slot.val } })) s

/-- MEM_REPAIR (R403, R422). -/
def execMemRepair (m : Fin 32) (w : Word) (s : State) : Host.Outcome State Fault Refusal :=
  glNow m 0x90 (fun m s => finish m 0 0 [] (glWrite Reg.MEM_SREP (w ||| 0x80000000) s)) s

/-- POWER (R446, R422): a request that the hardware refuses is not allowed in the current state. -/
def execGlPower (m : Fin 32) (tgt : Fin 4) (s : State) : Host.Outcome State Fault Refusal :=
  glNow m 0xA0 (fun m s =>
    if s.stateRefused tgt then finishFree m 4 (glWrite Reg.PCR_PSTATE (BitVec.ofNat 32 tgt) s)
    else glWrite Reg.PCR_PSTATE (BitVec.ofNat 32 tgt) (finish m 0 0 [] s)) s

/-! The boot ROM's commands (R427). -/

/-- The ROM serves mailbox 0 in STAGE 1; another command is unknown to it. `body` takes LEN. -/
def romCommand (opc : Nat) (body : Nat → State → State) (s : State) : State :=
  if !(s.cpuOn && s.hostOn && s.owned 0 && s.stage = 1) then s
  else
    let (h0, s) := mbWord 0 0 s
    let (h1, s) := mbWord 0 4 s
    match h0, h1 with
    | some w0, some w1 =>
      let op := w0 % 65536
      if op ≠ 0xF00 && op ≠ 0xF01 then finish 0 1 0 [] s else if op ≠ opc then s else body (w1 % 65536) s
    | _, _ => s

/-- n words of the request payload of mailbox m from word k, as bytes (R412); `none` on an abort. -/
def mbPayload (m : Nat) : Nat → Nat → State → Option (List Nat) × State
  | _, 0, s => (some [], s)
  | k, n + 1, s =>
    let (w, s) := mbWord m (16 + 4 * k) s
    let (bs, s) := mbPayload m (k + 1) n s
    (w.bind fun v => bs.map fun xs => (List.range 4).map (wordByte v) ++ xs, s)

/-- LOAD_CHUNK: up to 236 bytes at an offset of the body, which payload bytes 0 to 3 give (R425, R427). The row
names the chunk that the mailbox holds. -/
def loadChunk (ofs : Nat) (data : List Nat) (len : Nat) (s : State) : State :=
  if len < 4 || 240 < len then finish 0 2 0 [] s
  else
    let (p, s) := mbPayload 0 0 ((len + 3) / 4) s
    if p.map (·.take len) ≠ some ((List.range 4).map (wordByte ofs) ++ data) then s
    else finish 0 0 0 [] { (tcmStore (memBase 0 + ofs) data s) with
      boot := { s.boot with loaded := max s.boot.loaded (ofs + data.length) } }

/-- LOAD_CHUNK (R427). -/
def execLoadChunk (ofs : BitVec 32) (data : List (BitVec 8)) (s : State) : Host.Outcome State Fault Refusal :=
  done (romCommand 0xF00 (loadChunk ofs.toNat (data.map (·.toNat))) s)

/-- LOAD_GO: the loaded body under the header given, whose checks come first; a bad word of the body fails as the
signature does. -/
def loadGo (hdr : List Nat) (s : State) : State :=
  let hdr := imgBytes hdr 0 256
  if s.headCause hdr ≠ 0 then finish 0 0xB (s.headCause hdr) [] s
  else match tcmBody (imgLen hdr / 8) (memBase 0) s with
  | (none, s) => finish 0 0xB 6 [] s
  | (some body, s) =>
    let img := hdr ++ body
    let c := s.imgCause img
    if c ≠ 0 then finish 0 0xB c [] s
    else finish 0 0 0 [] (startImage img (s.rf Reg.HIF_BOOT 2 2) true (s.rf Reg.HIF_BOOT 23 20) (s.rf Reg.HIF_BOOT 27 24) s)

/-- LOAD_GO (R426, R427). -/
def execLoadGo (header : List (BitVec 8)) (s : State) : Host.Outcome State Fault Refusal :=
  done (romCommand 0xF01 (fun _ => loadGo (header.map (·.toNat))) s)

end Sys2Proof.Machine
end

