-- ==== Sys2Proof/Machine/Operands.lean ====
section
/-! DEFINITION. The operand forms of a native instruction word (R50, R51, R57 to R59), which words are
illegal (R60, R62, R66, R72, R75), and the reads of X, Y and Z with poison (R73). -/

namespace Sys2Proof.Machine

/-- Table 2-4: issue slots of an opcode. -/
def opSlots (op : Nat) : Nat :=
  match op with | 0x13 => 2 | 0x14 => 3 | 0x15 => 3 | 0x16 => 3 | 0x17 => 4 | _ => 1

/-- Table 2-4: Ready of an opcode in ticks. -/
def opReady (op : Nat) : Nat :=
  match op with | 0x13 => 8 | 0x14 => 12 | 0x15 => 12 | 0x16 => 12 | 0x17 => 16 | 0x19 => 8 | _ => 4

/-- Table 2-4: a defined opcode. -/
def opDefined (op : Nat) : Bool := op ≤ 0x19 || op = 0x3F

/-- Opcodes that read X. -/
def usesX (op : Nat) : Bool :=
  (1 ≤ op && op ≤ 4) || (6 ≤ op && op ≤ 0x17) || op = 0x19

/-- Opcodes that read Y. -/
def usesY (op : Nat) : Bool := op = 1 || op = 2

/-- Opcodes that read Z as a value (R58). -/
def usesZ (op : Nat) : Bool :=
  op = 1 || op = 3 || (5 ≤ op && op ≤ 9) || (0x0C ≤ op && op ≤ 0x0F) || op = 0x14

/-- R66: opcodes with a SAT field. -/
def usesSat (op : Nat) : Bool :=
  (1 ≤ op && op ≤ 3) || (6 ≤ op && op ≤ 9) || (0x10 ≤ op && op ≤ 0x17)

/-- Opcodes with an NP field (Tables 2-3 and 2-4). -/
def usesNp (op : Nat) : Bool := (1 ≤ op && op ≤ 4) || op = 0x0A || op = 0x0B || op = 0x19

/-- Opcodes with an NZ field (R57, R58, R67, R69); for SEL as R58 has it (log entry 33). -/
def usesNz (op : Nat) : Bool := op = 1 || op = 3 || op = 5 || op = 0x0F || op = 0x11 || op = 0x12

/-- Opcodes whose destination is DST. -/
def usesDst (op : Nat) : Bool := (1 ≤ op && op ≤ 9) || (0x0F ≤ op && op ≤ 0x16)

/-- R62: opcodes that write the pair Ld, Ld+1. -/
def usesPair (op : Nat) : Bool := op = 0x0A || op = 0x0B || op = 0x17

/-- R62, R75: DST is out of place. -/
def badDst (w : PeaWord) : Bool :=
  if usesDst w.op then 16 < w.dst || (w.dst = 16 && 2 ≤ w.xm)
  else if usesPair w.op then w.dst % 2 = 1 || 14 < w.dst
  else if w.op = 0x18 then 15 < w.dst
  else w.dst ≠ 0

/-- R58 to R60: an X field is out of place. DST = 16 names its element by the X fields. -/
def badX (w : PeaWord) : Bool :=
  if usesX w.op || (usesDst w.op && w.dst = 16) then w.xm = 2 && (16 ≤ w.xoff || w.xstr ≠ 0)
  else w.xm ≠ 0 || w.xoff ≠ 0 || w.xstr ≠ 0

/-- R58 to R60, R63: a Y field is out of place. -/
def badY (w : PeaWord) : Bool :=
  if usesY w.op then w.ym = 1 && (16 ≤ w.yoff || w.ystr ≠ 0)
  else if w.op = 0x19 then w.ym ≠ 0
  else w.ym ≠ 0 || w.yoff ≠ 0 || w.ystr ≠ 0

/-- R57, R67, R71: a Z field is out of place. -/
def badZ (w : PeaWord) : Bool :=
  if usesZ w.op then w.zsel = 3 || (w.zsel = 0 && 16 ≤ w.zfield) || (w.zsel = 2 && w.zfield ≠ 0)
  else if w.op = 0x11 || w.op = 0x12 then
    w.zsel ≠ 1 || bitsOf w.zfield 9 8 = 3 || 1024 ≤ w.zfield
  else if w.op = 0x18 then w.zsel ≠ 1
  else w.zsel ≠ 0 || w.zfield ≠ 0

/-- R75: an illegal word, in a LOOP body or not (R72). -/
def illegalWord (w : PeaWord) (inBody : Bool) : Bool :=
  !opDefined w.op || w.rsv ≠ 0 || (inBody && (w.op = 0x18 || w.op = 0x3F)) ||
  (w.sat && !usesSat w.op) || (w.np && !usesNp w.op) || (w.nz && !usesNz w.op) ||
  badDst w || badX w || badY w || badZ w

/-- R57: the stride of a code. -/
def strideOf (code : Nat) : Int := match code with | 1 => 1 | 2 => 2 | 3 => -1 | _ => 0

/-- R59: an offset advanced by its stride times LC. -/
def effOff (off code lc width : Nat) : Nat := (((off : Int) + strideOf code * lc) % (2 ^ width : Int)).toNat

/-- R51: the X element that the word addresses, of its own base or of the link base. -/
def xElem (c : Ctx) (w : PeaWord) : Nat :=
  ((if w.xm = 1 then c.desc.lb else c.desc.xb) + effOff w.xoff w.xstr c.lc 14) % 131072

/-- A local register with its poison bit. -/
def localOf (c : Ctx) (r : Nat) : Nat × Bool := kvGet (fun _ => (0, false)) c.locals r

/-- Sets a local register. -/
def setLocal (r v : Nat) (p : Bool) (c : Ctx) : Ctx :=
  { c with locals := kvPut (fun _ => (0, false)) c.locals r (v % 2 ^ 32, p) }

/-- R73: records a poisoned read in LE_PSN_INFO. -/
def psnInfo (p axis : Nat) (net fetch : Bool) (elem : Nat) (s : State) : State :=
  setReg (Reg.LE_PSN_INFO p) (BitVec.ofNat 32
    (axis % 256 * 2 ^ 23 + b2n net * 2 ^ 19 + b2n fetch * 2 ^ 18 + elem % 2 ^ 18)) s

/-- R73: a pea's read of element e of its pod: value or the poisoned NaN. -/
def peaElem (p axis e : Nat) (s : State) : (Nat × Bool) × State :=
  let ((v, ok), t) := read32 3 p (elemAddr p e) s
  if ok then ((v, false), t) else ((qNaN, true), psnInfo p axis false false e t)

/-- R73: a pea's read of word a of network buffer memory. -/
def peaNet (p axis a : Nat) (s : State) : (Nat × Bool) × State :=
  let ((v, ok), t) := read32 3 p (netAddr a) s
  if ok then ((v, false), t) else ((qNaN, true), psnInfo p axis true false a t)

/-- The X operand. -/
def readX (p : Nat) (c : Ctx) (w : PeaWord) (s : State) : (Nat × Bool) × State :=
  match w.xm with
  | 2 => (localOf c (w.xoff % 16), s)
  | 3 => peaNet p c.desc.axis ((c.desc.ib + effOff w.xoff w.xstr c.lc 14) % 131072) s
  | _ => peaElem p c.desc.axis (xElem c w) s

/-- The Y operand. -/
def readY (p : Nat) (c : Ctx) (w : PeaWord) (s : State) : (Nat × Bool) × State :=
  if w.ym = 1 then (localOf c (w.yoff % 16), s)
  else peaElem p c.desc.axis (131072 + (c.desc.yb + effOff w.yoff w.ystr c.lc 10) % 65536) s

/-- The Z operand: a local register, an immediate in the form of the opcode (R58), or +0.0. -/
def readZ (c : Ctx) (w : PeaWord) : Nat × Bool :=
  match w.zsel with
  | 0 => localOf c (w.zfield % 16)
  | 1 => (if w.op = 6 || w.op = 7 then ofSigned 32 (toSigned 16 w.zfield) else w.zfield * 2 ^ 16, false)
  | _ => (0, false)

/-- Reads an operand where the opcode uses it. -/
def readIf (u : Bool) (f : State → (Nat × Bool) × State) (s : State) : (Nat × Bool) × State :=
  if u then f s else ((0, false), s)

end Sys2Proof.Machine
end

