-- ==== Sys2Proof/Machine/Pea.lean ====
section
/-! DEFINITION. The peas (chapter 2): issue of one instruction word of a context, its results and the writes
it starts, loops, OUT, END, illegal words, and EVX0640 microcode. -/

namespace Sys2Proof.Machine

/-- R57, R71: a word of the context's program: from the loop cache on later passes of a LOOP, else
fetched (agent 4). -/
def fetchPea (n : Nat) (c : Ctx) (s : State) : (Nat × Bool) × State :=
  if c.loop.n ≠ 0 && c.lc ≠ 0 then ((c.loop.words.getD c.loop.pos 0, true), s)
  else
    let (r, t) := readWord 4 (ctxPod n) (yWordAddr (ctxPod n) (c.desc.pb + c.pc)) s
    ((r.data, r.ok), t)

/-- R81: counts issue slots used by a pod. -/
def countSlots (p k : Nat) (s : State) : State :=
  { s with le := { s.le with issued := kvPut (fun _ => 0) s.le.issued p (kvGet (fun _ => 0) s.le.issued p + k) } }

/-- R71: after a body word: the next word of the body, the next pass, or the word after the body. -/
def stepLoop (c : Ctx) (word : Nat) : Ctx :=
  if c.loop.n = 0 then { c with pc := (c.pc + 1) % 2 ^ 15 }
  else
    let l := if c.lc = 0 then { c.loop with words := c.loop.words ++ [word] } else c.loop
    if l.pos + 1 < l.n then { c with pc := (c.pc + 1) % 2 ^ 15, loop := { l with pos := l.pos + 1 } }
    else if c.lc + 1 < l.m then { c with pc := l.start, lc := c.lc + 1, loop := { l with pos := 0 } }
    else { c with pc := (c.pc + 1) % 2 ^ 15, lc := 0, loop := {} }

/-- R60, R77: the context after issuing a word of an opcode: its slots are used, it may issue again
after them. -/
def afterIssue (k : Nat) (op word : Nat) (t : Nat) (c : Ctx) : Ctx :=
  { stepLoop c word with slot := c.slot + opSlots op, next := t + k * opSlots op }

/-- R75: an illegal word ends the graph as by END: ILL, LE_ILL_INFO; `psn` for a bad fetch. -/
def illegalEnd (n : Nat) (psn : Bool) (s : State) : State :=
  let c := s.ctx n
  let p := ctxPod n
  let f := flILL + (if psn then flPSN else 0)
  let s := setReg (Reg.LE_ILL_INFO p) (BitVec.ofNat 32
    (c.desc.axis % 256 * 2 ^ 23 + c.pc % 2 ^ 15 * 2 ^ 8 + n / 4 % 4 * 2 ^ 4 + n % 4)) s
  let s := if psn then psnInfo p c.desc.axis false true (131072 + 2 * ((c.desc.pb + c.pc) % 32768)) s else s
  let s := podFlags p f s
  endGraph n true false (putCtx n { c with flags := c.flags ||| f } s)

/-- R65: flags of an instruction take effect in the tick in which it writes its result. -/
def raiseFlags (n due f : Nat) (s : State) : State :=
  if f = 0 then s else addWrite ⟨due, ctxPod n, n / 4 % 4, .flags n, f, false⟩ s

/-- R53, R57: the result goes to a local register, or to the addressed X element at the tick of effect. -/
def writeDst (n due : Nat) (c0 : Ctx) (w : PeaWord) (v : Nat) (psn : Bool) (s : State) : State :=
  if w.dst = 16 then addWrite ⟨due, ctxPod n, n / 4 % 4, .elem (xElem c0 w), v, psn⟩ s
  else putCtx n (setLocal w.dst v psn (s.ctx n)) s

/-- The operands of a word and whether any source is poisoned (R70, R73). Where X and Y both read poisoned in one tick,
LE_PSN_INFO keeps the read of Y (DESIGN CHOICE, log entry 233). -/
def readOperands (n : Nat) (c : Ctx) (w : PeaWord) (s : State) : ((Nat × Nat × Nat) × Bool) × State :=
  let p := ctxPod n
  let ((x, px), s) := readIf (usesX w.op) (readX p c w) s
  let ((y, py), s) := readIf (usesY w.op) (readY p c w) s
  let (z, pz) := if usesZ w.op then readZ c w else (0, false)
  let pc := w.op = 0x0F && c.cPsn
  let pp := (w.op = 0x0A || w.op = 0x0B) && c.lc ≠ 0 && ((localOf c w.dst).2 || (localOf c (w.dst + 1)).2)
  (((x, y, z), px || py || pz || pc || pp), s)

/-- Destinations of a result of a word with an arithmetic, copy, search, compare or conversion opcode. A
compare with a poisoned source writes C = 0 with the poison bit (DESIGN CHOICE, log entry 170). -/
def writeResult (n due : Nat) (c : Ctx) (w : PeaWord) (r : PeaRes) (psn : Bool) (s : State) : State :=
  let v := if psn then qNaN else r.val
  if usesDst w.op then writeDst n due c w v psn s
  else if usesPair w.op then
    putCtx n (setLocal (w.dst + 1) (if psn then qNaN else r.val2) psn (setLocal w.dst v psn (s.ctx n))) s
  else if 0x0C ≤ w.op && w.op ≤ 0x0E then putCtx n { s.ctx n with c := r.c && !psn, cPsn := psn } s
  else s

/-- An arithmetic, copy, search, compare or conversion word issued in tick t. With a poisoned source it
raises PSN alone (DESIGN CHOICE, log entry 171). -/
def runArith (n t : Nat) (w : PeaWord) (s : State) : State :=
  let c := s.ctx n
  let k := s.slotTicks (ctxPod n) / 4
  let due := t + k * opReady w.op - 1
  let (((x, y, z), psn), s) := readOperands n c w s
  let r := peaCompute w x y z c.c c.lc (localOf c w.dst).1 (localOf c (w.dst + 1)).1
  let s := writeResult n due c w r psn s
  raiseFlags n due (if psn then flPSN else r.flags) s

/-- R63, R74: an OUT of context n: the write of x to word OB + ofs in tick `due`, with FIN the completion of
the axis's command record (a generator's record is none, R137); a poisoned x writes nothing and poisons the command
record, whichever graph of the axis brings it. -/
def putOut (n due ofs x : Nat) (psn fin : Bool) (s : State) : State :=
  let c := s.ctx n
  let p := ctxPod n
  if psn then
    let s := putCtx n { c with psnOut := true } s
    putAx c.desc.axis { s.ax c.desc.axis with psnCyc := some c.cyc } s
  else
    let a := (c.desc.ob + ofs) % 131072
    let s := addWrite ⟨due, p, n / 4 % 4, .net a c.desc.axis c.cyc c.desc.ob (fin && !c.gen), x, false⟩ s
    putCtx n { s.ctx n with fin := c.fin || fin } s

/-- R63: OUT issued in tick t. -/
def runOut (n t : Nat) (w : PeaWord) (s : State) : State :=
  let c := s.ctx n
  let p := ctxPod n
  let due := t + s.slotTicks p / 4 * 8 - 1
  let ((x, psn), s) := readX p c w s
  putOut n due (effOff w.yoff w.ystr c.lc 10) x psn w.np (raiseFlags n due (if psn then flPSN else 0) s)

/-- R71: LOOP takes N from DST and M from ZFIELD; the body starts at the next word. -/
def runLoop (n : Nat) (w : PeaWord) (s : State) : State :=
  let c := s.ctx n
  putCtx n { c with lc := 0, loop := { start := c.pc, n := w.dst % 16 + 1, m := w.zfield + 1, pos := 0, words := [] } } s

/-- R92, Table 3-6: END: the graph ends, or is bounded when END stands before slot SLOTS − 1. -/
def runEnd (n : Nat) (s : State) : State :=
  let c := s.ctx n
  if c.slot < c.desc.slots then boundGraph n s else endGraph n false false s

/-- A legal native word issued in tick t by context n. -/
def runWord (n t : Nat) (w : PeaWord) (word : Nat) (s : State) : State :=
  let c := s.ctx n
  let k := s.slotTicks (ctxPod n)
  let s := countSlots (ctxPod n) (opSlots w.op) s
  if w.op = 0x3F then runEnd n (putCtx n { afterIssue k w.op word t c with pc := c.pc } s)
  else if w.op = 0x18 then runLoop n w (putCtx n (afterIssue k w.op word t c) s)
  else
    let s := if w.op = 0x19 then runOut n t w s else if w.op = 0 then s else runArith n t w s
    putCtx n (let d := s.ctx n
              { afterIssue k w.op word t c with
                locals := d.locals, c := d.c, cPsn := d.cPsn, flags := d.flags, fin := d.fin, psnOut := d.psnOut }) s

/-- R95: at issue slot FPOS of a TIMED graph the word must be an OUT with FIN; a word of k slots that occupies
the slot without being issued in it is none. -/
def finMissing (c : Ctx) (k : Nat) (finOut : Bool) : Bool :=
  c.desc.timed && c.slot ≤ c.desc.fpos && c.desc.fpos < c.slot + k && !(finOut && c.slot = c.desc.fpos)

/-- R95 for a native word. -/
def nativeMissing (c : Ctx) (w : PeaWord) : Bool := finMissing c (opSlots w.op) (w.op = 0x19 && w.np)

/-- Table 3-6, DSC: the graph in context n, whose word of tick t covers slot FPOS without an OUT with FIN,
ends in that slot; a word issued before it runs. -/
def finFault (n t : Nat) (run : State → State) (s : State) : State :=
  let c := s.ctx n
  let s := onlyIf (decide (c.slot < c.desc.fpos)) run s
  let s := advanceTo (t + s.slotTicks (ctxPod n) * (c.desc.fpos - c.slot)) s
  endGraph n false false (dsFault (ctxPod n) 4 c.idx c.desc.axis s)

/-- Whether context n has reached its slot bound (Table 3-6). -/
def State.atBound (s : State) (n : Nat) : Bool := (s.ctx n).desc.slots ≤ (s.ctx n).slot

/-- True in a pod whose peas and loop clock run, with context n in service. -/
def State.canIssue (s : State) (n : Nat) : Bool :=
  s.loopOn && s.domOn (2 + ctxPod n) && (s.ctx n).live

/-- Context n decodes native words (R76). -/
def State.nativeCtx (s : State) (n : Nat) : Bool := !(s.compat (ctxPod n)) || (s.ctx n).desc.nat

/-- The word that context n issues next and whether it is valid, without the log of the read. -/
def State.nextWord (s : State) (n : Nat) : Nat × Bool := (fetchPea n (s.ctx n) s).1

/-- R75: the next word of context n is illegal or its fetch is bad. -/
def State.nextIllegal (s : State) (n : Nat) : Bool :=
  !(s.nextWord n).2 ||
    (if s.nativeCtx n then illegalWord (peaFields (s.nextWord n).1) ((s.ctx n).loop.n ≠ 0)
     else bitsOf (s.nextWord n).1 63 48 ≠ 0)

/-- Time moves on to the next issue slot of context n, and the word is fetched. -/
def toSlot (n : Nat) (s : State) : (Nat × Nat) × State :=
  let t := s.slotFrom n (max (s.ctx n).next s.time.tick)
  let s := advanceTo t s
  let ((word, _), s) := fetchPea n (s.ctx n) s
  ((t, word), s)

/-- True when the next event of context n is the issue of a legal native word of an opcode. -/
def State.issues (s : State) (n op : Nat) : Bool :=
  s.canIssue n && s.nativeCtx n && !(s.atBound n) && !(s.nextIllegal n) &&
    (peaFields (s.nextWord n).1).op = op

/-- R48, R56: context n issues its next word, which carries the opcode, in its next issue slot; a TIMED
graph without its FIN OUT at FPOS ends there (Table 3-6, DSC), with an END there too; an illegal word there
raises ILL alone (DESIGN CHOICE, log entry 172). -/
def issueNative (n op : Nat) (s : State) : State :=
  if s.issues n op then
    let ((t, word), s) := toSlot n s
    let w := peaFields word
    if nativeMissing (s.ctx n) w then finFault n t (runWord n t w word) s else runWord n t w word s
  else s

/-- R75: context n meets an illegal word or a bad fetch. -/
def issueIllegal (n : Nat) (s : State) : State :=
  if s.canIssue n && !(s.atBound n) && s.nextIllegal n then
    let bad := !(s.nextWord n).2
    illegalEnd n bad (toSlot n s).2
  else s

/-- R101: the tick of issue slot SLOTS of context n, which a word of several slots may have covered. -/
def State.boundTick (s : State) (n : Nat) : Nat :=
  s.slotFrom n (s.ctx n).next - s.slotTicks (ctxPod n) * ((s.ctx n).slot - (s.ctx n).desc.slots)

/-- R101: context n reaches issue slot SLOTS without END. -/
def issueBound (n : Nat) (s : State) : State :=
  if s.canIssue n && s.atBound n then boundGraph n (cutSlots n (s.boundTick n) (advanceTo (s.boundTick n) s)) else s

/-- R77: a multiplicand of an EVX0640 word at a data address, from the X region. -/
def readEvx (p : Nat) (c : Ctx) (a : Option (BitVec 17)) (s : State) : (Nat × Bool) × State :=
  match a with
  | some a => peaElem p c.desc.axis ((c.desc.xb + a.toNat) % 131072) s
  | none => ((0, false), s)

/-- R73 to R75, R78: what a legal EVX0640 word of tick t does with its result: the value and the flags are free
functions of the operands; a poisoned operand poisons the result and raises PSN alone. -/
def runEvx (n t word : Nat) (f : EvxForm) (s : State) : State :=
  let c := s.ctx n
  let p := ctxPod n
  let ((x, px), s) := readEvx p c f.x s
  let ((y, py), s) := readEvx p c f.y s
  let accs := f.accs.map fun r => localOf c r.val
  let psn := px || py || accs.any (·.2)
  let r := Config.evxResult word x y (accs.map (·.1)) s.free
  let s := useFree s
  let v := if psn then qNaN else r.1.toNat
  let fl := if psn then flPSN else r.2.toNat
  let due := t + (match f.dst with | .out _ _ => 16 | _ => 8 * (f.slots1.val + 1)) - 1
  let s := raiseFlags n due fl s
  match f.dst with
  | .acc r => putCtx n (setLocal r.val v psn (s.ctx n)) s
  | .data a => addWrite ⟨due, p, n / 4 % 4, .elem ((c.desc.xb + a.toNat) % 131072), v, psn⟩ s
  | .out w fin => putOut n due w.toNat v psn fin s
  | _ => s

/-- R76 to R78: context n issues an EVX0640 word at the half rate. What the word names is free; accumulators A0
to A7 are L0 to L7, data address a is element XB + a. -/
def issueEvx (n : Nat) (s : State) : State :=
  if s.canIssue n && !(s.nativeCtx n) && !(s.atBound n) && !(s.nextIllegal n) then
    let ((t, word), s) := toSlot n s
    let f := Config.evxForm word s.free
    let c := s.ctx n
    let k := f.slots1.val + 1
    let s := useFree s
    match f.dst with
    | .illegal => illegalEnd n false s
    | d =>
      let run (s : State) : State :=
        let s := countSlots (ctxPod n) k s
        let s := putCtx n { stepLoop c word with slot := c.slot + k, next := t + 8 * k } s
        if d = .graphEnd then runEnd n (putCtx n { s.ctx n with pc := c.pc } s) else runEvx n t word f s
      if finMissing c k (match d with | .out _ fin => fin | _ => false) then finFault n t run s else run s
  else s

/-- Context number of pod, pea and context (R81). -/
def ctxNo (pod pea ctx : Fin 4) : Nat := 16 * pod.val + 4 * pea.val + ctx.val

/-! The commands. -/

/-- NOP, opcode 0x00 of Table 2-4. -/
def execNop (pod pea ctx : Fin 4) (s : State) : Host.Outcome State Fault Refusal :=
  done (issueNative (ctxNo pod pea ctx) 0x00 s)

/-- FMA, opcode 0x01 of Table 2-4. -/
def execFma (pod pea ctx : Fin 4) (s : State) : Host.Outcome State Fault Refusal :=
  done (issueNative (ctxNo pod pea ctx) 0x01 s)

/-- MUL, opcode 0x02 of Table 2-4. -/
def execMul (pod pea ctx : Fin 4) (s : State) : Host.Outcome State Fault Refusal :=
  done (issueNative (ctxNo pod pea ctx) 0x02 s)

/-- ADD, opcode 0x03 of Table 2-4. -/
def execAdd (pod pea ctx : Fin 4) (s : State) : Host.Outcome State Fault Refusal :=
  done (issueNative (ctxNo pod pea ctx) 0x03 s)

/-- MOV, opcode 0x04 of Table 2-4. -/
def execMov (pod pea ctx : Fin 4) (s : State) : Host.Outcome State Fault Refusal :=
  done (issueNative (ctxNo pod pea ctx) 0x04 s)

/-- LDZ, opcode 0x05 of Table 2-4. -/
def execLdz (pod pea ctx : Fin 4) (s : State) : Host.Outcome State Fault Refusal :=
  done (issueNative (ctxNo pod pea ctx) 0x05 s)

/-- IADD, opcode 0x06 of Table 2-4. -/
def execIadd (pod pea ctx : Fin 4) (s : State) : Host.Outcome State Fault Refusal :=
  done (issueNative (ctxNo pod pea ctx) 0x06 s)

/-- ISUB, opcode 0x07 of Table 2-4. -/
def execIsub (pod pea ctx : Fin 4) (s : State) : Host.Outcome State Fault Refusal :=
  done (issueNative (ctxNo pod pea ctx) 0x07 s)

/-- MIN, opcode 0x08 of Table 2-4. -/
def execFmin (pod pea ctx : Fin 4) (s : State) : Host.Outcome State Fault Refusal :=
  done (issueNative (ctxNo pod pea ctx) 0x08 s)

/-- MAX, opcode 0x09 of Table 2-4. -/
def execFmax (pod pea ctx : Fin 4) (s : State) : Host.Outcome State Fault Refusal :=
  done (issueNative (ctxNo pod pea ctx) 0x09 s)

/-- MINX, opcode 0x0A of Table 2-4. -/
def execMinx (pod pea ctx : Fin 4) (s : State) : Host.Outcome State Fault Refusal :=
  done (issueNative (ctxNo pod pea ctx) 0x0A s)

/-- MAXX, opcode 0x0B of Table 2-4. -/
def execMaxx (pod pea ctx : Fin 4) (s : State) : Host.Outcome State Fault Refusal :=
  done (issueNative (ctxNo pod pea ctx) 0x0B s)

/-- CLT, opcode 0x0C of Table 2-4. -/
def execClt (pod pea ctx : Fin 4) (s : State) : Host.Outcome State Fault Refusal :=
  done (issueNative (ctxNo pod pea ctx) 0x0C s)

/-- CLE, opcode 0x0D of Table 2-4. -/
def execCle (pod pea ctx : Fin 4) (s : State) : Host.Outcome State Fault Refusal :=
  done (issueNative (ctxNo pod pea ctx) 0x0D s)

/-- CEQ, opcode 0x0E of Table 2-4. -/
def execCeq (pod pea ctx : Fin 4) (s : State) : Host.Outcome State Fault Refusal :=
  done (issueNative (ctxNo pod pea ctx) 0x0E s)

/-- SEL, opcode 0x0F of Table 2-4. -/
def execSel (pod pea ctx : Fin 4) (s : State) : Host.Outcome State Fault Refusal :=
  done (issueNative (ctxNo pod pea ctx) 0x0F s)

/-- ABS, opcode 0x10 of Table 2-4. -/
def execAbs (pod pea ctx : Fin 4) (s : State) : Host.Outcome State Fault Refusal :=
  done (issueNative (ctxNo pod pea ctx) 0x10 s)

/-- CVTFQ, opcode 0x11 of Table 2-4. -/
def execCvtfq (pod pea ctx : Fin 4) (s : State) : Host.Outcome State Fault Refusal :=
  done (issueNative (ctxNo pod pea ctx) 0x11 s)

/-- CVTQF, opcode 0x12 of Table 2-4. -/
def execCvtqf (pod pea ctx : Fin 4) (s : State) : Host.Outcome State Fault Refusal :=
  done (issueNative (ctxNo pod pea ctx) 0x12 s)

/-- RCP, opcode 0x13 of Table 2-4. -/
def execRcp (pod pea ctx : Fin 4) (s : State) : Host.Outcome State Fault Refusal :=
  done (issueNative (ctxNo pod pea ctx) 0x13 s)

/-- DIV, opcode 0x14 of Table 2-4. -/
def execDiv (pod pea ctx : Fin 4) (s : State) : Host.Outcome State Fault Refusal :=
  done (issueNative (ctxNo pod pea ctx) 0x14 s)

/-- SQRT, opcode 0x15 of Table 2-4. -/
def execSqrt (pod pea ctx : Fin 4) (s : State) : Host.Outcome State Fault Refusal :=
  done (issueNative (ctxNo pod pea ctx) 0x15 s)

/-- RSQ, opcode 0x16 of Table 2-4. -/
def execRsq (pod pea ctx : Fin 4) (s : State) : Host.Outcome State Fault Refusal :=
  done (issueNative (ctxNo pod pea ctx) 0x16 s)

/-- SINCOS, opcode 0x17 of Table 2-4. -/
def execSincos (pod pea ctx : Fin 4) (s : State) : Host.Outcome State Fault Refusal :=
  done (issueNative (ctxNo pod pea ctx) 0x17 s)

/-- LOOP, opcode 0x18 of Table 2-4. -/
def execOpLoop (pod pea ctx : Fin 4) (s : State) : Host.Outcome State Fault Refusal :=
  done (issueNative (ctxNo pod pea ctx) 0x18 s)

/-- OUT, opcode 0x19 of Table 2-4. -/
def execOpOut (pod pea ctx : Fin 4) (s : State) : Host.Outcome State Fault Refusal :=
  done (issueNative (ctxNo pod pea ctx) 0x19 s)

/-- END, opcode 0x3F of Table 2-4. -/
def execOpEnd (pod pea ctx : Fin 4) (s : State) : Host.Outcome State Fault Refusal :=
  done (issueNative (ctxNo pod pea ctx) 0x3F s)

/-- ILLEGAL_WORD (R75). -/
def execIllegalWord (pod pea ctx : Fin 4) (s : State) : Host.Outcome State Fault Refusal :=
  done (issueIllegal (ctxNo pod pea ctx) s)

/-- EVX0640_INSTRUCTION (R76 to R78). -/
def execEvx0640Instruction (pod pea ctx : Fin 4) (s : State) : Host.Outcome State Fault Refusal :=
  done (issueEvx (ctxNo pod pea ctx) s)

/-- SLOT_BOUND (R101). -/
def execSlotBound (pod pea ctx : Fin 4) (s : State) : Host.Outcome State Fault Refusal :=
  done (issueBound (ctxNo pod pea ctx) s)

end Sys2Proof.Machine
end

