-- ==== Sys2Proof/Machine/Scheduler.lean ====
section
/-! DEFINITION. The commands of the dataflow scheduler: registration, CYCLE releases, dispatch, the deadline,
and a pod's sleep between bursts (R451). -/

namespace Sys2Proof.Machine

/-- The scheduler of pod p runs: loop clock on, domain powered. -/
def State.schedOn (s : State) (p : Nat) : Bool := s.loopOn && s.domOn (2 + p)

/-- RELEASE_REGISTRATION (R86 to R88). -/
def execReleaseRegistration (pod : Fin 4) (s : State) : Host.Outcome State Fault Refusal :=
  done (onlyIf (s.schedOn pod) (registerNext pod) s)

/-- The last tick before the next cycle start, while cycles run. -/
def State.lastTick (s : State) : Nat := s.tickOfNs (s.time.nextNs - 1)

/-- R85: the tick, in the present cycle, that lies an offset after the start of this cycle or of one before. -/
def State.offsetTick (s : State) (off : Nat) : Option Nat :=
  (s.time.starts.map (· + off)).find? fun t => s.time.startTick ≤ t && t ≤ s.lastTick

/-- R85: the CYCLE release of one descriptor at its offset in ticks after a cycle start. -/
def cycleRelease (p idx : Nat) (s : State) : State :=
  match (s.pod p).mtch.find? fun m => m.1 = idx && m.2.1 = 5 with
  | some (_, _, off) =>
    match s.offsetTick off with
    | some t =>
      let s := advanceTo t s
      arrive p ⟨idx, 5, 2000, s.cyc, s.time.tick, false, 0, 0⟩ s
    | none => s
  | none => s

/-- CYCLE_RELEASE (R85). -/
def execCycleRelease (pod : Fin 4) (idx : Fin 256) (s : State) : Host.Outcome State Fault Refusal :=
  done (onlyIf (s.schedOn pod && s.running) (cycleRelease pod idx) s)

/-- DISPATCH (R89 to R91, R96); a sleeping pod dispatches nothing. -/
def execDispatch (pod : Fin 4) (s : State) : Host.Outcome State Fault Refusal :=
  done (onlyIf (s.schedOn pod && !(s.pod pod).asleep) (dispatchNext pod) s)

/-- R102: the deadline instant of the cycle that lies `back` cycles before the present one. -/
def State.deadlineNsAt (s : State) (p back : Nat) : Nat :=
  s.cycStart - back * s.clenU + s.deadlineNs (s.cyc - back) p * 2 ^ 32

/-- The deadline of that cycle comes no later than the next cycle start; one on a cycle start acts just before it. -/
def State.deadlineNear (s : State) (p back : Nat) : Bool :=
  back ≤ s.cyc && !(s.running && s.time.nextNs < s.deadlineNsAt p back)

/-- R102: the deadline of the cycle that lies `back` cycles before the present one, once. -/
def deadlineCmd (p back : Nat) (s : State) : State :=
  if !(s.deadlineNear p back) || (s.pod p).closed.contains (s.cyc - back) then s
  else
    let at_ := s.deadlineNsAt p back
    deadlineAt p (s.cyc - back) (advanceNs (if s.running then min at_ (s.time.nextNs - 1) else at_) s)

/-- DEADLINE (R100 to R102). -/
def execDeadline (pod : Fin 4) (back : Fin 3) (s : State) : Host.Outcome State Fault Refusal :=
  done (onlyIf (s.schedOn pod) (deadlineCmd pod back) s)

/-- R451: pod p sleeps after 64 ticks with no entry and no graph. -/
def podSleep (p : Nat) (s : State) : State :=
  let v := s.pod p
  if s.ab (Reg.PCR_PODSLP p) 31 && !v.asleep && v.queue.isEmpty && (podCtxs p).all (fun n => !(s.ctx n).live) then
    let s := advanceTo (v.idleSince + 64) s
    setRb (Reg.LE_POD_STAT p) 9 true (putPod p { s.pod p with asleep := true, waking := none, idleSince := s.time.tick } s)
  else s

/-- POD_SLEEP (R451). -/
def execPodSleep (pod : Fin 4) (s : State) : Host.Outcome State Fault Refusal :=
  done (onlyIf (s.schedOn pod) (podSleep pod) s)

/-- R451: the instant in 1/80 ns after cycle start, which it may precede, at which the window of uplink slot n opens, or
would open if the window is muted or its position unreachable. -/
def State.windowOpens (s : State) (n : Nat) : Option Int :=
  if s.csState = 5 && s.ringEn (n / 80) && s.ab (Reg.SLT_SLOT n) 29 then
    match s.slotPos n with
    | some k =>
      let e := s.af (Reg.SLT_UE n) 23 0
      match s.uplinkAt (n / 80) k e with
      | some (_, first) => some ((sd80 first : Int) - s.tol80 (n / 80))
      | none => some ((sd80 e : Int) - 80 * s.af (Reg.NET_RING_CTL (n / 80)) 15 8)
    | none => none
  else none

/-- R451: the instant in 1/80 ns after cycle start at which the release of one word of the match copy wakes the pod. -/
def State.releaseWake (s : State) (src arg : Nat) : Option Int :=
  match src with
  | 1 => if arg % 512 / 4 < 80 then s.windowOpens (80 * (arg % 4) + arg % 512 / 4) else none
  | 2 =>
    let x := s.af (Reg.CAS_RXDL (arg % 4)) 23 0
    if s.csState = 5 && arg % 4 < 3 && x ≠ 0 then some (5 * ((x : Int) - 1600)) else none
  | _ => none

/-- R451: the instants of a cycle, in 1/80 ns after its start, that wake pod p. -/
def State.wakeInstants (s : State) (p : Nat) : List Int :=
  let own : List Int := if s.running && s.ab (Reg.PCR_PODSLP p) 30 then [((5 * s.af (Reg.PCR_PODSLP p) 23 0 : Nat) : Int)] else []
  own ++ (s.pod p).mtch.filterMap (fun m => s.releaseWake m.2.1 m.2.2)

/-- NS at an instant in 1/80 ns after the start of the present cycle, or before that of the next one. -/
def State.wakeNs (s : State) (x : Int) : Nat :=
  if 0 ≤ x then s.at80 x.toNat else ((s.time.nextNs : Int) + x * 2 ^ 32 / 80).toNat

/-- R451: the first tick, while pod p sleeps, at which an instant that lies in the present cycle wakes it. -/
def State.wakeTick (s : State) (p : Nat) : Option Nat :=
  let ts := ((s.wakeInstants p).map s.wakeNs).filterMap fun u =>
    if u < s.time.nextNs && (s.pod p).idleSince ≤ s.tickAt u then some (s.tickAt u) else none
  ts.foldl (fun m t => some (match m with | some x => min x t | none => t)) none

/-- R451: a sleeping pod wakes at its first trigger. -/
def podTrigger (p : Nat) (s : State) : State :=
  match s.wakeTick p with
  | some t => podWake p (advanceTo t s)
  | none => s

/-- POD_WAKE (R451). -/
def execPodWake (pod : Fin 4) (s : State) : Host.Outcome State Fault Refusal :=
  done (onlyIf (s.schedOn pod && (s.pod pod).asleep) (podTrigger pod) s)

/-- R451: the wake of a pod completes; an entry eligible before that sets WAKEX. -/
def podAwake (p : Nat) (s : State) : State :=
  let v := s.pod p
  if v.asleep && v.waking.isSome then
    let s := putPod p { v with asleep := false, waking := none, idleSince := s.time.tick } s
    let s := setRb (Reg.LE_POD_STAT p) 9 false s
    onlyIf (v.queue.any fun e => e.elig < s.time.tick) (orReg Reg.PCR_PODERR (2 ^ p)) s
  else s

/-- POD_WAKE_COMPLETE (R451). -/
def execPodWakeComplete (pod : Fin 4) (s : State) : Host.Outcome State Fault Refusal :=
  done (onlyIf (s.schedOn pod) (podAwake pod) s)

end Sys2Proof.Machine
end

