-- ==== Sys2Proof/Machine/Dispatch.lean ====
section
/-! DEFINITION. The meaning of every command: one arm per row of the opcode table, each one direct
call of that row's meaning. -/

namespace Sys2Proof.Machine

def exec (i : Instr) (s : State) : Host.Outcome State Fault Refusal :=
  match i with
  | .cycleStart => Sys2Proof.Machine.execCycleStart s
  | .commitCutoff => Sys2Proof.Machine.execCommitCutoff s
  | .cmtReq blk w => Sys2Proof.Machine.execCmtReq blk w s
  | .commitApplyIdle => Sys2Proof.Machine.execCommitApplyIdle s
  | .registerWrite addr be w => Sys2Proof.Machine.execRegisterWrite addr be w s
  | .rcFieldRead addr be => Sys2Proof.Machine.execRcFieldRead addr be s
  | .processorAbort addr kind ordinary => Sys2Proof.Machine.execProcessorAbort addr kind ordinary s
  | .nop pod pea ctx => Sys2Proof.Machine.execNop pod pea ctx s
  | .fma pod pea ctx => Sys2Proof.Machine.execFma pod pea ctx s
  | .mul pod pea ctx => Sys2Proof.Machine.execMul pod pea ctx s
  | .add pod pea ctx => Sys2Proof.Machine.execAdd pod pea ctx s
  | .mov pod pea ctx => Sys2Proof.Machine.execMov pod pea ctx s
  | .ldz pod pea ctx => Sys2Proof.Machine.execLdz pod pea ctx s
  | .iadd pod pea ctx => Sys2Proof.Machine.execIadd pod pea ctx s
  | .isub pod pea ctx => Sys2Proof.Machine.execIsub pod pea ctx s
  | .fmin pod pea ctx => Sys2Proof.Machine.execFmin pod pea ctx s
  | .fmax pod pea ctx => Sys2Proof.Machine.execFmax pod pea ctx s
  | .minx pod pea ctx => Sys2Proof.Machine.execMinx pod pea ctx s
  | .maxx pod pea ctx => Sys2Proof.Machine.execMaxx pod pea ctx s
  | .clt pod pea ctx => Sys2Proof.Machine.execClt pod pea ctx s
  | .cle pod pea ctx => Sys2Proof.Machine.execCle pod pea ctx s
  | .ceq pod pea ctx => Sys2Proof.Machine.execCeq pod pea ctx s
  | .sel pod pea ctx => Sys2Proof.Machine.execSel pod pea ctx s
  | .abs pod pea ctx => Sys2Proof.Machine.execAbs pod pea ctx s
  | .cvtfq pod pea ctx => Sys2Proof.Machine.execCvtfq pod pea ctx s
  | .cvtqf pod pea ctx => Sys2Proof.Machine.execCvtqf pod pea ctx s
  | .rcp pod pea ctx => Sys2Proof.Machine.execRcp pod pea ctx s
  | .div pod pea ctx => Sys2Proof.Machine.execDiv pod pea ctx s
  | .sqrt pod pea ctx => Sys2Proof.Machine.execSqrt pod pea ctx s
  | .rsq pod pea ctx => Sys2Proof.Machine.execRsq pod pea ctx s
  | .sincos pod pea ctx => Sys2Proof.Machine.execSincos pod pea ctx s
  | .opLoop pod pea ctx => Sys2Proof.Machine.execOpLoop pod pea ctx s
  | .opOut pod pea ctx => Sys2Proof.Machine.execOpOut pod pea ctx s
  | .opEnd pod pea ctx => Sys2Proof.Machine.execOpEnd pod pea ctx s
  | .illegalWord pod pea ctx => Sys2Proof.Machine.execIllegalWord pod pea ctx s
  | .evx0640Instruction pod pea ctx => Sys2Proof.Machine.execEvx0640Instruction pod pea ctx s
  | .releaseRegistration pod => Sys2Proof.Machine.execReleaseRegistration pod s
  | .cycleRelease pod idx => Sys2Proof.Machine.execCycleRelease pod idx s
  | .dispatch pod => Sys2Proof.Machine.execDispatch pod s
  | .slotBound pod pea ctx => Sys2Proof.Machine.execSlotBound pod pea ctx s
  | .deadline pod back => Sys2Proof.Machine.execDeadline pod back s
  | .podSleep pod => Sys2Proof.Machine.execPodSleep pod s
  | .podWake pod => Sys2Proof.Machine.execPodWake pod s
  | .podWakeComplete pod => Sys2Proof.Machine.execPodWakeComplete pod s
  | .axAck axis => Sys2Proof.Machine.execAxAck axis s
  | .pgTapp axis count => Sys2Proof.Machine.execPgTapp axis count s
  | .pgTappSkip axis count => Sys2Proof.Machine.execPgTappSkip axis count s
  | .outputPhase => Sys2Proof.Machine.execOutputPhase s
  | .stepIssue pair => Sys2Proof.Machine.execStepIssue pair s
  | .stepPulseEnd pair => Sys2Proof.Machine.execStepPulseEnd pair s
  | .localRecordComplete ch rawS rawC => Sys2Proof.Machine.execLocalRecordComplete ch rawS rawC s
  | .quadratureEdge ch a b z => Sys2Proof.Machine.execQuadratureEdge ch a b z s
  | .indexLatch lines => Sys2Proof.Machine.execIndexLatch lines s
  | .magneticSwitchEdge ch u v w => Sys2Proof.Machine.execMagneticSwitchEdge ch u v w s
  | .quarterCount ch quad => Sys2Proof.Machine.execQuarterCount ch quad s
  | .freeConversion ch rawS rawC => Sys2Proof.Machine.execFreeConversion ch rawS rawC s
  | .losEdge ch => Sys2Proof.Machine.execLosEdge ch s
  | .emulationEdge out => Sys2Proof.Machine.execEmulationEdge out s
  | .uplinkFrame port sd fr => Sys2Proof.Machine.execUplinkFrame port sd fr s
  | .frameAccept ring slot => Sys2Proof.Machine.execFrameAccept ring slot s
  | .uplinkMiss ring slot => Sys2Proof.Machine.execUplinkMiss ring slot s
  | .relayCopy ring slot => Sys2Proof.Machine.execRelayCopy ring slot s
  | .netEcho ring sd fr => Sys2Proof.Machine.execNetEcho ring sd fr s
  | .probeSend port => Sys2Proof.Machine.execProbeSend port s
  | .probeReturn port sd fr => Sys2Proof.Machine.execProbeReturn port sd fr s
  | .probeLost port num => Sys2Proof.Machine.execProbeLost port num s
  | .loopNotice port pos => Sys2Proof.Machine.execLoopNotice port pos s
  | .segokNotice port pos => Sys2Proof.Machine.execSegokNotice port pos s
  | .linkUp port eye eq clean => Sys2Proof.Machine.execLinkUp port eye eq clean s
  | .linkLoss port rx => Sys2Proof.Machine.execLinkLoss port rx s
  | .downlinkDeparture ring slot => Sys2Proof.Machine.execDownlinkDeparture ring slot s
  | .beaconSend ring => Sys2Proof.Machine.execBeaconSend ring s
  | .syncSend port => Sys2Proof.Machine.execSyncSend port s
  | .netProbe ring => Sys2Proof.Machine.execNetProbe ring s
  | .netRestore ring => Sys2Proof.Machine.execNetRestore ring s
  | .autoRestore ring => Sys2Proof.Machine.execAutoRestore ring s
  | .csStart => Sys2Proof.Machine.execCsStart s
  | .csStop withStart => Sys2Proof.Machine.execCsStop withStart s
  | .listenTimeout => Sys2Proof.Machine.execListenTimeout s
  | .beaconReceive port sd fr => Sys2Proof.Machine.execBeaconReceive port sd fr s
  | .coldstartWindowEnd => Sys2Proof.Machine.execColdstartWindowEnd s
  | .backoffEnd => Sys2Proof.Machine.execBackoffEnd s
  | .coldEnd => Sys2Proof.Machine.execColdEnd s
  | .integEnd => Sys2Proof.Machine.execIntegEnd s
  | .claimGrant ring slot => Sys2Proof.Machine.execClaimGrant ring slot s
  | .claimRefuse ring => Sys2Proof.Machine.execClaimRefuse ring s
  | .claimRelease ring slot => Sys2Proof.Machine.execClaimRelease ring slot s
  | .spareAutoRelease ring slot => Sys2Proof.Machine.execSpareAutoRelease ring slot s
  | .muteEnd n => Sys2Proof.Machine.execMuteEnd n s
  | .tset => Sys2Proof.Machine.execTset s
  | .timeRead => Sys2Proof.Machine.execTimeRead s
  | .correctionApply => Sys2Proof.Machine.execCorrectionApply s
  | .followLockTimeout => Sys2Proof.Machine.execFollowLockTimeout s
  | .cascadeSync port sd fr => Sys2Proof.Machine.execCascadeSync port sd fr s
  | .cascadeLinkUp port rx => Sys2Proof.Machine.execCascadeLinkUp port rx s
  | .cascadeLinkLoss rx => Sys2Proof.Machine.execCascadeLinkLoss rx s
  | .linkRecord port sd fr => Sys2Proof.Machine.execLinkRecord port sd fr s
  | .cascadeRecordSend port => Sys2Proof.Machine.execCascadeRecordSend port s
  | .cascadeRecord port sd fr => Sys2Proof.Machine.execCascadeRecord port sd fr s
  | .relayAccept port idx => Sys2Proof.Machine.execRelayAccept port idx s
  | .relayMiss port => Sys2Proof.Machine.execRelayMiss port s
  | .modeRecord port sd fr => Sys2Proof.Machine.execModeRecord port sd fr s
  | .mabort port => Sys2Proof.Machine.execMabort port s
  | .mcAnnounce => Sys2Proof.Machine.execMcAnnounce s
  | .mcCancel => Sys2Proof.Machine.execMcCancel s
  | .mirrorRecord port sd fr => Sys2Proof.Machine.execMirrorRecord port sd fr s
  | .pairRecord port sd fr => Sys2Proof.Machine.execPairRecord port sd fr s
  | .pairTimeout => Sys2Proof.Machine.execPairTimeout s
  | .captureInstant => Sys2Proof.Machine.execCaptureInstant s
  | .sproutEvaluate => Sys2Proof.Machine.execSproutEvaluate s
  | .recordStore => Sys2Proof.Machine.execRecordStore s
  | .fifoDrain => Sys2Proof.Machine.execFifoDrain s
  | .refreshSlot => Sys2Proof.Machine.execRefreshSlot s
  | .bar2Read ofs len => Sys2Proof.Machine.execBar2Read ofs len s
  | .acqArm => Sys2Proof.Machine.execAcqArm s
  | .acqStop => Sys2Proof.Machine.execAcqStop s
  | .triggerEdge edge ofs => Sys2Proof.Machine.execTriggerEdge edge ofs s
  | .xtrigDrive => Sys2Proof.Machine.execXtrigDrive s
  | .xtrigRelease => Sys2Proof.Machine.execXtrigRelease s
  | .xtrigEdge ofs => Sys2Proof.Machine.execXtrigEdge ofs s
  | .filteredLevelChange inp => Sys2Proof.Machine.execFilteredLevelChange inp s
  | .wireBreak inp => Sys2Proof.Machine.execWireBreak inp s
  | .wireBreakClear inp => Sys2Proof.Machine.execWireBreakClear inp s
  | .thresholdRecompute => Sys2Proof.Machine.execThresholdRecompute s
  | .fioOut w => Sys2Proof.Machine.execFioOut w s
  | .fioOutSet w => Sys2Proof.Machine.execFioOutSet w s
  | .fioOutClr w => Sys2Proof.Machine.execFioOutClr w s
  | .overload chan => Sys2Proof.Machine.execOverload chan s
  | .overTemperature ch => Sys2Proof.Machine.execOverTemperature ch s
  | .openWire ch => Sys2Proof.Machine.execOpenWire ch s
  | .externalDrive chan => Sys2Proof.Machine.execExternalDrive chan s
  | .faultClear w lim hot ext => Sys2Proof.Machine.execFaultClear w lim hot ext s
  | .heartbeat => Sys2Proof.Machine.execHeartbeat s
  | .heartbeatLoss => Sys2Proof.Machine.execHeartbeatLoss s
  | .hback => Sys2Proof.Machine.execHback s
  | .uvack => Sys2Proof.Machine.execUvack s
  | .vfieldMeasure mv => Sys2Proof.Machine.execVfieldMeasure mv s
  | .supervisorPowerUp => Sys2Proof.Machine.execSupervisorPowerUp s
  | .safetyPeriod => Sys2Proof.Machine.execSafetyPeriod s
  | .hdlyExpiry g => Sys2Proof.Machine.execHdlyExpiry g s
  | .discrepancy pair => Sys2Proof.Machine.execDiscrepancy pair s
  | .safStok => Sys2Proof.Machine.execSafStok s
  | .safTest => Sys2Proof.Machine.execSafTest s
  | .endtest => Sys2Proof.Machine.execEndtest s
  | .runreq => Sys2Proof.Machine.execRunreq s
  | .reqWrite req => Sys2Proof.Machine.execReqWrite req s
  | .safPfm id => Sys2Proof.Machine.execSafPfm id s
  | .pfmEnd => Sys2Proof.Machine.execPfmEnd s
  | .flowWatchdog => Sys2Proof.Machine.execFlowWatchdog s
  | .lockstepMismatch => Sys2Proof.Machine.execLockstepMismatch s
  | .hself => Sys2Proof.Machine.execHself s
  | .stoFeedbackCheck g => Sys2Proof.Machine.execStoFeedbackCheck g s
  | .testPulse g low => Sys2Proof.Machine.execTestPulse g low s
  | .checkCompute => Sys2Proof.Machine.execCheckCompute s
  | .scrubRead macroNo => Sys2Proof.Machine.execScrubRead macroNo s
  | .memWzero w => Sys2Proof.Machine.execMemWzero w s
  | .srepGo w => Sys2Proof.Machine.execSrepGo w s
  | .memoryInit m => Sys2Proof.Machine.execMemoryInit m s
  | .initDone m => Sys2Proof.Machine.execInitDone m s
  | .doorbell w => Sys2Proof.Machine.execDoorbell w s
  | .mailboxWrite host ofs data be => Sys2Proof.Machine.execMailboxWrite host ofs data be s
  | .hdoneClear w => Sys2Proof.Machine.execHdoneClear w s
  | .hnoteSet w => Sys2Proof.Machine.execHnoteSet w s
  | .hnoteClear w => Sys2Proof.Machine.execHnoteClear w s
  | .dbqRead => Sys2Proof.Machine.execDbqRead s
  | .facc mb bound => Sys2Proof.Machine.execFacc mb bound s
  | .fdone mb => Sys2Proof.Machine.execFdone mb s
  | .mailboxTimeout m => Sys2Proof.Machine.execMailboxTimeout m s
  | .hostReset => Sys2Proof.Machine.execHostReset s
  | .spiRead addr len late => Sys2Proof.Machine.execSpiRead addr len late s
  | .spiWrite addr data => Sys2Proof.Machine.execSpiWrite addr data s
  | .spiStatus => Sys2Proof.Machine.execSpiStatus s
  | .spiCsRise => Sys2Proof.Machine.execSpiCsRise s
  | .bar2Write => Sys2Proof.Machine.execBar2Write s
  | .dmaGo ch dir len => Sys2Proof.Machine.execDmaGo ch dir len s
  | .dmaRst ch => Sys2Proof.Machine.execDmaRst ch s
  | .dmaDone ch words refusal => Sys2Proof.Machine.execDmaDone ch words refusal s
  | .dmaCompletionTimeout ch words => Sys2Proof.Machine.execDmaCompletionTimeout ch words s
  | .flashGo w => Sys2Proof.Machine.execFlashGo w s
  | .flashDone data => Sys2Proof.Machine.execFlashDone data s
  | .glPing m => Sys2Proof.Machine.execGlPing m s
  | .glInfo m => Sys2Proof.Machine.execGlInfo m s
  | .glStatus m => Sys2Proof.Machine.execGlStatus m s
  | .glAbort m named => Sys2Proof.Machine.execGlAbort m named s
  | .dmaReset m ch => Sys2Proof.Machine.execDmaReset m ch s
  | .cfgRead m regs => Sys2Proof.Machine.execCfgRead m regs s
  | .cfgWrite m entries => Sys2Proof.Machine.execCfgWrite m entries s
  | .glCommit m groups => Sys2Proof.Machine.execGlCommit m groups s
  | .schedLoad m dma regs words groups => Sys2Proof.Machine.execSchedLoad m dma regs words groups s
  | .schedChunk m ofs data => Sys2Proof.Machine.execSchedChunk m ofs data s
  | .netStart m => Sys2Proof.Machine.execNetStart m s
  | .netStop m => Sys2Proof.Machine.execNetStop m s
  | .axisConfig m axis pod regs words => Sys2Proof.Machine.execAxisConfig m axis pod regs words s
  | .commutate m axis pod xb value => Sys2Proof.Machine.execCommutate m axis pod xb value s
  | .glMotion m writes => Sys2Proof.Machine.execGlMotion m writes s
  | .tableAppend m axis pod skip points => Sys2Proof.Machine.execTableAppend m axis pod skip points s
  | .axisAck m axes => Sys2Proof.Machine.execAxisAck m axes s
  | .modeChange m groups mid cyc => Sys2Proof.Machine.execModeChange m groups mid cyc s
  | .claimDecide m ring what slot => Sys2Proof.Machine.execClaimDecide m ring what slot s
  | .acqCmd m arm => Sys2Proof.Machine.execAcqCmd m arm s
  | .safetyStatus m => Sys2Proof.Machine.execSafetyStatus m s
  | .safetyConfirm m value flash => Sys2Proof.Machine.execSafetyConfirm m value flash s
  | .safetyCmd m cmd => Sys2Proof.Machine.execSafetyCmd m cmd s
  | .evlRead m seq => Sys2Proof.Machine.execEvlRead m seq s
  | .fwWrite m ofs data flashOk => Sys2Proof.Machine.execFwWrite m ofs data flashOk s
  | .fwVerify m img => Sys2Proof.Machine.execFwVerify m img s
  | .fwCommit m => Sys2Proof.Machine.execFwCommit m s
  | .keyRevoke m slot => Sys2Proof.Machine.execKeyRevoke m slot s
  | .memRepair m w => Sys2Proof.Machine.execMemRepair m w s
  | .glPower m tgt => Sys2Proof.Machine.execGlPower m tgt s
  | .loadChunk ofs data => Sys2Proof.Machine.execLoadChunk ofs data s
  | .loadGo header => Sys2Proof.Machine.execLoadGo header s
  | .imageBoot a b => Sys2Proof.Machine.execImageBoot a b s
  | .eventAccept => Sys2Proof.Machine.execEventAccept s
  | .rateWindowEnd => Sys2Proof.Machine.execRateWindowEnd s
  | .backgroundFlush => Sys2Proof.Machine.execBackgroundFlush s
  | .evlFlush => Sys2Proof.Machine.execEvlFlush s
  | .flushComplete => Sys2Proof.Machine.execFlushComplete s
  | .fwevGo w => Sys2Proof.Machine.execFwevGo w s
  | .powerStateRequest tgt => Sys2Proof.Machine.execPowerStateRequest tgt s
  | .transitionComplete => Sys2Proof.Machine.execTransitionComplete s
  | .pcrWake src => Sys2Proof.Machine.execPcrWake src s
  | .pdCtlWrite w => Sys2Proof.Machine.execPdCtlWrite w s
  | .supplyWarning => Sys2Proof.Machine.execSupplyWarning s
  | .supplyReset rail => Sys2Proof.Machine.execSupplyReset rail s
  | .powerOnReset => Sys2Proof.Machine.execPowerOnReset s
  | .systemReset => Sys2Proof.Machine.execSystemReset s
  | .resetRelease pins => Sys2Proof.Machine.execResetRelease pins s
  | .rstSys key => Sys2Proof.Machine.execRstSys key s
  | .rstCpu key => Sys2Proof.Machine.execRstCpu key s
  | .processorReset => Sys2Proof.Machine.execProcessorReset s
  | .crystalFailure => Sys2Proof.Machine.execCrystalFailure s
  | .aoClockFailure => Sys2Proof.Machine.execAoClockFailure s
  | .avsEvaluate mworst => Sys2Proof.Machine.execAvsEvaluate mworst s
  | .vreqFrame acks => Sys2Proof.Machine.execVreqFrame acks s
  | .wdtKick key => Sys2Proof.Machine.execWdtKick key s
  | .watchdogExpiry => Sys2Proof.Machine.execWatchdogExpiry s
  | .restartTimeout => Sys2Proof.Machine.execRestartTimeout s
  | .tapReset => Sys2Proof.Machine.execTapReset s
  | .tapExtest => Sys2Proof.Machine.execTapExtest s
  | .tapSamplePreload => Sys2Proof.Machine.execTapSamplePreload s
  | .tapIdcode => Sys2Proof.Machine.execTapIdcode s
  | .dbgacc => Sys2Proof.Machine.execDbgacc s
  | .dbgaccRead addr => Sys2Proof.Machine.execDbgaccRead addr s
  | .dbgaccWrite addr w => Sys2Proof.Machine.execDbgaccWrite addr w s
  | .dbgaccReadNext => Sys2Proof.Machine.execDbgaccReadNext s
  | .tapFrz hold => Sys2Proof.Machine.execTapFrz hold s
  | .tapHighz => Sys2Proof.Machine.execTapHighz s
  | .tapClamp => Sys2Proof.Machine.execTapClamp s
  | .tapSysrst => Sys2Proof.Machine.execTapSysrst s
  | .tapBypass => Sys2Proof.Machine.execTapBypass s
  | .freezeRequest => Sys2Proof.Machine.execFreezeRequest s
  | .freezeStop => Sys2Proof.Machine.execFreezeStop s
  | .freezeRelease ball => Sys2Proof.Machine.execFreezeRelease ball s
  | .filterSample inp => Sys2Proof.Machine.execFilterSample inp s
  | .rawLevelChange inp mv => Sys2Proof.Machine.execRawLevelChange inp mv s
  | .openWireClear ch => Sys2Proof.Machine.execOpenWireClear ch s
  | .vfoff => Sys2Proof.Machine.execVfoff s
  | .supplyWarningCleared => Sys2Proof.Machine.execSupplyWarningCleared s
  | .alwaysOnRefresh => Sys2Proof.Machine.execAlwaysOnRefresh s
  | .ssiClockEdge ch data delay => Sys2Proof.Machine.execSsiClockEdge ch data delay s
  | .pcieLinkUp gen2 x2 => Sys2Proof.Machine.execPcieLinkUp gen2 x2 s
  | .pcieConfigWrite cfg => Sys2Proof.Machine.execPcieConfigWrite cfg s
  | .processorStore addr be w => Sys2Proof.Machine.execProcessorStore addr be w s

end Sys2Proof.Machine
end

