-- ==== Sys2Proof/Machine/Idle.lean ====
section
/-! DEFINITION. What passes while no command waits: time alone (log entry 1). -/

namespace Sys2Proof.Machine

/-- One period of the 32.768 kHz clock in units of 2^−32 ns (R14). -/
def aoPeriodNs : Nat := 131072000000000

/-- The same period in 1/64 tick. -/
def aoPeriodMono : Nat := 1562500

/-- R460: the device is in its power-on reset: NS and the tick count stand at 0 until TBCLK starts. -/
def State.firstPower (s : State) : Bool := s.pcr.first

/-- An always-on period with TBCLK stopped (R256): NS counts on at the edge. -/
def aoPeriod (s : State) : State :=
  { s with time := { s.time with mono := s.time.mono + aoPeriodMono, ns := s.time.ns + aoPeriodNs, ahead := 0 } }

/-- One tick passes, with the writes due in it, and a debug access that goes on has its turn (R469); while TBCLK is stopped one always-on period; before the
release of a power-on reset a time in which nothing counts. -/
def idle (s : State) : State :=
  settle <| runWaiting <|
    if s.syn.stopped then aoPeriod s
    else if s.firstPower then { s with time := { s.time with mono := s.time.mono + 64 } }
    else advanceTo (s.time.tick + 1) s

end Sys2Proof.Machine
end

