-- ==== Sys2Proof/Laws/State.lean ====
section
/-! SUPPORT. What each elementary update of the state leaves in each field: one lemma per field and update. -/

namespace Sys2Proof.Machine

variable {s : State}

/-! setReg. -/

@[simp] theorem setReg_regs {a : Nat} {v : Word} : (setReg a v s).regs = kvPut regReset s.regs a v := rfl
@[simp] theorem setReg_actv {a : Nat} {v : Word} : (setReg a v s).actv = s.actv := rfl
@[simp] theorem setReg_clk {a : Nat} {v : Word} : (setReg a v s).clk = s.clk := rfl
@[simp] theorem setReg_prev {a : Nat} {v : Word} : (setReg a v s).prev = s.prev := rfl
@[simp] theorem setReg_staged {a : Nat} {v : Word} : (setReg a v s).staged = s.staged := rfl
@[simp] theorem setReg_time {a : Nat} {v : Word} : (setReg a v s).time = s.time := rfl
@[simp] theorem setReg_mem {a : Nat} {v : Word} : (setReg a v s).mem = s.mem := rfl
@[simp] theorem setReg_cmt {a : Nat} {v : Word} : (setReg a v s).cmt = s.cmt := rfl
@[simp] theorem setReg_le {a : Nat} {v : Word} : (setReg a v s).le = s.le := rfl
@[simp] theorem setReg_pods {a : Nat} {v : Word} : (setReg a v s).pods = s.pods := rfl
@[simp] theorem setReg_ovrAlarm {a : Nat} {v : Word} : (setReg a v s).ovrAlarm = s.ovrAlarm := rfl
@[simp] theorem setReg_dsBad {a : Nat} {v : Word} : (setReg a v s).dsBad = s.dsBad := rfl
@[simp] theorem setReg_axes {a : Nat} {v : Word} : (setReg a v s).axes = s.axes := rfl
@[simp] theorem setReg_pg {a : Nat} {v : Word} : (setReg a v s).pg = s.pg := rfl
@[simp] theorem setReg_steps {a : Nat} {v : Word} : (setReg a v s).steps = s.steps := rfl
@[simp] theorem setReg_chans {a : Nat} {v : Word} : (setReg a v s).chans = s.chans := rfl
@[simp] theorem setReg_emus {a : Nat} {v : Word} : (setReg a v s).emus = s.emus := rfl
@[simp] theorem setReg_uqs {a : Nat} {v : Word} : (setReg a v s).uqs = s.uqs := rfl
@[simp] theorem setReg_net {a : Nat} {v : Word} : (setReg a v s).net = s.net := rfl
@[simp] theorem setReg_slt {a : Nat} {v : Word} : (setReg a v s).slt = s.slt := rfl
@[simp] theorem setReg_syn {a : Nat} {v : Word} : (setReg a v s).syn = s.syn := rfl
@[simp] theorem setReg_cas {a : Nat} {v : Word} : (setReg a v s).cas = s.cas := rfl
@[simp] theorem setReg_acq {a : Nat} {v : Word} : (setReg a v s).acq = s.acq := rfl
@[simp] theorem setReg_fio {a : Nat} {v : Word} : (setReg a v s).fio = s.fio := rfl
@[simp] theorem setReg_saf {a : Nat} {v : Word} : (setReg a v s).saf = s.saf := rfl
@[simp] theorem setReg_mi {a : Nat} {v : Word} : (setReg a v s).mi = s.mi := rfl
@[simp] theorem setReg_hif {a : Nat} {v : Word} : (setReg a v s).hif = s.hif := rfl
@[simp] theorem setReg_boot {a : Nat} {v : Word} : (setReg a v s).boot = s.boot := rfl
@[simp] theorem setReg_evl {a : Nat} {v : Word} : (setReg a v s).evl = s.evl := rfl
@[simp] theorem setReg_pcr {a : Nat} {v : Word} : (setReg a v s).pcr = s.pcr := rfl
@[simp] theorem setReg_dbg {a : Nat} {v : Word} : (setReg a v s).dbg = s.dbg := rfl
@[simp] theorem setReg_fwIrq {a : Nat} {v : Word} : (setReg a v s).fwIrq = s.fwIrq := rfl
@[simp] theorem setReg_outs {a : Nat} {v : Word} : (setReg a v s).outs = s.outs := rfl
@[simp] theorem setReg_free {a : Nat} {v : Word} : (setReg a v s).free = s.free := rfl
@[simp] theorem setReg_pending {a : Nat} {v : Word} : (setReg a v s).pending = s.pending := rfl

/-! noteHw. -/

@[simp] theorem noteHw_regs {a : Nat} {old upd : Word} {f : Word → Word} : (noteHw a old upd f s).regs = s.regs := rfl
@[simp] theorem noteHw_actv {a : Nat} {old upd : Word} {f : Word → Word} : (noteHw a old upd f s).actv = s.actv := rfl
@[simp] theorem noteHw_prev {a : Nat} {old upd : Word} {f : Word → Word} : (noteHw a old upd f s).prev = s.prev := rfl
@[simp] theorem noteHw_staged {a : Nat} {old upd : Word} {f : Word → Word} : (noteHw a old upd f s).staged = s.staged := rfl
@[simp] theorem noteHw_time {a : Nat} {old upd : Word} {f : Word → Word} : (noteHw a old upd f s).time = s.time := rfl
@[simp] theorem noteHw_mem {a : Nat} {old upd : Word} {f : Word → Word} : (noteHw a old upd f s).mem = s.mem := rfl
@[simp] theorem noteHw_cmt {a : Nat} {old upd : Word} {f : Word → Word} : (noteHw a old upd f s).cmt = s.cmt := rfl
@[simp] theorem noteHw_le {a : Nat} {old upd : Word} {f : Word → Word} : (noteHw a old upd f s).le = s.le := rfl
@[simp] theorem noteHw_pods {a : Nat} {old upd : Word} {f : Word → Word} : (noteHw a old upd f s).pods = s.pods := rfl
@[simp] theorem noteHw_ovrAlarm {a : Nat} {old upd : Word} {f : Word → Word} : (noteHw a old upd f s).ovrAlarm = s.ovrAlarm := rfl
@[simp] theorem noteHw_dsBad {a : Nat} {old upd : Word} {f : Word → Word} : (noteHw a old upd f s).dsBad = s.dsBad := rfl
@[simp] theorem noteHw_axes {a : Nat} {old upd : Word} {f : Word → Word} : (noteHw a old upd f s).axes = s.axes := rfl
@[simp] theorem noteHw_pg {a : Nat} {old upd : Word} {f : Word → Word} : (noteHw a old upd f s).pg = s.pg := rfl
@[simp] theorem noteHw_steps {a : Nat} {old upd : Word} {f : Word → Word} : (noteHw a old upd f s).steps = s.steps := rfl
@[simp] theorem noteHw_chans {a : Nat} {old upd : Word} {f : Word → Word} : (noteHw a old upd f s).chans = s.chans := rfl
@[simp] theorem noteHw_emus {a : Nat} {old upd : Word} {f : Word → Word} : (noteHw a old upd f s).emus = s.emus := rfl
@[simp] theorem noteHw_uqs {a : Nat} {old upd : Word} {f : Word → Word} : (noteHw a old upd f s).uqs = s.uqs := rfl
@[simp] theorem noteHw_net {a : Nat} {old upd : Word} {f : Word → Word} : (noteHw a old upd f s).net = s.net := rfl
@[simp] theorem noteHw_slt {a : Nat} {old upd : Word} {f : Word → Word} : (noteHw a old upd f s).slt = s.slt := rfl
@[simp] theorem noteHw_syn {a : Nat} {old upd : Word} {f : Word → Word} : (noteHw a old upd f s).syn = s.syn := rfl
@[simp] theorem noteHw_cas {a : Nat} {old upd : Word} {f : Word → Word} : (noteHw a old upd f s).cas = s.cas := rfl
@[simp] theorem noteHw_acq {a : Nat} {old upd : Word} {f : Word → Word} : (noteHw a old upd f s).acq = s.acq := rfl
@[simp] theorem noteHw_fio {a : Nat} {old upd : Word} {f : Word → Word} : (noteHw a old upd f s).fio = s.fio := rfl
@[simp] theorem noteHw_saf {a : Nat} {old upd : Word} {f : Word → Word} : (noteHw a old upd f s).saf = s.saf := rfl
@[simp] theorem noteHw_mi {a : Nat} {old upd : Word} {f : Word → Word} : (noteHw a old upd f s).mi = s.mi := rfl
@[simp] theorem noteHw_hif {a : Nat} {old upd : Word} {f : Word → Word} : (noteHw a old upd f s).hif = s.hif := rfl
@[simp] theorem noteHw_boot {a : Nat} {old upd : Word} {f : Word → Word} : (noteHw a old upd f s).boot = s.boot := rfl
@[simp] theorem noteHw_evl {a : Nat} {old upd : Word} {f : Word → Word} : (noteHw a old upd f s).evl = s.evl := rfl
@[simp] theorem noteHw_pcr {a : Nat} {old upd : Word} {f : Word → Word} : (noteHw a old upd f s).pcr = s.pcr := rfl
@[simp] theorem noteHw_dbg {a : Nat} {old upd : Word} {f : Word → Word} : (noteHw a old upd f s).dbg = s.dbg := rfl
@[simp] theorem noteHw_fwIrq {a : Nat} {old upd : Word} {f : Word → Word} : (noteHw a old upd f s).fwIrq = s.fwIrq := rfl
@[simp] theorem noteHw_outs {a : Nat} {old upd : Word} {f : Word → Word} : (noteHw a old upd f s).outs = s.outs := rfl
@[simp] theorem noteHw_free {a : Nat} {old upd : Word} {f : Word → Word} : (noteHw a old upd f s).free = s.free := rfl
@[simp] theorem noteHw_pending {a : Nat} {old upd : Word} {f : Word → Word} : (noteHw a old upd f s).pending = s.pending := rfl

/-! setRf. -/

@[simp] theorem setRf_regs {a hi lo v : Nat} : (setRf a hi lo v s).regs = kvPut regReset s.regs a (setFld (s.reg a) hi lo v) := rfl
@[simp] theorem setRf_actv {a hi lo v : Nat} : (setRf a hi lo v s).actv = s.actv := rfl
@[simp] theorem setRf_prev {a hi lo v : Nat} : (setRf a hi lo v s).prev = s.prev := rfl
@[simp] theorem setRf_staged {a hi lo v : Nat} : (setRf a hi lo v s).staged = s.staged := rfl
@[simp] theorem setRf_time {a hi lo v : Nat} : (setRf a hi lo v s).time = s.time := rfl
@[simp] theorem setRf_mem {a hi lo v : Nat} : (setRf a hi lo v s).mem = s.mem := rfl
@[simp] theorem setRf_cmt {a hi lo v : Nat} : (setRf a hi lo v s).cmt = s.cmt := rfl
@[simp] theorem setRf_le {a hi lo v : Nat} : (setRf a hi lo v s).le = s.le := rfl
@[simp] theorem setRf_pods {a hi lo v : Nat} : (setRf a hi lo v s).pods = s.pods := rfl
@[simp] theorem setRf_ovrAlarm {a hi lo v : Nat} : (setRf a hi lo v s).ovrAlarm = s.ovrAlarm := rfl
@[simp] theorem setRf_dsBad {a hi lo v : Nat} : (setRf a hi lo v s).dsBad = s.dsBad := rfl
@[simp] theorem setRf_axes {a hi lo v : Nat} : (setRf a hi lo v s).axes = s.axes := rfl
@[simp] theorem setRf_pg {a hi lo v : Nat} : (setRf a hi lo v s).pg = s.pg := rfl
@[simp] theorem setRf_steps {a hi lo v : Nat} : (setRf a hi lo v s).steps = s.steps := rfl
@[simp] theorem setRf_chans {a hi lo v : Nat} : (setRf a hi lo v s).chans = s.chans := rfl
@[simp] theorem setRf_emus {a hi lo v : Nat} : (setRf a hi lo v s).emus = s.emus := rfl
@[simp] theorem setRf_uqs {a hi lo v : Nat} : (setRf a hi lo v s).uqs = s.uqs := rfl
@[simp] theorem setRf_net {a hi lo v : Nat} : (setRf a hi lo v s).net = s.net := rfl
@[simp] theorem setRf_slt {a hi lo v : Nat} : (setRf a hi lo v s).slt = s.slt := rfl
@[simp] theorem setRf_syn {a hi lo v : Nat} : (setRf a hi lo v s).syn = s.syn := rfl
@[simp] theorem setRf_cas {a hi lo v : Nat} : (setRf a hi lo v s).cas = s.cas := rfl
@[simp] theorem setRf_acq {a hi lo v : Nat} : (setRf a hi lo v s).acq = s.acq := rfl
@[simp] theorem setRf_fio {a hi lo v : Nat} : (setRf a hi lo v s).fio = s.fio := rfl
@[simp] theorem setRf_saf {a hi lo v : Nat} : (setRf a hi lo v s).saf = s.saf := rfl
@[simp] theorem setRf_mi {a hi lo v : Nat} : (setRf a hi lo v s).mi = s.mi := rfl
@[simp] theorem setRf_hif {a hi lo v : Nat} : (setRf a hi lo v s).hif = s.hif := rfl
@[simp] theorem setRf_boot {a hi lo v : Nat} : (setRf a hi lo v s).boot = s.boot := rfl
@[simp] theorem setRf_evl {a hi lo v : Nat} : (setRf a hi lo v s).evl = s.evl := rfl
@[simp] theorem setRf_pcr {a hi lo v : Nat} : (setRf a hi lo v s).pcr = s.pcr := rfl
@[simp] theorem setRf_dbg {a hi lo v : Nat} : (setRf a hi lo v s).dbg = s.dbg := rfl
@[simp] theorem setRf_fwIrq {a hi lo v : Nat} : (setRf a hi lo v s).fwIrq = s.fwIrq := rfl
@[simp] theorem setRf_outs {a hi lo v : Nat} : (setRf a hi lo v s).outs = s.outs := rfl
@[simp] theorem setRf_free {a hi lo v : Nat} : (setRf a hi lo v s).free = s.free := rfl
@[simp] theorem setRf_pending {a hi lo v : Nat} : (setRf a hi lo v s).pending = s.pending := rfl

/-! setRb. -/

@[simp] theorem setRb_regs {a b : Nat} {v : Bool} : (setRb a b v s).regs = kvPut regReset s.regs a (setFld (s.reg a) b b (b2n v)) := rfl
@[simp] theorem setRb_actv {a b : Nat} {v : Bool} : (setRb a b v s).actv = s.actv := rfl
@[simp] theorem setRb_prev {a b : Nat} {v : Bool} : (setRb a b v s).prev = s.prev := rfl
@[simp] theorem setRb_staged {a b : Nat} {v : Bool} : (setRb a b v s).staged = s.staged := rfl
@[simp] theorem setRb_time {a b : Nat} {v : Bool} : (setRb a b v s).time = s.time := rfl
@[simp] theorem setRb_mem {a b : Nat} {v : Bool} : (setRb a b v s).mem = s.mem := rfl
@[simp] theorem setRb_cmt {a b : Nat} {v : Bool} : (setRb a b v s).cmt = s.cmt := rfl
@[simp] theorem setRb_le {a b : Nat} {v : Bool} : (setRb a b v s).le = s.le := rfl
@[simp] theorem setRb_pods {a b : Nat} {v : Bool} : (setRb a b v s).pods = s.pods := rfl
@[simp] theorem setRb_ovrAlarm {a b : Nat} {v : Bool} : (setRb a b v s).ovrAlarm = s.ovrAlarm := rfl
@[simp] theorem setRb_dsBad {a b : Nat} {v : Bool} : (setRb a b v s).dsBad = s.dsBad := rfl
@[simp] theorem setRb_axes {a b : Nat} {v : Bool} : (setRb a b v s).axes = s.axes := rfl
@[simp] theorem setRb_pg {a b : Nat} {v : Bool} : (setRb a b v s).pg = s.pg := rfl
@[simp] theorem setRb_steps {a b : Nat} {v : Bool} : (setRb a b v s).steps = s.steps := rfl
@[simp] theorem setRb_chans {a b : Nat} {v : Bool} : (setRb a b v s).chans = s.chans := rfl
@[simp] theorem setRb_emus {a b : Nat} {v : Bool} : (setRb a b v s).emus = s.emus := rfl
@[simp] theorem setRb_uqs {a b : Nat} {v : Bool} : (setRb a b v s).uqs = s.uqs := rfl
@[simp] theorem setRb_net {a b : Nat} {v : Bool} : (setRb a b v s).net = s.net := rfl
@[simp] theorem setRb_slt {a b : Nat} {v : Bool} : (setRb a b v s).slt = s.slt := rfl
@[simp] theorem setRb_syn {a b : Nat} {v : Bool} : (setRb a b v s).syn = s.syn := rfl
@[simp] theorem setRb_cas {a b : Nat} {v : Bool} : (setRb a b v s).cas = s.cas := rfl
@[simp] theorem setRb_acq {a b : Nat} {v : Bool} : (setRb a b v s).acq = s.acq := rfl
@[simp] theorem setRb_fio {a b : Nat} {v : Bool} : (setRb a b v s).fio = s.fio := rfl
@[simp] theorem setRb_saf {a b : Nat} {v : Bool} : (setRb a b v s).saf = s.saf := rfl
@[simp] theorem setRb_mi {a b : Nat} {v : Bool} : (setRb a b v s).mi = s.mi := rfl
@[simp] theorem setRb_hif {a b : Nat} {v : Bool} : (setRb a b v s).hif = s.hif := rfl
@[simp] theorem setRb_boot {a b : Nat} {v : Bool} : (setRb a b v s).boot = s.boot := rfl
@[simp] theorem setRb_evl {a b : Nat} {v : Bool} : (setRb a b v s).evl = s.evl := rfl
@[simp] theorem setRb_pcr {a b : Nat} {v : Bool} : (setRb a b v s).pcr = s.pcr := rfl
@[simp] theorem setRb_dbg {a b : Nat} {v : Bool} : (setRb a b v s).dbg = s.dbg := rfl
@[simp] theorem setRb_fwIrq {a b : Nat} {v : Bool} : (setRb a b v s).fwIrq = s.fwIrq := rfl
@[simp] theorem setRb_outs {a b : Nat} {v : Bool} : (setRb a b v s).outs = s.outs := rfl
@[simp] theorem setRb_free {a b : Nat} {v : Bool} : (setRb a b v s).free = s.free := rfl
@[simp] theorem setRb_pending {a b : Nat} {v : Bool} : (setRb a b v s).pending = s.pending := rfl

/-! orReg. -/

@[simp] theorem orReg_regs {a m : Nat} : (orReg a m s).regs = kvPut regReset s.regs a (s.reg a ||| BitVec.ofNat 32 m) := rfl
@[simp] theorem orReg_actv {a m : Nat} : (orReg a m s).actv = s.actv := rfl
@[simp] theorem orReg_prev {a m : Nat} : (orReg a m s).prev = s.prev := rfl
@[simp] theorem orReg_staged {a m : Nat} : (orReg a m s).staged = s.staged := rfl
@[simp] theorem orReg_time {a m : Nat} : (orReg a m s).time = s.time := rfl
@[simp] theorem orReg_mem {a m : Nat} : (orReg a m s).mem = s.mem := rfl
@[simp] theorem orReg_cmt {a m : Nat} : (orReg a m s).cmt = s.cmt := rfl
@[simp] theorem orReg_le {a m : Nat} : (orReg a m s).le = s.le := rfl
@[simp] theorem orReg_pods {a m : Nat} : (orReg a m s).pods = s.pods := rfl
@[simp] theorem orReg_ovrAlarm {a m : Nat} : (orReg a m s).ovrAlarm = s.ovrAlarm := rfl
@[simp] theorem orReg_dsBad {a m : Nat} : (orReg a m s).dsBad = s.dsBad := rfl
@[simp] theorem orReg_axes {a m : Nat} : (orReg a m s).axes = s.axes := rfl
@[simp] theorem orReg_pg {a m : Nat} : (orReg a m s).pg = s.pg := rfl
@[simp] theorem orReg_steps {a m : Nat} : (orReg a m s).steps = s.steps := rfl
@[simp] theorem orReg_chans {a m : Nat} : (orReg a m s).chans = s.chans := rfl
@[simp] theorem orReg_emus {a m : Nat} : (orReg a m s).emus = s.emus := rfl
@[simp] theorem orReg_uqs {a m : Nat} : (orReg a m s).uqs = s.uqs := rfl
@[simp] theorem orReg_net {a m : Nat} : (orReg a m s).net = s.net := rfl
@[simp] theorem orReg_slt {a m : Nat} : (orReg a m s).slt = s.slt := rfl
@[simp] theorem orReg_syn {a m : Nat} : (orReg a m s).syn = s.syn := rfl
@[simp] theorem orReg_cas {a m : Nat} : (orReg a m s).cas = s.cas := rfl
@[simp] theorem orReg_acq {a m : Nat} : (orReg a m s).acq = s.acq := rfl
@[simp] theorem orReg_fio {a m : Nat} : (orReg a m s).fio = s.fio := rfl
@[simp] theorem orReg_saf {a m : Nat} : (orReg a m s).saf = s.saf := rfl
@[simp] theorem orReg_mi {a m : Nat} : (orReg a m s).mi = s.mi := rfl
@[simp] theorem orReg_hif {a m : Nat} : (orReg a m s).hif = s.hif := rfl
@[simp] theorem orReg_boot {a m : Nat} : (orReg a m s).boot = s.boot := rfl
@[simp] theorem orReg_evl {a m : Nat} : (orReg a m s).evl = s.evl := rfl
@[simp] theorem orReg_pcr {a m : Nat} : (orReg a m s).pcr = s.pcr := rfl
@[simp] theorem orReg_dbg {a m : Nat} : (orReg a m s).dbg = s.dbg := rfl
@[simp] theorem orReg_fwIrq {a m : Nat} : (orReg a m s).fwIrq = s.fwIrq := rfl
@[simp] theorem orReg_outs {a m : Nat} : (orReg a m s).outs = s.outs := rfl
@[simp] theorem orReg_free {a m : Nat} : (orReg a m s).free = s.free := rfl
@[simp] theorem orReg_pending {a m : Nat} : (orReg a m s).pending = s.pending := rfl

/-! addRf. -/

@[simp] theorem addRf_regs {a hi lo k : Nat} : (addRf a hi lo k s).regs = kvPut regReset s.regs a (setFld (s.reg a) hi lo (satAdd (hi + 1 - lo) (s.rf a hi lo) k)) := rfl
@[simp] theorem addRf_actv {a hi lo k : Nat} : (addRf a hi lo k s).actv = s.actv := rfl
@[simp] theorem addRf_prev {a hi lo k : Nat} : (addRf a hi lo k s).prev = s.prev := rfl
@[simp] theorem addRf_staged {a hi lo k : Nat} : (addRf a hi lo k s).staged = s.staged := rfl
@[simp] theorem addRf_time {a hi lo k : Nat} : (addRf a hi lo k s).time = s.time := rfl
@[simp] theorem addRf_mem {a hi lo k : Nat} : (addRf a hi lo k s).mem = s.mem := rfl
@[simp] theorem addRf_cmt {a hi lo k : Nat} : (addRf a hi lo k s).cmt = s.cmt := rfl
@[simp] theorem addRf_le {a hi lo k : Nat} : (addRf a hi lo k s).le = s.le := rfl
@[simp] theorem addRf_pods {a hi lo k : Nat} : (addRf a hi lo k s).pods = s.pods := rfl
@[simp] theorem addRf_ovrAlarm {a hi lo k : Nat} : (addRf a hi lo k s).ovrAlarm = s.ovrAlarm := rfl
@[simp] theorem addRf_dsBad {a hi lo k : Nat} : (addRf a hi lo k s).dsBad = s.dsBad := rfl
@[simp] theorem addRf_axes {a hi lo k : Nat} : (addRf a hi lo k s).axes = s.axes := rfl
@[simp] theorem addRf_pg {a hi lo k : Nat} : (addRf a hi lo k s).pg = s.pg := rfl
@[simp] theorem addRf_steps {a hi lo k : Nat} : (addRf a hi lo k s).steps = s.steps := rfl
@[simp] theorem addRf_chans {a hi lo k : Nat} : (addRf a hi lo k s).chans = s.chans := rfl
@[simp] theorem addRf_emus {a hi lo k : Nat} : (addRf a hi lo k s).emus = s.emus := rfl
@[simp] theorem addRf_uqs {a hi lo k : Nat} : (addRf a hi lo k s).uqs = s.uqs := rfl
@[simp] theorem addRf_net {a hi lo k : Nat} : (addRf a hi lo k s).net = s.net := rfl
@[simp] theorem addRf_slt {a hi lo k : Nat} : (addRf a hi lo k s).slt = s.slt := rfl
@[simp] theorem addRf_syn {a hi lo k : Nat} : (addRf a hi lo k s).syn = s.syn := rfl
@[simp] theorem addRf_cas {a hi lo k : Nat} : (addRf a hi lo k s).cas = s.cas := rfl
@[simp] theorem addRf_acq {a hi lo k : Nat} : (addRf a hi lo k s).acq = s.acq := rfl
@[simp] theorem addRf_fio {a hi lo k : Nat} : (addRf a hi lo k s).fio = s.fio := rfl
@[simp] theorem addRf_saf {a hi lo k : Nat} : (addRf a hi lo k s).saf = s.saf := rfl
@[simp] theorem addRf_mi {a hi lo k : Nat} : (addRf a hi lo k s).mi = s.mi := rfl
@[simp] theorem addRf_hif {a hi lo k : Nat} : (addRf a hi lo k s).hif = s.hif := rfl
@[simp] theorem addRf_boot {a hi lo k : Nat} : (addRf a hi lo k s).boot = s.boot := rfl
@[simp] theorem addRf_evl {a hi lo k : Nat} : (addRf a hi lo k s).evl = s.evl := rfl
@[simp] theorem addRf_pcr {a hi lo k : Nat} : (addRf a hi lo k s).pcr = s.pcr := rfl
@[simp] theorem addRf_dbg {a hi lo k : Nat} : (addRf a hi lo k s).dbg = s.dbg := rfl
@[simp] theorem addRf_fwIrq {a hi lo k : Nat} : (addRf a hi lo k s).fwIrq = s.fwIrq := rfl
@[simp] theorem addRf_outs {a hi lo k : Nat} : (addRf a hi lo k s).outs = s.outs := rfl
@[simp] theorem addRf_free {a hi lo k : Nat} : (addRf a hi lo k s).free = s.free := rfl
@[simp] theorem addRf_pending {a hi lo k : Nat} : (addRf a hi lo k s).pending = s.pending := rfl

/-! writeRf. -/

@[simp] theorem writeRf_clk {a hi lo v : Nat} : (writeRf a hi lo v s).clk = s.clk := rfl
@[simp] theorem writeRf_actv {a hi lo v : Nat} : (writeRf a hi lo v s).actv = s.actv := rfl
@[simp] theorem writeRf_prev {a hi lo v : Nat} : (writeRf a hi lo v s).prev = s.prev := rfl
@[simp] theorem writeRf_staged {a hi lo v : Nat} : (writeRf a hi lo v s).staged = s.staged := rfl
@[simp] theorem writeRf_time {a hi lo v : Nat} : (writeRf a hi lo v s).time = s.time := rfl
@[simp] theorem writeRf_mem {a hi lo v : Nat} : (writeRf a hi lo v s).mem = s.mem := rfl
@[simp] theorem writeRf_cmt {a hi lo v : Nat} : (writeRf a hi lo v s).cmt = s.cmt := rfl
@[simp] theorem writeRf_le {a hi lo v : Nat} : (writeRf a hi lo v s).le = s.le := rfl
@[simp] theorem writeRf_pods {a hi lo v : Nat} : (writeRf a hi lo v s).pods = s.pods := rfl
@[simp] theorem writeRf_ovrAlarm {a hi lo v : Nat} : (writeRf a hi lo v s).ovrAlarm = s.ovrAlarm := rfl
@[simp] theorem writeRf_dsBad {a hi lo v : Nat} : (writeRf a hi lo v s).dsBad = s.dsBad := rfl
@[simp] theorem writeRf_axes {a hi lo v : Nat} : (writeRf a hi lo v s).axes = s.axes := rfl
@[simp] theorem writeRf_pg {a hi lo v : Nat} : (writeRf a hi lo v s).pg = s.pg := rfl
@[simp] theorem writeRf_steps {a hi lo v : Nat} : (writeRf a hi lo v s).steps = s.steps := rfl
@[simp] theorem writeRf_chans {a hi lo v : Nat} : (writeRf a hi lo v s).chans = s.chans := rfl
@[simp] theorem writeRf_emus {a hi lo v : Nat} : (writeRf a hi lo v s).emus = s.emus := rfl
@[simp] theorem writeRf_uqs {a hi lo v : Nat} : (writeRf a hi lo v s).uqs = s.uqs := rfl
@[simp] theorem writeRf_net {a hi lo v : Nat} : (writeRf a hi lo v s).net = s.net := rfl
@[simp] theorem writeRf_slt {a hi lo v : Nat} : (writeRf a hi lo v s).slt = s.slt := rfl
@[simp] theorem writeRf_syn {a hi lo v : Nat} : (writeRf a hi lo v s).syn = s.syn := rfl
@[simp] theorem writeRf_cas {a hi lo v : Nat} : (writeRf a hi lo v s).cas = s.cas := rfl
@[simp] theorem writeRf_acq {a hi lo v : Nat} : (writeRf a hi lo v s).acq = s.acq := rfl
@[simp] theorem writeRf_fio {a hi lo v : Nat} : (writeRf a hi lo v s).fio = s.fio := rfl
@[simp] theorem writeRf_saf {a hi lo v : Nat} : (writeRf a hi lo v s).saf = s.saf := rfl
@[simp] theorem writeRf_mi {a hi lo v : Nat} : (writeRf a hi lo v s).mi = s.mi := rfl
@[simp] theorem writeRf_hif {a hi lo v : Nat} : (writeRf a hi lo v s).hif = s.hif := rfl
@[simp] theorem writeRf_boot {a hi lo v : Nat} : (writeRf a hi lo v s).boot = s.boot := rfl
@[simp] theorem writeRf_evl {a hi lo v : Nat} : (writeRf a hi lo v s).evl = s.evl := rfl
@[simp] theorem writeRf_pcr {a hi lo v : Nat} : (writeRf a hi lo v s).pcr = s.pcr := rfl
@[simp] theorem writeRf_dbg {a hi lo v : Nat} : (writeRf a hi lo v s).dbg = s.dbg := rfl
@[simp] theorem writeRf_fwIrq {a hi lo v : Nat} : (writeRf a hi lo v s).fwIrq = s.fwIrq := rfl
@[simp] theorem writeRf_outs {a hi lo v : Nat} : (writeRf a hi lo v s).outs = s.outs := rfl
@[simp] theorem writeRf_free {a hi lo v : Nat} : (writeRf a hi lo v s).free = s.free := rfl
@[simp] theorem writeRf_pending {a hi lo v : Nat} : (writeRf a hi lo v s).pending = s.pending := rfl

/-! setAct. -/

@[simp] theorem setAct_regs {a : Nat} {v : Word} : (setAct a v s).regs = s.regs := rfl
@[simp] theorem setAct_actv {a : Nat} {v : Word} : (setAct a v s).actv = kvPut regReset s.actv a v := rfl
@[simp] theorem setAct_clk {a : Nat} {v : Word} : (setAct a v s).clk = s.clk := rfl
@[simp] theorem setAct_prev {a : Nat} {v : Word} : (setAct a v s).prev = s.prev := rfl
@[simp] theorem setAct_staged {a : Nat} {v : Word} : (setAct a v s).staged = s.staged := rfl
@[simp] theorem setAct_time {a : Nat} {v : Word} : (setAct a v s).time = s.time := rfl
@[simp] theorem setAct_mem {a : Nat} {v : Word} : (setAct a v s).mem = s.mem := rfl
@[simp] theorem setAct_cmt {a : Nat} {v : Word} : (setAct a v s).cmt = s.cmt := rfl
@[simp] theorem setAct_le {a : Nat} {v : Word} : (setAct a v s).le = s.le := rfl
@[simp] theorem setAct_pods {a : Nat} {v : Word} : (setAct a v s).pods = s.pods := rfl
@[simp] theorem setAct_ovrAlarm {a : Nat} {v : Word} : (setAct a v s).ovrAlarm = s.ovrAlarm := rfl
@[simp] theorem setAct_dsBad {a : Nat} {v : Word} : (setAct a v s).dsBad = s.dsBad := rfl
@[simp] theorem setAct_axes {a : Nat} {v : Word} : (setAct a v s).axes = s.axes := rfl
@[simp] theorem setAct_pg {a : Nat} {v : Word} : (setAct a v s).pg = s.pg := rfl
@[simp] theorem setAct_steps {a : Nat} {v : Word} : (setAct a v s).steps = s.steps := rfl
@[simp] theorem setAct_chans {a : Nat} {v : Word} : (setAct a v s).chans = s.chans := rfl
@[simp] theorem setAct_emus {a : Nat} {v : Word} : (setAct a v s).emus = s.emus := rfl
@[simp] theorem setAct_uqs {a : Nat} {v : Word} : (setAct a v s).uqs = s.uqs := rfl
@[simp] theorem setAct_net {a : Nat} {v : Word} : (setAct a v s).net = s.net := rfl
@[simp] theorem setAct_slt {a : Nat} {v : Word} : (setAct a v s).slt = s.slt := rfl
@[simp] theorem setAct_syn {a : Nat} {v : Word} : (setAct a v s).syn = s.syn := rfl
@[simp] theorem setAct_cas {a : Nat} {v : Word} : (setAct a v s).cas = s.cas := rfl
@[simp] theorem setAct_acq {a : Nat} {v : Word} : (setAct a v s).acq = s.acq := rfl
@[simp] theorem setAct_fio {a : Nat} {v : Word} : (setAct a v s).fio = s.fio := rfl
@[simp] theorem setAct_saf {a : Nat} {v : Word} : (setAct a v s).saf = s.saf := rfl
@[simp] theorem setAct_mi {a : Nat} {v : Word} : (setAct a v s).mi = s.mi := rfl
@[simp] theorem setAct_hif {a : Nat} {v : Word} : (setAct a v s).hif = s.hif := rfl
@[simp] theorem setAct_boot {a : Nat} {v : Word} : (setAct a v s).boot = s.boot := rfl
@[simp] theorem setAct_evl {a : Nat} {v : Word} : (setAct a v s).evl = s.evl := rfl
@[simp] theorem setAct_pcr {a : Nat} {v : Word} : (setAct a v s).pcr = s.pcr := rfl
@[simp] theorem setAct_dbg {a : Nat} {v : Word} : (setAct a v s).dbg = s.dbg := rfl
@[simp] theorem setAct_fwIrq {a : Nat} {v : Word} : (setAct a v s).fwIrq = s.fwIrq := rfl
@[simp] theorem setAct_outs {a : Nat} {v : Word} : (setAct a v s).outs = s.outs := rfl
@[simp] theorem setAct_free {a : Nat} {v : Word} : (setAct a v s).free = s.free := rfl
@[simp] theorem setAct_pending {a : Nat} {v : Word} : (setAct a v s).pending = s.pending := rfl

/-! putByte. -/

@[simp] theorem putByte_regs {a : Nat} {b : Byte} : (putByte a b s).regs = s.regs := rfl
@[simp] theorem putByte_actv {a : Nat} {b : Byte} : (putByte a b s).actv = s.actv := rfl
@[simp] theorem putByte_clk {a : Nat} {b : Byte} : (putByte a b s).clk = s.clk := rfl
@[simp] theorem putByte_prev {a : Nat} {b : Byte} : (putByte a b s).prev = s.prev := rfl
@[simp] theorem putByte_staged {a : Nat} {b : Byte} : (putByte a b s).staged = s.staged := rfl
@[simp] theorem putByte_time {a : Nat} {b : Byte} : (putByte a b s).time = s.time := rfl
@[simp] theorem putByte_mem {a : Nat} {b : Byte} : (putByte a b s).mem = { s.mem with cells := kvPut (fun _ => 0) s.mem.cells a b } := rfl
@[simp] theorem putByte_cmt {a : Nat} {b : Byte} : (putByte a b s).cmt = s.cmt := rfl
@[simp] theorem putByte_le {a : Nat} {b : Byte} : (putByte a b s).le = s.le := rfl
@[simp] theorem putByte_pods {a : Nat} {b : Byte} : (putByte a b s).pods = s.pods := rfl
@[simp] theorem putByte_ovrAlarm {a : Nat} {b : Byte} : (putByte a b s).ovrAlarm = s.ovrAlarm := rfl
@[simp] theorem putByte_dsBad {a : Nat} {b : Byte} : (putByte a b s).dsBad = s.dsBad := rfl
@[simp] theorem putByte_axes {a : Nat} {b : Byte} : (putByte a b s).axes = s.axes := rfl
@[simp] theorem putByte_pg {a : Nat} {b : Byte} : (putByte a b s).pg = s.pg := rfl
@[simp] theorem putByte_steps {a : Nat} {b : Byte} : (putByte a b s).steps = s.steps := rfl
@[simp] theorem putByte_chans {a : Nat} {b : Byte} : (putByte a b s).chans = s.chans := rfl
@[simp] theorem putByte_emus {a : Nat} {b : Byte} : (putByte a b s).emus = s.emus := rfl
@[simp] theorem putByte_uqs {a : Nat} {b : Byte} : (putByte a b s).uqs = s.uqs := rfl
@[simp] theorem putByte_net {a : Nat} {b : Byte} : (putByte a b s).net = s.net := rfl
@[simp] theorem putByte_slt {a : Nat} {b : Byte} : (putByte a b s).slt = s.slt := rfl
@[simp] theorem putByte_syn {a : Nat} {b : Byte} : (putByte a b s).syn = s.syn := rfl
@[simp] theorem putByte_cas {a : Nat} {b : Byte} : (putByte a b s).cas = s.cas := rfl
@[simp] theorem putByte_acq {a : Nat} {b : Byte} : (putByte a b s).acq = s.acq := rfl
@[simp] theorem putByte_fio {a : Nat} {b : Byte} : (putByte a b s).fio = s.fio := rfl
@[simp] theorem putByte_saf {a : Nat} {b : Byte} : (putByte a b s).saf = s.saf := rfl
@[simp] theorem putByte_mi {a : Nat} {b : Byte} : (putByte a b s).mi = s.mi := rfl
@[simp] theorem putByte_hif {a : Nat} {b : Byte} : (putByte a b s).hif = s.hif := rfl
@[simp] theorem putByte_boot {a : Nat} {b : Byte} : (putByte a b s).boot = s.boot := rfl
@[simp] theorem putByte_evl {a : Nat} {b : Byte} : (putByte a b s).evl = s.evl := rfl
@[simp] theorem putByte_pcr {a : Nat} {b : Byte} : (putByte a b s).pcr = s.pcr := rfl
@[simp] theorem putByte_dbg {a : Nat} {b : Byte} : (putByte a b s).dbg = s.dbg := rfl
@[simp] theorem putByte_fwIrq {a : Nat} {b : Byte} : (putByte a b s).fwIrq = s.fwIrq := rfl
@[simp] theorem putByte_outs {a : Nat} {b : Byte} : (putByte a b s).outs = s.outs := rfl
@[simp] theorem putByte_free {a : Nat} {b : Byte} : (putByte a b s).free = s.free := rfl
@[simp] theorem putByte_pending {a : Nat} {b : Byte} : (putByte a b s).pending = s.pending := rfl

/-! putChk. -/

@[simp] theorem putChk_regs {a : Nat} {d : Byte × Byte} : (putChk a d s).regs = s.regs := rfl
@[simp] theorem putChk_actv {a : Nat} {d : Byte × Byte} : (putChk a d s).actv = s.actv := rfl
@[simp] theorem putChk_clk {a : Nat} {d : Byte × Byte} : (putChk a d s).clk = s.clk := rfl
@[simp] theorem putChk_prev {a : Nat} {d : Byte × Byte} : (putChk a d s).prev = s.prev := rfl
@[simp] theorem putChk_staged {a : Nat} {d : Byte × Byte} : (putChk a d s).staged = s.staged := rfl
@[simp] theorem putChk_time {a : Nat} {d : Byte × Byte} : (putChk a d s).time = s.time := rfl
@[simp] theorem putChk_mem {a : Nat} {d : Byte × Byte} : (putChk a d s).mem = { s.mem with chk := kvPut (fun _ => (0, 0)) s.mem.chk (a / 8) d } := rfl
@[simp] theorem putChk_cmt {a : Nat} {d : Byte × Byte} : (putChk a d s).cmt = s.cmt := rfl
@[simp] theorem putChk_le {a : Nat} {d : Byte × Byte} : (putChk a d s).le = s.le := rfl
@[simp] theorem putChk_pods {a : Nat} {d : Byte × Byte} : (putChk a d s).pods = s.pods := rfl
@[simp] theorem putChk_ovrAlarm {a : Nat} {d : Byte × Byte} : (putChk a d s).ovrAlarm = s.ovrAlarm := rfl
@[simp] theorem putChk_dsBad {a : Nat} {d : Byte × Byte} : (putChk a d s).dsBad = s.dsBad := rfl
@[simp] theorem putChk_axes {a : Nat} {d : Byte × Byte} : (putChk a d s).axes = s.axes := rfl
@[simp] theorem putChk_pg {a : Nat} {d : Byte × Byte} : (putChk a d s).pg = s.pg := rfl
@[simp] theorem putChk_steps {a : Nat} {d : Byte × Byte} : (putChk a d s).steps = s.steps := rfl
@[simp] theorem putChk_chans {a : Nat} {d : Byte × Byte} : (putChk a d s).chans = s.chans := rfl
@[simp] theorem putChk_emus {a : Nat} {d : Byte × Byte} : (putChk a d s).emus = s.emus := rfl
@[simp] theorem putChk_uqs {a : Nat} {d : Byte × Byte} : (putChk a d s).uqs = s.uqs := rfl
@[simp] theorem putChk_net {a : Nat} {d : Byte × Byte} : (putChk a d s).net = s.net := rfl
@[simp] theorem putChk_slt {a : Nat} {d : Byte × Byte} : (putChk a d s).slt = s.slt := rfl
@[simp] theorem putChk_syn {a : Nat} {d : Byte × Byte} : (putChk a d s).syn = s.syn := rfl
@[simp] theorem putChk_cas {a : Nat} {d : Byte × Byte} : (putChk a d s).cas = s.cas := rfl
@[simp] theorem putChk_acq {a : Nat} {d : Byte × Byte} : (putChk a d s).acq = s.acq := rfl
@[simp] theorem putChk_fio {a : Nat} {d : Byte × Byte} : (putChk a d s).fio = s.fio := rfl
@[simp] theorem putChk_saf {a : Nat} {d : Byte × Byte} : (putChk a d s).saf = s.saf := rfl
@[simp] theorem putChk_mi {a : Nat} {d : Byte × Byte} : (putChk a d s).mi = s.mi := rfl
@[simp] theorem putChk_hif {a : Nat} {d : Byte × Byte} : (putChk a d s).hif = s.hif := rfl
@[simp] theorem putChk_boot {a : Nat} {d : Byte × Byte} : (putChk a d s).boot = s.boot := rfl
@[simp] theorem putChk_evl {a : Nat} {d : Byte × Byte} : (putChk a d s).evl = s.evl := rfl
@[simp] theorem putChk_pcr {a : Nat} {d : Byte × Byte} : (putChk a d s).pcr = s.pcr := rfl
@[simp] theorem putChk_dbg {a : Nat} {d : Byte × Byte} : (putChk a d s).dbg = s.dbg := rfl
@[simp] theorem putChk_fwIrq {a : Nat} {d : Byte × Byte} : (putChk a d s).fwIrq = s.fwIrq := rfl
@[simp] theorem putChk_outs {a : Nat} {d : Byte × Byte} : (putChk a d s).outs = s.outs := rfl
@[simp] theorem putChk_free {a : Nat} {d : Byte × Byte} : (putChk a d s).free = s.free := rfl
@[simp] theorem putChk_pending {a : Nat} {d : Byte × Byte} : (putChk a d s).pending = s.pending := rfl

/-! putAx. -/

@[simp] theorem putAx_regs {n : Nat} {v : AxSt} : (putAx n v s).regs = s.regs := rfl
@[simp] theorem putAx_actv {n : Nat} {v : AxSt} : (putAx n v s).actv = s.actv := rfl
@[simp] theorem putAx_clk {n : Nat} {v : AxSt} : (putAx n v s).clk = s.clk := rfl
@[simp] theorem putAx_prev {n : Nat} {v : AxSt} : (putAx n v s).prev = s.prev := rfl
@[simp] theorem putAx_staged {n : Nat} {v : AxSt} : (putAx n v s).staged = s.staged := rfl
@[simp] theorem putAx_time {n : Nat} {v : AxSt} : (putAx n v s).time = s.time := rfl
@[simp] theorem putAx_mem {n : Nat} {v : AxSt} : (putAx n v s).mem = s.mem := rfl
@[simp] theorem putAx_cmt {n : Nat} {v : AxSt} : (putAx n v s).cmt = s.cmt := rfl
@[simp] theorem putAx_le {n : Nat} {v : AxSt} : (putAx n v s).le = s.le := rfl
@[simp] theorem putAx_pods {n : Nat} {v : AxSt} : (putAx n v s).pods = s.pods := rfl
@[simp] theorem putAx_ovrAlarm {n : Nat} {v : AxSt} : (putAx n v s).ovrAlarm = s.ovrAlarm := rfl
@[simp] theorem putAx_dsBad {n : Nat} {v : AxSt} : (putAx n v s).dsBad = s.dsBad := rfl
@[simp] theorem putAx_axes {n : Nat} {v : AxSt} : (putAx n v s).axes = kvPut (fun _ => {}) s.axes n v := rfl
@[simp] theorem putAx_pg {n : Nat} {v : AxSt} : (putAx n v s).pg = s.pg := rfl
@[simp] theorem putAx_steps {n : Nat} {v : AxSt} : (putAx n v s).steps = s.steps := rfl
@[simp] theorem putAx_chans {n : Nat} {v : AxSt} : (putAx n v s).chans = s.chans := rfl
@[simp] theorem putAx_emus {n : Nat} {v : AxSt} : (putAx n v s).emus = s.emus := rfl
@[simp] theorem putAx_uqs {n : Nat} {v : AxSt} : (putAx n v s).uqs = s.uqs := rfl
@[simp] theorem putAx_net {n : Nat} {v : AxSt} : (putAx n v s).net = s.net := rfl
@[simp] theorem putAx_slt {n : Nat} {v : AxSt} : (putAx n v s).slt = s.slt := rfl
@[simp] theorem putAx_syn {n : Nat} {v : AxSt} : (putAx n v s).syn = s.syn := rfl
@[simp] theorem putAx_cas {n : Nat} {v : AxSt} : (putAx n v s).cas = s.cas := rfl
@[simp] theorem putAx_acq {n : Nat} {v : AxSt} : (putAx n v s).acq = s.acq := rfl
@[simp] theorem putAx_fio {n : Nat} {v : AxSt} : (putAx n v s).fio = s.fio := rfl
@[simp] theorem putAx_saf {n : Nat} {v : AxSt} : (putAx n v s).saf = s.saf := rfl
@[simp] theorem putAx_mi {n : Nat} {v : AxSt} : (putAx n v s).mi = s.mi := rfl
@[simp] theorem putAx_hif {n : Nat} {v : AxSt} : (putAx n v s).hif = s.hif := rfl
@[simp] theorem putAx_boot {n : Nat} {v : AxSt} : (putAx n v s).boot = s.boot := rfl
@[simp] theorem putAx_evl {n : Nat} {v : AxSt} : (putAx n v s).evl = s.evl := rfl
@[simp] theorem putAx_pcr {n : Nat} {v : AxSt} : (putAx n v s).pcr = s.pcr := rfl
@[simp] theorem putAx_dbg {n : Nat} {v : AxSt} : (putAx n v s).dbg = s.dbg := rfl
@[simp] theorem putAx_fwIrq {n : Nat} {v : AxSt} : (putAx n v s).fwIrq = s.fwIrq := rfl
@[simp] theorem putAx_outs {n : Nat} {v : AxSt} : (putAx n v s).outs = s.outs := rfl
@[simp] theorem putAx_free {n : Nat} {v : AxSt} : (putAx n v s).free = s.free := rfl
@[simp] theorem putAx_pending {n : Nat} {v : AxSt} : (putAx n v s).pending = s.pending := rfl

/-! putPg. -/

@[simp] theorem putPg_regs {n : Nat} {v : PgSt} : (putPg n v s).regs = s.regs := rfl
@[simp] theorem putPg_actv {n : Nat} {v : PgSt} : (putPg n v s).actv = s.actv := rfl
@[simp] theorem putPg_clk {n : Nat} {v : PgSt} : (putPg n v s).clk = s.clk := rfl
@[simp] theorem putPg_prev {n : Nat} {v : PgSt} : (putPg n v s).prev = s.prev := rfl
@[simp] theorem putPg_staged {n : Nat} {v : PgSt} : (putPg n v s).staged = s.staged := rfl
@[simp] theorem putPg_time {n : Nat} {v : PgSt} : (putPg n v s).time = s.time := rfl
@[simp] theorem putPg_mem {n : Nat} {v : PgSt} : (putPg n v s).mem = s.mem := rfl
@[simp] theorem putPg_cmt {n : Nat} {v : PgSt} : (putPg n v s).cmt = s.cmt := rfl
@[simp] theorem putPg_le {n : Nat} {v : PgSt} : (putPg n v s).le = s.le := rfl
@[simp] theorem putPg_pods {n : Nat} {v : PgSt} : (putPg n v s).pods = s.pods := rfl
@[simp] theorem putPg_ovrAlarm {n : Nat} {v : PgSt} : (putPg n v s).ovrAlarm = s.ovrAlarm := rfl
@[simp] theorem putPg_dsBad {n : Nat} {v : PgSt} : (putPg n v s).dsBad = s.dsBad := rfl
@[simp] theorem putPg_axes {n : Nat} {v : PgSt} : (putPg n v s).axes = s.axes := rfl
@[simp] theorem putPg_pg {n : Nat} {v : PgSt} : (putPg n v s).pg = kvPut (fun _ => {}) s.pg n v := rfl
@[simp] theorem putPg_steps {n : Nat} {v : PgSt} : (putPg n v s).steps = s.steps := rfl
@[simp] theorem putPg_chans {n : Nat} {v : PgSt} : (putPg n v s).chans = s.chans := rfl
@[simp] theorem putPg_emus {n : Nat} {v : PgSt} : (putPg n v s).emus = s.emus := rfl
@[simp] theorem putPg_uqs {n : Nat} {v : PgSt} : (putPg n v s).uqs = s.uqs := rfl
@[simp] theorem putPg_net {n : Nat} {v : PgSt} : (putPg n v s).net = s.net := rfl
@[simp] theorem putPg_slt {n : Nat} {v : PgSt} : (putPg n v s).slt = s.slt := rfl
@[simp] theorem putPg_syn {n : Nat} {v : PgSt} : (putPg n v s).syn = s.syn := rfl
@[simp] theorem putPg_cas {n : Nat} {v : PgSt} : (putPg n v s).cas = s.cas := rfl
@[simp] theorem putPg_acq {n : Nat} {v : PgSt} : (putPg n v s).acq = s.acq := rfl
@[simp] theorem putPg_fio {n : Nat} {v : PgSt} : (putPg n v s).fio = s.fio := rfl
@[simp] theorem putPg_saf {n : Nat} {v : PgSt} : (putPg n v s).saf = s.saf := rfl
@[simp] theorem putPg_mi {n : Nat} {v : PgSt} : (putPg n v s).mi = s.mi := rfl
@[simp] theorem putPg_hif {n : Nat} {v : PgSt} : (putPg n v s).hif = s.hif := rfl
@[simp] theorem putPg_boot {n : Nat} {v : PgSt} : (putPg n v s).boot = s.boot := rfl
@[simp] theorem putPg_evl {n : Nat} {v : PgSt} : (putPg n v s).evl = s.evl := rfl
@[simp] theorem putPg_pcr {n : Nat} {v : PgSt} : (putPg n v s).pcr = s.pcr := rfl
@[simp] theorem putPg_dbg {n : Nat} {v : PgSt} : (putPg n v s).dbg = s.dbg := rfl
@[simp] theorem putPg_fwIrq {n : Nat} {v : PgSt} : (putPg n v s).fwIrq = s.fwIrq := rfl
@[simp] theorem putPg_outs {n : Nat} {v : PgSt} : (putPg n v s).outs = s.outs := rfl
@[simp] theorem putPg_free {n : Nat} {v : PgSt} : (putPg n v s).free = s.free := rfl
@[simp] theorem putPg_pending {n : Nat} {v : PgSt} : (putPg n v s).pending = s.pending := rfl

/-! useFree. -/

@[simp] theorem useFree_regs : (useFree s).regs = s.regs := rfl
@[simp] theorem useFree_actv : (useFree s).actv = s.actv := rfl
@[simp] theorem useFree_clk : (useFree s).clk = s.clk := rfl
@[simp] theorem useFree_prev : (useFree s).prev = s.prev := rfl
@[simp] theorem useFree_staged : (useFree s).staged = s.staged := rfl
@[simp] theorem useFree_time : (useFree s).time = s.time := rfl
@[simp] theorem useFree_mem : (useFree s).mem = s.mem := rfl
@[simp] theorem useFree_cmt : (useFree s).cmt = s.cmt := rfl
@[simp] theorem useFree_le : (useFree s).le = s.le := rfl
@[simp] theorem useFree_pods : (useFree s).pods = s.pods := rfl
@[simp] theorem useFree_ovrAlarm : (useFree s).ovrAlarm = s.ovrAlarm := rfl
@[simp] theorem useFree_dsBad : (useFree s).dsBad = s.dsBad := rfl
@[simp] theorem useFree_axes : (useFree s).axes = s.axes := rfl
@[simp] theorem useFree_pg : (useFree s).pg = s.pg := rfl
@[simp] theorem useFree_steps : (useFree s).steps = s.steps := rfl
@[simp] theorem useFree_chans : (useFree s).chans = s.chans := rfl
@[simp] theorem useFree_emus : (useFree s).emus = s.emus := rfl
@[simp] theorem useFree_uqs : (useFree s).uqs = s.uqs := rfl
@[simp] theorem useFree_net : (useFree s).net = s.net := rfl
@[simp] theorem useFree_slt : (useFree s).slt = s.slt := rfl
@[simp] theorem useFree_syn : (useFree s).syn = s.syn := rfl
@[simp] theorem useFree_cas : (useFree s).cas = s.cas := rfl
@[simp] theorem useFree_acq : (useFree s).acq = s.acq := rfl
@[simp] theorem useFree_fio : (useFree s).fio = s.fio := rfl
@[simp] theorem useFree_saf : (useFree s).saf = s.saf := rfl
@[simp] theorem useFree_mi : (useFree s).mi = s.mi := rfl
@[simp] theorem useFree_hif : (useFree s).hif = s.hif := rfl
@[simp] theorem useFree_boot : (useFree s).boot = s.boot := rfl
@[simp] theorem useFree_evl : (useFree s).evl = s.evl := rfl
@[simp] theorem useFree_pcr : (useFree s).pcr = s.pcr := rfl
@[simp] theorem useFree_dbg : (useFree s).dbg = s.dbg := rfl
@[simp] theorem useFree_fwIrq : (useFree s).fwIrq = s.fwIrq := rfl
@[simp] theorem useFree_outs : (useFree s).outs = s.outs := rfl
@[simp] theorem useFree_free : (useFree s).free = s.free + 1 := rfl
@[simp] theorem useFree_pending : (useFree s).pending = s.pending := rfl

/-! emit. -/

@[simp] theorem emit_regs {o : Out} : (emit o s).regs = s.regs := rfl
@[simp] theorem emit_actv {o : Out} : (emit o s).actv = s.actv := rfl
@[simp] theorem emit_clk {o : Out} : (emit o s).clk = s.clk := rfl
@[simp] theorem emit_prev {o : Out} : (emit o s).prev = s.prev := rfl
@[simp] theorem emit_staged {o : Out} : (emit o s).staged = s.staged := rfl
@[simp] theorem emit_time {o : Out} : (emit o s).time = s.time := rfl
@[simp] theorem emit_mem {o : Out} : (emit o s).mem = s.mem := rfl
@[simp] theorem emit_cmt {o : Out} : (emit o s).cmt = s.cmt := rfl
@[simp] theorem emit_le {o : Out} : (emit o s).le = s.le := rfl
@[simp] theorem emit_pods {o : Out} : (emit o s).pods = s.pods := rfl
@[simp] theorem emit_ovrAlarm {o : Out} : (emit o s).ovrAlarm = s.ovrAlarm := rfl
@[simp] theorem emit_dsBad {o : Out} : (emit o s).dsBad = s.dsBad := rfl
@[simp] theorem emit_axes {o : Out} : (emit o s).axes = s.axes := rfl
@[simp] theorem emit_pg {o : Out} : (emit o s).pg = s.pg := rfl
@[simp] theorem emit_steps {o : Out} : (emit o s).steps = s.steps := rfl
@[simp] theorem emit_chans {o : Out} : (emit o s).chans = s.chans := rfl
@[simp] theorem emit_emus {o : Out} : (emit o s).emus = s.emus := rfl
@[simp] theorem emit_uqs {o : Out} : (emit o s).uqs = s.uqs := rfl
@[simp] theorem emit_net {o : Out} : (emit o s).net = s.net := rfl
@[simp] theorem emit_slt {o : Out} : (emit o s).slt = s.slt := rfl
@[simp] theorem emit_syn {o : Out} : (emit o s).syn = s.syn := rfl
@[simp] theorem emit_cas {o : Out} : (emit o s).cas = s.cas := rfl
@[simp] theorem emit_acq {o : Out} : (emit o s).acq = s.acq := rfl
@[simp] theorem emit_fio {o : Out} : (emit o s).fio = s.fio := rfl
@[simp] theorem emit_saf {o : Out} : (emit o s).saf = s.saf := rfl
@[simp] theorem emit_mi {o : Out} : (emit o s).mi = s.mi := rfl
@[simp] theorem emit_hif {o : Out} : (emit o s).hif = s.hif := rfl
@[simp] theorem emit_boot {o : Out} : (emit o s).boot = s.boot := rfl
@[simp] theorem emit_evl {o : Out} : (emit o s).evl = s.evl := rfl
@[simp] theorem emit_pcr {o : Out} : (emit o s).pcr = s.pcr := rfl
@[simp] theorem emit_dbg {o : Out} : (emit o s).dbg = s.dbg := rfl
@[simp] theorem emit_fwIrq {o : Out} : (emit o s).fwIrq = s.fwIrq := rfl
@[simp] theorem emit_outs {o : Out} : (emit o s).outs = s.outs ++ [o] := rfl
@[simp] theorem emit_free {o : Out} : (emit o s).free = s.free := rfl
@[simp] theorem emit_pending {o : Out} : (emit o s).pending = s.pending := rfl

/-! withPending. -/

@[simp] theorem withPending_regs {q : List Instr} : (s.withPending q).regs = s.regs := rfl
@[simp] theorem withPending_actv {q : List Instr} : (s.withPending q).actv = s.actv := rfl
@[simp] theorem withPending_clk {q : List Instr} : (s.withPending q).clk = s.clk := rfl
@[simp] theorem withPending_prev {q : List Instr} : (s.withPending q).prev = s.prev := rfl
@[simp] theorem withPending_staged {q : List Instr} : (s.withPending q).staged = s.staged := rfl
@[simp] theorem withPending_time {q : List Instr} : (s.withPending q).time = s.time := rfl
@[simp] theorem withPending_mem {q : List Instr} : (s.withPending q).mem = s.mem := rfl
@[simp] theorem withPending_cmt {q : List Instr} : (s.withPending q).cmt = s.cmt := rfl
@[simp] theorem withPending_le {q : List Instr} : (s.withPending q).le = s.le := rfl
@[simp] theorem withPending_pods {q : List Instr} : (s.withPending q).pods = s.pods := rfl
@[simp] theorem withPending_ovrAlarm {q : List Instr} : (s.withPending q).ovrAlarm = s.ovrAlarm := rfl
@[simp] theorem withPending_dsBad {q : List Instr} : (s.withPending q).dsBad = s.dsBad := rfl
@[simp] theorem withPending_axes {q : List Instr} : (s.withPending q).axes = s.axes := rfl
@[simp] theorem withPending_pg {q : List Instr} : (s.withPending q).pg = s.pg := rfl
@[simp] theorem withPending_steps {q : List Instr} : (s.withPending q).steps = s.steps := rfl
@[simp] theorem withPending_chans {q : List Instr} : (s.withPending q).chans = s.chans := rfl
@[simp] theorem withPending_emus {q : List Instr} : (s.withPending q).emus = s.emus := rfl
@[simp] theorem withPending_uqs {q : List Instr} : (s.withPending q).uqs = s.uqs := rfl
@[simp] theorem withPending_net {q : List Instr} : (s.withPending q).net = s.net := rfl
@[simp] theorem withPending_slt {q : List Instr} : (s.withPending q).slt = s.slt := rfl
@[simp] theorem withPending_syn {q : List Instr} : (s.withPending q).syn = s.syn := rfl
@[simp] theorem withPending_cas {q : List Instr} : (s.withPending q).cas = s.cas := rfl
@[simp] theorem withPending_acq {q : List Instr} : (s.withPending q).acq = s.acq := rfl
@[simp] theorem withPending_fio {q : List Instr} : (s.withPending q).fio = s.fio := rfl
@[simp] theorem withPending_saf {q : List Instr} : (s.withPending q).saf = s.saf := rfl
@[simp] theorem withPending_mi {q : List Instr} : (s.withPending q).mi = s.mi := rfl
@[simp] theorem withPending_hif {q : List Instr} : (s.withPending q).hif = s.hif := rfl
@[simp] theorem withPending_boot {q : List Instr} : (s.withPending q).boot = s.boot := rfl
@[simp] theorem withPending_evl {q : List Instr} : (s.withPending q).evl = s.evl := rfl
@[simp] theorem withPending_pcr {q : List Instr} : (s.withPending q).pcr = s.pcr := rfl
@[simp] theorem withPending_dbg {q : List Instr} : (s.withPending q).dbg = s.dbg := rfl
@[simp] theorem withPending_fwIrq {q : List Instr} : (s.withPending q).fwIrq = s.fwIrq := rfl
@[simp] theorem withPending_outs {q : List Instr} : (s.withPending q).outs = s.outs := rfl
@[simp] theorem withPending_free {q : List Instr} : (s.withPending q).free = s.free := rfl
@[simp] theorem withPending_pending {q : List Instr} : (s.withPending q).pending = q := rfl

end Sys2Proof.Machine
end

