-- ==== Sys2Proof/Laws/Table.lean ====
section
/-! SUPPORT. Sparse tables: a read after a write, and the canonical form that a write keeps. -/

namespace Sys2Proof.Machine

section Reads

variable {α : Type} {d : Nat → α}

@[simp] theorem kvGet_nil (k : Nat) : kvGet d [] k = d k := rfl

theorem kvGet_kvErase_self {k : Nat} {m : KV α} : kvGet d (kvErase m k) k = d k := by
  induction m with
  | nil => rfl
  | cons e m ih =>
    obtain ⟨k', v'⟩ := e
    by_cases h : k = k' <;> simp [kvErase, kvGet, h] <;> simpa [h] using ih

theorem kvGet_kvErase_other {j k : Nat} {m : KV α} (hj : j ≠ k) : kvGet d (kvErase m k) j = kvGet d m j := by
  induction m with
  | nil => rfl
  | cons e m ih =>
    obtain ⟨k', v'⟩ := e
    by_cases h : k = k'
    · subst h; simp [kvErase, kvGet, hj, ih]
    · simp [kvErase, kvGet, h, ih]

theorem kvGet_kvInsert_self {k : Nat} {v : α} {m : KV α} : kvGet d (kvInsert m k v) k = v := by
  induction m with
  | nil => simp [kvInsert, kvGet]
  | cons e m ih =>
    obtain ⟨k', v'⟩ := e
    unfold kvInsert
    split
    · simp [kvGet]
    · split
      · simp [kvGet]
      · simp [kvGet, *]

theorem kvGet_kvInsert_other {j k : Nat} {v : α} {m : KV α} (hj : j ≠ k) :
    kvGet d (kvInsert m k v) j = kvGet d m j := by
  induction m with
  | nil => simp [kvInsert, kvGet, hj]
  | cons e m ih =>
    obtain ⟨k', v'⟩ := e
    unfold kvInsert
    split
    · simp [kvGet, hj]
    · split
      · subst_vars; simp [kvGet, hj]
      · simp [kvGet, ih]

variable [DecidableEq α]

/-- A read of the key written gives the value written. -/
@[simp] theorem kvGet_kvPut_self {k : Nat} {v : α} {m : KV α} : kvGet d (kvPut d m k v) k = v := by
  unfold kvPut
  split
  · rw [kvGet_kvErase_self]; simp_all
  · exact kvGet_kvInsert_self

/-- A read of another key gives what it gave. -/
theorem kvGet_kvPut_other {j k : Nat} {v : α} {m : KV α} (hj : j ≠ k) :
    kvGet d (kvPut d m k v) j = kvGet d m j := by
  unfold kvPut
  split
  · exact kvGet_kvErase_other hj
  · exact kvGet_kvInsert_other hj

/-- A read after a write. -/
theorem kvGet_kvPut {j k : Nat} {v : α} {m : KV α} :
    kvGet d (kvPut d m k v) j = if j = k then v else kvGet d m j := by
  split
  · subst_vars; exact kvGet_kvPut_self
  · exact kvGet_kvPut_other ‹_›

end Reads

section Form

variable {α : Type} [DecidableEq α] {d : Nat → α}

/-- A canonical table is canonical from any lower bound on. -/
theorem kvWfFrom_mono {b c : Nat} {m : KV α} (h : kvWfFrom d c m = true) (hb : b ≤ c) : kvWfFrom d b m = true := by
  cases m with
  | nil => rfl
  | cons e m =>
    obtain ⟨k', v'⟩ := e
    simp only [kvWfFrom, Bool.and_eq_true, decide_eq_true_eq] at h ⊢
    exact ⟨⟨by omega, h.1.2⟩, h.2⟩

theorem kvErase_wfFrom {b k : Nat} {m : KV α} (h : kvWfFrom d b m = true) : kvWfFrom d b (kvErase m k) = true := by
  induction m generalizing b with
  | nil => rfl
  | cons e m ih =>
    obtain ⟨k', v'⟩ := e
    simp only [kvWfFrom, Bool.and_eq_true, decide_eq_true_eq] at h
    unfold kvErase
    split
    · exact kvWfFrom_mono (ih h.2) (by omega)
    · simp only [kvWfFrom, Bool.and_eq_true, decide_eq_true_eq]
      exact ⟨h.1, ih h.2⟩

theorem kvInsert_wfFrom {b k : Nat} {v : α} {m : KV α} (h : kvWfFrom d b m = true) (hk : b ≤ k) (hv : v ≠ d k) :
    kvWfFrom d b (kvInsert m k v) = true := by
  induction m generalizing b with
  | nil => simp [kvInsert, kvWfFrom, hk, hv]
  | cons e m ih =>
    obtain ⟨k', v'⟩ := e
    simp only [kvWfFrom, Bool.and_eq_true, decide_eq_true_eq] at h
    unfold kvInsert
    split
    · simp only [kvWfFrom, Bool.and_eq_true, decide_eq_true_eq]
      exact ⟨⟨hk, hv⟩, ⟨by omega, h.1.2⟩, h.2⟩
    · split
      · subst_vars
        simp only [kvWfFrom, Bool.and_eq_true, decide_eq_true_eq]
        exact ⟨⟨hk, hv⟩, h.2⟩
      · simp only [kvWfFrom, Bool.and_eq_true, decide_eq_true_eq]
        exact ⟨h.1, ih h.2 (by omega)⟩

/-- A write keeps the canonical form. -/
theorem kvPut_wf {k : Nat} {v : α} {m : KV α} (h : kvWf d m = true) : kvWf d (kvPut d m k v) = true := by
  unfold kvPut
  split
  · exact kvErase_wfFrom h
  · exact kvInsert_wfFrom h (Nat.zero_le k) ‹_›

/-- A filter keeps the canonical form. -/
theorem kvFilter_wfFrom {b : Nat} {m : KV α} (p : Nat × α → Bool) (h : kvWfFrom d b m = true) :
    kvWfFrom d b (m.filter p) = true := by
  induction m generalizing b with
  | nil => rfl
  | cons e m ih =>
    obtain ⟨k', v'⟩ := e
    simp only [kvWfFrom, Bool.and_eq_true, decide_eq_true_eq] at h
    by_cases hp : p (k', v') = true
    · simp only [List.filter_cons, hp, if_true, kvWfFrom, Bool.and_eq_true, decide_eq_true_eq]
      exact ⟨h.1, ih h.2⟩
    · simp only [List.filter_cons, hp]
      exact kvWfFrom_mono (ih h.2) (by omega)

theorem kvFilter_wf {m : KV α} (p : Nat × α → Bool) (h : kvWf d m = true) : kvWf d (m.filter p) = true :=
  kvFilter_wfFrom p h

end Form

end Sys2Proof.Machine
end

