-- ==== Sys2Proof/Laws/Reg.lean ====
section
/-! SUPPORT. Registers and their fields: a read after a write. -/

namespace Sys2Proof.Machine

variable {s : State}

/-! Bits of words. -/

theorem maskW_bit (hi lo i : Nat) (h : lo ≤ hi) (hi32 : i < 32) :
    (maskW hi lo).getLsbD i = decide (lo ≤ i ∧ i ≤ hi) := by
  unfold maskW
  rw [BitVec.getLsbD_ofNat, Nat.testBit_shiftLeft, Nat.testBit_two_pow_sub_one]
  by_cases h1 : lo ≤ i <;> by_cases h2 : i ≤ hi <;> simp [h1, h2, hi32] <;> omega

theorem setFld_bit (w : Word) (hi lo v i : Nat) (h : lo ≤ hi) (hi32 : i < 32) :
    (setFld w hi lo v).getLsbD i = if lo ≤ i ∧ i ≤ hi then v.testBit (i - lo) else w.getLsbD i := by
  unfold setFld
  rw [BitVec.getLsbD_or, BitVec.getLsbD_and, BitVec.getLsbD_not, maskW_bit hi lo i h hi32,
    BitVec.getLsbD_ofNat, Nat.testBit_shiftLeft, Nat.testBit_mod_two_pow]
  by_cases h1 : lo ≤ i <;> by_cases h2 : i ≤ hi <;> simp [h1, h2, hi32] <;> omega

theorem fld_testBit (w : Word) (hi lo i : Nat) (h : lo ≤ hi) :
    (fld w hi lo).testBit i = (decide (i ≤ hi - lo) && w.getLsbD (lo + i)) := by
  unfold fld bitsOf
  rw [Nat.testBit_mod_two_pow, Nat.testBit_shiftRight, BitVec.getLsbD]
  by_cases h1 : i ≤ hi - lo
  · have : i < hi + 1 - lo := by omega
    simp [h1, this]
  · have : ¬ i < hi + 1 - lo := by omega
    simp [h1, this]

/-- A field reads what was written to it. -/
theorem fld_setFld_self (w : Word) (hi lo v : Nat) (h : lo ≤ hi) (_hhi : hi < 32) :
    fld (setFld w hi lo v) hi lo = v % 2 ^ (hi + 1 - lo) := by
  apply Nat.eq_of_testBit_eq
  intro i
  rw [fld_testBit _ _ _ _ h, Nat.testBit_mod_two_pow]
  by_cases h1 : i ≤ hi - lo
  · have h2 : i < hi + 1 - lo := by omega
    rw [setFld_bit _ _ _ _ _ h (by omega)]
    have h3 : lo + i ≤ hi := by omega
    simp [h1, h2, h3]
  · have h2 : ¬ i < hi + 1 - lo := by omega
    simp [h1, h2]

/-- A field apart from the one written keeps its value. -/
theorem fld_setFld_apart (w : Word) (hi lo v hi' lo' : Nat) (h : lo ≤ hi) (_hhi : hi < 32) (h' : lo' ≤ hi')
    (_hhi' : hi' < 32) (hd : hi < lo' ∨ hi' < lo) : fld (setFld w hi lo v) hi' lo' = fld w hi' lo' := by
  apply Nat.eq_of_testBit_eq
  intro i
  rw [fld_testBit _ _ _ _ h', fld_testBit _ _ _ _ h']
  by_cases h1 : i ≤ hi' - lo'
  · rw [setFld_bit _ _ _ _ _ h (by omega)]
    have : ¬ (lo ≤ lo' + i ∧ lo' + i ≤ hi) := by omega
    simp [this]
  · simp [h1]

/-- The bit written, and the others. -/
theorem bit_setFld_bit (w : Word) (b i : Nat) (v : Bool) (hi : i < 32) :
    bit (setFld w b b (b2n v)) i = if i = b then v else bit w i := by
  unfold bit
  rw [setFld_bit _ _ _ _ _ (Nat.le_refl b) hi]
  by_cases h : i = b
  · subst h; cases v <;> simp [b2n]
  · have : ¬ (b ≤ i ∧ i ≤ b) := by omega
    simp [h, this]

/-! Registers. -/

@[simp] theorem reg_setReg_self {a : Nat} {v : Word} : (setReg a v s).reg a = v := by simp [State.reg]

theorem reg_setReg_other {a b : Nat} {v : Word} (h : b ≠ a) : (setReg a v s).reg b = s.reg b := by
  simp [State.reg, kvGet_kvPut_other h]

/-- A hardware update writes the register and notes what it did. -/
theorem setRf_regs_eq {a hi lo v : Nat} : (setRf a hi lo v s).regs = (setReg a (setFld (s.reg a) hi lo v) s).regs := rfl

@[simp] theorem reg_noteHw {a b : Nat} {old upd : Word} {f : Word → Word} :
    (noteHw a old upd f s).reg b = s.reg b := rfl

@[simp] theorem reg_setRf_self {a hi lo v : Nat} : (setRf a hi lo v s).reg a = setFld (s.reg a) hi lo v := by
  simp [setRf]

theorem reg_setRf_other {a b hi lo v : Nat} (h : b ≠ a) : (setRf a hi lo v s).reg b = s.reg b :=
  reg_setReg_other h

@[simp] theorem reg_setRb_self {a b : Nat} {v : Bool} : (setRb a b v s).reg a = setFld (s.reg a) b b (b2n v) := by
  simp [setRb]

theorem reg_setRb_other {a b c : Nat} {v : Bool} (h : b ≠ a) : (setRb a c v s).reg b = s.reg b :=
  reg_setReg_other h

@[simp] theorem reg_orReg_self {a m : Nat} : (orReg a m s).reg a = s.reg a ||| BitVec.ofNat 32 m := by
  simp [orReg]

theorem reg_orReg_other {a b m : Nat} (h : b ≠ a) : (orReg a m s).reg b = s.reg b := reg_setReg_other h

@[simp] theorem act_setAct_self {a : Nat} {v : Word} : (setAct a v s).act a = v := by simp [State.act]

theorem act_setAct_other {a b : Nat} {v : Word} (h : b ≠ a) : (setAct a v s).act b = s.act b := by
  simp [State.act, kvGet_kvPut_other h]

/-- Registers are read the same in states that hold the same table. -/
theorem reg_congr {t : State} (h : t.regs = s.regs) (a : Nat) : t.reg a = s.reg a := by simp [State.reg, h]

theorem act_congr {t : State} (h : t.actv = s.actv) (a : Nat) : t.act a = s.act a := by simp [State.act, h]

/-! Conditions. -/

@[simp] theorem onlyIf_true {f : State → State} : onlyIf true f s = f s := rfl

@[simp] theorem onlyIf_false {f : State → State} : onlyIf false f s = s := rfl

theorem onlyIf_pos {c : Bool} {f : State → State} (h : c = true) : onlyIf c f s = f s := by simp [h]

theorem onlyIf_neg {c : Bool} {f : State → State} (h : c = false) : onlyIf c f s = s := by simp [h]

end Sys2Proof.Machine
end

