-- ==== Sys2Proof/Safety.lean ====
section
/-! DEFINITION. What counts as a safe run, and the words in which claims are stated. -/

namespace Sys2Proof.Machine

/-- The command answers a next state of which P holds. -/
def Answers (o : Host.Outcome State Fault Refusal) (P : State → Prop) : Prop := ∃ t, o = .next t ∧ P t

/-- The command answers the state that settles one of which P holds: P speaks of registers of FIO_ and SAF_
before the permits and output stages follow at once (R342, R358). -/
def Ends (o : Host.Outcome State Fault Refusal) (P : State → Prop) : Prop := ∃ u, o = .next (settle u) ∧ P u

/-- Permits, agreements and output stages stand as R342, R349, R358 and Table 13-3 derive them. -/
def State.settled (s : State) : Prop :=
  (∀ g, g < 2 → s.permit g = s.permitNow g) ∧
  (∀ g, g < 2 → s.agr g = true → s.huskOn = true ∧ s.safState ≠ 4 ∧ (s.safState = 1 ∨ s.huskFree g = true)) ∧
  s.rf Reg.FIO_OUT_STAT 7 0 = s.outsOn ∧ s.rf Reg.FIO_OUT_STAT 15 8 = s.latches

/-- A safe state: a safety output whose permit is 0 is not driven, no group is permitted in LOCKOUT or without
Husk, and the memories keep their canonical form. -/
def State.safe (s : State) : Prop :=
  (∀ g, g < 2 → s.ab (Reg.FIO_OUT_CFG (6 + g)) 2 = true → s.permit g = false →
    (s.rf Reg.FIO_OUT_STAT 7 0).testBit (6 + g) = false) ∧
  (∀ g, g < 2 → s.permit g = true → s.huskOn = true ∧ s.safState ≠ 4) ∧
  s.mem.wf = true

/-- Registers at addresses other than the listed ones read as before. -/
def State.SameRegs (s t : State) (except : List Nat) : Prop := ∀ a, a ∉ except → t.reg a = s.reg a

/-- Every byte of memory and every check symbol reads as before. -/
def State.SameMem (s t : State) : Prop := ∀ a, t.byteAt a = s.byteAt a ∧ t.chkAt a = s.chkAt a

/-- t differs from s in registers of FIO_ and SAF_, the notes of what hardware does to registers (R9), and the
hidden state of the two blocks at most. -/
def MarrowOnly (s t : State) : Prop :=
  ∃ r c f x, t = { s with regs := r, clk := c, fio := f, saf := x } ∧ ∀ a, marrowReg a = false → kvGet regReset r a = s.reg a

/-! Words for claims about the peas. -/

/-- Operations of Table 2-4 with one destination that DST names, and their opcodes. -/
def peaLocal (a b c : Fin 4) : List (Instr × Nat) :=
  [(.fma a b c, 0x01), (.mul a b c, 0x02), (.add a b c, 0x03), (.mov a b c, 0x04), (.ldz a b c, 0x05),
   (.iadd a b c, 0x06), (.isub a b c, 0x07), (.fmin a b c, 0x08), (.fmax a b c, 0x09), (.sel a b c, 0x0F),
   (.abs a b c, 0x10), (.cvtfq a b c, 0x11), (.cvtqf a b c, 0x12), (.rcp a b c, 0x13), (.div a b c, 0x14),
   (.sqrt a b c, 0x15), (.rsq a b c, 0x16)]

/-- Operations with the destination pair Ld, Ld+1. -/
def peaPair (a b c : Fin 4) : List (Instr × Nat) := [(.minx a b c, 0x0A), (.maxx a b c, 0x0B), (.sincos a b c, 0x17)]

/-- Operations with destination C. -/
def peaCompare (a b c : Fin 4) : List (Instr × Nat) := [(.clt a b c, 0x0C), (.cle a b c, 0x0D), (.ceq a b c, 0x0E)]

/-- In state s, context n issues a legal native word of an opcode next, in tick t, when the state is u; the FIN
OUT of a TIMED graph is not missing there (R95). -/
def State.before (s : State) (n op t word : Nat) (u : State) : Prop :=
  s.issues n op = true ∧ toSlot n s = ((t, word), u) ∧ (peaFields word).op = op ∧
    nativeMissing (u.ctx n) (peaFields word) = false

/-! Words for claims about the scheduler. -/

/-- Word k of descriptor i of the graph table of pod p in a cycle, as it decodes. -/
def State.descWord (s : State) (cyc p i k : Nat) : RdOut := s.decodeAt (yWordAddr p ((s.graphTable cyc p).1 + 4 * i + k))

/-- The descriptor that its four words make. -/
def State.descOf (s : State) (cyc p i : Nat) : Desc :=
  parseDesc (s.descWord cyc p i 0).data (s.descWord cyc p i 1).data (s.descWord cyc p i 2).data (s.descWord cyc p i 3).data

/-- A release of source src may register it: every word reads well, no reserved bit is set, and no rule of Table 3-6
calls it faulty (DSC). -/
def State.descGood (s : State) (cyc p i src : Nat) : Bool :=
  let w := s.descWord cyc p i
  let d := s.descOf cyc p i
  (w 0).ok && (w 1).ok && (w 2).ok && (w 3).ok && !(descReserved (w 0).data (w 1).data (w 2).data (w 3).data) &&
    !(descBad (s.compat p) (s.graphTable cyc p).2 d) && !(src = 4 && d.src ≠ 4)

/-! Words for claims about Glipor. -/

/-- The state once Glipor has read the header of mailbox m. -/
def State.afterHead (s : State) (m : Nat) : State := (mbWord m 4 (mbWord m 0 s).2).2

/-- Glipor serves mailbox m, which holds command opc with LEN len and TMO tmo; no rule turns it away but that
of the layout's LEN (R419, R420, R422). It has begun, or its turn has come (R416) within its effective timeout (R417),
no command of its kind runs on without its mailbox (R407), and no abort has struck. -/
abbrev State.takes (s : State) (m opc len tmo : Nat) : Prop :=
  s.hif.struck = false ∧ s.orphan m opc = none ∧
    ((s.afterHead m).job m ≠ none ∨ (s.afterHead m).turn m = true ∧
      (s.afterHead m).jobLate ((s.afterHead m).newJob m opc tmo) = false) ∧
  s.serves m = true ∧ (mbWord m 0 s).1.map (· % 65536) = some opc ∧
    (mbWord m 4 (mbWord m 0 s).2).1.map (fun w => (w % 65536, w / 65536)) = some (len, tmo) ∧ len ≤ 240 ∧
    (m = 31 → recoveryOpc opc = true) ∧ ((s.afterHead m).stage = 4 → haltedOpc opc = true)

/-- Mailbox m is complete with a STATUS. -/
def State.answered (t : State) (m status : Nat) : Prop :=
  t.owned m = false ∧ t.hif.hdone.testBit m = true ∧ t.rawBytes (mbAddr m 8) 2 = status

/-- Mailbox m is complete with STATUS 0 and the values laid out in its payload, RLEN bytes of it. -/
def State.returned (t : State) (m opc : Nat) (vals : List Nat) : Prop :=
  let bs := (Config.layout opc vals).take 240
  t.answered m 0 ∧ t.rawBytes (mbAddr m 12) 2 = bs.length ∧
    ∀ i, i < bs.length → t.byteAt (mbAddr m 16 + i) = bs.getD i 0

/-- The answer is a state of which P holds, or, where the layout does not allow LEN, the completion of mailbox m
with STATUS 0x0002 (R422; the layouts are not in the spec). -/
def Served (o : Host.Outcome State Fault Refusal) (m opc len : Nat) (P : State → Prop) : Prop :=
  Answers o fun t => if Config.lenOk opc len then P t else t.answered m 2

end Sys2Proof.Machine
end

