-- ==== Sys2Proof/Laws/Settle.lean ====
section
/-! SUPPORT. What follows every command at once: it touches registers of FIO_ and SAF_ and the hidden state of
the two blocks, and nothing else. -/

namespace Sys2Proof.Machine

namespace MarrowOnly

variable {s t u : State}

theorem refl (s : State) : MarrowOnly s s := ⟨s.regs, s.clk, s.fio, s.saf, rfl, fun _ _ => rfl⟩

theorem trans (h : MarrowOnly s t) (k : MarrowOnly t u) : MarrowOnly s u := by
  obtain ⟨r, c, f, x, rfl, hr⟩ := h
  obtain ⟨r', c', f', x', rfl, hr'⟩ := k
  exact ⟨r', c', f', x', rfl, fun a ha => (hr' a ha).trans (hr a ha)⟩

theorem hidden {f : FioSt} {x : SafSt} : MarrowOnly s { s with fio := f, saf := x } :=
  ⟨_, _, _, _, rfl, fun _ _ => rfl⟩

theorem setReg {a : Nat} {v : Word} (h : marrowReg a = true) : MarrowOnly s (Machine.setReg a v s) :=
  ⟨_, s.clk, s.fio, s.saf, rfl, fun b hb => kvGet_kvPut_other (by intro e; subst e; simp [h] at hb)⟩

theorem noteHw {a : Nat} {old upd : Word} {f : Word → Word} : MarrowOnly s (Machine.noteHw a old upd f s) :=
  ⟨_, _, _, _, rfl, fun _ _ => rfl⟩

theorem setRf {a hi lo v : Nat} (h : marrowReg a = true) : MarrowOnly s (Machine.setRf a hi lo v s) :=
  (setReg h).trans noteHw

theorem setRb {a b : Nat} {v : Bool} (h : marrowReg a = true) : MarrowOnly s (Machine.setRb a b v s) := setRf h

theorem orReg {a m : Nat} (h : marrowReg a = true) : MarrowOnly s (Machine.orReg a m s) := (setReg h).trans noteHw

theorem onlyIf {c : Bool} {f : State → State} (h : MarrowOnly s (f s)) : MarrowOnly s (Machine.onlyIf c f s) := by
  cases c
  · exact refl s
  · exact h

end MarrowOnly

theorem orHeld_only (es : List (Nat × Nat)) (s : State) : MarrowOnly s (orHeld es s) := by
  induction es generalizing s with
  | nil => exact .refl s
  | cons e es ih =>
    refine .trans ?_ (ih _)
    cases h : marrowReg e.1
    · exact .refl s
    · exact .orReg h

theorem takeReq_only (s : State) : MarrowOnly s (takeReq s) := .onlyIf (.setRf rfl)

theorem takeCause_only (s : State) : MarrowOnly s (takeCause s) := by
  unfold takeCause
  split
  · exact .setRf rfl
  · exact .refl s

theorem takeRec_only (s : State) : MarrowOnly s (takeRec s) := .onlyIf (.setRf rfl)

theorem clearTaken_only (s : State) : MarrowOnly s (clearTaken s) := .hidden

theorem takeHeld_only (s : State) : MarrowOnly s (takeHeld s) := by
  unfold takeHeld
  split
  · exact .refl s
  · have h : MarrowOnly s { s with fio := { s.fio with heldBits := [] } } := .hidden
    exact ((((h.trans (orHeld_only _ _)).trans (takeReq_only _)).trans (takeCause_only _)).trans (takeRec_only _)).trans
      (clearTaken_only _)

theorem dropAgr_only {g : Nat} (s : State) : MarrowOnly s (dropAgr g s) := .onlyIf (.setRb rfl)

theorem endSs1_only {g : Nat} (s : State) : MarrowOnly s (endSs1 g s) := .trans .hidden (.setRb rfl)

theorem derivePermit_only (g : Nat) (s : State) : MarrowOnly s (derivePermit g s) := by
  unfold derivePermit
  split
  · exact .refl s
  · exact ((MarrowOnly.setRb rfl).trans (.onlyIf (endSs1_only _))).trans .hidden

theorem noteDrive_only (s : State) : MarrowOnly s (noteDrive s) := .hidden

theorem deriveOutputs_only (s : State) : MarrowOnly s (deriveOutputs s) :=
  ((noteDrive_only s).trans (.setReg rfl)).trans (.setRf rfl)

/-- All that settling can do. -/
theorem settle_only (s : State) : MarrowOnly s (settle s) :=
  (((((takeHeld_only s).trans (dropAgr_only _)).trans (dropAgr_only _)).trans
    (derivePermit_only 0 _)).trans (derivePermit_only 1 _)).trans (deriveOutputs_only _)

theorem settle_reg {s : State} {a : Nat} (h : marrowReg a = false) : (settle s).reg a = s.reg a := by
  obtain ⟨r, c, f, x, e, hr⟩ := settle_only s
  rw [e]; exact hr a h

@[simp] theorem settle_actv (s : State) : (settle s).actv = s.actv := by
  obtain ⟨r, c, f, x, e, -⟩ := settle_only s; rw [e]

@[simp] theorem settle_prev (s : State) : (settle s).prev = s.prev := by
  obtain ⟨r, c, f, x, e, -⟩ := settle_only s; rw [e]

@[simp] theorem settle_staged (s : State) : (settle s).staged = s.staged := by
  obtain ⟨r, c, f, x, e, -⟩ := settle_only s; rw [e]

@[simp] theorem settle_time (s : State) : (settle s).time = s.time := by
  obtain ⟨r, c, f, x, e, -⟩ := settle_only s; rw [e]

@[simp] theorem settle_mem (s : State) : (settle s).mem = s.mem := by
  obtain ⟨r, c, f, x, e, -⟩ := settle_only s; rw [e]

@[simp] theorem settle_cmt (s : State) : (settle s).cmt = s.cmt := by
  obtain ⟨r, c, f, x, e, -⟩ := settle_only s; rw [e]

@[simp] theorem settle_le (s : State) : (settle s).le = s.le := by
  obtain ⟨r, c, f, x, e, -⟩ := settle_only s; rw [e]

@[simp] theorem settle_pods (s : State) : (settle s).pods = s.pods := by
  obtain ⟨r, c, f, x, e, -⟩ := settle_only s; rw [e]

@[simp] theorem settle_ovrAlarm (s : State) : (settle s).ovrAlarm = s.ovrAlarm := by
  obtain ⟨r, c, f, x, e, -⟩ := settle_only s; rw [e]

@[simp] theorem settle_dsBad (s : State) : (settle s).dsBad = s.dsBad := by
  obtain ⟨r, c, f, x, e, -⟩ := settle_only s; rw [e]

@[simp] theorem settle_axes (s : State) : (settle s).axes = s.axes := by
  obtain ⟨r, c, f, x, e, -⟩ := settle_only s; rw [e]

@[simp] theorem settle_pg (s : State) : (settle s).pg = s.pg := by
  obtain ⟨r, c, f, x, e, -⟩ := settle_only s; rw [e]

@[simp] theorem settle_steps (s : State) : (settle s).steps = s.steps := by
  obtain ⟨r, c, f, x, e, -⟩ := settle_only s; rw [e]

@[simp] theorem settle_chans (s : State) : (settle s).chans = s.chans := by
  obtain ⟨r, c, f, x, e, -⟩ := settle_only s; rw [e]

@[simp] theorem settle_emus (s : State) : (settle s).emus = s.emus := by
  obtain ⟨r, c, f, x, e, -⟩ := settle_only s; rw [e]

@[simp] theorem settle_net (s : State) : (settle s).net = s.net := by
  obtain ⟨r, c, f, x, e, -⟩ := settle_only s; rw [e]

@[simp] theorem settle_slt (s : State) : (settle s).slt = s.slt := by
  obtain ⟨r, c, f, x, e, -⟩ := settle_only s; rw [e]

@[simp] theorem settle_syn (s : State) : (settle s).syn = s.syn := by
  obtain ⟨r, c, f, x, e, -⟩ := settle_only s; rw [e]

@[simp] theorem settle_cas (s : State) : (settle s).cas = s.cas := by
  obtain ⟨r, c, f, x, e, -⟩ := settle_only s; rw [e]

@[simp] theorem settle_acq (s : State) : (settle s).acq = s.acq := by
  obtain ⟨r, c, f, x, e, -⟩ := settle_only s; rw [e]

@[simp] theorem settle_mi (s : State) : (settle s).mi = s.mi := by
  obtain ⟨r, c, f, x, e, -⟩ := settle_only s; rw [e]

@[simp] theorem settle_hif (s : State) : (settle s).hif = s.hif := by
  obtain ⟨r, c, f, x, e, -⟩ := settle_only s; rw [e]

@[simp] theorem settle_boot (s : State) : (settle s).boot = s.boot := by
  obtain ⟨r, c, f, x, e, -⟩ := settle_only s; rw [e]

@[simp] theorem settle_evl (s : State) : (settle s).evl = s.evl := by
  obtain ⟨r, c, f, x, e, -⟩ := settle_only s; rw [e]

@[simp] theorem settle_pcr (s : State) : (settle s).pcr = s.pcr := by
  obtain ⟨r, c, f, x, e, -⟩ := settle_only s; rw [e]

@[simp] theorem settle_dbg (s : State) : (settle s).dbg = s.dbg := by
  obtain ⟨r, c, f, x, e, -⟩ := settle_only s; rw [e]

@[simp] theorem settle_fwIrq (s : State) : (settle s).fwIrq = s.fwIrq := by
  obtain ⟨r, c, f, x, e, -⟩ := settle_only s; rw [e]

@[simp] theorem settle_outs (s : State) : (settle s).outs = s.outs := by
  obtain ⟨r, c, f, x, e, -⟩ := settle_only s; rw [e]

@[simp] theorem settle_free (s : State) : (settle s).free = s.free := by
  obtain ⟨r, c, f, x, e, -⟩ := settle_only s; rw [e]

@[simp] theorem settle_pending (s : State) : (settle s).pending = s.pending := by
  obtain ⟨r, c, f, x, e, -⟩ := settle_only s; rw [e]

/-- A command that has its effect answers a next state. -/
theorem done_eq (s : State) : done s = .next (settle s) := rfl

theorem answers_done {s : State} {P : State → Prop} (h : P (settle s)) : Answers (done s) P := ⟨_, rfl, h⟩

theorem ends_done {s : State} {P : State → Prop} (h : P s) : Ends (done s) P := ⟨_, rfl, h⟩

end Sys2Proof.Machine
end

