-- ==== Sys2Proof/Certificates/Slice0/Obligations.lean ====
section
/-! DEFINITION. The statements for the provers. -/

open Sys2Proof Sys2Proof.Machine

/-- A step runs the command at the front of the queue on the state with the queue's rest (spec/00_scope.md, spec/95_what_each_step_holds.md). -/
def Obligations.StepRunsFrontCommand : Prop :=
  ∀ (c : Instr) (q : List Instr) (s : State), step (s.withPending (c :: q)) = exec c (s.withPending q)

/-- With an empty queue a step lets time alone pass (the model's choice, log entry 1) (R14, R48, R256, R460). -/
def Obligations.EmptyQueueLetsTimePass : Prop :=
  ∀ s : State, s.pending = [] → Answers (step s) fun t =>
    (s.syn.stopped = true → t.time.ns = s.time.ns + 30517578125 * 2 ^ 32 / 10 ^ 6 ∧ t.time.tick = s.time.tick) ∧
    (s.syn.stopped = false → s.firstPower = false → t.time.tick = s.time.tick + 1)

/-- Every command leaves permits, agreements and output stages as the rules derive them, those with PD_FIELD off as log entry 191 reads them (R342, R349, R358, R367). What outputs and latches are with PD_FIELD off is the model's reading, not the rules' (log entry 191, DEDUCED). -/
def Obligations.CommandsSettle : Prop :=
  ∀ (c : Instr) (s : State), Answers (exec c s) State.settled

/-- Every step, a command or time alone, keeps the settled form of permits and outputs (with PD_FIELD off, that of log entry 191) (R342, R349, R358, R367). What outputs and latches are with PD_FIELD off is the model's reading, not the rules' (log entry 191, DEDUCED). -/
def Obligations.StepKeepsSettled : Prop :=
  ∀ s t : State, s.settled → step s = .next t → t.settled

/-- The state after reset has the settled form (R342, R349, R358, R367). -/
def Obligations.ResetSettled : Prop :=
  State.reset.settled

/-- No command drives a safety output without permit or permits in LOCKOUT or without Husk (SAFE and ON with PD_FIELD off: log entry 191) (R342, R358, R368). With PD_FIELD off, SAFE and ON are those that the supervisor keeps, which is the model's reading, not R342's (log entry 191, DEDUCED). -/
def Obligations.SafetyOutputsObeyPermits : Prop :=
  ∀ (c : Instr) (s : State), Answers (exec c s) fun t => ∀ g, g < 2 →
    (bit (t.outCfg (6 + g)) 2 = true → t.permit g = false →
      (t.rf Reg.FIO_OUT_STAT 7 0).testBit (6 + g) = false) ∧
    (t.permit g = true → t.huskOn = true ∧ t.safState ≠ 4 ∧ t.rb Reg.SAF_REQ g = true ∧ t.agr g = true)

/-- What follows every command at once touches registers of FIO_ and SAF_ and the hidden state of the two blocks alone (R342, R358, R368, R477). -/
def Obligations.SettleTouchesMarrowOnly : Prop :=
  ∀ u : State, MarrowOnly u (settle u) ∧ (u.fio.heldBits = [] → (settle u).reg Reg.FIO_OUT = u.reg Reg.FIO_OUT) ∧
    (settle u).saf.husk = u.saf.husk

/-- FMA, MUL, ADD, MOV, LDZ, IADD, ISUB, MIN, MAX, SEL, ABS, the conversions, RCP, DIV, SQRT and RSQ write their result to the local register DST (R48, R49, R56, R57, R58, R59, R60, R61, R64, R66, R73). -/
def Obligations.PeaResultReachesLocal : Prop :=
  ∀ (a b k : Fin 4) (i : Instr) (op : Nat), (i, op) ∈ peaLocal a b k → ∀ (s u v : State) (t word x y z : Nat),
    let n := ctxNo a b k
    let w := peaFields word
    let c := u.ctx n
    s.before n op t word u → w.dst < 16 →
    readOperands n c w (countSlots (ctxPod n) (opSlots op) u) = (((x, y, z), false), v) →
    Answers (exec i s) fun q =>
      (∀ r, localOf (q.ctx n) r = if r = w.dst then ((peaCompute w x y z c.c c.lc (localOf c w.dst).1 (localOf c (w.dst + 1)).1).val % 2 ^ 32, false) else localOf c r) ∧
      (q.ctx n).slot = c.slot + opSlots op ∧ (q.ctx n).next = t + u.slotTicks (ctxPod n) * opSlots op ∧
      (q.ctx n).c = c.c ∧ (q.ctx n).live = c.live ∧ (∀ m, m ≠ n → q.ctx m = u.ctx m) ∧ q.mem = u.mem

/-- The same operations with DST 16 send their result to the addressed X element at the tick of effect (R51, R53, R57, R59, R60, R62). -/
def Obligations.PeaResultReachesElement : Prop :=
  ∀ (a b k : Fin 4) (i : Instr) (op : Nat), (i, op) ∈ peaLocal a b k → ∀ (s u v : State) (t word x y z : Nat),
    let n := ctxNo a b k
    let w := peaFields word
    let c := u.ctx n
    s.before n op t word u → w.dst = 16 →
    readOperands n c w (countSlots (ctxPod n) (opSlots op) u) = (((x, y, z), false), v) →
    Answers (exec i s) fun q =>
      (⟨t + u.slotTicks (ctxPod n) / 4 * opReady op - 1, ctxPod n, n / 4 % 4, .elem (xElem c w),
        (peaCompute w x y z c.c c.lc (localOf c w.dst).1 (localOf c (w.dst + 1)).1).val, false⟩ : PendWr) ∈ q.le.writes ∧
      (∀ r, localOf (q.ctx n) r = localOf c r) ∧ (∀ m, m ≠ n → q.ctx m = u.ctx m) ∧ q.mem = u.mem

/-- An operation with a poisoned operand writes the canonical NaN as poisoned and raises PSN (alone: the model's choice, log entry 171) (R53, R65, R73). -/
def Obligations.PoisonedOperandGivesNaN : Prop :=
  ∀ (a b k : Fin 4) (i : Instr) (op : Nat), (i, op) ∈ peaLocal a b k → ∀ (s u v : State) (t word x y z : Nat),
    let n := ctxNo a b k
    let w := peaFields word
    let c := u.ctx n
    s.before n op t word u → w.dst < 16 →
    readOperands n c w (countSlots (ctxPod n) (opSlots op) u) = (((x, y, z), true), v) →
    Answers (exec i s) fun q =>
      localOf (q.ctx n) w.dst = (0x7FC00000, true) ∧
      (⟨t + u.slotTicks (ctxPod n) / 4 * opReady op - 1, ctxPod n, n / 4 % 4, .flags n, flPSN, false⟩ : PendWr) ∈ q.le.writes

/-- MINX, MAXX and SINCOS write both registers of the pair Ld, Ld+1 (R60, R61, R62, R70). That the fixed-point evaluation of SINCOS decides every rounding is not proved (log entry 32); the pair it gives is what is written. -/
def Obligations.SearchAndSineWriteAPair : Prop :=
  ∀ (a b k : Fin 4) (i : Instr) (op : Nat), (i, op) ∈ peaPair a b k → ∀ (s u v : State) (t word x y z : Nat),
    let n := ctxNo a b k
    let w := peaFields word
    let c := u.ctx n
    s.before n op t word u →
    readOperands n c w (countSlots (ctxPod n) (opSlots op) u) = (((x, y, z), false), v) →
    Answers (exec i s) fun q => ∀ r, localOf (q.ctx n) r =
      if r = w.dst + 1 then ((peaCompute w x y z c.c c.lc (localOf c w.dst).1 (localOf c (w.dst + 1)).1).val2 % 2 ^ 32, false)
      else if r = w.dst then ((peaCompute w x y z c.c c.lc (localOf c w.dst).1 (localOf c (w.dst + 1)).1).val % 2 ^ 32, false) else localOf c r

/-- CLT, CLE and CEQ write C and nothing else of the context's values (R64, R60). -/
def Obligations.ComparesWriteC : Prop :=
  ∀ (a b k : Fin 4) (i : Instr) (op : Nat), (i, op) ∈ peaCompare a b k → ∀ (s u v : State) (t word x y z : Nat),
    let n := ctxNo a b k
    let w := peaFields word
    let c := u.ctx n
    s.before n op t word u →
    readOperands n c w (countSlots (ctxPod n) (opSlots op) u) = (((x, y, z), false), v) →
    Answers (exec i s) fun q => (q.ctx n).c = (peaCompute w x y z c.c c.lc (localOf c w.dst).1 (localOf c (w.dst + 1)).1).c ∧ (q.ctx n).cPsn = false ∧
      ∀ r, localOf (q.ctx n) r = localOf c r

/-- NOP, LOOP, OUT, END, an illegal word, the slot bound and an EVX0640 word have their effect on the context (R60, R63, R71, R74, R75, R78, R92, R101). What an EVX0640 word computes is opaque (log entry 6), and that END or LOOP in a body is illegal when it is reached is the model's reading (entry 34). -/
def Obligations.ControlWordsOfAPea : Prop :=
  ∀ (a b k : Fin 4) (s u : State) (t word : Nat),
    let n := ctxNo a b k
    let w := peaFields word
    let c := u.ctx n
    let due := t + u.slotTicks (ctxPod n) / 4 * 8 - 1
    (s.before n 0x00 t word u → c.loop.n = 0 → Answers (exec (.nop a b k) s) fun q =>
      (q.ctx n).pc = (c.pc + 1) % 2 ^ 15 ∧ (q.ctx n).slot = c.slot + 1 ∧ ∀ r, localOf (q.ctx n) r = localOf c r) ∧
    (s.before n 0x18 t word u → c.loop.n = 0 → Answers (exec (.opLoop a b k) s) fun q =>
      (q.ctx n).lc = 0 ∧ (q.ctx n).loop.start = (c.pc + 1) % 2 ^ 15 ∧ (q.ctx n).pc = (c.pc + 1) % 2 ^ 15 ∧
      (q.ctx n).loop.n = w.dst % 16 + 1 ∧ (q.ctx n).loop.m = w.zfield + 1 ∧ (q.ctx n).loop.pos = 0) ∧
    (∀ x v, s.before n 0x19 t word u → readX (ctxPod n) c w (countSlots (ctxPod n) 1 u) = ((x, false), v) →
      Answers (exec (.opOut a b k) s) fun q =>
        (⟨due, ctxPod n, n / 4 % 4, .net ((c.desc.ob + effOff w.yoff w.ystr c.lc 10) % 131072) c.desc.axis c.cyc
          c.desc.ob (w.np && !c.gen), x, false⟩ : PendWr) ∈ q.le.writes ∧ q.mem = u.mem) ∧
    (s.before n 0x3F t word u → Answers (exec (.opEnd a b k) s) fun q =>
      (q.ctx n).live = false ∧ ∀ m, m ≠ n → q.ctx m = u.ctx m) ∧
    (s.canIssue n = true → s.atBound n = false → s.nextIllegal n = true →
      Answers (exec (.illegalWord a b k) s) fun q => (q.ctx n).live = false ∧ (q.ctx n).flags.testBit 7 = true) ∧
    (s.canIssue n = true → s.atBound n = true →
      Answers (exec (.slotBound a b k) s) fun q => (q.ctx n).live = false) ∧
    (∀ f, s.canIssue n = true → s.nativeCtx n = false → s.atBound n = false → s.nextIllegal n = false →
      toSlot n s = ((t, word), u) → f = Config.evxForm word u.free →
      finMissing c (f.slots1.val + 1) (match f.dst with | .out _ fin => fin | _ => false) = false →
      Answers (exec (.evx0640Instruction a b k) s) fun q =>
        let accs := f.accs.map fun r => localOf c r.val
        let v := (Config.evxResult word 0 0 (accs.map (·.1)) (u.free + 1)).1.toNat
        (f.dst = .illegal → (q.ctx n).live = false ∧ (q.ctx n).flags.testBit 7 = true) ∧
        (f.dst = .graphEnd → (q.ctx n).live = false) ∧
        (f.dst ≠ .illegal → f.dst ≠ .graphEnd → (q.ctx n).slot = c.slot + f.slots1.val + 1 ∧ (q.ctx n).live = c.live ∧
          (∀ m, m ≠ n → q.ctx m = u.ctx m)) ∧
        (f.x = none → f.y = none → accs.any (·.2) = false →
          (∀ r, f.dst = .acc r → localOf (q.ctx n) r.val = (v, false)) ∧
          (∀ d, f.dst = .data d → (⟨t + 8 * (f.slots1.val + 1) - 1, ctxPod n, n / 4 % 4,
            .elem ((c.desc.xb + d.toNat) % 131072), v, false⟩ : PendWr) ∈ q.le.writes)))

/-- CVTQF then CVTFQ gives back every integer below 2^24 in magnitude (R61, R67, R69). -/
def Obligations.ConversionRoundTrip : Prop :=
  ∀ (v : Int) (sat : Bool), v.natAbs < 2 ^ 24 →
    fpToFixed 0 32 false sat (fixedToFp 0 32 false (ofSigned 32 v)).1 = (ofSigned 32 v, 0)

/-- IADD and ISUB wrap modulo 2^32 without SAT, and with SAT clamp to the signed range and raise ST exactly when they do (R66, R60). -/
def Obligations.IntegerOpsWrapOrSaturate : Prop :=
  ∀ (sub : Bool) (x z : Nat), x < 2 ^ 32 → z < 2 ^ 32 →
    intOp sub false x z = (if sub then (x + 2 ^ 32 - z) % 2 ^ 32 else (x + z) % 2 ^ 32, 0) ∧
    (let v := if sub then toSigned 32 x - toSigned 32 z else toSigned 32 x + toSigned 32 z
     toSigned 32 (intOp sub true x z).1 = max (-(2 ^ 31)) (min (2 ^ 31 - 1) v) ∧
     ((intOp sub true x z).2 = flST ↔ v < -(2 ^ 31) ∨ 2 ^ 31 ≤ v))

/-- Registration, CYCLE releases, dispatch, the deadline and a pod's sleep and wake have their effect on the pod (R84, R85, R86, R87, R88, R89, R90, R92, R100, R101, R102, R451). With a late release OVR, not DUP, is the model's choice once its cycle is closed (log entry 174). -/
def Obligations.SchedulerCommands : Prop :=
  ∀ (p : Fin 4) (s : State), s.schedOn p = true →
    (∀ r rs u cyc, (s.pod p).carry = r :: rs → u = advanceTo (stageTick (s.pod p) r.at_) s →
      cyc = (if r.src = 4 then r.cyc else u.cyc) →
      let d := u.descOf cyc p r.idx
      let dup := (u.pod p).seen.contains (r.idx, r.src, cyc)
      let late := (u.pod p).closed.contains cyc
      let good := u.descGood cyc p r.idx r.src
      Answers (exec (.releaseRegistration p) s) fun t => (t.pod p).carry = rs ∧
        (late = true → (t.pod p).queue = (u.pod p).queue ∧ t.rb (Reg.DS_ERR p) 1 = true) ∧
        (late = false → dup = true → (t.pod p).queue = (u.pod p).queue ∧ t.rb (Reg.DS_ERR p) 5 = true) ∧
        (dup = false → late = false → good = false → (t.pod p).queue = (u.pod p).queue ∧ t.rb (Reg.DS_ERR p) 4 = true) ∧
        (dup = false → late = false → good = true → 64 ≤ (u.pod p).queue.length →
          (t.pod p).queue = (u.pod p).queue ∧ t.rb (Reg.DS_ERR p) 2 = true) ∧
        (dup = false → late = false → good = true → (u.pod p).queue.length < 64 →
          (t.pod p).queue = (u.pod p).queue ++
            [mkEntry (u.compat p) { r with cyc := cyc } d (stageTick (s.pod p) r.at_)])) ∧
    (∀ (x : Fin 256) off k, s.running = true →
      (s.pod p).mtch.find? (fun m => m.1 = x.val && m.2.1 = 5) = some (x.val, 5, off) → s.offsetTick off = some k →
      (advanceTo k s).podOpen (advanceTo k s).cyc p = true →
      Answers (exec (.cycleRelease p x) s) fun t => ∃ r ∈ (t.pod p).carry, r.idx = x.val ∧ r.src = 5 ∧
        r.cyc = (advanceTo k s).cyc ∧ r.at_ = max s.time.tick k) ∧
    (∀ f t u e first n, (s.pod p).asleep = false → firstElig (s.pod p).queue = some f →
      s.dispatchTick p (match (s.pod p).lastDisp with
        | some l => max (max f s.time.tick) (l + 1)
        | none => max f s.time.tick) 16 = some t →
      u = advanceTo t s → bestEntry (u.admissible p t [] (u.pod p).queue) = some e →
      bestCtx (u.suitable p e t) = some (first, n) → Answers (exec (.dispatch p) s) fun q =>
        (q.pod p).queue = (u.pod p).queue.erase e ∧ (q.ctx n).live = true ∧ (q.ctx n).idx = e.idx ∧
        (q.ctx n).next = first ∧ (q.ctx n).cyc = e.cyc ∧ (q.pod p).lastDisp = some t) ∧
    (∀ (back : Fin 3) u, s.deadlineNear p back = true → (s.pod p).closed.contains (s.cyc - back) = false →
      u = advanceNs (if s.running then min (s.deadlineNsAt p back) (s.time.nextNs - 1) else s.deadlineNsAt p back) s →
      let sig := kvGet (fun _ => 0xFFFFFFFF) (u.pod p).crc (s.cyc - back) ^^^ 0xFFFFFFFF
      let ref := (u.actAt (s.cyc - back) (Reg.DS_SIG_REF p)).toNat
      Answers (exec (.deadline p back) s) fun t => (t.pod p).closed.contains (s.cyc - back) = true ∧
        (∀ e ∈ (t.pod p).queue, e.cyc ≠ s.cyc - back) ∧
        (∀ n ∈ podCtxs p, (t.ctx n).live = true → (t.ctx n).cyc ≠ s.cyc - back) ∧
        t.reg (Reg.DS_SIG p) = BitVec.ofNat 32 sig ∧ (ref ≠ 0 → ref ≠ sig → t.rb (Reg.DS_ERR p) 6 = true)) ∧
    (s.ab (Reg.PCR_PODSLP p) 31 = true → (s.pod p).asleep = false → (s.pod p).queue = [] →
      (∀ n ∈ podCtxs p, (s.ctx n).live = false) → Answers (exec (.podSleep p) s) fun t =>
        (t.pod p).asleep = true ∧ (t.pod p).waking = none ∧ t.rb (Reg.LE_POD_STAT p) 9 = true) ∧
    (∀ k, (s.pod p).asleep = true → (s.pod p).waking = none → s.wakeTick p = some k →
      Answers (exec (.podWake p) s) fun t => ∀ u, u = advanceTo k s →
        t.pod p = { u.pod p with waking := some (max s.time.tick k + 64) }) ∧
    ((s.pod p).asleep = true → (s.pod p).waking.isSome = true → Answers (exec (.podWakeComplete p) s) fun t =>
      (t.pod p).asleep = false ∧ (t.pod p).waking = none ∧ t.rb (Reg.LE_POD_STAT p) 9 = false)

/-- The entry that dispatch takes ranks before every other admissible entry, by PRIO, registration tick, source order and index (R90). -/
def Obligations.DispatchOrder : Prop :=
  ∀ es : List QEnt, (bestEntry es = none ↔ es = []) ∧
    ∀ e, bestEntry es = some e → e ∈ es ∧ ∀ f ∈ es, rankBefore f e = false

/-- AX_ACK, PG_TAPP and PG_TAPP with SKIP have their effect while PD_CPU is on (R31, R129, R157, R159). -/
def Obligations.AxisAndGeneratorWrites : Prop :=
  ∀ (n : Fin 256) (count : Fin 32768) (s : State), s.cpuOn = true → s.domOn 1 = true →
    let wp := s.rf (Reg.PG_TPTR n) 30 16
    let rp := s.rf (Reg.PG_TPTR n) 14 0
    let mark := s.rf (Reg.PG_TACT n) 30 16
    let pend := s.rb (Reg.PG_STAT n) 19
    let nlen := (s.pgAx n).nlen
    let tend := if mark ≠ 0 then mark else s.rf (Reg.PG_TACT n) 14 0
    let used := pgOccupied wp rp tend + count
    let noSkip := pend = false ∨ wp = 0 ∨ mark ≠ 0
    Answers (exec (.axAck n) s) (fun t => t.ax n = { s.ax n with ack := true } ∧ (∀ x, marrowReg x = false → t.reg x = s.reg x) ∧
      ∀ m, m ≠ n.val → t.ax m = s.ax m) ∧
    (count.val ≠ 0 → used < tend → (pend = true → pgBeyond wp count tend nlen = false) →
      Answers (exec (.pgTapp n count) s) fun t => t.rf (Reg.PG_TPTR n) 14 0 = rp ∧
        t.rf (Reg.PG_TPTR n) 30 16 = if tend ≤ wp + count then wp + count - tend else wp + count) ∧
    ((count.val = 0 ∨ tend ≤ used) ∨ (pend = true ∧ pgBeyond wp count tend nlen = true) →
      Answers (exec (.pgTapp n count) s) fun t => t.reg (Reg.PG_TPTR n) = s.reg (Reg.PG_TPTR n) ∧
        (count.val = 0 ∨ tend ≤ used → t.rb (Reg.PG_STAT n) 15 = true) ∧
        (pend = true → pgBeyond wp count tend nlen = true → t.rb (Reg.PG_STAT n) 14 = true)) ∧
    (¬ noSkip → count.val ≠ 0 → pgBeyond 0 count wp nlen = false → used < wp →
      Answers (exec (.pgTappSkip n count) s) fun t => t.rf (Reg.PG_TPTR n) 30 16 = count ∧
        t.rf (Reg.PG_TPTR n) 14 0 = rp ∧ t.rf (Reg.PG_TACT n) 30 16 = wp) ∧
    (noSkip ∨ count.val = 0 ∨ pgBeyond 0 count wp nlen = true ∨ wp ≤ used →
      Answers (exec (.pgTappSkip n count) s) fun t => t.reg (Reg.PG_TPTR n) = s.reg (Reg.PG_TPTR n) ∧
        t.reg (Reg.PG_TACT n) = s.reg (Reg.PG_TACT n) ∧
        (noSkip ∨ pgBeyond 0 count wp nlen = true → t.rb (Reg.PG_STAT n) 14 = true) ∧
        (count.val = 0 → t.rb (Reg.PG_STAT n) 15 = true) ∧
        (noSkip → tend ≤ used → t.rb (Reg.PG_STAT n) 15 = true) ∧
        (¬ noSkip → wp ≤ used → t.rb (Reg.PG_STAT n) 15 = true))

/-- Edges, index marks, comparator changes, free conversions, loss of signal and SSI clock edges act on an enabled local channel of their mode (R169, R174, R175, R176, R177, R178, R180, R181, R182, R183). The places of the lines and that INV acts in quadrature and magnetic modes alone are the model's reading and choice (log entries 55, 228), as are the filter's run for each line (entry 197) and the POS that a reference mark latches (entry 56). -/
def Obligations.LocalChannelEvents : Prop :=
  ∀ (c : Fin 8) (s : State), s.live 1 = true → s.chEn c = true →
    let v := s.chan c
    let inv := s.ab (Reg.FB_CH_CTL c) 5
    let held (x : BitVec 3) (i n : Nat) : List Bool := List.replicate n (x.getLsbD i)
    let stat (t : State) : Nat := if v.smp.due = true ∧ v.smp.sclk = s.sclk then (t.chan c).smp.stat else (t.chan c).stat
    (∀ (x : BitVec 3) m, v.raw = v.lines → v.lines < 8 → v.sampled + m ≤ s.sclk + 1 → m < s.filt c → s.chMode c = 0 →
      Answers (exec (.quadratureEdge c (held x 2 m) (held x 1 m) (held x 0 m)) s) fun t => (t.chan c).lines = v.lines ∧
        (t.chan c).count = v.count) ∧
    (∀ x : BitVec 3, v.raw = v.lines → v.lines < 8 → v.sampled + s.filt c ≤ s.sclk + 1 → x.toNat ≠ v.lines →
      let n := s.filt c
      let d := (quadPlace (x.getLsbD 2) (x.getLsbD 1) + 4 - quadPlace (v.lines.testBit 2) (v.lines.testBit 1)) % 4
      let count := if d = 1 then countStep v.count (!inv) else if d = 3 then countStep v.count inv else v.count
      (s.chMode c = 0 → Answers (exec (.quadratureEdge c (held x 2 n) (held x 1 n) (held x 0 n)) s) fun t => (t.chan c).lines = x.toNat ∧
        (t.chan c).count = count ∧ (d = 2 → (stat t).testBit 2 = true) ∧ (∀ k, k ≠ c.val → t.chan k = s.chan k) ∧
        t.mem = s.mem) ∧
      (s.chMode c = 0 ∨ s.chMode c = 1 → x.getLsbD 0 = true → v.lines % 2 = 0 →
        Answers (exec (.indexLatch ⟨c, held x 2 n, held x 1 n, held x 0 n⟩) s) fun t => (stat t).testBit 10 = true ∧
          (t.chan c).zpos = (if s.chMode c = 1 then v.pos else count) ∧
          (t.chan c).count = if s.chMode c = 1 then v.count else count) ∧
      (s.chMode c = 2 → Answers (exec (.magneticSwitchEdge c (held x 2 n) (held x 1 n) (held x 0 n)) s) fun t =>
        let e := (hallPlace x.toNat + 6 - hallPlace v.hall) % 6
        (x.toNat = 0 ∨ x.toNat = 7 → (t.chan c).count = v.count ∧ (stat t).testBit 4 = true) ∧
        (x.toNat ≠ 0 → x.toNat ≠ 7 → v.hall ≠ 0 → (t.chan c).hall = x.toNat ∧ (t.chan c).count =
          if e = 1 then countStep v.count (!inv) else if e = 5 then countStep v.count inv else v.count))) ∧
    (∀ q : Fin 4, s.chMode c = 1 → Answers (exec (.quarterCount c q) s) fun t =>
      let d := (q.val + 4 - v.cmp) % 4
      (t.chan c).cmp = q ∧ (t.chan c).q = (if d = 1 then v.q + 1 else if d = 3 then v.q - 1 else v.q)) ∧
    (∀ (rs rc : BitVec 14) x y u, s.chMode c = 1 → correctPair c rs.toInt rc.toInt s = ((x, y), u) →
      Answers (exec (.freeConversion c rs rc) s) fun t =>
        (t.chan c).stat = if ampBad c x y u then v.stat ||| 1 else v.stat) ∧
    (s.chMode c ≤ 3 → Answers (exec (.losEdge c) s) fun t =>
      (t.chan c).stat.testBit 3 = true ∧ (t.chan c).count = v.count) ∧
    (∀ data delay, s.loopOn = true → s.chMode c = 3 → v.edge % 2 = 1 → v.edge < 2 * s.ssiLen c →
      Answers (exec (.ssiClockEdge c data delay) s) fun t =>
        let k := v.edge0 + v.edge * s.ssiHalf c
        (t.chan c).edge = v.edge + 1 ∧ (t.chan c).rise = some k ∧
        (t.chan c).data = lineTakes k data (delay.map (·.val)) v.data ∧
        (delay.isSome = true ∨ v.data = [] → (t.chan c).data = (k + (delay.map (·.val)).getD 0, data) :: v.data))

/-- The sample record of a local channel of any mode holds the sample, FB_CH_POS shows it, and a counting channel's POS is the count latched at the sampling instant (R170, R171, R172, R175, R178, R188). INIT in the record of the first good SSI frame and the phase of a channel's first transfer are the model's choice (log entries 214, 179). -/
def Obligations.LocalRecordIsWritten : Prop :=
  ∀ (c : Fin 8) (rs rc : BitVec 14) (s : State), s.loopOn = true → s.live 1 = true → s.chEn c = true →
    s.chMode c ≤ 4 → s.chanReady c = true → ∀ u w pos st md aux,
    u = (let v := advanceTo (s.time.startTick + s.chDone c) s; if s.chMode c ≤ 2 then catchUp c v.sclk v else v) →
    chanSample c rs.toInt rc.toInt u = ((pos, st, md, aux), w) →
    (s.chMode c = 0 ∨ s.chMode c = 2 → pos = (u.chan c).smp.count) ∧ (s.chMode c = 4 → pos = 0) ∧
    Answers (exec (.localRecordComplete c rs rc) s) fun t =>
      s.time.startTick + s.chDone c ≤ t.time.tick ∧
      t.reg (Reg.FB_CH_POS c) = BitVec.ofNat 32 pos ∧ (t.chan c).smp.due = false ∧ (t.chan c).pos = pos ∧
      (t.chan c).fbinv = decide (st % 1024 ≠ 0) ∧ (t.chan c).recCyc = some w.cyc ∧
      ∃ rst, t.mem = (writeNet (s.af (Reg.FB_CH_REC c) 16 0) [if st % 1024 ≠ 0 then 0 else 0x3F800000, rst,
        256 + b2n (decide (st % 1024 ≠ 0)) * 1024, pos, st, md, (w.chan c).smp.zpos, aux, 0, 0] w).mem

/-- The output phase comes at its instant and takes its records; a step and an emulated edge count by one; a pulse ends (R23, R160, R161, R162, R163, R189, R190, R191, R226). How steps and edges are carried into a cycle is the model's reading (log entries 54, 59). -/
def Obligations.StepAndEmulationOutputs : Prop :=
  ∀ s : State, s.loopOn = true → s.domOn 1 = true →
    (s.running = true →
      let u := advanceNs (s.cycStart + s.af Reg.SLT_OPH 15 0 * (125 * 2 ^ 29)) s
      Answers (exec .outputPhase s) fun t => s.cycStart + s.af Reg.SLT_OPH 15 0 * (125 * 2 ^ 29) ≤ t.time.ns ∧
        (∀ p n, p < 8 → s.stepAxis p = some n → u.cmdReady n u.cyc u.time.tick = false →
          (t.step p).left = 0 ∧ (t.step p).carried = stepCarry (s.step p)) ∧
        ∀ e, e < 2 → (s.ab (Reg.FB_EMU_CTL e) 0 = false → t.emu e = {}) ∧
          (∀ x, s.ab (Reg.FB_EMU_CTL e) 0 = true → (s.emu e).src = none → u.emuSource e = some x →
            (t.emu e).src = some x)) ∧
    (∀ p : Fin 8, (s.step p).carried ≠ [] ∨ (s.step p).left ≠ 0 → Answers (exec (.stepIssue p) s) fun t =>
      let d := match (s.step p).carried with | (d, _) :: _ => d | [] => (s.step p).neg
      (t.step p).left = (if (s.step p).carried = [] then (s.step p).left - 1 else (s.step p).left) ∧
      (t.step p).spos = (if d then ((s.step p).spos + 2 ^ 32 - 1) % 2 ^ 32 else ((s.step p).spos + 1) % 2 ^ 32) ∧
      (s.stepOn p = true → t.stepOut p = !(s.ab (Reg.FB_STEP_CFG p) 21)) ∧
      (∀ k, k ≠ p.val → t.step k = s.step k)) ∧
    (∀ (p : Fin 8) e, (s.step p).pulseEnd = some e → Answers (exec (.stepPulseEnd p) s) fun t =>
      (t.step p).pulseEnd = none ∧ e ≤ t.time.tick ∧ t.stepOut p = s.ab (Reg.FB_STEP_CFG p) 21) ∧
    (∀ e : Fin 2, s.ab (Reg.FB_EMU_CTL e) 0 = true → (s.emu e).carried ≠ [] ∨ (s.emu e).left ≠ 0 →
      Answers (exec (.emulationEdge e) s) fun t =>
        let d := match (s.emu e).carried with | (d, _) :: _ => d | [] => (s.emu e).neg
        (t.emu e).left = (if (s.emu e).carried = [] then (s.emu e).left - 1 else (s.emu e).left) ∧
        (t.emu e).count = if d then (s.emu e).count - 1 else (s.emu e).count + 1)

/-- A whole word written to a register without an action is stored field by field as the access codes say; its active copy waits for a commit (R8, R9, R29, R30, R31, R32, R33, R43). What hardware has done to a register in the same sysclk is kept as log entry 200 says. -/
def Obligations.RegisterWritesFollowAccessCodes : Prop :=
  ∀ (addr w : Word) (be : BitVec 4) (s : State), s.cpuOn = true → inWindows addr.toNat = true →
    let a := addr.toNat
    (∀ r i, be = 15 → a % 4 = 0 → s.domOn (blkDom (blkOf a)) = true → regRow a = some (r, i) →
      actWrite (blkOf a) r.off i w = none → Ends (exec (.registerWrite addr be w) s) fun t =>
        (∀ f ∈ r.flds, (f.acc = .rw → ∀ b, f.lo ≤ b → b ≤ f.hi →
            bit (t.reg a) b = if bit (s.noted a).upd b then bit (s.reg a) b else bit w b) ∧
          (f.acc = .ro ∨ f.acc = .rc → fld (t.reg a) f.hi f.lo = fld (s.reg a) f.hi f.lo) ∧
          (f.acc = .w1c → ∀ b, f.lo ≤ b → b ≤ f.hi →
            bit (t.reg a) b = (bit (s.reg a) b && !(bit w b && !(bit (s.noted a).ev b)))) ∧
          (f.acc = .w1s → ∀ b, f.lo ≤ b → b ≤ f.hi → bit (t.reg a) b = (bit (s.reg a) b || bit w b)) ∧
          (∀ g, fldGroup f i = some g → t.rb (Reg.CMT_DIRTY (blkOf a)) g = true)) ∧
        t.actv = s.actv ∧ t.mem = s.mem ∧ t.SameRegs s [a, Reg.CMT_DIRTY (blkOf a)]) ∧
    (regRow a = none ∨ s.domOn (blkDom (blkOf a)) = false ∨ a % 4 ≠ 0 ∨ be ≠ 15 → s.evl.queue.length < 32 →
      Ends (exec (.registerWrite addr be w) s) fun t => t.regs = s.regs ∧ t.actv = s.actv ∧
        ∃ e ∈ t.evl.queue, e.code = evCode (blkOf a) 31 1 ∧ e.arg0 = a ∧ e.arg1 = 1)

/-- A read returns the readable fields in the addressed bytes and clears the RC fields (R8, R9, R10). What hardware has done to a register in the same sysclk is kept as log entry 200 says. -/
def Obligations.RegisterReadsClearRcFields : Prop :=
  ∀ (addr : Word) (be : BitVec 4) (s : State) r i, s.cpuOn = true → inWindows addr.toNat = true →
    let a := addr.toNat / 4 * 4
    s.domOn (blkDom (blkOf a)) = true → regRow a = some (r, i) → a ≠ Reg.HIF_DBQ → a ≠ Reg.SYN_TIME_LO →
    let u := freshReg (blkOf a) (offOf a) s
    let n := u.noted a
    let rc := rowMask (fun f => decide (f.acc = .rc)) r.flds
    u.freeReg (blkOf a) (offOf a) = none → u.derivedReg (blkOf a) (offOf a) = none →
    Ends (exec (.rcFieldRead addr be) s) fun t =>
      t.outs = s.outs ++ [.value ((((u.reg a &&& readMask r) &&& ~~~(rc &&& n.upd)) ||| (n.was &&& (rc &&& n.upd)))
        &&& laneMask be.toNat).toNat] ∧
      t.reg a = (u.reg a &&& ~~~rc) ||| (n.ev &&& rc) ∧ t.SameRegs u [a] ∧ t.mem = s.mem ∧
      (a % 0x10000 < 0x400 → u = s)

/-- A processor store writes the enabled bytes of a memory and nothing else of it; an access that aborts is logged, and one by an ordinary task enters STAGE 4 (R8, R27, R28, R55, R309, R384, R390, R391, R398, R420). That an access is one aligned word with lanes, and takes the next slot of owner 3 in capture memory, is the model's reading (log entries 23, 189); the arguments of an abort's event are free (entry 22). -/
def Obligations.ProcessorStoresAndAborts : Prop :=
  ∀ (addr w : Word) (be : BitVec 4) (s : State), s.cpuOn = true →
    let b := addr.toNat / 4 * 4
    (∀ m u, m ≠ 8 → s.dest b = .mem m → (m = 7 → procSlot s = some u) → (m ≠ 7 → s.peaHit b = false ∧ u = s) →
      Answers (exec (.processorStore addr be w) s) fun t =>
      (∀ i, i < 4 → be.getLsbD i = true → t.byteAt (b + i) = BitVec.ofNat 8 (w.toNat >>> (8 * i))) ∧
      (∀ x, x / 8 ≠ b / 8 → t.byteAt x = u.byteAt x ∧ t.chkAt x = u.chkAt x) ∧
      ((u.decodeAt b).out = .clean → ∀ x, x / 8 = b / 8 → (∀ i, i < 4 → be.getLsbD i = true → x ≠ b + i) →
        t.byteAt x = u.byteAt x) ∧
      (u.mem.wf = true → t.mem.wf = true)) ∧
    (∀ m, m ≠ 7 → m ≠ 8 → s.dest b = .mem m → s.peaHit b = true →
      Answers (exec (.processorStore addr be w) s) fun t => t.SameMem s) ∧
    (∀ kind ordinary u, s.aborts kind b = true → (kind = .load → s.dest b = .mem 7 → procSlot s = some u) →
      (kind ≠ .load ∨ s.dest b ≠ .mem 7 → u = s) → (u.decodeAt b).ok = (s.decodeAt b).ok → u.evl.queue.length < 30 →
      Answers (exec (.processorAbort addr kind ordinary) s) fun t =>
        (∃ e ∈ t.evl.queue, e.code = evCode 0x1D (b2n (decide (kind = .fetch))) 0 ∧ e.cls = clsFault) ∧
        (ordinary = true → s.domOn 7 = true → s.stage = 2 ∨ s.stage = 3 → fld t.hif.hstate 3 0 = 4 ∧ t.hif.hnote.testBit 1 = true))

/-- What the cutoff, the application while cycles stop, and a cycle start do, and in which order (R35, R36, R39, R41, R253, R272, R305). What a step of NS in FOLLOW does to the cycle's copies is the model's reading (log entries 84, 167). -/
def Obligations.CommitCommandsInOrder : Prop :=
  ∀ s : State, s.sysOn = true →
    (s.domOn 6 = true → s.running = true → s.cmt.cut ≠ some s.cyc → s.time.ns ≤ s.time.nextNs - 1000 * 2 ^ 32 →
      let v := netCutoff (advanceNs (s.time.nextNs - 1000 * 2 ^ 32) s)
      let u := mcCutoff { v with cmt := { v.cmt with cut := some v.cyc, ended := none } }
      Ends (exec .commitCutoff s) fun t => t.cmt.cut = some v.cyc ∧ t.actv = u.actv ∧
        (∀ e ∈ t.cmt.asked, ∀ q ∈ e.2, t.rf (Reg.CMT_REQ q.1) 31 0 &&& q.2 ≠ 0) ∧
        ∀ k g, k < 17 → g < 32 →
          if u.rb (Reg.CMT_REQ k) g = true ∧ bit (u.noted (Reg.CMT_REQ k)).ev g = false ∧ (k, g) ∉ v.heldHere u then
            t.rb (Reg.CMT_REQ k) g = false ∧ t.rb (Reg.CMT_DIRTY k) g = false ∧
            ∃ x ∈ t.staged, x.blk = k ∧ x.grp = g ∧ x.vals = stageVals k g u
          else t.rb (Reg.CMT_REQ k) g = u.rb (Reg.CMT_REQ k) g) ∧
    (s.running = false → Ends (exec .commitApplyIdle s) fun t => t.cmt.asked = [] ∧ t = applyIdle s ∧
      ∀ e ∈ s.cmt.asked, ∀ q ∈ e.2, ∀ g, q.1 < 17 → g < 32 → q.2.testBit g = true → s.domOn (blkDom q.1) = true →
        s.rb (Reg.CMT_REQ q.1) g = true →
        t.rb (Reg.CMT_REQ q.1) g = false ∧
        (t.rb (Reg.CMT_DONE q.1) g = true ∨ t.rb (Reg.CMT_REFUSED q.1) g = true)) ∧
    (s.loopOn = true → s.running = true → s.clen ≠ 0 →
      let w := advanceNs s.time.nextNs (keepMisses s)
      let u := followLocked (markStart w)
      let v := newCycleFlags (pairCycle s.cyc (followLock (synEvaluate s.cyc u.cyc u)))
      exec .cycleStart s = .next (settle (if v.slt.stop then stopNet v
        else if v.syn.stepped && !u.syn.stepped then
          { v with prev := v.actv, time := { v.time with starts := v.time.starts.drop 1 } } else blocksCycleStart (applyCycle v))) ∧
      (s.slt.stop = true → Answers (exec .cycleStart s) fun t => t.csState = 0 ∧ t.staged = []) ∧
      (s.slt.stop = false → s.csState ≠ 6 → Answers (exec .cycleStart s) fun t =>
        s.time.nextNs ≤ t.time.ns ∧ t.time.startTick = w.tickUp ∧ t.time.nextNs = w.nextStart ∧ t.staged = [] ∧
        t.prev = s.actv ∧ (∀ p, p < 4 → kvGet (fun _ => 0) t.le.issued p =
          ((podCtxs p).map fun n => t.slotsFrom n t.time.startTick).foldl (· + ·) 0) ∧
        ∀ x : Staged, s.staged = [x] → x.bad = none → (x.vals.map (·.1)).Nodup → s.cas.mc = none →
          (∀ a y m, (a, y, m) ∈ x.vals → t.act a = (s.act a &&& ~~~m) ||| (y &&& m)) ∧
          (∀ a, a ∉ x.vals.map (·.1) → t.act a = s.act a)))

/-- A request sets bits of CMT_REQ only; a group becomes active in all its members at once; a refused group leaves every active copy (R32, R35, R36, R37, R41, R43, R512). That requests of one sysclk are kept together while no cycles run is the model's reading (log entry 25). -/
def Obligations.GroupsApplyWholeOrNotAtAll : Prop :=
  ∀ s : State,
    (∀ (blk : Fin 17) (w : Word), s.cpuOn = true → s.domOn (blkDom blk) = true →
      Ends (exec (.cmtReq blk w) s) fun t =>
        t.reg (Reg.CMT_REQ blk) = s.reg (Reg.CMT_REQ blk) ||| BitVec.ofNat 32 (w.toNat &&& definedGroups blk) ∧
        t.SameRegs s [Reg.CMT_REQ blk] ∧ t.actv = s.actv ∧ t.mem = s.mem ∧
        t.cmt.asked = askGroups s.askClk [(blk.val, w.toNat)] (keepAsked s).cmt.asked ∧
        ∃ e ∈ t.cmt.asked, e.1 = some s.sclk ∧ (blk.val, w.toNat) ∈ e.2) ∧
    ∀ x : Staged, x.blk < 17 → x.grp < 32 → (x.vals.map (·.1)).Nodup →
      (∀ a v m, (a, v, m) ∈ x.vals → (applyGroup x s).act a = (s.act a &&& ~~~m) ||| (v &&& m)) ∧
      (∀ a, a ∉ x.vals.map (·.1) → (applyGroup x s).act a = s.act a) ∧
      (applyGroup x s).rb (Reg.CMT_DONE x.blk) x.grp = true ∧
      ∀ bad first, (refuseGroup x bad first s).actv = s.actv ∧
        (s.domOn (blkDom x.blk) = true → (refuseGroup x bad first s).rb (Reg.CMT_REFUSED x.blk) x.grp = true ∧
          (refuseGroup x bad first s).rb (Reg.CMT_DIRTY x.blk) x.grp = true ∧
          (first = true → (refuseGroup x bad first s).reg (Reg.CMT_REASON x.blk) = BitVec.ofNat 32 (reasonWord x.grp bad))) ∧
        (s.domOn (blkDom x.blk) = false → (refuseGroup x bad first s).SameRegs s [Reg.EVL_LOST])

/-- Registers are accessed as aligned words; a narrower write is discarded and logged, a narrower read acts as a whole one; reserved fields read 0 (R8, R10). That a read is one aligned word with lanes is the model's reading (log entry 23). -/
def Obligations.WholeWordsAndReservedFields : Prop :=
  ∀ (addr w : Word) (be : BitVec 4) (s : State), s.cpuOn = true → inWindows addr.toNat = true →
    s.domOn (blkDom (blkOf addr.toNat)) = true →
    (addr.toNat % 4 ≠ 0 ∨ be ≠ 15 → s.evl.queue.length < 32 → Ends (exec (.registerWrite addr be w) s) fun t =>
      t.regs = s.regs ∧ t.actv = s.actv ∧ t.mem = s.mem ∧ t.outs = s.outs ∧
      ∃ e ∈ t.evl.queue, e.code = evCode (blkOf addr.toNat) 31 1 ∧ e.arg0 = addr.toNat ∧ e.arg1 = 1) ∧
    ∃ v u, exec (.rcFieldRead addr 15) s = .next (settle (emit (.value v) u)) ∧ v < 2 ^ 32 ∧ u.outs = s.outs ∧
      exec (.rcFieldRead addr be) s = .next (settle (emit (.value (v &&& (laneMask be.toNat).toNat)) u)) ∧
      ∀ r i, regRow (addr.toNat / 4 * 4) = some (r, i) →
        ∀ b, (∀ f ∈ r.flds, b < f.lo ∨ f.hi < b) → v.testBit b = false

/-- The guardian admits a frame into its window or reports the check that failed (R211, R213, R230, R250). Against which window a wrong frame counts is the model's reading (log entries 64, 65). -/
def Obligations.UplinkFramesAreGuarded : Prop :=
  ∀ (p : Fin 8) (sd : Nat) (f : Frame) (s : State), s.netOn = true → s.ringEn (p / 2) = true → s.portUp p = true →
    let u := portFrame p f (advanceNs (min (s.at16 sd) (s.time.nextNs - 1)) s)
    (∀ w b edge, guardFrame p sd f u = (w, .fail b edge) → b < 8 → Answers (exec (.uplinkFrame p sd f) s) fun t =>
      t.rb (Reg.NET_ERR (p / 2)) b = true ∧ t.net.got = s.net.got ∧ t.net.accepts = s.net.accepts) ∧
    (∀ w, guardFrame p sd f u = (some w, .admits) → w.n < 320 → Answers (exec (.uplinkFrame p sd f) s) fun t =>
      t.net.got = s.net.got ++ [w.n] ∧ t.rb (Reg.SLT_SST w.n) 31 = true ∧ t.rf (Reg.SLT_SST w.n) 3 0 = 0 ∧
      ∃ a, t.net.accepts = s.net.accepts ++ [a] ∧ a.n = w.n ∧ a.words = (List.range 7).map (fWord f) ∧ a.age = fAge f)

/-- An accepted frame is written to its record, a miss is counted, and relay copies become ready (R26, R106, R213, R214, R246). -/
def Obligations.AcceptedFramesReachTheBuffer : Prop :=
  ∀ (r : Fin 4) (k : Fin 80) (s : State), s.netOn = true →
    let n := 80 * r.val + k
    (∀ a, s.net.accepts.find? (fun a => a.n = n && s.inCycle a.due) = some a → a.words.length = 7 →
      Answers (exec (.frameAccept r k) s) fun t =>
      t.net.accepts = s.net.accepts.filter (fun b => b ≠ a) ∧ (a.cyc = s.cyc → n ∈ t.net.served) ∧ a.due ≤ t.time.tick ∧
      ∀ i, 1 ≤ i → i < 7 → t.rawBytes (netAddr (16 * n + 3 + i)) 4 = a.words.getD i 0 % 2 ^ 32) ∧
    (∀ cyc due, (s.net.late.find? (fun m => m.n = n) = some ⟨n, cyc, due⟩ ∨
        (s.net.late.find? (fun m => m.n = n) = none ∧ cyc = s.cyc ∧
          ∃ j, s.missDue n = some j ∧ due = s.missTick n j ∧ s.inCycle due = true)) →
      Answers (exec (.uplinkMiss r k) s) fun t => (∀ m ∈ t.net.late, m.n ≠ n) ∧ due ≤ t.time.tick ∧
        (s.net.late.find? (fun m => m.n = n) = none → n ∈ t.net.served) ∧
        (kvGet (fun _ => (0, 0)) t.slt.missed n).2 = cyc ∧
        t.rf (Reg.SLT_MCNT n) 15 0 = satAdd 16 (s.rf (Reg.SLT_MCNT n) 15 0) 1 ∧ t.net.accepts = s.net.accepts) ∧
    (∀ a, s.net.relays.find? (fun a => a.n = n && s.inCycle a.due) = some a → Answers (exec (.relayCopy r k) s) fun t =>
      let e := (advanceTo a.due s).actAt a.cyc (Reg.NET_RLY n)
      t.net.relays = s.net.relays.filter (fun b => b ≠ a) ∧
      (bit e 31 = true → kvGet (fun _ => (0, 256)) t.net.relayRdy (80 * fld e 30 29 + fld e 28 22) = (a.cyc, a.age)) ∧
      ∀ p, p < 3 → (fld e 21 19).testBit p = true →
        (t.casPort p).relays = (s.casPort p).relays ++ [⟨fld e 18 11, a.cyc % 65536, a.age, a.words⟩])

/-- A downlink leaves with the slot's payload when it is due; a returning one is taken as its echo (R110, R206, R211, R247, R298). -/
def Obligations.EchoesAndDownlinks : Prop :=
  ∀ (r : Fin 4) (k : Fin 80) (s : State), s.netOn = true →
    let n := 80 * r.val + k
    (∀ p d u pay v, s.downDue n = some (p, d) → u = advanceNs (min (s.at16 d) (s.time.nextNs - 1)) s →
      downPayload n (u.slotAxis n) { u with net := { u.net with departed := u.net.departed ++ [n] } } = (pay, v) →
      Answers (exec (.downlinkDeparture r k) s) fun t => t.net.departed = s.net.departed ++ [n] ∧
        (∀ ws age, pay = some (ws, age) → v.silenced r = false → ∃ sd, t.outs = s.outs ++
          [.frame p sd { mkFrame (headOf 2 1 k r (s.owner r) t.cyc age 0) ws with lead := u.leadSent p }]) ∧
        (pay = none → t.outs = s.outs)) ∧
    (∀ sd f e, let u := portFrame (2 * r + 1) f (advanceNs (min (s.at16 sd) (s.time.nextNs - 1)) s)
      let hit := fun (e : EchoPend) => (e.ring = r && e.slot = fSlot f && e.seq = fSeq f : Bool)
      let x := (u.cycStart / 2 ^ 28 + sd) * 5
      s.ringEn r = true → u.net.echoes.find? hit = some e → Answers (exec (.netEcho r sd f) s) fun t =>
        t.net.echoes = u.net.echoes.filter (fun y => !(hit y)) ∧
        if (fHcsOk f && fClean f && fCrcOk f && Machine.dist x e.sd ≤ u.tol80 r && x + wire80 (f.edAt - 1) ≤ e.fin : Bool) then
          t.reg (Reg.NET_ERR r) = u.reg (Reg.NET_ERR r) else t.rb (Reg.NET_ERR r) 5 = true)

/-- A probe leaves numbered, its return joins the mean of the last 16 samples, and four losses in a row make the value invalid (R215, R239, R240). -/
def Obligations.ProbesMeasureRoundTrips : Prop :=
  ∀ (p : Fin 8) (s : State), s.netOn = true →
    let r := p.val / 2
    (∀ k, s.probeDue p = some k → Answers (exec (.probeSend p) s) fun t =>
      let num := ((s.ring r).num + 1) % 65536
      (t.ring r).num = num ∧ (∃ sd, (t.ring r).pend = (s.ring r).pend ++ (if k = 0x7F ∧ s.role r = 1 then []
          else [⟨num, if k = 0x7F then 2 * r + 1 else p,
            if k = 0x7F then keyT r else if p.val % 2 = 0 then keyA r k else keyB r k, sd⟩]) ∧
        t.outs = s.outs ++ [.frame p sd { mkFrame (headOf 6 1 k r (s.owner r) t.cyc 0 0)
          (timeWords sd num ++ [0, 0]) with lead := t.leadSent p }]) ∧
      (if p.val % 2 = 0 then (t.ring r).probeA = none else (t.ring r).probeB = none)) ∧
    (∀ sd f, fType f = 6 → fHcsOk f = true → fCrcOk f = true → fClean f = true →
      let u := advanceNs (min (s.at16 sd) (s.time.nextNs - 1)) s
      let samples (key dep : Nat) : List Nat :=
        ((u.cycStart / 2 ^ 28 + sd - dep) :: kvGet (fun _ => []) s.net.samples key).take 16
      let shown (t : State) (key : Nat) (xs : List Nat) : Prop := kvGet (fun _ => []) t.net.samples key = xs ∧
        t.reg (keyReg key) = BitVec.ofNat 32 (2 ^ 31 +
          min ((2 * xs.foldl (· + ·) 0 + xs.length) / (2 * xs.length)) 0xFFFFFF)
      let key := if fSlot f = 0x7F then keyT r else if p.val % 2 = 0 then keyA r (fSlot f) else keyB r (fSlot f)
      (∀ e, (s.ring r).pend.find? (fun e => e.num = fWord f 2 / 65536 && e.port = p.val && e.key = key) = some e →
        Answers (exec (.probeReturn p sd f) s) fun t => (∀ y ∈ (t.ring r).pend, y.num ≠ e.num) ∧
          shown t e.key (samples e.key (if e.key = keyT r then fTime f / 4096 else e.dep))) ∧
      ((s.ring r).pend.find? (fun e => e.num = fWord f 2 / 65536 && e.port = p.val && e.key = key) = none → s.role r = 2 →
        p.val % 2 = 1 → fSlot f = 0x7F → fDir f = true → Answers (exec (.probeReturn p sd f) s) fun t =>
          shown t (keyT r) (samples (keyT r) (fTime f / 4096)))) ∧
    (∀ (num : Fin 65536) e, (s.ring r).pend.find? (fun e => e.num = num.val && e.port = p.val) = some e →
      (s.running = true → e.dep * 2 ^ 28 + 2 * s.clenU < s.time.nextNs) →
      Answers (exec (.probeLost p num) s) fun t =>
        (∀ y ∈ (t.ring r).pend, y.num ≠ num.val) ∧
        kvGet (fun _ => 0) t.net.lost e.key = kvGet (fun _ => 0) s.net.lost e.key + 1 ∧
        (kvGet (fun _ => 0) s.net.lost e.key = 3 →
          t.rb (keyReg e.key) 31 = false ∧ kvGet (fun _ => []) t.net.samples e.key = []))

/-- Notices, links, probe rounds and restoration show in the ring and port registers (R200, R201, R219, R222, R239). Which of SIGDET, CDRLOCK and ALIGNED fall with a loss is the model's choice (log entry 184): R201 names only the signal. What a receiver counts comes with the command, and an ordered probe round lists the integrated positions: the model's reading (entries 71, 69). -/
def Obligations.LinksNoticesAndRestoration : Prop :=
  ∀ (p : Fin 8) (s : State),
    let st := Reg.NET_RING_STAT (p / 2)
    (s.netOn = true → s.role (p / 2) = 0 → ∀ pos : Fin 80,
      (Answers (exec (.loopNotice p pos) s) fun t =>
        if p.val % 2 = 0 then t.rb st 15 = true ∧ t.rf st 14 8 = pos else t.rb st 23 = true ∧ t.rf st 22 16 = pos) ∧
      (Answers (exec (.segokNotice p pos) s) fun t => t.rb st (6 + p.val % 2) = true)) ∧
    (s.live 6 = true → (∀ eye eq clean, Answers (exec (.linkUp p eye eq clean) s) fun t =>
        if s.portUp p = true then t.reg (Reg.NET_PORT_STAT p) = s.reg (Reg.NET_PORT_STAT p)
        else t.rf (Reg.NET_PORT_STAT p) 31 24 = eye ∧ t.rb (Reg.NET_PORT_STAT p) 0 = eq.has.signal ∧
          t.rb (Reg.NET_PORT_STAT p) 1 = (eq.has.signal && eq.has.lock) ∧
          t.rb (Reg.NET_PORT_STAT p) 2 = (eq.has.signal && eq.has.lock && eq.has.align) ∧
          t.portUp p = (eq.has.signal && eq.has.lock && eq.has.align && decide (1024 ≤ clean)) ∧
          t.rf st 2 0 = t.ringState (p / 2) ∧
          let n := (s.mtick - kvGet (fun _ => 0) s.net.adapt p) * 25 / 2 ^ 18
          if s.ab (Reg.NET_PORT_CTL p) 7 = true then
            t.rf (Reg.NET_PORT_STAT p) 23 20 = s.rf (Reg.NET_PORT_STAT p) 23 20 ∧
            t.rb (Reg.NET_PORT_STAT p) 4 = s.rb (Reg.NET_PORT_STAT p) 4
          else if s.rb (Reg.NET_PORT_STAT p) 1 = true then
            t.rf (Reg.NET_PORT_STAT p) 23 20 ≤ s.rf (Reg.NET_PORT_STAT p) 23 20 + n ∧
            s.rf (Reg.NET_PORT_STAT p) 23 20 ≤ t.rf (Reg.NET_PORT_STAT p) 23 20 + n
          else t.rf (Reg.NET_PORT_STAT p) 23 20 = eq.ctle ∧ t.rb (Reg.NET_PORT_STAT p) 4 = eq.dfesat) ∧
      (∀ rx, Answers (exec (.linkLoss p rx) s) fun t =>
        t.rf (Reg.NET_PORT_CNT p) 15 0 = satAdd 16 (s.rf (Reg.NET_PORT_CNT p) 15 0) rx.cv ∧
        if 64 ≤ rx.absent ∨ 256 ≤ rx.silent ∨ 4 ≤ (List.range 16).countP (fun i => rx.bad.getLsbD i) ∨
            (4 ≤ rx.rfault ∧ s.portUsed p = true) then
          t.portUp p = false ∧ (64 ≤ rx.absent → t.rf (Reg.NET_PORT_STAT p) 3 0 = 0) ∧
          (rx.absent < 64 → rx.silent < 256 → t.rf (Reg.NET_PORT_STAT p) 2 0 = s.rf (Reg.NET_PORT_STAT p) 2 0) ∧
          t.rf st 2 0 = t.ringState (p / 2) ∧ t.rf (Reg.NET_PORT_CNT p) 31 16 =
            if s.portUp p then satAdd 16 (s.rf (Reg.NET_PORT_CNT p) 31 16) 1 else s.rf (Reg.NET_PORT_CNT p) 31 16
        else t.reg (Reg.NET_PORT_STAT p) = s.reg (Reg.NET_PORT_STAT p) ∧
          t.rf (Reg.NET_PORT_CNT p) 31 16 = s.rf (Reg.NET_PORT_CNT p) 31 16)) ∧
    ∀ r : Fin 4, s.domOn 6 = true →
      (s.cpuOn = true → (s.ring r).ins = [] → (s.ring r).insRun = false → Answers (exec (.netProbe r) s) fun t =>
        t.ring r = { s.ring r with ins := s.integrated r } ∧ ∀ q, q ≠ r.val → t.ring q = s.ring q) ∧
      (s.rf (Reg.NET_RING_STAT r) 7 6 ≠ 0 ∨ s.rb (Reg.NET_RING_STAT r) 15 = true ∨ s.rb (Reg.NET_RING_STAT r) 23 = true →
        (s.cpuOn = true → Answers (exec (.netRestore r) s) fun t => (t.ring r).restore = true) ∧
        (s.netOn = true → s.ab (Reg.NET_RING_CTL r) 3 = true → 1024 ≤ (s.ring r).segCnt → (s.ring r).unloop = [] →
          Answers (exec (.autoRestore r) s) fun t => (t.ring r).restore = true))

/-- A beacon and a SYNC frame leave at the instants that SLT_BCN and SYN_SS give, with the cycle number and the time (R206, R217, R234, R236, R257, R258, R259). To which symbol boundary an instant is moved is the model's reading and choice (log entries 67, 219). -/
def Obligations.BeaconsAndSyncFramesLeave : Prop :=
  ∀ s : State, s.netOn = true →
    (∀ r : Fin 4, s.beaconing = true → s.ringEn r = true → s.role r ≠ 2 → s.ab (Reg.SLT_BCN r) 31 = true →
      let inst := s.af (Reg.SLT_BCN r) 23 0
      let u := advanceNs (min (s.at16 inst) (s.time.nextNs - 1)) s
      Answers (exec (.beaconSend r) s) fun t => t.time = u.time ∧
        t.outs = s.outs ++ [.frame (2 * r) (sendSd (2 * r) inst u).1
          { mkFrame (headOf 4 1 0x70 r (s.owner r) t.cyc 0 0)
            (t.beaconWords (t.beaconAnswer r) (t.beaconRef r (t.beaconAnswer r).1)) with lead := t.leadSent (2 * r) }] ∧
        (s.csState = 3 → s.slt.window = none → t.slt.window = some u.time.ns)) ∧
    ∀ p : Fin 8, s.syncDue p = true →
      let inst := s.af (Reg.SYN_SS (8 * (p / 2) + p % 2)) 23 0
      let u := advanceNs (min (s.at16 inst) (s.time.nextNs - 1)) s
      let sd := (sendSd p inst u).1
      Answers (exec (.syncSend p) s) fun t => t.time = u.time ∧ ∃ f, t.outs = s.outs ++ [.frame p sd f] ∧ fType f = 3 ∧ fDir f = true ∧ fSeq f = t.cyc % 65536 ∧
        fTime f = sd * 4096 % 2 ^ 80 ∧ fHcsOk f = true ∧ fCrcOk f = true

/-- START, STOP, beacons and the ends of the start-up phases lead from state to state (R229, R231, R232, R233, R234, R235, R247, R272). The instants at which COLD is entered and left, and what BKOFF shows, are the model's reading (log entries 73, 74). -/
def Obligations.StartUpStates : Prop :=
  ∀ s : State, s.sysOn = true → s.domOn 6 = true →
    (s.cpuOn = true → Answers (exec .csStart s) fun t => (s.csState = 0 → t.csState = 1 ∧ t.slt.since = s.time.ns ∧ t.slt.stop = false) ∧
      (s.csState ≠ 0 → t.csState = s.csState ∧ t.slt = s.slt)) ∧
    (∀ b, s.cpuOn = true → (s.running = true → Answers (exec (.csStop b) s) fun t =>
        t.slt.stop = true ∧ t.csState = s.csState) ∧
      (s.running = false → Answers (exec (.csStop b) s) fun t => t.staged = [] ∧ t.cas.mc = none ∧
        t.csState = if s.csState = 0 ∧ b = true then 1 else 0)) ∧
    (s.loopOn = true → s.csState = 1 → s.ab Reg.SLT_CFG 4 = true → s.clen ≠ 0 →
      let u := advanceNs (s.slt.since + 2 * s.clenU) s
      let v := if u.time.ns % u.clenU = 0 then u else advanceNs u.nextStart u
      Answers (exec .listenTimeout s) fun t => t.csState = 3 ∧ s.slt.since + 2 * s.clenU ≤ t.time.ns ∧
        t.rb Reg.SYN_STAT 0 = true ∧ t.slt.cold0 = v.cyc ∧ t.slt.window = none ∧ t.staged = [] ∧
        t.time.startTick = v.tickUp ∧ t.time.nextNs = v.nextStart) ∧
    (∀ u, s.loopOn = true → s.windowEnds = some u → Answers (exec .coldstartWindowEnd s) fun t =>
      u ≤ t.time.ns ∧ t.staged = [] ∧ (s.slt.stop = true → t.csState = 0) ∧
      (s.slt.stop = false → t.csState = 2 ∧ t.rf Reg.SLT_CS_STAT 23 16 = 3 * (s.ownId + 1) ∧
        t.slt.since = t.time.ns ∧ t.slt.window = none ∧ t.slt.collided = false)) ∧
    (s.csState = 2 → Answers (exec .backoffEnd s) fun t => t.csState = 1 ∧ t.rf Reg.SLT_CS_STAT 23 16 = 0 ∧
      s.slt.since + 3 * (s.ownId + 1) * s.clenU ≤ t.time.ns ∧ t.slt.since = t.time.ns) ∧
    (s.csState = 3 → s.slt.collided = false → s.slt.cold0 + 8 ≤ s.cyc → Answers (exec .coldEnd s) fun t =>
      t.csState = 4 ∧ ∀ r, r < 4 → t.ringEn r = true → (t.ring r).probeA.isSome = true) ∧
    (s.csState = 4 → s.slt.cold0 + 170 ≤ s.cyc → Answers (exec .integEnd s) fun t =>
      t.csState = 5 ∧ t.net.lastSent = [] ∧ t.slt = s.slt) ∧
    (∀ (p : Fin 3) sd f, s.casOn = true → s.memDone 5 = true → s.casUp p = true → fType f = 4 →
      let u := casArrive p sd f s
      u.casBad p f = false →
      let same := fWord f 1 / 65536 + fWord f 2 % 65536 * 65536 = (s.act Reg.SLT_IMG).toNat ∧
        fByte f 12 % 16 = s.af Reg.SLT_CFG 3 0
      (same → s.csState = 1 ∨ s.csState = 2 → Answers (exec (.beaconReceive p sd f) s) fun t =>
        t.csState = 6 ∧ t.syn.followPort = p ∧ t.syn.stepped = false) ∧
      (same → s.csState = 3 → u.inWindow = true → s.slt.collided = false → Answers (exec (.beaconReceive p sd f) s) fun t =>
        t.slt.collided = true ∧ t.rf Reg.SLT_CS_STAT 15 8 = satAdd 8 (s.rf Reg.SLT_CS_STAT 15 8) 1) ∧
      (¬same → s.csState = 1 → Answers (exec (.beaconReceive p sd f) s) fun t =>
        t.csState = 7 ∧ t.rb Reg.SYN_STAT 0 = false ∧ t.rb Reg.SLT_CS_STAT 3 = true))

/-- GRANT, REFUSE, RELEASE, the automatic release and the end of a mute (R243, R244, R245, R250). -/
def Obligations.ClaimsReleasesAndMutes : Prop :=
  ∀ (r : Fin 4) (s : State), s.sysOn = true → s.domOn 6 = true →
    (∀ k : Fin 128, s.cpuOn = true → (s.rb (Reg.SLT_CLAIM r) 31 = true →
        (Answers (exec (.claimGrant r k) s) fun t => t.claim r = { s.claim r with fw := some (some k.val) }) ∧
        (Answers (exec (.claimRefuse r) s) fun t => t.claim r = { s.claim r with fw := some none })) ∧
      (s.rb (Reg.SLT_CLAIM r) 31 = false → (Answers (exec (.claimGrant r k) s) fun t => t.slt = s.slt) ∧
        (Answers (exec (.claimRefuse r) s) fun t => t.slt = s.slt)) ∧
      (k.val < 80 → s.rb (Reg.SLT_SST (80 * r + k)) 29 = true → 80 * r.val + k ∉ s.slt.release →
        Answers (exec (.claimRelease r k) s) fun t => t.slt = { s.slt with release := s.slt.release ++ [80 * r.val + k] })) ∧
    (∀ k : Fin 80, s.rb (Reg.SLT_SST (80 * r + k)) 29 = true → 80 * r.val + k ∉ s.slt.release →
      s.af Reg.SLT_GUARD 31 16 ≠ 0 →
      s.af Reg.SLT_GUARD 31 16 * 256 ≤ s.missRun (80 * r + k) →
      Answers (exec (.spareAutoRelease r k) s) fun t =>
        t.slt = { s.slt with release := s.slt.release ++ [80 * r.val + k] }) ∧
    (∀ n : Fin 324, s.rb (Reg.SLT_SST n) 30 = true → s.rf (Reg.SLT_SST n) 15 8 = 0 → Answers (exec (.muteEnd n) s) fun t =>
      t.rb (Reg.SLT_SST n) 30 = false ∧ t.rf (Reg.SLT_SST n) 3 0 = 0 ∧
      t.rf (Reg.SLT_SST n) 31 31 = s.rf (Reg.SLT_SST n) 31 31 ∧
      ∀ a, marrowReg a = false → a ≠ Reg.SLT_SST n → t.reg a = s.reg a)

/-- TSET, the time read, the correction and the loss of lock in FOLLOW act on the time base (R252, R254, R255, R269, R270, R271, R272, R274). That the words latched by a read stand between reads is the model's reading (log entry 85), and what is left of an earlier spread its choice (entry 185). -/
def Obligations.TimeBaseCommands : Prop :=
  ∀ s : State, s.sysOn = true →
    (s.cpuOn = true → Answers (exec .tset s) fun t =>
      if s.running then t.rb Reg.SYN_ERR 4 = true ∧ t.time = s.time
      else t.time.ns = ((s.reg Reg.SYN_TSET_LO).toNat + (s.reg Reg.SYN_TSET_HI).toNat * 2 ^ 32) * 2 ^ 32 ∧
        t.time.tick = s.time.tick) ∧
    (s.cpuOn = true → Answers (exec .timeRead s) fun t => t.time = s.time ∧
      (t.reg Reg.SYN_TIME_LO).toNat = s.nsNow % 2 ^ 32 ∧ (t.reg Reg.SYN_TIME_HI).toNat = s.nsNow / 2 ^ 32 ∧
      (t.reg Reg.SYN_TIME_FR).toNat = s.time.ns / 2 ^ 16 % 2 ^ 16 ∧
      (t.reg Reg.SYN_CYC_LO).toNat + 2 ^ 32 * (t.reg Reg.SYN_CYC_HI).toNat = s.cyc) ∧
    (s.loopOn = true → s.running = true → s.syn.pendC.isSome ∨ s.syn.pendRate.isSome →
      Answers (exec .correctionApply s) fun t =>
        s.cycStart + 1000 * 2 ^ 32 ≤ t.time.ns ∧ t.syn.pendC = none ∧ t.syn.pendRate = none ∧
        t.syn.rate = s.syn.pendRate.getD s.syn.rate ∧ t.syn.rate0 = s.syn.rate ∧
        (let n : Int := (s.clen - 1000 : Nat)
         let c := s.syn.pendC.getD 0 * 65536
         t.syn.oc = c.tdiv n ∧ t.syn.ocRem = c - c.tdiv n * n ∧ t.syn.fin = t.syn.beg + (s.clen - 1000)) ∧
        t.reg Reg.SYN_RATE = BitVec.ofNat 32 (ofSigned 32 t.syn.rate)) ∧
    (s.csState = 6 → (s.syn.stepped = true → s.syn.lockCnt < 8) → s.rb Reg.SYN_STAT 3 = false → 1024 ≤ s.syn.followCnt →
      Answers (exec .followLockTimeout s) fun t => t.rb Reg.SYN_STAT 3 = true ∧ t.rb Reg.SYN_ERR 0 = true ∧
        t.csState = 6)

/-- A cascade record is discarded and counted, or acts as its TYPE says (R264, R265, R282, R284, R285, R290, R291, R295, R301, R303, R306). When a port joins, which records act before it has, and what a NAK does at once are the model's reading (log entries 86, 88, 91). -/
def Obligations.CascadeRecordsAreTaken : Prop :=
  ∀ (p : Fin 3) (sd : Nat) (f : Frame) (s : State), s.casOn = true → s.memDone 5 = true → s.casUp p = true →
    let u := casArrive p sd f s
    let v := u.casPort p
    (fType f = 2 → exec (.cascadeRecord p sd f) s = exec (.linkRecord p sd f) s) ∧
    (fType f = 3 → exec (.cascadeRecord p sd f) s = exec (.cascadeSync p sd f) s) ∧
    (fType f = 4 → exec (.cascadeRecord p sd f) s = exec (.beaconReceive p sd f) s) ∧
    (fType f = 7 → exec (.cascadeRecord p sd f) s = exec (.modeRecord p sd f) s) ∧
    (fType f = 8 → exec (.cascadeRecord p sd f) s = exec (.mirrorRecord p sd f) s) ∧
    (fType f = 9 → exec (.cascadeRecord p sd f) s = exec (.pairRecord p sd f) s) ∧
    (u.casBad p f = true → Answers (exec (.cascadeRecord p sd f) s) fun t => t.cas = u.cas ∧ t.csState = s.csState ∧
      t.rf (Reg.CAS_PORT_CNT p) 11 0 = satAdd 12 (s.rf (Reg.CAS_PORT_CNT p) 11 0) 1) ∧
    (u.casBad p f = false →
      (fType f = 1 → Answers (exec (.cascadeRecord p sd f) s) fun t => ∃ a, (t.casPort p).accepts = v.accepts ++ [a] ∧
        a.n = fRidx f ∧ a.words = (List.range 7).map (fWord f) ∧ a.age = fAge f) ∧
      (fType f = 2 → u.joined p = false → u.linkGood p f = true → Answers (exec (.linkRecord p sd f) s) fun t =>
        if v.good = 0 then (t.casPort p).good = 1 ∧ t.joined p = false
        else t.joined p = true ∧ t.peer p = fRing f ∧ (t.casPort p).known = []) ∧
      (fType f = 2 → u.joined p = false → u.linkGood p f = false → Answers (exec (.linkRecord p sd f) s) fun t =>
        (t.casPort p).good = 0 ∧ t.joined p = false ∧ t.rb Reg.CAS_ERR 1 = true ∧ t.rb (Reg.CAS_PORT_STAT p) 5 = true) ∧
      (fType f = 3 → Answers (exec (.cascadeSync p sd f) s) fun t =>
        (t.casPort p).locked = (fByte f 18).testBit 1 ∧ (t.casPort p).slost = (fByte f 18).testBit 3 ∧
        kvGet (fun _ => []) t.syn.arrived p =
          (s.cycOf (s.cycStart / 2 ^ 16 + sd * 4096), s.cycStart / 2 ^ 16 + sd * 4096) :: (kvGet (fun _ => []) u.syn.arrived p).take 1) ∧
      (fType f = 7 → u.cas.mc = none → Answers (exec (.modeRecord p sd f) s) fun t =>
        kvGet (fun _ => (0, 0, 0, 0)) t.cas.votes (u.peer p) =
          (fByte f 9 % 8, u.cyc, fWord f 0 % 65536, fWord f 0 / 65536 + fWord f 1 * 65536) ∧
        (fWord f 2 / 65536 ≠ u.rf Reg.CAS_MC_ACT 15 0 → t.cas.modex = true ∧ t.rb Reg.CAS_ERR 3 = true)) ∧
      (fType f = 7 → u.cas.mc.isSome = true → fByte f 9 % 8 = 2 ∨ fByte f 9 % 8 = 4 →
        Answers (exec (.modeRecord p sd f) s) fun t => t.cas.mc = none ∧ t.rf Reg.CAS_MC_STAT 2 0 = 4 ∧
          t.rf Reg.CAS_MC_STAT 11 8 = (if fByte f 9 % 8 = 2 then 4 else 6) ∧ t.rf Reg.CAS_MC_STAT 5 4 = u.peer p) ∧
      (fType f = 8 → exec (.mirrorRecord p sd f) s = .next (settle (mirrorRecord p f u))) ∧
      (∀ i, i < 8 → fType f = 8 → u.paired = true → u.ab Reg.CAS_CFG 8 = false → u.peer p = u.partner → fByte f 0 = 2 ^ i →
        let a := 8 * (fRidx f % 32) + i
        let vs := (List.range 6).map fun e => fWord f (1 + 6 * i + e)
        let healthy := u.rb Reg.CAS_PHEALTH 0 && u.rb Reg.CAS_PHEALTH 1 && u.graphsEnded a &&
          decide (u.time.ns + 1000 * 2 ^ 32 < u.time.nextNs)
        u.mirEn a = true → ∀ as ok w, mirAddrs a u = ((as, ok), w) → Answers (exec (.mirrorRecord p sd f) s) fun t =>
          if (healthy && ok) = true then a ∈ t.cas.mirroring ∧
            t.mem = (forAll (as.zip vs) (fun e x => put32 e.1 e.2 false x) u).mem
          else t.mem = u.mem ∧ t.cas.mirroring = u.cas.mirroring ∧
            t.rf Reg.CAS_MIRCNT 31 16 = satAdd 16 (u.rf Reg.CAS_MIRCNT 31 16) 1) ∧
      (fType f = 9 → u.paired = true → u.peer p = u.partner → Answers (exec (.pairRecord p sd f) s) fun t =>
        t.reg Reg.CAS_PHEALTH = BitVec.ofNat 32 (fWord f 0) ∧ t.rf Reg.CAS_PSTAT 15 8 = 0 ∧ t.cas.gap = 0 ∧ t.cas.heard = true ∧
        t.cas.psig = some (fWord f 9, (List.range 4).map fun i => fWord f (1 + i)) ∧
        (fWord f 0 % 1024 ≠ 1023 → t.rb Reg.CAS_ERR 6 = true)))

/-- Relay records are accepted and missed, a standby applies mirrored state only in health, and a port sends its highest-ranked record (R26, R279, R283, R285, R286, R303). When each record is ready to be sent is the model's reading (log entries 67, 159). -/
def Obligations.RelaysMirrorsAndSending : Prop :=
  ∀ (p : Fin 3) (s : State), s.casOn = true →
    (∀ (idx : Fin 256) a, s.netOn = true → (s.casPort p).accepts.find? (fun a => a.n = idx.val && s.inCycle a.due) = some a →
      a.words.length = 7 → Answers (exec (.relayAccept p idx) s) fun t =>
        (t.casPort p).accepts = (s.casPort p).accepts.filter (fun b => b ≠ a) ∧
        (a.cyc = s.cyc → idx.val ∈ (t.casPort p).now) ∧ idx.val ∈ (t.casPort p).known ∧ a.due ≤ t.time.tick ∧
        ∀ i, 1 ≤ i → i < 7 → t.rawBytes (netAddr (((advanceTo a.due s).relayWord a.cyc p idx + 3 + i) % 131072)) 4 = a.words.getD i 0 % 2 ^ 32) ∧
    (s.netOn = true → s.csState = 5 → s.af (Reg.CAS_RXDL p) 23 0 ≠ 0 → (s.casPort p).missCyc ≠ some s.cyc →
      (s.casPort p).late = none → s.inCycle (s.relayMissTick p) = true →
      Answers (exec (.relayMiss p) s) fun t =>
        (t.casPort p).missCyc = some (advanceTo (s.relayMissTick p) s).cyc ∧
        t.rf (Reg.CAS_PORT_CNT p) 23 12 = min (s.rf (Reg.CAS_PORT_CNT p) 23 12 +
          ((s.casPort p).known.filter (fun i => !((s.casPort p).now.contains i))).length) 4095) ∧
    (∀ m is, s.netOn = true → (s.casPort p).late = some (m, is) → Answers (exec (.relayMiss p) s) fun t =>
      (t.casPort p).late = none ∧ m.due ≤ t.time.tick ∧
        t.rf (Reg.CAS_PORT_CNT p) 23 12 = min (s.rf (Reg.CAS_PORT_CNT p) 23 12 + is.length) 4095) ∧
    (∀ a clean vs, (s.rb Reg.CAS_PHEALTH 0 && s.rb Reg.CAS_PHEALTH 1 && s.graphsEnded a &&
        decide (s.time.ns + 1000 * 2 ^ 32 < s.time.nextNs)) = false →
      (mirrorApply p a clean vs s).mem = s.mem ∧
      (mirrorApply p a clean vs s).rf Reg.CAS_MIRCNT 31 16 = satAdd 16 (s.rf Reg.CAS_MIRCNT 31 16) 1) ∧
    (∀ e k, s.memDone 5 = true → s.casUp p = true → earliest (s.casReady p) = some e →
      let l := s.pairStart p (s.at16 e)
      let start := s.nsOfTb l
      let sd := s.nsOfTb (l + 256) / 2 ^ 28 + s.freeBits 16 % 9 - 4
      (s.running = true → start < s.time.nextNs) →
      let u := useFree (advanceNs start s)
      let r := casForm p k sd u
      let f := { r.1 with lead := r.2.leadOf p }
      readyAt ((start - u.cycStart) / 2 ^ 28) (s.casReady p) = some k →
      Answers (exec (.cascadeRecordSend p) s) fun t => t.outs = s.outs ++ [.record p sd f] ∧
        (t.casPort p).busy = l + (16 + 4 * f.words.length) * 128)

/-- Cascade links come and go, a change is announced, and CANCEL or MABORT abandons a pending one (R201, R275, R279, R281, R282, R287, R288, R291, R292, R306). Which of SIGDET, CDRLOCK and ALIGNED fall with a loss is the model's choice (log entry 184): R201 names only the signal. What a receiver counts comes with the command, and what MABORT abandons is the model's reading (entries 71, 87, 88). -/
def Obligations.CascadeLinksAndModeChanges : Prop :=
  ∀ (p : Fin 3) (s : State), s.live 6 = true →
    (∀ rx : CasUp, Answers (exec (.cascadeLinkUp p rx) s) fun t => t.joined p = s.joined p ∧
      if s.rb (Reg.CAS_PORT_STAT p) 3 = true then t.reg (Reg.CAS_PORT_STAT p) = s.reg (Reg.CAS_PORT_STAT p)
      else t.rb (Reg.CAS_PORT_STAT p) 0 = rx.has.signal ∧ t.rb (Reg.CAS_PORT_STAT p) 1 = (rx.has.signal && rx.has.lock) ∧
        t.rb (Reg.CAS_PORT_STAT p) 2 = (rx.has.signal && rx.has.lock && rx.has.align) ∧
        t.rb (Reg.CAS_PORT_STAT p) 3 = (rx.has.signal && rx.has.lock && rx.has.align && decide (1024 ≤ rx.clean)) ∧
        t.rf (Reg.CAS_PORT_STAT p) 31 24 = rx.eye) ∧
    (∀ rx : RxFail, Answers (exec (.cascadeLinkLoss ⟨p, rx⟩) s) fun t =>
      let was := s.rb (Reg.CAS_PORT_STAT p) 3
      if 64 ≤ rx.absent ∨ 256 ≤ rx.silent ∨ 4 ≤ (List.range 16).countP (fun i => rx.bad.getLsbD i) ∨ 4 ≤ rx.rfault then
        t.rb (Reg.CAS_PORT_STAT p) 3 = false ∧ (64 ≤ rx.absent → t.rf (Reg.CAS_PORT_STAT p) 3 0 = 0) ∧
        (rx.absent < 64 → rx.silent < 256 → t.rf (Reg.CAS_PORT_STAT p) 2 0 = s.rf (Reg.CAS_PORT_STAT p) 2 0) ∧
        (was = true → t.joined p = false ∧ t.rb Reg.CAS_ERR 0 = true) ∧
        t.rf (Reg.CAS_PORT_CNT p) 31 24 = satAdd 8 (s.rf (Reg.CAS_PORT_CNT p) 31 24) (b2n was)
      else t.reg (Reg.CAS_PORT_STAT p) = s.reg (Reg.CAS_PORT_STAT p) ∧
        t.reg (Reg.CAS_PORT_CNT p) = s.reg (Reg.CAS_PORT_CNT p)) ∧
    (s.cpuOn = true → s.casOn = true → s.ab Reg.CAS_CFG 4 = true →
      (s.running = true → Answers (exec .mcAnnounce s) fun t => t.cas = { s.cas with annReq := some s.cyc }) ∧
      (s.running = false → Answers (exec .mcAnnounce s) fun t => t.cas = { s.cas with annReq := none } ∧
        some (t.rf Reg.CAS_MC_STAT 11 8, t.rf Reg.CAS_MC_STAT 5 4) = s.announceCause)) ∧
    (s.casOn = true → s.cas.mc.isSome = true → (∀ h ∈ s.cas.held, h.blk < 17 ∧ h.grp < 32) →
      (s.cpuOn = true → Answers (exec .mcCancel s) fun t => t.cas.mc = none ∧ t.cas.held = [] ∧ t.cas.votes = [] ∧
        t.rf Reg.CAS_MC_STAT 2 0 = 4 ∧ t.rf Reg.CAS_MC_STAT 11 8 = 8 ∧ t.rb Reg.CAS_ERR 2 = true ∧ t.actv = s.actv ∧
        ∀ h ∈ s.cas.held, h.blk ≠ 10 → h.blk ≠ 11 → s.domOn (blkDom h.blk) = true → t.rb (Reg.CMT_DIRTY h.blk) h.grp = true) ∧
      (s.joined p = true → Answers (exec (.mabort p) s) fun t => t.cas.mc = none ∧ t.cas.held = [] ∧
        t.rf Reg.CAS_MC_STAT 2 0 = 4 ∧ t.rf Reg.CAS_MC_STAT 11 8 = 6 ∧ t.rf Reg.CAS_MC_STAT 5 4 = s.peer p ∧
        t.actv = s.actv)) ∧
    (s.casOn = true → s.paired = true → (s.portTo s.partner).isSome = true → 8 ≤ s.cas.gap →
      Answers (exec .pairTimeout s) fun t => t.rb Reg.CAS_ERR 6 = true ∧ t.cas = s.cas)

/-- Capture instant, evaluation, records and drain follow one another; arming and stopping wait for the cycle start (R309, R310, R312, R314, R317, R320, R322, R323, R324, R325, R329). That HOLD goes on to the branches in the same evaluation, and that a refused status line counts as lost, is the model's reading (log entries 93, 97). -/
def Obligations.CaptureCycle : Prop :=
  ∀ s : State, s.acqOn = true →
    (s.running = true → s.ab Reg.ACQ_CFG 31 = true → s.acq.capCyc ≠ some s.cyc → Answers (exec .captureInstant s) fun t =>
      let v := advanceNs (s.cycStart + s.af Reg.ACQ_CFG 23 0 * 2 ^ 28) s
      let u := advanceTo v.tickUp v
      t.acq.capCyc = some u.cyc ∧ t.acq.evalAt = some (u.time.tick + 256) ∧ t.acq.recAt = none ∧ t.acq.cmp.length = 8 ∧
      t.acq.fifo = s.acq.fifo ∧ u.time.tick ≤ t.time.tick) ∧
    (∀ k, s.acq.evalAt = some k → Answers (exec .sproutEvaluate s) fun t =>
      t.acq.evalAt = none ∧ t.acq.recAt = some (k + 8) ∧ t.acq.edges = [] ∧ t.acq.xedge = none ∧
      t.acq.cmpPrev = s.acq.cmp ∧ t.acq.fifo = s.acq.fifo ∧
      (s.acq.xedge.isSome = true → s.phase = 1 ∨ s.phase = 2 → t.phase = 3) ∧ (s.phase = 0 → t.phase = 0)) ∧
    (∀ k, s.acq.evalAt = some k → s.acq.xedge = none →
      let u := advanceTo k s
      let w := tickTimer 1 (tickTimer 0 u)
      let st := s.act (Reg.ACQ_SQ_ST (s.rf Reg.ACQ_SQ_STAT 2 0))
      let holds (br : Nat) : Bool := w.condTrue (bitsOf br 4 0) != br.testBit 5
      let count (br i : Nat) : Nat := if br.testBit 14 then 0 else w.rf Reg.ACQ_SQ_CVAL (16 * i + 15) (16 * i)
      let taken (br : Nat) (t : State) : Prop := t.rf Reg.ACQ_SQ_STAT 2 0 = bitsOf br 8 6 ∧
        t.phase = (if br.testBit 9 then 3 else 2) ∧
        (br.testBit 9 = true → t.reg Reg.ACQ_TRG_CYC_LO = BitVec.ofNat 32 u.cyc ∧ t.rb Reg.ACQ_TRG_CYC_HI 31 = true ∧
          t.rf Reg.ACQ_TRG_CYC_HI 21 16 = bitsOf br 4 0) ∧
        ∀ i, i < 2 → t.rf Reg.ACQ_SQ_CVAL (16 * i + 15) (16 * i) =
            (if br.testBit (10 + i) then satAdd 16 (count br i) 1 else count br i) ∧
          t.rf Reg.ACQ_SQ_TVAL (16 * i + 15) (16 * i) = (if br.testBit (12 + i) then w.af Reg.ACQ_SQ_TLIM (16 * i + 15) (16 * i)
            else w.rf Reg.ACQ_SQ_TVAL (16 * i + 15) (16 * i))
      (s.phase = 2 ∨ (s.phase = 1 ∧ u.preDone = true) → Answers (exec .sproutEvaluate s) fun t =>
        if holds (fld st 15 0) = true then taken (fld st 15 0) t
        else if holds (fld st 31 16) = true then taken (fld st 31 16) t
        else t.rf Reg.ACQ_SQ_STAT 2 0 = s.rf Reg.ACQ_SQ_STAT 2 0 ∧ t.phase = 2 ∧
          t.reg Reg.ACQ_SQ_CVAL = s.reg Reg.ACQ_SQ_CVAL ∧ t.reg Reg.ACQ_SQ_TVAL = w.reg Reg.ACQ_SQ_TVAL) ∧
      (s.phase = 1 → u.preDone = false → Answers (exec .sproutEvaluate s) fun t =>
        t.reg Reg.ACQ_SQ_STAT = s.reg Reg.ACQ_SQ_STAT ∧ t.reg Reg.ACQ_SQ_CVAL = s.reg Reg.ACQ_SQ_CVAL ∧
        t.reg Reg.ACQ_SQ_TVAL = s.reg Reg.ACQ_SQ_TVAL)) ∧
    (∀ k, s.acq.recAt = some k → Answers (exec .recordStore s) fun t => t.acq.recAt = none ∧
      (s.memDone 7 = false → t.acq.fifo = s.acq.fifo) ∧
      ∀ a, a < 4 → let u := advanceTo k s
        s.memDone 7 = true → (∀ b, b < 4 → b ≠ a → s.areaMode b = 0) → s.areaMode a = 1 → s.astate a = 2 →
        u.cyc % 2 ^ s.af (Reg.ACQ_AREA_CTL a) 15 12 = 0 → s.acq.fifo.length + (recordLines a (s.wp a) u).length < 32 →
          (∃ l, t.acq.fifo = s.acq.fifo ++ recordLines a (s.wp a) u ++ [l] ∧ l.1 = s.af (Reg.ACQ_AREA_GEO a) 15 0) ∧
          (t.area a).cnt = (s.area a).cnt + 1 ∧ t.wp a = if s.alen a ≤ s.wp a + 1 then 0 else s.wp a + 1) ∧
    (∀ a i wp mark, a < 4 → wp < 2 ^ 16 →
      (s.acq.fifo.length + (recordLines a i s).length < 32 → ∃ l, (storeRecord a i wp mark s).acq.fifo =
          s.acq.fifo ++ recordLines a i s ++ [l] ∧ l.1 = s.af (Reg.ACQ_AREA_GEO a) 15 0 ∧
          (storeRecord a i wp mark s).wp a = wp ∧ ((storeRecord a i wp mark s).area a).cnt = (s.area a).cnt + 1) ∧
      (s.acq.fifo.length + (recordLines a i s).length = 32 →
          (storeRecord a i wp mark s).acq.fifo = s.acq.fifo ++ recordLines a i s ∧ (storeRecord a i wp mark s).wp a = wp ∧
          ((storeRecord a i wp mark s).area a).cnt = (s.area a).cnt + 1 ∧
          ((storeRecord a i wp mark s).area a).gap = true ∧ (storeRecord a i wp mark s).rb Reg.ACQ_ERR 1 = true) ∧
      (32 < s.acq.fifo.length + (recordLines a i s).length → (storeRecord a i wp mark s).acq.fifo = s.acq.fifo ∧
          ((storeRecord a i wp mark s).area a).gap = true ∧ (storeRecord a i wp mark s).rb Reg.ACQ_ERR 1 = true)) ∧
    (∀ line ws rest k, s.acq.fifo = (line, ws) :: rest → s.nextSlot 1 s.acq.slotW = some k →
      Answers (exec .fifoDrain s) fun t => t.acq.fifo = rest ∧ t.acq.slotW = k ∧
        (∀ i, i < 16 → t.rawBytes (memBase 7 + 64 * (line % 65536) + 4 * i) 4 = ws.getD i 0 % 2 ^ 32) ∧
        ∀ x, x < memBase 7 + 64 * (line % 65536) ∨ memBase 7 + 64 * (line % 65536) + 64 ≤ x →
          t.byteAt x = (advanceTo (4 * k) s).byteAt x) ∧
    (s.cpuOn = true → (Answers (exec .acqArm s) fun t => t.acq = { s.acq with arm := true }) ∧
      (Answers (exec .acqStop s) fun t => t.acq = { s.acq with stop := true }))

/-- Edges at the trigger pins and the cascade line are stamped within 1 ns, and the unit drives the line for 800 ticks (R327, R328, R329). The stamp is free within 1 ns (log entry 3), and who drives the cascade line is the model's reading (entry 96). -/
def Obligations.EdgesAndTriggerOutput : Prop :=
  ∀ (s : State) (ofs : Nat), s.acqOn = true →
    let e := min (s.cycStart + ofs * 2 ^ 28) (s.time.nextNs - 1) / 2 ^ 28
    (s.running = true → s.ab Reg.ACQ_CFG 31 = true →
      (∀ (k : Fin 2) (rising : Bool), Answers (exec (.triggerEdge ⟨k, rising⟩ ofs) s) fun t =>
        if rising = s.ab Reg.ACQ_TIN_CFG k then t.acq = s.acq
        else match kvGet (fun _ => none) s.acq.edges k with
          | none => ∃ x, kvGet (fun _ => none) t.acq.edges k = some x ∧ x ≤ e + 16 ∧ e ≤ x + 16
          | some _ => t.acq.edges = s.acq.edges ∧ t.rb Reg.ACQ_ERR 4 = true) ∧
      (s.ab Reg.ACQ_TIN_CFG 3 = true → Answers (exec (.xtrigEdge ofs) s) fun t =>
        (s.phase = 0 → t.rb Reg.ACQ_ERR 3 = true ∧ t.acq = s.acq) ∧
        (s.phase = 1 ∨ s.phase = 2 → s.acq.xDrive = none → s.acq.xedge = none →
          ∃ x, t.acq = { s.acq with xedge := some x } ∧ x ≤ e + 16 ∧ e ≤ x + 16))) ∧
    (∀ k, s.acq.xDue = some k → Answers (exec .xtrigDrive s) fun t =>
      t.acq = { s.acq with xDue := none, xDrive := some (k + 800) } ∧ k ≤ t.time.tick) ∧
    (∀ k, s.acq.xDrive = some k → Answers (exec .xtrigRelease s) fun t =>
      t.acq = { s.acq with xDrive := none } ∧ k ≤ t.time.tick)

/-- The refresh slot and host reads of capture memory take their own slots of the wheel (R309, R396, R411). The phase of the wheel and the period of 390 ticks are the model's choice (log entry 98); that a refresh takes the slot from the scrubber, line by line in rising order, is its reading (entry 118), and what a bad word of BAR2 reads is entry 139. -/
def Obligations.CaptureMemoryAccess : Prop :=
  ∀ s : State,
    (s.live 8 = true → Answers (exec .refreshSlot s) fun t =>
      t.acq.slotR % 16 = 15 ∧ s.acq.slotR < t.acq.slotR ∧ 4 * t.acq.slotR ≤ t.time.tick ∧
      let late := 4 * t.acq.slotR - s.mi.refreshTick
      let due := s.mi.refreshTick ≤ 4 * t.acq.slotR ∧ late % 390 < 64
      (due → t.mi.refreshRow = (s.mi.refreshRow + (late / 390 + 1)) % 512 ∧
        t.mi.refreshTick = s.mi.refreshTick + 390 * (late / 390 + 1)) ∧
      (¬due → t.mi.refreshRow = s.mi.refreshRow ∧ t.mi.refreshTick = s.mi.refreshTick ∧
        (s.ab (Reg.MEM_SCRUB 7) 31 = true → s.memDone 7 = true → kvGet (fun _ => 0) t.mi.scrubPos 40 =
          if kvGet (fun _ => 0) s.mi.scrubPos 40 = 65535 then 0 else kvGet (fun _ => 0) s.mi.scrubPos 40 + 1))) ∧
    (s.live 7 = true → s.hostSel = true ∨ (s.rb Reg.HIF_LINK 0 = true ∧ s.rf Reg.HIF_LINK 15 14 = 0) →
      s.domOn 8 = false ∨ s.memDone 7 = false ∨ (∃ j, j < 16 ∧ s.slotOwner j = 2) →
      ∀ (ofs : Fin 4194304) (len : Fin 4097), Answers (exec (.bar2Read ofs len) s) fun t =>
        ∃ bs, (bar2Bytes 65 ofs len s).1 = some bs ∧ bs.length = len ∧ t.outs = s.outs ++ [.hostData bs] ∧
          t.mem = (bar2Bytes 65 ofs len s).2.mem ∧ (s.le.writes = [] → t.mem = s.mem))

/-- Scrubbing mends a word, clearing and initialisation write zeros, a soft repair takes a spare (R386, R391, R392, R393, R394, R397, R403). What a scrub does with a poisoned word is the model's reading (log entry 114), the refusal of a repair that names POS above 9 or MACRO above 55 its choice (entry 115), as is the content of a spare column (entry 116); the slot of a clear is its reading (entry 194), and a write by a pea in the same tick stands (entry 200). -/
def Obligations.MemoryMaintenance : Prop :=
  ∀ s : State,
    (∀ p : Fin 40, let m := memOfPart p
      let k := kvGet (fun _ => 0) s.mi.scrubPos p
      let a := memBase m + 8 * ((p - partBase m) * partWords m + k)
      let u := scrubWait p s
      s.scrubs m = true → Answers (exec (.scrubRead p) s) fun t =>
        (∀ x, x / 8 ≠ a / 8 → t.byteAt x = u.byteAt x ∧ t.chkAt x = u.chkAt x) ∧ (s.le.writes = [] → u.mem = s.mem) ∧
        (∀ j, (u.decodeAt a).out = .corrected j → (t.decodeAt a).out = .clean ∧ (t.decodeAt a).data = (u.decodeAt a).data) ∧
        ((u.decodeAt a).out = .uncorrectable → (t.decodeAt a).out = .poisoned) ∧
        (s.live (memDom m) = true → kvGet (fun _ => 0) s.mi.scrubAt p ≤ t.time.tick ∧
          kvGet (fun _ => 0) t.mi.scrubAt p = t.time.tick + 2 * 2 ^ s.af (Reg.MEM_SCRUB m) 19 16) ∧
        kvGet (fun _ => 0) t.mi.scrubPos p = if k + 1 = partWords m then 0 else k + 1) ∧
    (∀ w : Word, let a := w.toNat / 8 * 8
      s.cpuOn = true →
      (s.mayClear a = true → Answers (exec (.memWzero w) s) fun t =>
        (memOf a = some 7 ∨ s.wordHit a = false → ∀ x, x / 8 = a / 8 → t.byteAt x = 0 ∧ t.chkAt x = (0, 0)) ∧
        (memOf a ≠ some 7 → s.wordHit a = true → t.mem = s.mem) ∧
        (memOf a ≠ some 7 ∨ s.le.writes = [] → ∀ x, x / 8 ≠ a / 8 → t.byteAt x = s.byteAt x ∧ t.chkAt x = s.chkAt x) ∧
        (memOf a = some 7 → t.acq.slotR % 16 = 15 ∧ s.acq.slotR < t.acq.slotR)) ∧
      (s.mayClear a = false → Answers (exec (.memWzero w) s) fun t => t.mem = s.mem)) ∧
    (∀ m : Fin 8, s.live (memDom m) = true →
      (s.memDone m = false → s.initBusy m = false → Answers (exec (.memoryInit m) s) fun t => t.initBusy m = true ∧
        (∀ x, memBase m ≤ x → x < memBase m + 8 * memWords m → t.byteAt x = 0 ∧ t.chkAt x = (0, 0)) ∧
        ∀ x, x < memBase m ∨ memBase m + 8 * memWords m ≤ x → t.byteAt x = s.byteAt x ∧ t.chkAt x = s.chkAt x) ∧
      (s.initBusy m = true → Answers (exec (.initDone m) s) fun t => t.memDone m = true ∧ t.initBusy m = false)) ∧
    (∀ w : Word, let p := fld w 21 16
      let key := p * 256 + fld w 15 12 * 16 + fld w 10 8
      let bad := 55 < p ∨ 9 < fld w 15 12 ∨ s.memDone (memOfPart p) = false ∨
        2 ≤ s.rf (Reg.MEM_REP p) 5 4 + s.rf (Reg.MEM_REP p) 7 6 ∨ key ∈ s.mi.replaced
      s.cpuOn = true →
      (bad → Answers (exec (.srepGo w) s) fun t => t.rb Reg.MEM_ERR 28 = true ∧ t.mem = s.mem ∧ t.mi = s.mi) ∧
      (¬bad → Answers (exec (.srepGo w) s) fun t => t.mi.replaced = key :: s.mi.replaced ∧
        t.rf (Reg.MEM_REP p) 7 6 = s.rf (Reg.MEM_REP p) 7 6 + 1 ∧ (s.mem.wf = true → t.mem.wf = true)))

/-- Stores, clears, initialisation, scrubbing, repair and the drain keep the memories in their canonical form (R384, R390, R391, R393). -/
def Obligations.MemoriesKeepTheirForm : Prop :=
  ∀ s : State, s.mem.wf = true → ∀ c : Instr,
    (∃ a b w, c = .processorStore a b w) ∨ (∃ w, c = .memWzero w ∨ c = .srepGo w) ∨ (∃ m, c = .memoryInit m ∨ c = .initDone m) ∨
    (∃ p, c = .scrubRead p) ∨ c = .fifoDrain ∨ c = .refreshSlot ∨ (∃ r k, c = .frameAccept r k ∨ c = .uplinkMiss r k) ∨
    (∃ p i, c = .relayAccept p i) → Answers (exec c s) fun t => t.mem.wf = true

/-- Samples, level changes, wire breaks and thresholds of the field inputs (R18, R336, R337, R338, R339, R340, R341, R480). Between 97 and 103 percent of a period the model leaves open whether it has passed (log entry 15); that the level follows the ball's voltage as it is given is its choice (entry 190). -/
def Obligations.FieldInputsFollowTheirFilter : Prop :=
  ∀ (i : Fin 16) (s : State),
    (∀ lvl, s.fieldOn = true → s.finDue i = some lvl → s.rb Reg.FIO_IN_LVL i ≠ lvl →
      Ends (exec (.filteredLevelChange i) s) fun u => u.rb Reg.FIO_IN_LVL i = lvl ∧
        u.rb Reg.FIO_IN_EDGE (if lvl then i else 16 + i) = true ∧ (u.fin i).filt = !(s.fin i).filt ∧
        (s.ab Reg.FIO_IN_IEN (if lvl then i else 16 + i) = true → .fieldInput ∈ u.fwIrq)) ∧
    (s.fieldOn = true → s.finDue i = none →
      let period := 800 * 10 ^ s.af (Reg.FIO_IN_CFG i) 5 4
      ((∀ b, (s.fin i).at_ = some b → period * 100 ≤ (s.mtick - b) * 97) →
        Ends (exec (.filterSample i) s) fun u => u.regs = s.regs ∧
          u.fin i = { s.fin i with cnt := if (s.fin i).raw then min ((s.fin i).cnt + 1) (s.af (Reg.FIO_IN_CFG i) 15 8)
            else (s.fin i).cnt - 1, at_ := some s.mtick }) ∧
      ∀ b, (s.fin i).at_ = some b → (s.mtick - b) * 103 < period * 100 → Ends (exec (.filterSample i) s) fun u => u = s) ∧
    (s.ab (Reg.FIO_IN_CFG i) 1 = false → s.rising i = if s.ab (Reg.FIO_IN_CFG i) 0 then 8000 * 256 else 11000 * 256) ∧
    (∀ mv : BitVec 16, s.huskOn = true → Ends (exec (.rawLevelChange i mv) s) fun u => u.SameRegs s [Reg.FIO_IN_WB] ∧
      let thr := s.rising i - (if (s.fin i).raw then 1000 * 256 else 0)
      ∃ lvl, u.fin i = { s.fin i with raw := lvl } ∧ (thr + 400 * 256 ≤ 256 * mv.toNat → lvl = true) ∧
        (256 * mv.toNat + 400 * 256 < thr → lvl = false) ∧
        (lvl = true → s.fieldOn = true → u.rb Reg.FIO_IN_WB i = false)) ∧
    (s.wbMeasures i = true →
      (s.rb Reg.FIO_IN_WB i = false → Ends (exec (.wireBreak i) s) fun u => u.rb Reg.FIO_IN_WB i = true ∧
        (s.sysOn = true → u.rb Reg.FIO_IN_WB (16 + i) = true)) ∧
      (Ends (exec (.wireBreakClear i) s) fun u => u.rb Reg.FIO_IN_WB i = false ∧ u.SameRegs s [Reg.FIO_IN_WB])) ∧
    (s.fieldOn = true → s.huskOn = true → Ends (exec .thresholdRecompute s) fun u =>
      (if s.tracking 0 then u.fio.thr1 ≤ s.fio.thr1 + 64000 ∧ s.fio.thr1 ≤ u.fio.thr1 + 64000 else u.fio.thr1 = 2816000) ∧
      (if s.tracking 1 then u.fio.thr3 ≤ s.fio.thr3 + 64000 ∧ s.fio.thr3 ≤ u.fio.thr3 + 64000 else u.fio.thr3 = 2048000) ∧
      u.SameRegs s [Reg.FIO_IN_THR])

/-- Output commands write FIO_OUT; overload, heat, external drive and open wire set their bits; a clear takes the bits whose cause is gone (R9, R18, R343, R344, R345, R346, R347, R349, R371, R477, R480). Between 97 and 103 percent of a time the model leaves open whether it has passed (log entry 15); that the conditions of a clear come as operands is its reading (entry 104), and so is what the supervisor does with PD_FIELD off (entry 191); an open wire found then is not kept, its choice (entry 192). -/
def Obligations.FieldOutputsAndFaults : Prop :=
  ∀ (k : Fin 8) (s : State),
    let felt := fun (u : State) (b : Nat) => (s.fieldOn = true → s.sysOn = true → u.rb Reg.FIO_OUT_FLT b = true) ∧
      (s.fieldOn = true → s.sysOn = false → (kvGet (fun _ => 0) u.fio.heldBits Reg.FIO_OUT_FLT).testBit b = true) ∧
      (s.fieldOn = false → b < 24 → u.fio.latch.testBit k = true)
    let lasted := fun (dt ms : Nat) => ms * 80000000 ≤ dt * 97
    let short := fun (dt ms : Nat) => dt * 103 < ms * 80000000
    (s.cpuOn = true → s.domOn 9 = true → ∀ w : Word,
      (Ends (exec (.fioOut w) s) fun u => u.rf Reg.FIO_OUT 7 0 = fld w 7 0 ∧ u.SameRegs s [Reg.FIO_OUT]) ∧
      (Ends (exec (.fioOutSet w) s) fun u => u.rb Reg.FIO_OUT k = (s.rb Reg.FIO_OUT k || bit w k) ∧ u.SameRegs s [Reg.FIO_OUT]) ∧
      (Ends (exec (.fioOutClr w) s) fun u => u.rb Reg.FIO_OUT k = (s.rb Reg.FIO_OUT k && !(bit w k)) ∧ u.SameRegs s [Reg.FIO_OUT]) ∧
      let ev := (s.noted Reg.FIO_OUT_FLT).ev
      ∀ lim hot ext : BitVec 8, Ends (exec (.faultClear w lim hot ext) s) fun u => u.SameRegs s [Reg.FIO_OUT_FLT] ∧
        u.rb Reg.FIO_OUT_FLT k = (s.rb Reg.FIO_OUT_FLT k && !(bit w k && !(lim.getLsbD k) && !(bit ev k))) ∧
        u.rb Reg.FIO_OUT_FLT (8 + k) = (s.rb Reg.FIO_OUT_FLT (8 + k) && !(bit w (8 + k) && !(hot.getLsbD k) && !(bit ev (8 + k)))) ∧
        u.rb Reg.FIO_OUT_FLT (16 + k) = (s.rb Reg.FIO_OUT_FLT (16 + k) && !(bit w (16 + k) && !(ext.getLsbD k) && !(bit ev (16 + k)))) ∧
        u.rb Reg.FIO_OUT_FLT (24 + k) = (s.rb Reg.FIO_OUT_FLT (24 + k) && !(bit w (24 + k) && !(bit ev (24 + k))))) ∧
    (s.huskOn = true →
      (∀ dur, s.outOn k = true →
        (lasted (min dur (s.outFor k)) (fld (s.outCfg k) 11 8) → Ends (exec (.overload ⟨k, dur⟩) s) fun u => felt u k) ∧
        (short (min dur (s.outFor k)) (fld (s.outCfg k) 11 8) → Ends (exec (.overload ⟨k, dur⟩) s) fun u => u = s)) ∧
      (Ends (exec (.overTemperature k) s) fun u => felt u (8 + k)) ∧
      (s.outOn k = false → s.offFor k = some (s.outFor k)) ∧
      (∀ dur off, s.offFor k = some off →
        (lasted dur 1 → lasted off (fld (s.outCfg k) 19 16 + 1) → Ends (exec (.externalDrive ⟨k, dur⟩) s) fun u =>
          felt u (16 + k) ∧ (6 ≤ k.val → u.safState = 4)) ∧
        (short dur 1 ∨ short off (fld (s.outCfg k) 19 16 + 1) → Ends (exec (.externalDrive ⟨k, dur⟩) s) fun u =>
          u.regs = s.regs ∧ u.fio = s.fio)) ∧
      (s.offFor k = none → ∀ dur, exec (.externalDrive ⟨k, dur⟩) s = .next (settle s)) ∧
      (s.owTests k = true →
        (lasted (s.outFor k) 50 → Ends (exec (.openWire k) s) fun u => felt u (24 + k) ∧
          (s.fieldOn = true → u.rb Reg.FIO_OUT_STAT (16 + k) = true)) ∧
        (short (s.outFor k) 50 → Ends (exec (.openWire k) s) fun u => u = s))) ∧
    (s.fieldOn = true → Ends (exec (.openWireClear k) s) fun u => u.rb Reg.FIO_OUT_STAT (16 + k) = false ∧
      u.SameRegs s [Reg.FIO_OUT_STAT])

/-- Heartbeats, their loss, the measurements of VFIELD and the two acknowledgements act on FIO_SUP (R18, R350, R351, R352, R353, R367, R371, R480). Between 97 and 103 percent of 2 ms the model leaves open whether they have passed (log entry 15); the sticky bits after a power-up and what Marrow holds over a loss are its reading (entries 101, 113). -/
def Obligations.HeartbeatAndFieldSupply : Prop :=
  ∀ s : State,
    (s.sysOn = true → s.fieldOn = true → Ends (exec .heartbeat s) fun u => u.fio.hbSent = (s.fio.hbSent + 1) % 16 ∧
      (s.huskOn = true → if u.fio.hbSent = (s.fio.hbLast + 1) % 16
        then u.fio.hbLast = u.fio.hbSent ∧ u.fio.hbRow = s.fio.hbRow + 1 ∧ u.fio.hbAt = s.mtick ∧ u.fio.linkDown = false ∧ u.fio.held = []
        else u.fio.hbRow = 0 ∧ u.fio.hbLast = s.fio.hbLast ∧ u.fio.hbAt = s.fio.hbAt)) ∧
    (s.huskOn = true → s.fio.linkDown = false → (s.mtick - s.fio.hbAt) * 103 < 160000000 →
      Ends (exec .heartbeatLoss s) fun u => u = s) ∧
    (s.huskOn = true → s.fio.linkDown = false → 160000000 ≤ (s.mtick - s.fio.hbAt) * 97 → Ends (exec .heartbeatLoss s) fun u =>
      u.fio.linkDown = true ∧ u.fio.hbRow = 0 ∧ u.rb Reg.FIO_SUP 2 = true ∧
      (s.fieldOn = true → s.sysOn = true → u.rb Reg.FIO_SUP 10 = true) ∧
      (s.safState = 1 ∨ s.safState = 2 → u.safState = 3 ∨ u.safState = 4)) ∧
    (s.cpuOn = true → s.domOn 9 = true →
      (s.rb Reg.FIO_SUP 2 = true → Ends (exec .hback s) fun u =>
        if 32 ≤ s.fio.hbRow then u.rb Reg.FIO_SUP 2 = false ∧ u.rf Reg.FIO_OUT 7 0 = 0
        else u.rb Reg.FIO_SUP 2 = true ∧ u.rb Reg.FIO_SUP 12 = true) ∧
      (s.rb Reg.FIO_SUP 1 = true → Ends (exec .uvack s) fun u =>
        if s.rb Reg.FIO_SUP 0 then u.rb Reg.FIO_SUP 1 = true ∧ u.rb Reg.FIO_SUP 12 = true
        else u.rb Reg.FIO_SUP 1 = false ∧ u.rf Reg.FIO_OUT 7 0 = 0)) ∧
    (∀ mv : BitVec 16, s.huskOn = true → Ends (exec (.vfieldMeasure mv) s) fun u =>
      let log := (mv.toNat :: s.fio.vlog).take 100
      let three := fun (p : Nat → Bool) => 3 ≤ log.length ∧ (log.take 3).all p = true
      u.fio.vlog = log ∧
      u.reg Reg.FIO_VF = (if s.fieldOn = true then BitVec.ofNat 32 (log.foldl (· + ·) 0 / log.length) else s.reg Reg.FIO_VF) ∧
      (three (· ≤ 19000) → u.rb Reg.FIO_SUP 0 = true) ∧ (three (19500 ≤ ·) → u.rb Reg.FIO_SUP 0 = false) ∧
      (three (· ≤ 16500) → u.rb Reg.FIO_SUP 1 = true) ∧ (three (31000 ≤ ·) → u.rb Reg.FIO_SUP 4 = true) ∧
      (three (· ≤ 30500) → u.rb Reg.FIO_SUP 4 = false)) ∧
    (Ends (exec .vfoff s) fun u => u.rb Reg.FIO_SUP 3 = true ∧ u.SameRegs s [Reg.FIO_SUP]) ∧
    (s.rb Reg.FIO_SUP 3 = true → Ends (exec .supervisorPowerUp s) fun u => u.rf Reg.FIO_SUP 4 0 = 6 ∧ u.safState = 0 ∧
      u.agr 0 = false ∧ u.agr 1 = false ∧ u.fio.vlog = [] ∧ u.fio.hbRow = 0 ∧ u.saf.recs = [])

/-- SAF_CMD, REQ, Husk's demand timer, discrepancies and fatal faults move the safety state as Table 13-3 says (R9, R358, R364, R366, R367, R368, R369, R370, R371, R375). When the cause of a failed self-test is present is the model's choice (log entry 187), as is the tolerance band of HDLY, of which only its upper end is stated here (entry 15); a pair in discrepancy is read as entry 107 says. -/
def Obligations.SafetyStatesAndRequests : Prop :=
  ∀ s : State,
    (s.cpuOn = true →
      (Ends (exec .safStok s) fun u => u.saf = { s.saf with stok := true } ∧ u.regs = s.regs) ∧
      (Ends (exec .runreq s) fun u => u.saf = { s.saf with runreq := true } ∧ u.regs = s.regs) ∧
      (Ends (exec .safTest s) fun u => if s.safState = 0 ∧ s.huskOn = true
        then u.safState = 2 ∧ u.rf Reg.SAF_REQ 1 0 = 0 ∧ u.saf.stok = false else u = s) ∧
      (Ends (exec .endtest s) fun u => if s.safState = 2 then u.safState = 0 ∧ u.rf Reg.SAF_REQ 1 0 = 0 else u = s) ∧
      ∀ r, Ends (exec (.reqWrite r) s) fun u => u.SameRegs s [Reg.SAF_REQ] ∧ u.saf = s.saf ∧ ∀ g, g < 2 →
        u.rb Reg.SAF_REQ g = if bit (s.noted Reg.SAF_REQ).upd g then s.rb Reg.SAF_REQ g else r.getLsbD g) ∧
    (∀ (g : Fin 2) i, s.huskOn = true → s.safState = 1 → i < 16 → (fld (s.huskReg (1 + g)) 15 0).testBit i = true →
      s.rb Reg.FIO_IN_LVL i = false →
      fld (s.huskReg (3 + g)) 31 16 * 800000 * 100 ≤ (s.mtick - kvGet (fun _ => 0) s.saf.zeroAt i) * 97 →
      Ends (exec (.hdlyExpiry g) s) fun u => u.agr g = false ∧ u.safState = 1) ∧
    (∀ (j : Fin 8) t, s.live 1 = true → kvGet (fun _ => none) s.saf.diffAt j = some t → s.ab Reg.SAF_INPAIR j = true →
      s.af Reg.SAF_INPAIR 23 8 * 800000 < s.time.tick - t → j.val ∉ s.saf.disc →
      Ends (exec (.discrepancy j) s) fun u => u.saf.disc = j.val :: s.saf.disc ∧ u.rb Reg.SAF_ERR (16 + j) = true) ∧
    (s.huskOn = true →
      (Ends (exec .hself s) fun u => u.lockCause = true ∧ u.safState = 4 ∧ (s.safState ≠ 4 → u.agr 0 = false ∧ u.agr 1 = false)) ∧
      (s.live 1 = true → Ends (exec .lockstepMismatch s) fun u => u.cas.lsx = true ∧ u.rb Reg.SAF_ERR 1 = true ∧ u.pcr.procReset.isSome = true ∧
        (s.safState = 1 ∨ s.safState = 2 → u.safState = 3 ∨ u.safState = 4))) ∧
    (s.live 1 = true → s.saf.checkDue = true → Ends (exec .checkCompute s) fun u =>
      u.reg Reg.SAF_CHECK = BitVec.ofNat 32 s.checkValue ∧ u.saf = { s.saf with checkDue := false } ∧
      u.SameRegs s [Reg.SAF_CHECK])

/-- The safety period, program flow, test pulses and STO feedback (R359, R368, R371, R372, R373, R374). Of a time by Marrow's oscillator only the upper end of its tolerance is stated (log entry 15); when the task's decisions act and the two halves of a test pulse are the model's reading (entries 105, 199). -/
def Obligations.SafetyTaskAndMonitors : Prop :=
  ∀ s : State,
    (s.live 1 = true → s.fio.heldBits = [] → s.saf.period ≠ some s.periodIdx → Ends (exec .safetyPeriod s) fun u =>
      u.saf.period = some s.periodIdx ∧ u.saf.react4 = [] ∧
      ∀ g, g < 2 → (s.grp g).stoNext = true → (s.noted Reg.SAF_REQ).upd = 0 → u.rb Reg.SAF_REQ g = false) ∧
    (s.live 1 = true → s.saf.period = some s.periodIdx → Ends (exec .safetyPeriod s) fun u => if s.running then u = s
      else u.saf.period = some (advanceNs ((s.periodIdx + 1) * 250000 * 2 ^ s.af Reg.SAF_CFG 2 0 * 2 ^ 32) s).periodIdx ∧ u.saf.react4 = []) ∧
    (s.cpuOn = true →
      (∀ id : BitVec 16, Ends (exec (.safPfm id) s) fun u => u.rf Reg.SAF_PFM_SIG 15 0 =
        pfmByte (pfmByte (s.rf Reg.SAF_PFM_SIG 15 0) (id.toNat / 256)) (id.toNat % 256) % 65536 ∧
        u.SameRegs s [Reg.SAF_PFM_SIG] ∧ u.saf = s.saf) ∧
      (Ends (exec .pfmEnd s) fun u => u.rf Reg.SAF_PFM_SIG 15 0 = 0xFFFF ∧
        (s.linkUp = true → s.huskOn = true → s.safState = 1 ∨ s.safState = 2 →
          s.rf Reg.SAF_PFM_SIG 15 0 ≠ fld (s.huskReg 6) 15 0 → u.safState = 3 ∨ u.safState = 4))) ∧
    (s.huskOn = true → s.safState = 1 ∨ s.safState = 2 →
      tsTicks (s.huskReg 0) * 5 / 4 * 100 ≤ (s.mtick - s.saf.wdRef) * 97 →
      Ends (exec .flowWatchdog s) fun u => u.safState = 3 ∨ u.safState = 4) ∧
    (∀ (g : Fin 2) low, s.huskOn = true → s.permit g = true → s.outOn (6 + g) = true →
      (∀ b, s.pulseOf g = some b → fld (s.huskReg 0) 15 12 * 4000000 ≤ (s.mtick - b) * 97 →
        Ends (exec (.testPulse g low) s) fun u => kvGet (fun _ => none) u.saf.pulse g = none ∧
          u.saf.pulseAt = s.saf.pulseAt ∧
          kvGet (fun _ => 0) u.saf.tpFail g = (if low then 0 else kvGet (fun _ => 0) s.saf.tpFail g + 1) ∧
          (low = false → 1 ≤ kvGet (fun _ => 0) s.saf.tpFail g → u.safState = 4)) ∧
      (s.pulseOf g = none → fld (s.huskReg 0) 23 16 * 800000000 ≤
          min (s.outFor (6 + g)) (s.mtick - kvGet (fun _ => 0) s.saf.pulseAt g) * 97 →
        Ends (exec (.testPulse g low) s) fun u => kvGet (fun _ => none) u.saf.pulse g = some s.mtick ∧
          kvGet (fun _ => 0) u.saf.pulseAt g = s.mtick ∧ u.regs = s.regs)) ∧
    (∀ (g : Fin 2) c, s.live 1 = true → kvGet (fun _ => none) s.saf.permAt g = some c → s.running = true →
      c + s.af (Reg.SAF_GCTL g) 31 24 ≤ s.cyc → Ends (exec (.stoFeedbackCheck g) s) fun u =>
        kvGet (fun _ => none) u.saf.permAt g = none ∧
        (∀ n ∈ s.grpAxes g, s.permit g = false → s.huskOn = true →
          (∀ k d, (s.ax n).dstat = some (k, d) → k = s.cyc → d.testBit 3 = false) → u.safState = 4))

/-- Doorbells, mailbox writes, completion, notices, acceptance and timeouts act on HOWN, HDONE, the queue and HNOTE (R9, R410, R412, R413, R414, R415, R417, R418). That a timer acts at the end of its sysclk, and what hardware sets in the sysclk of a clear, are the model's reading (log entries 203, 200). -/
def Obligations.MailboxesChangeHands : Prop :=
  ∀ s : State,
    (s.hostOn = true → s.hostPath = true → ∀ w : Word,
      let now := decide (s.hif.setAt = s.sclk) && !s.frozen
      (Answers (exec (.doorbell w) s) fun t =>
        (∀ m, m < 32 → t.owned m = (s.owned m || (bit w m && s.mbFree m))) ∧
        t.hif.queue = s.hif.queue ++ (List.range 32).filter (fun m => bit w m && s.mbFree m) ∧
        ((∃ m, m < 32 ∧ bit w m = true ∧ s.mbFree m = false) → t.rb Reg.HIF_ERR 0 = true) ∧ t.mem = s.mem) ∧
      (Answers (exec (.hdoneClear w) s) fun t => t.regs = (settle s).regs ∧ t.hif.hown = s.hif.hown ∧
        ∀ m, t.hif.hdone.testBit m = (s.hif.hdone.testBit m && !(bit w m && !(now && s.hif.doneSet.testBit m)))) ∧
      (Answers (exec (.hnoteClear w) s) fun t => ∀ j, t.hif.hnote.testBit j = (s.hif.hnote.testBit j && !(bit w j && !(now && s.hif.noteSet.testBit j))))) ∧
    (s.hostOn = true → s.cpuOn = true → ∀ w : Word, Answers (exec (.hnoteSet w) s) fun t =>
      ∀ j, t.hif.hnote.testBit j = (s.hif.hnote.testBit j || (bit w j && decide (j < 8)))) ∧
    (s.hostOn = true → s.storedOn = true → ∀ (host : Bool) (ofs : Fin 65536) (data : Word) (be : BitVec 4),
      ofs.val < 0x2000 → (if host then s.hostPath = true else s.cpuOn = true) →
      let a := barBase + ofs.val / 4 * 4
      Answers (exec (.mailboxWrite host ofs data be) s) fun t =>
        if s.owned (ofs.val / 256) = !host then
          (∀ i, i < 4 → be.getLsbD i = true → t.byteAt (a + i) = BitVec.ofNat 8 (data.toNat >>> (8 * i))) ∧
          (∀ x, x / 8 ≠ a / 8 → t.byteAt x = s.byteAt x) ∧ t.reg Reg.HIF_ERR = s.reg Reg.HIF_ERR
        else t.SameMem s ∧ t.rb Reg.HIF_ERR (if host then 1 else 2) = true) ∧
    (s.cpuOn = true → s.domOn 7 = true →
      (Answers (exec .dbqRead s) fun t => t.mem = s.mem ∧
        match s.nextRung with
        | none => t.outs = s.outs ++ [.value 0] ∧ t.hif = s.hif
        | some m => t.outs = s.outs ++ [.value (2 ^ 31 + m % 32)] ∧ t.hif.queue = s.hif.queue.erase m ∧
            (31 ∈ s.hif.queue → m = 31)) ∧
      (∀ (mb : Fin 32) (bound : BitVec 16) (ms : Nat),
        (if s.stage = 3 ∨ s.stage = 4 then ∃ w0 w1, (mbWord mb 0 s).1 = some w0 ∧
            (mbWord mb 4 (mbWord mb 0 s).2).1 = some w1 ∧
            ms = min 65535 (max (effectiveMs (w0 % 65536) (w1 / 65536)) (if w0 % 65536 = 0x40 then bound.toNat else 0))
          else ms = bound.toNat) → Answers (exec (.facc mb bound) s) fun t => t.hif.hown = s.hif.hown ∧
        t.mbTimer mb = if s.owned mb then some ⟨s.time.tick, ms + s.af Reg.HIF_CFG 23 16, true⟩ else s.mbTimer mb) ∧
      (∀ mb : Fin 32, Answers (exec (.fdone mb) s) fun t =>
        if s.owned mb then t.owned mb = false ∧ t.hif.hdone.testBit mb = true ∧ t.mbTimer mb = none
        else t.rb Reg.HIF_ERR 3 = true ∧ t.hif = s.hif)) ∧
    (∀ (m : Fin 32) x, s.hostOn = true → s.mbTimer m = some x → s.owned m = true → x.ms * 800000 ≤ s.time.tick - x.since →
      Answers (exec (.mailboxTimeout m) s) fun t => let u := advanceTo (2 * (s.sclk + 1)) s
        t.owned m = false ∧ t.hif.hdone.testBit m = true ∧
        t.rb Reg.HIF_MTO m = true ∧ t.pcr.strikes = u.strikesNow ++ [u.time.tick] ∧
        (s.af Reg.PCR_WDT_CTL 23 16 ≤ t.pcr.strikes.length → t.pcr.struck = true) ∧
        (s.storedOn = true → (u.decodeAt (mbAddr m 8)).out = .clean →
          t.rawBytes (mbAddr m 8) 4 = 0xFE + 65536 * b2n x.accepted))

/-- The PCI Express link comes up, is configured and resets; quad-SPI reads, writes, its status and its rise; BAR2 writes are discarded (R405, R406, R407, R408, R409, R410, R411). That HSTATE keeps its value over a host reset is the model's choice (log entry 120); which bytes are late comes with the read. -/
def Obligations.HostLinkAndQuadSpi : Prop :=
  ∀ s : State, s.hostOn = true →
    (∀ gen2 x2, s.rb Reg.HIF_LINK 0 = false → Answers (exec (.pcieLinkUp gen2 x2) s) fun t =>
      if s.hostSel then t = settle s
      else t.rf Reg.HIF_LINK 1 0 = 1 ∧ t.rf Reg.HIF_LINK 3 2 = 1 + b2n x2 ∧ t.rb Reg.HIF_LINK 4 = gen2 ∧ t.hif = s.hif) ∧
    (∀ c : PcieCfg, s.rb Reg.HIF_LINK 0 = true → Answers (exec (.pcieConfigWrite c) s) fun t =>
      if s.hostSel then t = settle s
      else t.rf Reg.HIF_LINK 4 0 = s.rf Reg.HIF_LINK 4 0 ∧ t.rb Reg.HIF_LINK 5 = c.bme ∧ t.rb Reg.HIF_LINK 6 = c.msiEn ∧
        t.rb Reg.HIF_LINK 7 = c.msixEn ∧ t.rf Reg.HIF_LINK 13 8 = (if c.msiEn then 2 ^ c.msiLog.val else 0) ∧
        t.rf Reg.HIF_LINK 15 14 = (if c.d3hot then 3 else 0) ∧ t.rb Reg.HIF_LINK 16 = c.mps256 ∧
        t.hif.msiMask = c.msiMask.toNat ∧ t.hif.msiAddr = c.msiAddr.toNat ∧ t.hif.msiData = c.msiData.toNat ∧
        t.hif.bar0 = c.bar0.toNat / 65536 * 65536 ∧ t.hif.bar2 = c.bar2.toNat / 4194304 * 4194304 ∧ t.hif.mrrs = c.mrrs ∧
        t.hif.msixMask = c.msixMask ∧ t.hif.hown = s.hif.hown ∧ t.mem = s.mem) ∧
    (Answers (exec .hostReset s) fun t =>
      if s.hostSel then t = settle s
      else t.hif.hown = 0 ∧ t.hif.hdone = 0 ∧ t.hif.hnote = 0 ∧ t.reg Reg.HIF_LINK = 0 ∧ t.rb Reg.HIF_ERR 7 = true ∧
        t.hif.hstate = s.hif.hstate ∧ t.mem = s.mem ∧
        (∀ m j, m < 32 → s.job m = some j → t.job m = none ∧
          ∃ n, 32 ≤ n ∧ n % 32 = m ∧ s.job n = none ∧ t.job n = some { j with req := s.request m }) ∧
        (∀ n j, 32 ≤ n → s.job n = some j → t.job n = some j) ∧
        ∀ c, c < 4 → t.dma c = none ∧ t.rb (Reg.HIF_DMA_STAT c) 31 = false ∧ t.rb (Reg.HIF_DMA_STAT c) 29 = true ∧
          t.rf (Reg.HIF_DMA_STAT c) 27 24 = 5) ∧
    (s.hostPath = true → Answers (exec .bar2Write s) fun t => t.rb Reg.HIF_ERR 4 = true ∧ t.mem = s.mem ∧ t.hif = s.hif) ∧
    (s.hostSel = false → exec .spiStatus s = .next (settle s) ∧ exec .spiCsRise s = .next (settle s) ∧
      (∀ addr len late, exec (.spiRead addr len late) s = .next (settle s)) ∧
      ∀ addr data, exec (.spiWrite addr data) s = .next (settle s)) ∧
    (s.hostSel = true →
      let r := spiEnd s
      (s.pinsTaken = false → ∀ addr len late, Answers (exec (.spiRead addr len late) s) fun t =>
        ∃ bs, t.outs.getLast? = some (.hostData bs) ∧ bs.length = len ∧
          (∀ i ∈ late, i < len → bs.getD i 0 = 0xFF) ∧
          (∀ i, i < len → i ∉ late → bs.getD i 0 = ((spiBytes (len + 1) addr.toNat len r).1.1).getD i 0)) ∧
      (∀ addr len late, (∃ i ∈ late, i < len) → Answers (exec (.spiRead addr len late) s) fun t =>
        t.hif.spiUnder = true ∧ t.rb Reg.HIF_ERR 6 = true) ∧
      (∀ a n fuel, 0 < n → a < 2 ^ 24 → n + a % (if 0x400000 ≤ a then 64 else 4) ≤ (if 0x400000 ≤ a then 64 else 4) →
        (spiBytes (fuel + 2) a n r).1 =
          if a < 0x10000 then ((List.range n).map fun i => (barRead (a / 4 * 4) r).1 / 256 ^ (a % 4 + i) % 256, false)
          else if 0x400000 ≤ a ∧ a < 0x800000 then
            (match (bar2Bytes 65 (a - 0x400000) n r).1 with | some bs => (bs, false) | none => (List.replicate n 0xFF, true))
          else (List.replicate n 0xFF, false)) ∧
      (∀ addr data, Answers (exec (.spiWrite addr data) s) fun t => t.mem = s.mem ∧ t.regs = (settle s).regs ∧
        t.hif.spi.map (·.2) = s.hif.spi.map (·.2) ++ data.map (·.toNat)) ∧
      (Answers (exec .spiStatus s) fun t => t.mem = s.mem ∧ t.hif = { s.hif with spiShown := some (s.hif.spiShown.getD s.spiByte) } ∧
        t.outs = s.outs ++ (if s.pinsTaken then [] else [.hostData [s.hif.spiShown.getD s.spiByte]]) ∧
        s.spiByte.testBit 1 = s.hif.spiUnder ∧ s.spiByte.testBit 2 = s.hif.spiErr ∧
        s.spiByte.testBit 7 = decide (s.stage = 3) ∧ s.spiByte.testBit 0 = decide (s.hif.hdone ≠ 0 ∨ s.hif.hnote ≠ 0)) ∧
      (Answers (exec .spiCsRise s) fun t => t.hif.spi = [] ∧
        (s.hif.spi = [] → s.hif.spiShown.isSome = true → t.hif.spiUnder = false ∧ t.hif.spiErr = false)) ∧
      (∀ a b0 b1 b2 b3 rest, a % 4 = 0 → s.hif.spi = (a, b0) :: (a + 1, b1) :: (a + 2, b2) :: (a + 3, b3) :: rest →
        let v := BitVec.ofNat 32 (b0 + 256 * b1 + 65536 * b2 + 2 ^ 24 * b3)
        let q : State := { r with hif := { r.hif with spi := [] } }
        exec .spiCsRise s = .next (settle (spiFlush rest
          (if a < 0x10000 then barWrite a v 15 q else if 0x400000 ≤ a ∧ a < 0x800000 then hifErr 4 0 q else q)))) ∧
      (∀ a b rest, s.hif.spi = (a, b) :: rest → a % 4 ≠ 0 ∨ rest.length < 3 → Answers (exec .spiCsRise s) fun t =>
        t.rb Reg.HIF_ERR 5 = true ∧ t.hif.spiErr = true ∧ t.mem = s.mem))

/-- A DMA channel starts, moves its words, completes, halts with its cause and resets; the flash master runs, holds or refuses operations (R406, R421, R423, R428, R438). A length that the field does not allow is taken for a range fault, the order of the checks of GO, the reader of flash data and a GO behind one that waits are the model's choice (log entries 122, 123, 124, 125, 204), and where a transfer is cut into requests is (entry 223). -/
def Obligations.DmaAndFlashRunAndHalt : Prop :=
  ∀ (ch : Fin 4) (s : State),
    (∀ dir len, s.cpuOn = true → s.domOn 7 = true → s.rb (Reg.HIF_DMA_STAT ch) 31 = false → s.rb (Reg.HIF_DMA_STAT ch) 29 = false →
      Answers (exec (.dmaGo ch dir len) s) fun t =>
        t.rf (Reg.HIF_DMA_CTL ch) 21 0 = len.toNat ∧ t.rb (Reg.HIF_DMA_CTL ch) 24 = dir ∧ t.mem = s.mem ∧
        let laddr := (s.reg (Reg.HIF_DMA_LADR ch)).toNat / 4 * 4
        let haddr := (s.reg (Reg.HIF_DMA_HLO ch)).toNat / 4 * 4 + 2 ^ 32 * (s.reg (Reg.HIF_DMA_HHI ch)).toNat
        let halted := fun cause => t.dma ch = none ∧ t.rb (Reg.HIF_DMA_STAT ch) 31 = false ∧
          t.rb (Reg.HIF_DMA_STAT ch) 29 = true ∧ t.rf (Reg.HIF_DMA_STAT ch) 27 24 = cause ∧ t.outs = s.outs
        if s.hostSel then t.hif = s.hif
        else if dmaRange laddr len.toNat = none ∨ len.toNat % 4 ≠ 0 ∨ len.toNat = 0 ∨ 2097152 < len.toNat ∨
            (∃ m, dmaRange laddr len.toNat = some m ∧ s.domOn (memDom m) = false) then halted 6
        else if s.rb Reg.HIF_LINK 5 = false then halted 4
        else t.dma ch = some ⟨haddr, laddr, len.toNat, dir, s.time.tick⟩ ∧ t.rb (Reg.HIF_DMA_STAT ch) 31 = true ∧
          t.rf (Reg.HIF_DMA_STAT ch) 21 0 = 0 ∧
          t.outs = s.outs ++ (if dir then []
            else (requests (min 256 (128 * 2 ^ s.hif.mrrs)) haddr len.toNat).map fun r => .dmaRead ch r.1 r.2)) ∧
    (∀ n a len, 0 < n → ((requests n a len).map (·.2)).sum = len ∧ (∀ r ∈ requests n a len, 0 < r.2 ∧ r.2 ≤ n) ∧
      (∀ r, (requests n a len).head? = some r → r.1 = a) ∧
      (requests n a len).IsChain fun x y => y.1 = x.1 + x.2) ∧
    (s.cpuOn = true → s.domOn 7 = true → Answers (exec (.dmaRst ch) s) fun t => t.dma ch = none ∧
      t.reg (Reg.HIF_DMA_STAT ch) = s.reg (Reg.HIF_DMA_STAT ch) &&& 0x40000000 ∧ t.mem = s.mem ∧
      ∀ c, c ≠ ch.val → t.dma c = s.dma c) ∧
    (∀ j ws, s.hostOn = true → s.domOn 1 = true → s.dma ch = some j →
      (∀ m, j.out = false → ws.length = j.len / 4 → j.laddr % 4 = 0 → dmaRange j.laddr j.len = some m → s.memDone m = true →
        (∀ i, i < j.len / 4 → s.peaHit (j.laddr + 4 * i) = false) →
        (∀ i, i < j.len / 4 → (s.decodeAt (j.laddr + 4 * i)).out = .clean) →
        Answers (exec (.dmaDone ch ws false) s) fun t => t.dma ch = none ∧ t.rf (Reg.HIF_DMA_STAT ch) 31 30 = 1 ∧
          ∀ i, i < j.len / 4 → t.rawBytes (j.laddr + 4 * i) 4 = (ws.getD i 0).toNat) ∧
      (j.out = false → Answers (exec (.dmaDone ch ws true) s) fun t => t.dma ch = none ∧
        t.rb (Reg.HIF_DMA_STAT ch) 29 = true ∧ t.rf (Reg.HIF_DMA_STAT ch) 27 24 = 3) ∧
      (j.out = true → s.rb Reg.HIF_LINK 5 = true → Answers (exec (.dmaDone ch ws false) s) fun t =>
        let r := dmaFetch ch j.laddr (j.len / 4) s
        t.dma ch = none ∧ t.outs = r.2.outs ++ (requests (if s.rb Reg.HIF_LINK 16 then 256 else 128) j.haddr r.1.1.length).map
          (fun x => .dmaWrite ch x.1 ((r.1.1.drop (x.1 - j.haddr)).take x.2)) ∧
        if r.1.2 then t.rf (Reg.HIF_DMA_STAT ch) 31 30 = 1
        else t.rb (Reg.HIF_DMA_STAT ch) 29 = true ∧ t.rf (Reg.HIF_DMA_STAT ch) 27 24 = 1) ∧
      (s.rb Reg.HIF_LINK 5 = false → (j.out = true ∨ ws.length < j.len / 4) → Answers (exec (.dmaDone ch ws false) s) fun t =>
        t.dma ch = none ∧ t.rb (Reg.HIF_DMA_STAT ch) 29 = true ∧
          (t.rf (Reg.HIF_DMA_STAT ch) 27 24 = 4 ∨ j.out = true ∧ t.rf (Reg.HIF_DMA_STAT ch) 27 24 = 1)) ∧
      (j.out = false → j.since + 8000000 ≤ s.time.tick → Answers (exec (.dmaCompletionTimeout ch ws) s) fun t => t.dma ch = none ∧
        t.rb (Reg.HIF_DMA_STAT ch) 29 = true ∧ t.rf (Reg.HIF_DMA_STAT ch) 27 24 = 2)) ∧
    (∀ w : Word, s.cpuOn = true → s.domOn 7 = true → Answers (exec (.flashGo w) s) fun t =>
      let o : FlashOp := { cmd := w &&& 0x3F81FFFF, addr := (s.reg Reg.HIF_FL_ADDR).toNat, ladr := (s.reg Reg.HIF_FL_LADR).toNat }
      t.reg Reg.HIF_FL_CMD = w &&& 0x3F81FFFF ∧ t.mem = s.mem ∧ t.outs = s.outs ∧
      if s.rb Reg.HIF_FL_STAT 31 = true ∨ s.hif.flashWait.isSome = true then t.rb Reg.HIF_FL_STAT 29 = true ∧ t.hif = s.hif
      else if s.rb Reg.HIF_FL_STAT 28 then t.hif = { s.hif with flashWait := some o } ∧ t.reg Reg.HIF_FL_STAT = s.reg Reg.HIF_FL_STAT
      else t.hif = { s.hif with flash := some o } ∧ t.rb Reg.HIF_FL_STAT 31 = true) ∧
    (∀ o data, s.hostOn = true → s.domOn 1 = true → s.hif.flash = some o → Answers (exec (.flashDone data) s) fun t =>
      (s.pinsTaken = false → ∃ x, s.outs ++ [x] <+: t.outs ∧
        if o.task.isSome then x = (if o.erase then .flashErase o.addr else .flashOp o.cmd o.addr o.bytes)
        else ∃ bs, x = .flashOp o.cmd o.addr bs ∧ bs.length = if bit o.cmd 23 then o.len else 0) ∧
      t.rb Reg.HIF_FL_STAT 30 = true ∧
      (if s.evl.forced.isSome = true ∨ s.eraseRuns = true ∨ s.evl.eraseDue ≠ [] ∧ s.evl.erasing = false
        then t.hif.flash = none ∧ t.rb Reg.HIF_FL_STAT 28 = true ∧ t.rb Reg.HIF_FL_STAT 31 = false
        else t.hif.flash = s.hif.flashWait.or s.hif.flashTasks.head? ∧ t.hif.flashWait = none ∧
          t.hif.flashTasks = (if s.hif.flashWait.isSome then s.hif.flashTasks else s.hif.flashTasks.tail) ∧
          t.rb Reg.HIF_FL_STAT 31 = t.hif.flash.isSome) ∧
      (o.task.isSome = true → o.erase = false → t.mem = s.mem ∧ ∀ b c, o.conf = some (b, c) →
        s.hif.flashTasks = [] → s.hif.flashWait = none → if b then t.boot.confB = c ∧ t.boot.confA = s.boot.confA
          else t.boot.confA = c ∧ t.boot.confB = s.boot.confB) ∧
      (o.task = none → bit o.cmd 23 = false → (∀ i, i < o.len → inTcm (o.ladr + i) = true ∧ (s.decodeAt (o.ladr + i)).out = .clean) →
        ∀ i, i < o.len → i < data.length → t.byteAt (o.ladr + i) = data.getD i 0))

/-- Glipor's configuration, commit, axis, table and mode-change commands answer as Table 15-6 says (R42, R117, R129, R135, R157, R288, R416, R417, R420, R422). That COMMIT to a block without power is never decided, the order of TABLE_APPEND and the phases of MODE_CHANGE are the model's reading (log entries 130, 131, 132); a DETAIL that Table 15-6 does not state is free (entry 137), PING answers in place (140), pending wraps take the active BASE (213), EZERO comes as a word (217), and whose turn it is, where requests share a group, is free (224). -/
def Obligations.GliporConfiguresAndCommits : Prop :=
  ∀ (m : Fin 32) (len tmo : Nat) (s : State), let v := s.afterHead m
    let waits := fun (o : Host.Outcome Machine.State Fault Refusal) (opc : Nat) (gs : List (Nat × Nat)) =>
      Served o m opc len fun t => t.owned m = true ∧ t.job m = some { v.newJob m opc tmo with groups := gs } ∧
        ∀ x ∈ gs, x.1 < 17 → v.domOn (blkDom x.1) = true → t.rf (Reg.CMT_REQ x.1) 31 0 &&& x.2 = x.2
    let ends := fun (o : Host.Outcome Machine.State Fault Refusal) (opc : Nat) (vals : GlJob → List Nat) =>
      ∀ j, v.job m = some j → j.opc = opc → Served o m opc len fun t =>
        if v.decided j.groups = false then t.owned m = true ∧ t.job m = some j
        else match v.refusal j.groups with
          | some d => t.answered m 5 ∧ t.rawBytes (mbAddr m 10) 2 = d % 65536
          | none => t.returned m opc (vals j)
    (∀ regs, s.takes m 0x10 len tmo → Served (exec (.cfgRead m regs) s) m 0x10 len fun t =>
      if 30 < regs.length then t.answered m 2 else t.returned m 0x10 (glReads regs v).1) ∧
    (∀ es, s.takes m 0x11 len tmo → Served (exec (.cfgWrite m es) s) m 0x11 len fun t =>
      if 30 < es.length then t.answered m 2
      else match es.findIdx? (fun e => shadowAt (entryAddr e) = 0) with
        | some i => t.answered m 3 ∧ t.rawBytes (mbAddr m 10) 2 = i ∧ t.actv = v.actv
        | none => t.answered m 0 ∧ ∀ e, es = [e] → v.domOn (blkDom e.1) = true → (v.noted (entryAddr e)).upd = 0 →
            v.fio.heldBits = [] → t.reg (entryAddr e) &&& shadowAt (entryAddr e) =
              ((v.reg (entryAddr e) &&& ~~~e.2.2.1) ||| (e.2.2.2 &&& e.2.2.1)) &&& shadowAt (entryAddr e)) ∧
    (∀ dma regs words gs, s.takes m 0x20 len tmo → (∀ j, v.job m = some j → j.chan = none) →
      ends (exec (.schedLoad m dma regs words gs) s) 0x20 (fun j => v.commitVals j.groups)) ∧
    (∀ gs, s.takes m 0x12 len tmo →
      (v.job m = none → waits (exec (.glCommit m gs) s) 0x12 (definedMasks (groupMasks gs))) ∧
      ends (exec (.glCommit m gs) s) 0x12 (fun j => v.commitVals j.groups)) ∧
    (∀ (axis : Fin 256) (pod : Fin 4) regs words, s.takes m 0x30 len tmo →
      (v.job m = none → v.ab (Reg.AX_MODE axis) 0 = true →
        Served (exec (.axisConfig m axis pod regs words) s) m 0x30 len fun t => t.answered m 4 ∧ t.actv = v.actv) ∧
      ends (exec (.axisConfig m axis pod regs words) s) 0x30 (fun j => v.commitVals j.groups) ∧
      (v.job m = none → v.ab (Reg.AX_MODE axis) 0 = false → (∀ x ∈ regs, x.1.val = 1 ∨ x.1.val = 2) →
        (∀ x ∈ words, (memOf x.1.toNat).isSome = true ∧ memOf x.1.toNat ≠ some 8) → waits (exec (.axisConfig m axis pod regs words) s) 0x30
          (definedMasks [(1, 2 ^ pod.val), (2, 2 ^ (axis.val / 16))]))) ∧
    (∀ (axis : Fin 256) (pod : Fin 4) xb value, s.takes m 0x31 len tmo →
      Served (exec (.commutate m axis pod xb value) s) m 0x31 len fun t =>
        if v.ab (Reg.AX_MODE axis) 0 then t.answered m 4
        else t.answered m 0 ∧ (v.dest (elemAddr pod ((xb.toNat + 0x30) % 131072)) = .mem (1 + pod) →
          v.peaHit (elemAddr pod ((xb.toNat + 0x30) % 131072)) = false →
          t.rawBytes (elemAddr pod ((xb.toNat + 0x30) % 131072)) 4 = value.toNat)) ∧
    (∀ ws, s.takes m 0x32 len tmo →
      (v.job m = none → if 8 < (ws.map (fun w => w.1.val)).dedup.length
        then Served (exec (.glMotion m ws) s) m 0x32 len fun t => t.answered m 2
        else waits (exec (.glMotion m ws) s) 0x32
          (definedMasks [(3, ws.foldl (fun g w => g ||| 2 ^ (w.1.val / 16)) 0)])) ∧
      ends (exec (.glMotion m ws) s) 0x32 (fun _ => [(v.reg (Reg.CMT_CYCLE 3)).toNat])) ∧
    (∀ (axis : Fin 256) (pod : Fin 4) skip pts, s.takes m 0x33 len tmo →
      let at_ := fun i k => v.dest (elemAddr pod (v.pointElem axis i skip + k))
      (v.stage = 3 → at_ 0 0 = .hole → 0 < pts.length → pts.length ≤ 14 →
        Served (exec (.tableAppend m axis pod skip pts) s) m 0x33 len fun t => t.owned m = true ∧ t.stage = 4) ∧
      ((14 < pts.length ∨ ∀ i k, i < pts.length → k < 4 → at_ i k = .mem (1 + pod) ∨ at_ i k = .memOff) →
       Served (exec (.tableAppend m axis pod skip pts) s) m 0x33 len fun t =>
        if 14 < pts.length then t.answered m 2
        else t.returned m 0x33 [t.rf (Reg.PG_TPTR axis) 30 16, t.rf (Reg.PG_STAT axis) 15 15, t.rf (Reg.PG_STAT axis) 14 14] ∧
          ∀ x, pts = [x] → let a := fun k => elemAddr pod (v.pointElem axis 0 skip + k)
            (∀ k, k < 4 → at_ 0 k = .mem (1 + pod) ∧ v.peaHit (a k) = false) →
            t.rawBytes (a 0) 4 = x.1.toNat ∧ t.rawBytes (a 1) 4 = x.2.1.toNat ∧ t.rawBytes (a 2) 4 = x.2.2.1.toNat ∧
              t.rawBytes (a 3) 4 = x.2.2.2.toNat)) ∧
    (∀ axes, s.takes m 0x34 len tmo →
      (v.job m = none → Served (exec (.axisAck m axes) s) m 0x34 len fun t =>
        if 32 < axes.length then t.answered m 2
        else t.owned m = true ∧ ∀ n ∈ axes, (t.ax n.val).ack = true) ∧
      (∀ j, v.job m = some j → j.axes.any (fun n => (v.ax n).ack) = false →
        Served (exec (.axisAck m axes) s) m 0x34 len fun t =>
          t.returned m 0x34 (j.axes.map fun n => v.rf (Reg.AX_STAT n) 6 6))) ∧
    (∀ gs mid cyc, s.takes m 0x40 len tmo →
      (v.job m = none → Served (exec (.modeChange m gs mid cyc) s) m 0x40 len fun t => t.owned m = true ∧
        t.job m = some { v.newJob m 0x40 tmo with groups := [(8, 16)], axes := [mid.toNat, v.cas.gone] }) ∧
      (∀ j, v.job m = some j → j.arg = 1 ∨ j.arg = 2 → v.cas.mc = none → v.rf Reg.CAS_MC_ACT 15 0 = j.axes.headD 0 →
        Served (exec (.modeChange m gs mid cyc) s) m 0x40 len fun t => t.answered m 0))

/-- Glipor's identification, network, image, safety, event, firmware and power commands answer as Table 15-6 says (R243, R369, R377, R403, R407, R419, R420, R421, R422, R426, R437, R446). The order of SAFETY_CONFIRM and of POWER's answer, the inactive slot, and PING's payload are the model's reading (log entries 133, 134, 135, 140); a DETAIL that Table 15-6 does not state is free (entry 137), and so are the staging address and the code of Glipor's own events (entry 138). -/
def Obligations.GliporServesTheRest : Prop :=
  ∀ (m : Fin 32) (len tmo : Nat) (s : State), let v := s.afterHead m
    let queued := fun (t : State) (ops : List FlashOp) =>
      if v.rb Reg.HIF_FL_STAT 31 = true ∨ v.rb Reg.HIF_FL_STAT 28 = true
      then t.hif.flash = v.hif.flash ∧ t.hif.flashTasks = v.hif.flashTasks ++ ops
      else match v.hif.flashWait with
        | some o => t.hif.flash = some o ∧ t.hif.flashTasks = v.hif.flashTasks ++ ops
        | none => v.hif.flashTasks ++ ops ≠ [] → t.hif.flash = (v.hif.flashTasks ++ ops).head? ∧
            t.hif.flashTasks = (v.hif.flashTasks ++ ops).tail
    (∀ w0 w1, s.hif.struck = false → s.orphan m 2 = none → s.serves m = true → (mbWord m 0 s).1 = some w0 →
      (mbWord m 4 (mbWord m 0 s).2).1 = some w1 → Answers (exec (.glInfo m) s) fun t =>
        let op := w0 % 65536
        if v.stage = 4 ∧ haltedOpc op = false then t.answered m 4 ∧ t.rawBytes (mbAddr m 10) 2 = 4
        else if m.val = 31 ∧ recoveryOpc op = false then t.answered m 7
        else if knownOpc op = false then t.answered m 1
        else op = 2 → if 240 < w1 % 65536 ∨ Config.lenOk 2 (w1 % 65536) = false then t.answered m 2
          else v.job m = none → v.jobLate (v.newJob m 2 (w1 / 65536)) = true → t.answered m 0xFD) ∧
    (∀ n j, s.hif.struck = false → s.hif.hown < 2 ^ 32 → s.orphan m 2 = some (n, j) →
      j.begun = true ∨ s.jobLate j = true ∨ s.turn n = true → Answers (exec (.glInfo m) s) fun t =>
      t.job n = none ∧ t.hif.hown = s.hif.hown ∧ t.hif.hdone = s.hif.hdone ∧ t.mem = s.mem ∧ t.rb Reg.HIF_ERR 3 = true) ∧
    (s.takes m 1 len tmo → Served (exec (.glPing m) s) m 1 len fun t => t.answered m 0 ∧
      t.rawBytes (mbAddr m 12) 2 = len ∧ ∀ x, x / 8 ≠ mbAddr m 8 / 8 → t.byteAt x = v.byteAt x) ∧
    (s.takes m 2 len tmo → Served (exec (.glInfo m) s) m 2 len fun t => t.returned m 2
      [v.boot.svn, v.boot.build, 0xB1, b2n Config.grade, v.ownId, b2n v.hostSel, (v.act Reg.SLT_IMG).toNat]) ∧
    (s.takes m 3 len tmo → Served (exec (.glStatus m) s) m 3 len fun t => t.returned m 3
      ([v.csState, v.safState, (v.reg Reg.CAS_HEALTH).toNat, (v.reg Reg.SYN_STAT).toNat]
        ++ (List.range 4).map (fun r => v.rf (Reg.NET_RING_STAT r) 2 0) ++ [v.cur])) ∧
    (∀ n : Fin 32, s.takes m 4 len tmo → Served (exec (.glAbort m n) s) m 4 len fun t =>
      if n = m ∨ v.owned n = false then t.answered m 3
      else if (∃ j, v.job n = some j ∧ j.groups ≠ []) ∨ v.flashWriting n = true
        then t.answered m 3 ∧ t.rawBytes (mbAddr m 10) 2 = 1 ∧ t.owned n = true
      else t.answered m 0 ∧ t.answered n 0xD ∧ t.rawBytes (mbAddr n 10) 2 = m) ∧
    (∀ ch : Fin 4, s.takes m 5 len tmo → Served (exec (.dmaReset m ch) s) m 5 len fun t => t.answered m 0 ∧ t.dma ch = none ∧
      t.reg (Reg.HIF_DMA_STAT ch) = v.reg (Reg.HIF_DMA_STAT ch) &&& 0x40000000) ∧
    (∀ dma regs words gs, s.takes m 0x20 len tmo → v.job m = none →
      Served (exec (.schedLoad m dma regs words gs) s) m 0x20 len fun t =>
        if v.csState ≠ 0 then t.answered m 4
        else match dma with
          | none => (∀ x ∈ words, (memOf x.1.toNat).isSome = true ∧ memOf x.1.toNat ≠ some 8) →
              t.job m = some { v.newJob m 0x20 tmo with groups := definedMasks (groupMasks gs) }
          | some (c, _, _) => if v.hostSel then t.answered m 8
              else if v.rb (Reg.HIF_DMA_STAT c) 29 then t.answered m 9
              else match v.dmaHolder c m with
                | some n => t.answered m 6 ∧ t.rawBytes (mbAddr m 10) 2 = n
                | none => t.job m = some { v.newJob m 0x20 tmo with chan := some c.val }) ∧
    (∀ ofs data, s.takes m 0x21 len tmo → Served (exec (.schedChunk m ofs data) s) m 0x21 len fun t =>
      t.answered m (if 232 < data.length then 2 else 0) ∧ (data.length ≤ 232 → ∀ i, i < data.length →
        let a := Config.stageBase + ofs.toNat + i
        inTcm a = true → a < barBase → t.byteAt a = data.getD i 0)) ∧
    (s.takes m 0x22 len tmo →
      (v.job m = none → v.domOn 6 = true → Served (exec (.netStart m) s) m 0x22 len fun t => t.owned m = true ∧
        (v.csState = 0 → t.csState = 1)) ∧
      (∀ j, v.job m = some j → v.csState = 5 ∨ v.csState = 7 → Served (exec (.netStart m) s) m 0x22 len fun t =>
        t.answered m (if v.csState = 5 then 0 else 4)) ∧
      (∀ j, v.job m = some j → v.csState ≠ 5 → v.csState ≠ 7 → Served (exec (.netStart m) s) m 0x22 len fun t =>
        if v.jobLate j then t.answered m 0xFD else t.owned m = true ∧ t.job m = some j)) ∧
    (s.takes m 0x23 len tmo → v.job m = none → v.domOn 6 = true → Served (exec (.netStop m) s) m 0x23 len fun t =>
      if v.running then t.owned m = true ∧ t.slt.stop = true else t.answered m 0 ∧ t.csState = 0) ∧
    (∀ ring what slot, s.takes m 0x41 len tmo → Served (exec (.claimDecide m ring what slot) s) m 0x41 len fun t => t.answered m 0 ∧
      (v.domOn 6 = true →
        (what.val = 0 → v.rb (Reg.SLT_CLAIM ring) 31 = true → t.claim ring = { v.claim ring with fw := some (some slot.val) }) ∧
        (what.val = 1 → v.rb (Reg.SLT_CLAIM ring) 31 = true → t.claim ring = { v.claim ring with fw := some none }) ∧
        (what.val = 2 → slot.val < 80 → v.rb (Reg.SLT_SST (80 * ring + slot)) 29 = true → 80 * ring.val + slot ∉ v.slt.release →
          t.slt = { v.slt with release := v.slt.release ++ [80 * ring.val + slot] }))) ∧
    (∀ arm, s.takes m 0x50 len tmo → Served (exec (.acqCmd m arm) s) m 0x50 len fun t => t.answered m 0 ∧
      (v.domOn 8 = true → if arm then t.acq.arm = true else t.acq.stop = true)) ∧
    (s.takes m 0x60 len tmo → Served (exec (.safetyStatus m) s) m 0x60 len fun t => t.returned m 0x60
      ([Reg.SAF_STATE, Reg.SAF_CHECK, Reg.SAF_HCHECK, Reg.SAF_CONFIRM, Reg.SAF_ERR].map fun a => (v.reg a).toNat)) ∧
    (∀ value flash, s.takes m 0x61 len tmo → Served (exec (.safetyConfirm m value flash) s) m 0x61 len fun t =>
      let b := confSecond v.boot.confA v.boot.confB
      let c := confCopy (confCount v.boot.confA v.boot.confB) value
      match v.job m with
      | none => if v.safState ≠ 0 then t.answered m 4 ∧ t.boot = v.boot
        else if value = 0 ∨ value ≠ v.reg Reg.SAF_CHECK then t.answered m 3 ∧ t.boot = v.boot
        else t.job m = some { v.newJob m 0x61 tmo with arg := b2n (flash.first && flash.second), axes := [value.toNat] } ∧
          t.owned m = true ∧ queued t (confOps m b flash.first c ++ if flash.first then confOps m (!b) flash.second c else [])
      | some j => if v.taskRuns m then (if v.jobLate j then t.answered m 0xFD else t.owned m = true ∧ t.job m = some j)
        else if j.arg = 0 then t.answered m 0xC
        else t.answered m 0 ∧ (v.fio.heldBits = [] → (v.noted Reg.SAF_CONFIRM).upd = 0 →
          t.reg Reg.SAF_CONFIRM = BitVec.ofNat 32 (j.axes.headD 0))) ∧
    (∀ cmd, s.takes m 0x62 len tmo → Served (exec (.safetyCmd m cmd) s) m 0x62 len fun t => t.answered m 0 ∧
      (cmd.val = 0 → t.saf.runreq = true) ∧
      (v.fio.heldBits = [] → v.saf.heldReq = false →
        (cmd.val = 1 → v.safState = 0 → v.huskOn = true → t.safState = 2 ∧ t.rf Reg.SAF_REQ 1 0 = 0) ∧
        (cmd.val = 2 → v.safState = 2 → t.safState = 0 ∧ t.rf Reg.SAF_REQ 1 0 = 0))) ∧
    (∀ seq : Word, s.takes m 0x70 len tmo → Served (exec (.evlRead m seq) s) m 0x70 len fun t =>
      let d := seqDist seq.toNat v.wseq
      let r := readRecords 7 (if 16383 < d ∧ d < 2 ^ 31 then (v.wseq + 2 ^ 32 - 16383) % 2 ^ 32 else seq.toNat) v
      if r.1.2 = true ∧ m.val ≠ 31 then t.owned m = true ∧ (v.stage = 3 → t.stage = 4)
      else t.returned m 0x70 (r.1.1 ++ [v.wseq])) ∧
    (∀ ofs data flashOk, s.takes m 0x80 len tmo → Served (exec (.fwWrite m ofs data flashOk) s) m 0x80 len fun t =>
      match v.job m with
      | none => if 232 < data.length then t.answered m 2
        else if 0x200000 < ofs.toNat + data.length then t.answered m 3
        else t.job m = some { v.newJob m 0x80 tmo with arg := b2n flashOk } ∧ t.owned m = true ∧ ∃ ops, queued t ops ∧
          ops.map (fun o => (o.erase, o.addr, o.bytes)) = (if ofs.toNat = 0 then [(true, v.inactiveSlot, [])] else []) ++
            if flashOk then [(false, v.inactiveSlot + ofs.toNat, data.map (·.toNat))] else []
      | some j => if v.taskRuns m then (if v.jobLate j then t.answered m 0xFD else t.owned m = true ∧ t.job m = some j)
        else t.answered m (if j.arg = 0 then 0xC else 0)) ∧
    (∀ img, s.takes m 0x81 len tmo → Served (exec (.fwVerify m img) s) m 0x81 len fun t =>
      match img with
      | none => t.answered m 0xC
      | some i => let c := v.imgCause (i.map (·.toNat))
        if c ≠ 0 then t.answered m 0xB ∧ t.rawBytes (mbAddr m 10) 2 = c
        else t.returned m 0x81 [b2n (v.rb Reg.HIF_BOOT 3 || v.nextBoot (i.map (·.toNat)))]) ∧
    (s.takes m 0x82 len tmo → Served (exec (.fwCommit m) s) m 0x82 len fun t => t.answered m 0 ∧
      v.boot.svn ≤ t.svnCount ∧ v.svnCount ≤ t.svnCount ∧ t.rf Reg.HIF_BOOT 18 12 = t.svnCount % 128) ∧
    (∀ slot : Fin 4, s.takes m 0x83 len tmo → Served (exec (.keyRevoke m slot) s) m 0x83 len fun t =>
      if v.rf Reg.HIF_BOOT 1 0 = slot.val then t.answered m 3 ∧ t.boot = v.boot
      else t.answered m 0 ∧ t.keysRevoked.testBit slot = true) ∧
    (∀ w, s.takes m 0x90 len tmo → Served (exec (.memRepair m w) s) m 0x90 len fun t => t.answered m 0 ∧
      let p := fld w 21 16
      let key := p * 256 + fld w 15 12 * 16 + fld w 10 8
      if 55 < p ∨ 9 < fld w 15 12 ∨ v.memDone (memOfPart p) = false ∨
          2 ≤ v.rf (Reg.MEM_REP p) 5 4 + v.rf (Reg.MEM_REP p) 7 6 ∨ key ∈ v.mi.replaced
      then t.rb Reg.MEM_ERR 28 = true ∧ t.mi.replaced = v.mi.replaced
      else t.mi.replaced = key :: v.mi.replaced ∧ t.rf (Reg.MEM_REP p) 7 6 = v.rf (Reg.MEM_REP p) 7 6 + 1) ∧
    (∀ tgt : Fin 4, s.takes m 0xA0 len tmo → Served (exec (.glPower m tgt) s) m 0xA0 len fun t =>
      t.rf Reg.PCR_PSTATE 1 0 = tgt.val ∧
      if v.stateRefused tgt then t.answered m 4 ∧ t.rb Reg.PCR_ERR 1 = true
      else t.answered m 0 ∧ (tgt.val ≠ v.cur → t.pcr.trans = some (v.cur, tgt.val) ∧ t.cur = 4))

/-- The boot ROM boots the better of two images or waits for the host, stores chunks and starts a loaded image (R422, R424, R425, R426, R427, R461). That a bad word of the loaded body fails LOAD_GO with cause 6, and that the header comes as an operand, are the model's reading (log entry 136); bytes beyond an image's end and an ENTRY outside its body are entry 135. -/
def Obligations.BootRomStartsImages : Prop :=
  ∀ s : State, s.cpuOn = true → s.hostOn = true →
    (s.stage = 0 → ∀ a b, Answers (exec (.imageBoot a b) s) fun t =>
      let ca := s.slotCause (a.map (·.map (·.toNat)))
      let cb := s.slotCause (b.map (·.map (·.toNat)))
      t.rf Reg.HIF_BOOT 23 20 = ca ∧ t.rf Reg.HIF_BOOT 27 24 = cb ∧ t.stage = (if ca = 0 ∨ cb = 0 then 2 else 1) ∧
      (ca = 0 → cb ≠ 0 → t.rb Reg.HIF_BOOT 2 = false) ∧ (cb = 0 → ca ≠ 0 → t.rb Reg.HIF_BOOT 2 = true) ∧
      ∀ x y, a = some x → b = some y → ca = 0 → cb = 0 →
        let p := x.map (·.toNat)
        let q := y.map (·.toNat)
        t.rb Reg.HIF_BOOT 2 = decide (imgSvn p < imgSvn q ∨ imgSvn p = imgSvn q ∧ imgBuild p < imgBuild q)) ∧
    (s.owned 0 = true → s.stage = 1 →
      (∀ (ofs : BitVec 32) (data : List (BitVec 8)) w0 w1, (mbWord 0 0 s).1 = some w0 → w0 % 65536 = 0xF00 →
        (mbWord 0 4 (mbWord 0 0 s).2).1 = some w1 → Answers (exec (.loadChunk ofs data) s) fun t =>
        let len := w1 % 65536
        (len < 4 ∨ 240 < len → t.answered 0 2) ∧
        (4 ≤ len → len ≤ 240 → (mbPayload 0 0 ((len + 3) / 4) (mbWord 0 4 (mbWord 0 0 s).2).2).1.map (·.take len) =
            some ((List.range 4).map (wordByte ofs.toNat) ++ data.map (·.toNat)) →
          t.answered 0 0 ∧ ofs.toNat + data.length ≤ t.boot.loaded ∧ ∀ i, i < data.length →
            memBase 0 + ofs.toNat + i < barBase → t.byteAt (memBase 0 + ofs.toNat + i) = data.getD i 0)) ∧
      (∀ header w0 w1, (mbWord 0 0 s).1 = some w0 → w0 % 65536 = 0xF01 →
        (mbWord 0 4 (mbWord 0 0 s).2).1 = some w1 → Answers (exec (.loadGo header) s) fun t =>
        let u := (mbWord 0 4 (mbWord 0 0 s).2).2
        let hdr := imgBytes (header.map (·.toNat)) 0 256
        if u.headCause hdr ≠ 0 then t.answered 0 0xB ∧ t.rawBytes (mbAddr 0 10) 2 = u.headCause hdr ∧ t.stage = 1
        else match tcmBody (imgLen hdr / 8) (memBase 0) u with
        | (none, _) => t.answered 0 0xB ∧ t.stage = 1
        | (some body, w) => if w.imgCause (hdr ++ body) ≠ 0 then t.answered 0 0xB ∧ t.stage = 1
            else t.answered 0 0 ∧ t.stage = 2 ∧ t.rb Reg.HIF_BOOT 3 = true))

/-- The recorder takes one event per sysclk as a record, a suppression or a loss, and flushes in the background and by force (R423, R430, R431, R432, R433, R435, R436, R438, R439). That a record without a free slot is lost as any other, how FLUSHED and the erase ahead are timed, and that an erase ends by the next flush are the model's reading (log entries 143, 144). -/
def Obligations.RecorderAcceptsAndFlushes : Prop :=
  ∀ s : State,
    (s.live 1 = true → s.evl.acceptAt ≠ some s.sclk →
      (∀ e q, s.evl.queue = e :: q → s.evl.boot = none → s.evl.held = [] → s.evl.lostNow = 0 → s.memDone 6 = true →
        Answers (exec .eventAccept s) fun t =>
          let b := budgetOf (budgetKey e) s.evl.budgets
          let a := memBase 6 + 32 * (s.wseq % 16384)
          t.evl.queue = q ∧ t.evl.acceptAt = some s.sclk ∧
          if e.code / 1024 ≤ 0x1D ∧ s.budgetMax e.cls ≤ b.used then
            t.mem = s.mem ∧ t.wseq = s.wseq ∧ budgetOf (budgetKey e) t.evl.budgets = { b with key := budgetKey e, supp := b.supp + 1 }
          else if s.slotsFree < 2 then t.mem = s.mem ∧ t.wseq = s.wseq ∧ t.evl.lostNow = 1 ∧
            t.rf Reg.EVL_LOST 15 0 = min (s.rf Reg.EVL_LOST 15 0 + 1) 65535
          else t.wseq = (s.wseq + 1) % 2 ^ 32 ∧ t.rawBytes a 4 = s.wseq ∧ t.rawBytes (a + 4) 2 = e.code % 65536 ∧
            t.rawBytes (a + 6) 1 = e.cls % 4 ∧ t.rawBytes (a + 7) 1 = e.inst % 256 ∧ t.rawBytes (a + 8) 4 = e.arg0 % 2 ^ 32 ∧
            t.rawBytes (a + 12) 4 = e.arg1 % 2 ^ 32 ∧ t.rawBytes (a + 16) 8 = e.ns % 2 ^ 64 ∧
            t.rawBytes (a + 24) 4 = e.cyc % 2 ^ 32 ∧ t.rawBytes (a + 28) 2 = min b.supp 65535 ∧
            t.rawBytes (a + 30) 2 = s.wseq % 65536 ∧ ∀ x, x / 32 ≠ a / 32 → t.byteAt x = s.byteAt x) ∧
      (∀ e q, s.evl.queue = e :: q → s.memDone 6 = false → Answers (exec .eventAccept s) fun t =>
        t.evl.queue = q ∧ t.mem = s.mem ∧
        if s.evl.held.length < 16 then t.evl.held = s.evl.held ++ [e]
        else t.evl.held = s.evl.held ∧ t.rf Reg.EVL_LOST 31 16 = min (s.rf Reg.EVL_LOST 31 16 + 1) 65535)) ∧
    (s.live 1 = true → s.memDone 6 = true → s.af Reg.EVL_RL 7 0 * 800000 ≤ s.time.tick - s.evl.winStart →
      Answers (exec .rateWindowEnd s) fun t => t.evl.budgets = [] ∧ t.evl.winStart =
          s.evl.winStart + (s.time.tick - s.evl.winStart) / (s.af Reg.EVL_RL 7 0 * 800000) * (s.af Reg.EVL_RL 7 0 * 800000) ∧
        ((∀ b ∈ s.evl.budgets, b.supp = 0) → s.evl.boot = none → s.evl.held = [] → s.evl.lostNow = 0 →
          t.mem = s.mem ∧ t.wseq = s.wseq) ∧
        (∀ c, s.evl.boot = some c → 2 ≤ s.slotsFree → t.evl.boot = none ∧
          t.rawBytes (memBase 6 + 32 * (s.wseq % 16384)) 4 = s.wseq ∧
          t.rawBytes (memBase 6 + 32 * (s.wseq % 16384) + 4) 2 = 0x7800)) ∧
    (s.backgroundDue = true → Answers (exec .backgroundFlush s) fun t =>
      t.rb Reg.EVL_STAT 0 = true ∧ t.rb Reg.HIF_FL_STAT 28 = true ∧ t.evl.forced = none ∧ (s.evl.lostNow = 0 → t.wseq = s.wseq) ∧
      (s.ab Reg.EVL_CFG 1 = false → s.rb Reg.PCR_SUP_STAT 0 = false → t.fseq = s.wseq)) ∧
    (∀ data, s.hostOn = true → s.domOn 1 = true → s.hif.flash = none → s.rb Reg.HIF_FL_STAT 28 = true → s.evl.forced = none →
      Answers (exec (.flashDone data) s) fun t => t.rb Reg.EVL_STAT 0 = false ∧ t.mem = s.mem ∧
        (s.evl.eraseDue = [] → t.rb Reg.HIF_FL_STAT 28 = false ∧ t.evl.erasing = (s.evl.erasing && s.rb Reg.EVL_STAT 2) ∧
          t.hif.flash = s.hif.flashWait.or s.hif.flashTasks.head? ∧ t.hif.flashWait = none ∧ t.outs = s.outs) ∧
        (∀ n ns, s.evl.eraseDue = n :: ns → s.rb Reg.HIF_FL_STAT 31 = false → s.rb Reg.EVL_STAT 2 = false →
          t.evl.erasing = true ∧ t.evl.eraseAt = n ∧ t.evl.eraseDue = ns ∧ t.rb Reg.HIF_FL_STAT 28 = true ∧ t.hif.flash = none ∧
          t.outs = s.outs ++ if s.pinsTaken then [] else [.flashErase (s.af Reg.EVL_FLBASE 31 0 + 32 * n)])) ∧
    (s.cpuOn = true → Answers (exec .evlFlush s) fun t =>
      if s.flen = true ∧ s.rb Reg.EVL_STAT 3 = false then
        (∃ n, t.evl.forced = some (s.wseq, n) ∧ (s.evl.forced = none → n = s.time.tick)) ∧ t.rf Reg.EVL_STAT 1 0 = 3 ∧
        (s.rb Reg.HIF_FL_STAT 31 = false → t.rb Reg.HIF_FL_STAT 28 = true) ∧
        t.outs = s.outs ++ (if s.evl.erasing && !(s.rb Reg.EVL_STAT 2) && !s.pinsTaken then [.flashSuspend] else [])
      else t = settle s) ∧
    (∀ q n, s.live 1 = true → s.rb Reg.HIF_FL_STAT 28 = true → s.memDone 6 = true → s.evl.forced = some (q, n) → s.rb Reg.EVL_STAT 3 = false →
      s.ab Reg.EVL_CFG 1 = false → Answers (exec .flushComplete s) fun t => t.evl.forced = none ∧
        (s.rb Reg.PCR_SUP_STAT 0 = false → s.evl.boot = none → s.evl.held = [] → s.evl.lostNow = 0 → 2 ≤ s.slotsFree →
          t.fseq = t.wseq) ∧
        t.rf Reg.EVL_STAT 1 0 = 0 ∧ t.rb Reg.HIF_FL_STAT 28 = t.eraseRuns ∧
        t.hif.flashWait = (if t.eraseRuns then s.hif.flashWait else none) ∧
        (t.eraseRuns = false → s.hif.flashWait.isSome = true → t.hif.flash = s.hif.flashWait) ∧
        (s.rb Reg.PCR_SUP_STAT 0 = false → t.rb Reg.EVL_STAT 2 = false)) ∧
    (∀ w : Word, s.cpuOn = true → Answers (exec (.fwevGo w) s) fun t => t.reg Reg.EVL_FWEV_CTL = w &&& 0x0FFC03FF ∧
      t.mem = s.mem ∧ (s.evl.queue.length < 32 → ∃ e ∈ t.evl.queue, e.code = 0x1F * 1024 + fld w 9 0 ∧ e.cls = fld w 27 26 ∧
        e.inst = fld w 25 18 ∧ e.arg0 = (s.reg Reg.EVL_FWEV_A0).toNat ∧ e.arg1 = (s.reg Reg.EVL_FWEV_A1).toNat))

/-- A buffer slot that reads uncorrectable in a flush goes to flash as RECBAD with the SEQ expected for it (R440). -/
def Obligations.RecbadForABadSlot : Prop :=
  ∀ (k : Nat) (s : State), let bad := fun (j : Nat) =>
      ∃ i, i < 4 ∧ (s.decodeAt (memBase 6 + 32 * ((s.fseq + j) % 2 ^ 32 % 16384) + 8 * i)).ok = false
    let recbad := fun (t : Machine.State) => ∃ l a ws, t.outs = s.outs ++ l ∧ .flashProg a ws ∈ l ∧ ws.length = 4 ∧
      ws.getD 0 0 % 2 ^ 32 = (s.fseq + k) % 2 ^ 32 ∧ ws.getD 0 0 / 2 ^ 32 % 65536 = 0x7803 ∧
      (s.rf Reg.MEM_ERR 7 0 = 0 → s.rf Reg.MEM_ERR 23 16 = 0 → s.evl.boot = none → s.evl.held = [] → s.evl.lostNow = 0 →
        (s.decodeAt (memBase 6 + 32 * (s.wseq % 16384))).ok = true → t.rf Reg.MEM_ELOG 27 24 = 10)
    k < s.unflushed → bad k → s.flen = true → s.live 1 = true → s.pinsTaken = false →
    s.rb Reg.PCR_SUP_STAT 0 = false ∨ (s.sectorWaits = false ∧ s.rf Reg.EVL_FLWP 31 0 % 128 + s.unflushed ≤ 128) →
    s.ab Reg.EVL_CFG 1 = false ∨ s.rf Reg.EVL_FLWP 31 0 + s.unflushed ≤ s.af Reg.EVL_FLLEN 31 0 →
    (s.backgroundDue = true → Answers (exec .backgroundFlush s) recbad) ∧
    (s.rb Reg.EVL_STAT 3 = false → s.rb Reg.HIF_FL_STAT 28 = true → s.memDone 6 = true → s.evl.forced.isSome = true →
      Answers (exec .flushComplete s) recbad)

/-- State requests, transitions, wakes, domain switching, voltage, clocks and the VDD_IO warning (R446, R448, R449, R450, R452, R455, R456, R457, R459, R466). When PD_CTL acts and which domains a reset leaves on, that TGT keeps a refused target, which wakes abort an entry and by which commands they come, when FIXC is requested and how evaluations are counted, and a request of IDLE with a network running are the model's reading (log entries 146, 147, 148, 149, 207, 225, 226). -/
def Obligations.PowerStatesDomainsAndClocks : Prop :=
  ∀ s : State,
    (s.cpuOn = true → ∀ tgt : Fin 4, Answers (exec (.powerStateRequest tgt) s) fun t =>
      t.rf Reg.PCR_PSTATE 1 0 = tgt.val ∧
      if s.cur = 4 ∨ (tgt.val ≠ 0 ∧ s.csState ≠ 0 ∧ (tgt.val = 1 → s.cur ≠ 1 ∧ s.cur ≠ 2)) ∨ (s.cur = 3 ∧ 2 ≤ tgt.val) ∨ (tgt.val = 3 ∧ (s.rf Reg.FIO_OUT 7 0 ≠ 0 ∨ s.rf Reg.SAF_STATE 17 16 ≠ 0 ∨
          s.rb Reg.PCR_CLK_STAT 5 = true ∨ (List.range 4).any (fun c => s.rb (Reg.HIF_DMA_STAT c) 31) = true))
      then t.rb Reg.PCR_ERR 1 = true ∧ t.pcr = s.pcr ∧ t.cur = s.cur
      else if tgt.val = s.cur then t.pcr = s.pcr ∧ t.cur = s.cur
      else t.pcr.trans = some (s.cur, tgt.val) ∧ t.cur = 4 ∧ (2 ≤ tgt.val → t.pcr.code = 10 ∧
        t.pcr.heldCode = if s.cur < 2 then s.pcr.code else s.pcr.heldCode)) ∧
    (∀ src tgt, s.pcr.trans = some (src, tgt) → tgt ≤ 3 → s.frozen = false → (tgt = 3 → s.evl.forced = none) →
      Answers (exec .transitionComplete s) fun t => t.cur = tgt ∧ t.pcr.trans = none ∧
        (∀ d, 1 ≤ d → d ≤ 9 → t.domOn d = domWanted tgt (if tgt = 0 then s.rf Reg.PCR_PD_CTL 9 0 else s.pcr.pdAct) d) ∧
        (tgt = 3 → t.sysOn = false ∧ t.syn.stopped = true) ∧ (src = 3 → tgt ≠ 3 → t.pcr.procReset = some 0x20) ∧
        t.pcr.code = if 2 ≤ src ∧ tgt < 2 ∧ s.ab Reg.PCR_AVS_CTL 31 = false then s.af Reg.PCR_AVS_CTL 23 16 else s.pcr.code) ∧
    (∀ src : Fin 4, s.wakes src = false → (s.wakesToo src = true → Answers (exec (.pcrWake src) s) fun t =>
        t.rb Reg.PCR_WAKE_STAT src = true ∧ t.pcr = s.pcr ∧ t.cur = s.cur) ∧
      (s.wakesToo src = false → s.wakeActs src = true → Answers (exec (.pcrWake src) s) fun t =>
        t.regs = (settle s).regs ∧ t.pcr.heldWakes = s.pcr.heldWakes ++ [src.val])) ∧
    (∀ src : Fin 4, s.wakes src = true → Answers (exec (.pcrWake src) s) fun t => t.rb Reg.PCR_WAKE_STAT src = true ∧
      (s.pcr.trans = none → t.pcr.trans = some (s.cur, 1) ∧ t.cur = 4) ∧
      ∀ a b, s.pcr.trans = some (a, b) → a < b → b ≤ 3 → t.pcr.trans = none ∧ t.cur = a ∧ t.rb Reg.PCR_ERR 2 = true) ∧
    (s.cpuOn = true → ∀ w : Word, Answers (exec (.pdCtlWrite w) s) fun t =>
      let stays := fun d => s.rb Reg.PCR_PD_CTL d && s.pdRefused d
      (∀ d ∈ [2, 3, 4, 5, 6, 8, 9], t.rb Reg.PCR_PD_CTL d = (bit w d || stays d) ∧
        (t.domOn d = if s.pdActs then bit w d || stays d else s.domOn d) ∧ (stays d = true → bit w d = false → t.rb Reg.PCR_ERR 0 = true)) ∧
      ∀ d ∈ [0, 1, 7], t.rb Reg.PCR_PD_CTL d = true) ∧
    (s.aoKeeps = true → Answers (exec .alwaysOnRefresh s) fun t =>
      let k := kvGet (fun _ => 0) s.mi.scrubPos 41
      kvGet (fun _ => 0) t.mi.scrubPos 41 = (if s.ab (Reg.MEM_SCRUB 7) 31 = false then k else if k + 1 = 4096 then 0 else k + 1) ∧
        (s.ab (Reg.MEM_SCRUB 7) 31 = false → t.mem = s.mem) ∧ (s.mem.wf = true → t.mem.wf = true)) ∧
    (s.rb Reg.PCR_CLK_STAT 0 = true → s.rb Reg.PCR_CLK_STAT 5 = false → Answers (exec .aoClockFailure s) fun t => t.rb Reg.PCR_CLK_STAT 5 = true ∧
      t.rb Reg.PCR_CLK_STAT 1 = false ∧ t.mem = s.mem ∧
      if s.frozen then t.pcr.heldAox = true ∧ t.rb Reg.PCR_ERR 5 = s.rb Reg.PCR_ERR 5 else t.rb Reg.PCR_ERR 5 = true) ∧
    (∀ mw : BitVec 8, s.sysOn = true → s.ab Reg.PCR_AVS_CTL 31 = true → Answers (exec (.avsEvaluate mw) s) fun t =>
      let n := if s.af Reg.PCR_AVS_CTL 15 8 < mw.toNat then s.pcr.aboveHi + 1 else 0
      t.rf Reg.PCR_AVS_STAT 23 16 = mw.toNat ∧ 10 ≤ t.pcr.code ∧ t.pcr.code ≤ 50 ∧
      if mw.toNat < 8 then t.pcr.code = 50 ∧ t.rb Reg.PCR_ERR 4 = true ∧ t.pcr.aboveHi = 0
      else if mw.toNat < s.af Reg.PCR_AVS_CTL 7 0 then t.pcr.code = max 10 (min 50 (s.pcr.code + 2)) ∧ t.pcr.aboveHi = 0
      else if 16 ≤ n then t.pcr.code = max 10 (min 50 (s.pcr.code - 1)) ∧ t.pcr.aboveHi = 0
      else t.pcr.code = max 10 (min 50 s.pcr.code) ∧ t.pcr.aboveHi = n) ∧
    (∀ acks : BitVec 3, s.sysOn = true → Answers (exec (.vreqFrame acks) s) fun t =>
      (s.pinsTaken = false → t.outs = s.outs ++ List.replicate (if acks.getLsbD 0 then 1 else if acks.getLsbD 1 then 2 else 3) (.vreq (vreqBits s.pcr.code))) ∧
      if acks = 0 then t.rb Reg.PCR_ERR 3 = true ∧ t.reg Reg.PCR_AVS_STAT = s.reg Reg.PCR_AVS_STAT
      else t.rf Reg.PCR_AVS_STAT 7 0 = s.pcr.code % 256 ∧ t.reg Reg.PCR_ERR = s.reg Reg.PCR_ERR) ∧
    (s.rb Reg.PCR_SUP_STAT 0 = false → Answers (exec .supplyWarning s) fun t => t.rb Reg.PCR_SUP_STAT 0 = true ∧
      t.rb Reg.PCR_SUP_STAT 8 = true ∧ t.mem = s.mem ∧
      if s.sysOn then .supply ∈ t.fwIrq ∧ (s.flen = true → s.rb Reg.EVL_STAT 3 = false → t.evl.forced.isSome = true)
      else s.pcr.trans = none → t.pcr.heldViow = true) ∧
    (s.rb Reg.PCR_SUP_STAT 0 = true → Answers (exec .supplyWarningCleared s) fun t => t.rb Reg.PCR_SUP_STAT 0 = false ∧
      t.rb Reg.PCR_SUP_STAT 8 = s.rb Reg.PCR_SUP_STAT 8 ∧ t.mem = s.mem)

/-- What each reset and its causes leave, and the watchdog (R376, R405, R455, R459, R460, R461, R462, R463, R464, R465, R472, R495). That a processor reset completes mailboxes without a strike, which raw values outlive a reset, the digest of a kept image and where CONFIRM comes from are the model's reading (log entries 127, 133, 150, 152), and a warning held without a clock is entry 151. -/
def Obligations.ResetsAndTheWatchdog : Prop :=
  ∀ s : State,
    let power := fun (t : Machine.State) => t.rf Reg.PCR_RST_CAUSE 7 0 = 1 ∧ t.pcr.inReset = true ∧ t.mem = Machine.State.reset.mem ∧
      t.time.ns = 0 ∧ t.time.tick = 0 ∧ t.boot.svnBurn = s.boot.svnBurn ∧ t.boot.revBurn = s.boot.revBurn ∧ t.boot.confA = s.boot.confA ∧ t.boot.confB = s.boot.confB ∧
      ∀ a, marrowReg a = false → t.reg a = Machine.State.reset.reg a
    let system := fun (cause : Nat) (t : Machine.State) => t.rf Reg.PCR_RST_CAUSE 7 0 = cause ∧ t.pcr.inReset = true ∧
      t.evl.boot = some cause ∧ t.reg Reg.PCR_PSTATE = 0 ∧ (∀ d, 1 ≤ d → d ≤ 9 → t.domOn d = false) ∧
      (∀ m, m < 8 → t.memDone m = false) ∧ t.boot = s.boot ∧ t.pcr.kickAt = s.pcr.kickAt ∧ t.pcr.strikes = s.pcr.strikes ∧
      (2 ≤ s.sleepState → t.pcr.code = s.fixedCode s.pcr.heldCode)
    Answers (exec .powerOnReset s) power ∧ Answers (exec .systemReset s) (system 2) ∧
    (∀ rail : Fin 6, Answers (exec (.supplyReset rail) s)
      (if rail.val = 5 then power else system (if rail.val = 0 then 3 else 4))) ∧
    (Answers (exec .crystalFailure s) fun t => system 5 t ∧ t.rb Reg.PCR_CLK_STAT 0 = false) ∧
    (∀ n, s.pcr.awaitStage = some n → s.sysOn = true → 400000000 ≤ s.time.tick - n →
      Answers (exec .restartTimeout s) (system 8)) ∧
    (∀ pins : Straps, s.pcr.inReset = true → Answers (exec (.resetRelease pins) s) fun t => t.reg Reg.PCR_PD_STAT = 0x83 ∧
      t.pcr.inReset = false ∧ t.stage = 0 ∧ t.pcr.kickAt = s.time.tick ∧ t.dbg.ballSeen = (!pins.freeze) ∧
      t.hostSel = pins.hostSel ∧ t.ownId = pins.cid.val ∧ t.pcr.heldViow = false ∧ (s.pcr.heldViow = true → .supply ∈ t.fwIrq)) ∧
    (s.cpuOn = true →
      (∀ key, Answers (exec (.rstSys key) s) fun t =>
        if key = 0x9A5D then system 6 t else t.pcr = s.pcr ∧ (s.evl.queue.length < 32 → t.regs = (settle s).regs)) ∧
      (∀ key, Answers (exec (.rstCpu key) s) fun t => (s.evl.queue.length < 32 → t.regs = (settle s).regs) ∧
        if key = 0x9A5D then t.pcr.procReset = some (s.pcr.procReset.getD 0x13) else t.pcr = s.pcr) ∧
      ∀ key, Answers (exec (.wdtKick key) s) fun t =>
        if key = 0x6B1D ∧ ¬ (s.domOn 7 = true ∧ s.stage = 4) then t.pcr = { s.pcr with kickAt := s.time.tick } else t.pcr = s.pcr) ∧
    (∀ c, s.pcr.procReset = some c → c < 256 → s.live 1 = true → Answers (exec .processorReset s) fun t =>
      if 2 ≤ (s.pcr.prAt.filter (fun n => s.mtick < n + 8000000000)).length then system 8 t
      else t.rf Reg.PCR_RST_CAUSE 7 0 = c ∧ t.rf Reg.PCR_RST_CAUSE 23 16 = min (s.rf Reg.PCR_RST_CAUSE 23 16 + 1) 255 ∧
        t.pcr.procReset = none ∧ t.pcr.strikes = s.pcr.strikes ∧ t.pcr.awaitStage = some s.time.tick ∧ t.hif.queue = [] ∧ t.evl.boot = some c ∧
        fld t.hif.hstate 15 8 = c ∧ (t.stage = 0 ∨ t.stage = 2) ∧
        (t.stage = 2 → s.fio.heldBits = [] → t.reg Reg.SAF_CONFIRM =
          ((confChosen s.boot.confA s.boot.confB).map (·.value)).getD 0) ∧
        (s.domOn 7 = true → ∀ m, m < 32 → t.owned m = false ∧ (s.owned m = true → t.hif.hdone.testBit m = true))) ∧
    (s.live 1 = true → s.kickLate = true ∨ s.pcr.struck = true →
      Answers (exec .watchdogExpiry s) fun t => t.pcr.procReset = some (s.pcr.procReset.getD (if s.kickLate then 0x11 else 0x12)) ∧
        t.pcr.kickAt = s.time.tick ∧ t.pcr.strikes = s.pcr.strikes ∧ t.pcr.struck = false)

/-- The instructions of the debug port, its accesses, and the request, stop and release of a freeze (R467, R468, R469, R470, R471, R472, R473, R475). What the boundary cells hold is free (log entry 14), and so is the ADDR shifted in with READ_NEXT, that accesses wait in order being the model's choice (entry 227); STS of an access, what a stop completes and drops and what a resume does to links and records are its reading (entries 153, 154, 155), as is that an access waits while reset is held (entry 241). -/
def Obligations.DebugPortAndFreeze : Prop :=
  ∀ s : State, s.tapOn = true →
    let ended := fun (t : Machine.State) => t.frozen = false ∧ (s.frozen = true → t.rb Reg.DBG_STAT 3 = true ∧
      t.syn.stopped = false ∧ t.csState = 0 ∧ (∀ n, n < 64 → (t.ctx n).live = false) ∧ (∀ p, p < 4 → (t.pod p).queue = []) ∧
      t.reg Reg.DBG_FRZ_DUR = BitVec.ofNat 32 (min ((s.time.mono - s.dbg.stopAt) / 1562500) (2 ^ 32 - 1)))
    let free := s.csState = 0 ∨ s.frozen = true
    let out := fun (os : List Out) => if s.pcr.inReset then s.outs else s.outs ++ os
    let same := fun (t : Machine.State) => t.regs = (settle s).regs ∧ t.mem = s.mem
    (Answers (exec .tapReset s) fun t => t.dbg.ir = 2 ∧ t.outs = s.outs ∧ same t) ∧
    (Answers (exec .tapBypass s) fun t => t.dbg.ir = 0x1F ∧ t.outs = s.outs ∧ same t) ∧
    (Answers (exec .tapIdcode s) fun t => t.dbg.ir = 2 ∧ t.outs = out [.tdo 0x125603CB] ∧ same t) ∧
    (Answers (exec .tapSamplePreload s) fun t => t.dbg.ir = 1 ∧ (∃ v, t.outs = out [.tdo v]) ∧ same t) ∧
    (Answers (exec .tapExtest s) fun t => same t ∧ (free → t.irNow = 0 ∧
        ∃ v, t.outs = out [.pins (some s.dbg.bound), .tdo v, .pins (some t.dbg.bound)]) ∧
      (¬ free → t.irNow = 0x1F ∧ t.outs = s.outs)) ∧
    (Answers (exec .tapHighz s) fun t => same t ∧ (free → t.irNow = 0x0A ∧ t.outs = out [.pins none]) ∧
      (¬ free → t.irNow = 0x1F ∧ t.outs = s.outs)) ∧
    (Answers (exec .tapClamp s) fun t => same t ∧ (free → t.irNow = 0x0B ∧ t.outs = out [.pins (some s.dbg.bound)]) ∧
      (¬ free → t.irNow = 0x1F ∧ t.outs = s.outs)) ∧
    (Answers (exec .tapSysrst s) fun t => if Config.dbgLock then t.dbg.ir = 0x1F ∧ same t
      else t.dbg.ir = 0x0C ∧ t.rf Reg.PCR_RST_CAUSE 7 0 = 7 ∧ t.pcr.inReset = true) ∧
    (Answers (exec .dbgacc s) fun t => if Config.dbgLock then same t ∧ t.dbg.ir = 0x1F ∧ t.outs = s.outs
      else t.dbg.ir = 8 ∧ (s.pcr.inReset = false → t.outs.getLast? = some (.tdo t.dbg.acc)) ∧
        (s.dbg.waiting = [] → same t ∧ t.outs = out [.tdo s.dbg.acc])) ∧
    (∀ addr : Word, s.dbg.ir = 8 → Config.dbgLock = false → s.pcr.inReset = true → s.dbg.waiting = [] →
      Answers (exec (.dbgaccRead addr) s) fun t => same t ∧ t.outs = s.outs ∧ t.dbg.acc / 2 ^ 66 = 1 ∧
        t.dbg.waiting = [⟨1, addr.toNat / 4 * 4, 0⟩]) ∧
    (∀ (addr : Word) x xs, s.dbg.ir = 8 → Config.dbgLock = false → s.dbg.waiting = x :: xs → s.dest x.addr = .mem 7 → s.sysOn = true →
      (∀ j, j < 16 → s.slotOwner j ≠ 3) → Answers (exec (.dbgaccRead addr) s) fun t =>
        t.dbg.waiting = s.dbg.waiting ++ [⟨1, addr.toNat / 4 * 4, 0⟩] ∧ t.dbg.acc / 2 ^ 66 = 1 ∧ t.mem = s.mem) ∧
    (s.dbg.ir = 8 → s.dbg.waiting = [] → s.pcr.inReset = false →
      (∀ addr : Word, let a := addr.toNat / 4 * 4
        (Answers (exec (.dbgaccRead addr) s) fun t => if Config.dbgLock then t = settle s
          else t.outs = s.outs ++ [.tdo s.dbg.acc] ∧ (s.dest a ≠ .mem 7 ∨ s.le.writes = [] → t.mem = s.mem) ∧ t.dbg.acc / 2 ^ 64 % 4 = 1 ∧ t.dbg.acc / 2 ^ 32 % 2 ^ 32 = a ∧
            (s.dest a = .mem 7 → s.sysOn = true → (∀ j, j < 16 → s.slotOwner j ≠ 3) →
              t.dbg.acc / 2 ^ 66 = 1 ∧ t.dbg.waiting = [⟨1, a, 0⟩]) ∧
            (∀ k, s.dest a = .mem k → (k = 7 → s.sysOn = false) → (s.decodeAt a).out = .clean →
              t.dbg.acc % 2 ^ 32 = s.rawBytes a 4 ∧ t.dbg.acc / 2 ^ 66 = 0 ∧ same t) ∧
            (s.dest a = .hole → t.dbg.acc / 2 ^ 66 = 2)) ∧
        ∀ w, Answers (exec (.dbgaccWrite addr w) s) fun t => if Config.dbgLock then t = settle s
          else (s.outs ++ [.tdo s.dbg.acc]) <+: t.outs ∧ t.dbg.acc / 2 ^ 64 % 4 = 2 ∧ t.dbg.acc / 2 ^ 32 % 2 ^ 32 = a ∧
            (s.dest a = .mem 7 → s.sysOn = true → (∀ j, j < 16 → s.slotOwner j ≠ 3) → t.dbg.acc / 2 ^ 66 = 1 ∧
              t.mem = s.mem ∧ t.dbg.waiting = [⟨2, a, w⟩]) ∧
            (∀ k, s.dest a = .mem k → k ≠ 8 → (k = 7 → s.sysOn = false) → s.peaHit a = false → t.rawBytes a 4 = w.toNat ∧ t.dbg.acc / 2 ^ 66 = 0 ∧
              ∀ x, x / 8 ≠ a / 8 → t.byteAt x = s.byteAt x)) ∧
      (Answers (exec .dbgaccReadNext s) fun t => if Config.dbgLock then t = settle (useFree s)
        else let a := t.dbg.acc / 2 ^ 32 % 2 ^ 32
          a % 4 = 0 ∧ t.outs = s.outs ++ [.tdo s.dbg.acc] ∧ (s.dest a ≠ .mem 7 ∨ s.le.writes = [] → t.mem = s.mem) ∧
          t.dbg.acc / 2 ^ 64 % 4 = 3 ∧
          (∀ k, s.dest a = .mem k → (k = 7 → s.sysOn = false) → (s.decodeAt a).out = .clean →
            t.dbg.acc % 2 ^ 32 = (s.decodeAt a).half a ∧ t.dbg.acc / 2 ^ 66 = 0))) ∧
    (∀ hold, Answers (exec (.tapFrz hold) s) fun t => if Config.dbgLock then t.dbg.ir = 0x1F ∧ same t
      else t.dbg.ir = 9 ∧ t.rb Reg.DBG_STAT 2 = hold ∧ (hold = true → s.frozen = false → t.dbg.stopping = true)) ∧
    (s.ab Reg.DBG_CTL 0 = true → s.dbg.ballSeen = true → s.pcr.inReset = false → Answers (exec .freezeRequest s) fun t =>
      if Config.dbgLock then t = settle s
      else t.rb Reg.DBG_STAT 1 = true ∧ (s.frozen = false → t.dbg.stopping = true) ∧ t.mem = s.mem) ∧
    (s.dbg.stopping = true → s.frozen = false → s.pcr.inReset = false → s.cur ≤ 2 → Answers (exec .freezeStop s) fun t =>
      t.frozen = true ∧ t.sysOn = false ∧ t.dbg.stopAt = t.time.mono ∧ t.dbg.stopping = false ∧ t.syn.stopped = true ∧
      t.reg Reg.DBG_FRZ_TICK = BitVec.ofNat 32 t.time.tick ∧ t.reg Reg.DBG_FRZ_NS_LO = BitVec.ofNat 32 t.nsNow ∧
      t.reg Reg.DBG_FRZ_NS_HI = BitVec.ofNat 32 (t.nsNow / 2 ^ 32) ∧ t.reg Reg.DBG_FRZ_CYC_LO = BitVec.ofNat 32 t.cyc) ∧
    (Answers (exec (.freezeRelease true) s) fun t => t.rb Reg.DBG_STAT 1 = false ∧
      (s.rb Reg.DBG_STAT 2 = true → t.frozen = s.frozen) ∧
      (s.rb Reg.DBG_STAT 2 = false → ended t)) ∧
    (s.dbg.ir = 9 → Answers (exec (.freezeRelease false) s) fun t => if Config.dbgLock then t = settle s
      else t.rb Reg.DBG_STAT 2 = false ∧ (s.rb Reg.DBG_STAT 1 = true → t.frozen = s.frozen) ∧
        (s.rb Reg.DBG_STAT 1 = false → ended t))
end

