-- ==== Sys2Proof/Laws/Memory.lean ====
section
/-! SUPPORT. The memories: what reports leave alone, a byte read after a write, and the canonical form. -/

namespace Sys2Proof.Machine

variable {s : State}

/-! Reports change no memory. -/

@[simp] theorem incRf_mem {a hi lo : Nat} : (incRf a hi lo s).mem = s.mem := rfl

@[simp] theorem noteLost_mem : (noteLost s).mem = s.mem := rfl

theorem onlyIf_mem {c : Bool} {f : State → State} (h : (f s).mem = s.mem) : (onlyIf c f s).mem = s.mem := by
  cases c
  · rfl
  · exact h

@[simp] theorem queueEv_mem {e : Ev} : (queueEv e s).mem = s.mem := by
  unfold queueEv
  dsimp only
  rw [onlyIf_mem (by rfl)]

@[simp] theorem pushEv_mem {e : Ev} : (pushEv e s).mem = s.mem := by
  unfold pushEv
  split
  · rfl
  · exact queueEv_mem

@[simp] theorem event_mem {c k i a b : Nat} : (event c k i a b s).mem = s.mem := pushEv_mem

@[simp] theorem regEvent_mem {r g b c i a : Nat} : (regEvent r g b c i a s).mem = s.mem := pushEv_mem

@[simp] theorem flagEvent_mem {r g b c i a : Nat} : (flagEvent r g b c i a s).mem = s.mem := pushEv_mem

@[simp] theorem irq_mem {i : FwIrq} : (irq i s).mem = s.mem := by unfold irq; split <;> rfl

@[simp] theorem memErr_mem {b i : Nat} : (memErr b i s).mem = s.mem := by
  unfold memErr
  rw [onlyIf_mem irq_mem, flagEvent_mem]

@[simp] theorem memElog_mem {m g c a : Nat} {r : RdOut} : (memElog m g c a r s).mem = s.mem := by
  unfold memElog
  rw [onlyIf_mem]
  simp only [setReg_mem]

/-- R399: a read is logged and changes no memory. -/
@[simp] theorem logRead_mem {m g c a : Nat} {r : RdOut} : (logRead m g c a r s).mem = s.mem := by
  unfold logRead
  split
  · rfl
  · split
    · simp only [memErr_mem, incRf_mem, setReg_mem]
    · split <;> simp only [memErr_mem, incRf_mem, setReg_mem]
  · split <;> simp only [memErr_mem, incRf_mem, memElog_mem]
  · split <;> simp only [memErr_mem, incRf_mem, memElog_mem]

@[simp] theorem readWord_mem {g c a : Nat} : (readWord g c a s).2.mem = s.mem := by
  unfold readWord; split <;> simp

@[simp] theorem read32_mem {g c a : Nat} : (read32 g c a s).2.mem = s.mem := by simp [read32]

/-! Bytes. -/

theorem byteAt_congr {t : State} (h : t.mem = s.mem) (a : Nat) : t.byteAt a = s.byteAt a := by
  simp [State.byteAt, h]

theorem byteAt_putByte {a b : Nat} {v : Byte} (h : 0x40000 ≤ a) :
    (putByte a v s).byteAt b = if b = a then v else s.byteAt b := by
  unfold State.byteAt
  by_cases hb : b < 0x40000
  · have : b ≠ a := by omega
    simp [hb, this]
  · simp [hb, kvGet_kvPut]

theorem byteAt_putByte_other {a b : Nat} {v : Byte} (h : b ≠ a) : (putByte a v s).byteAt b = s.byteAt b := by
  simp [State.byteAt, kvGet_kvPut_other h]

@[simp] theorem byteAt_putChk {a b : Nat} {d : Byte × Byte} : (putChk a d s).byteAt b = s.byteAt b := rfl

@[simp] theorem chkAt_putChk {a b : Nat} {d : Byte × Byte} :
    (putChk a d s).chkAt b = if b / 8 = a / 8 then d else s.chkAt b := by
  simp [State.chkAt, kvGet_kvPut]

@[simp] theorem chkAt_putByte {a b : Nat} {v : Byte} : (putByte a v s).chkAt b = s.chkAt b := rfl

/-- Bytes apart from those stored keep their values. -/
theorem byteAt_putBytes_other {a v n b : Nat} (h : b < a ∨ a + n ≤ b) : (putBytes a v n s).byteAt b = s.byteAt b := by
  induction n generalizing a v s with
  | zero => rfl
  | succ n ih =>
    unfold putBytes
    rw [ih (by omega), byteAt_putByte_other (by omega)]

theorem chkAt_putBytes {a v n b : Nat} : (putBytes a v n s).chkAt b = s.chkAt b := by
  induction n generalizing a v s with
  | zero => rfl
  | succ n ih => unfold putBytes; rw [ih]; rfl

/-- A whole-word store leaves every other byte alone. -/
theorem byteAt_storeWord_other {a v b : Nat} {m : Bool} (h : b < a / 8 * 8 ∨ a / 8 * 8 + 8 ≤ b) :
    (storeWord a v m s).byteAt b = s.byteAt b := by
  unfold storeWord; rw [byteAt_putChk, byteAt_putBytes_other h]

/-! The canonical form. -/

theorem putByte_wf {a : Nat} {b : Byte} (h : s.mem.wf = true) : (putByte a b s).mem.wf = true := by
  simp only [MemSt.wf, Bool.and_eq_true, putByte_mem] at h ⊢
  exact ⟨kvPut_wf h.1, h.2⟩

theorem putChk_wf {a : Nat} {d : Byte × Byte} (h : s.mem.wf = true) : (putChk a d s).mem.wf = true := by
  simp only [MemSt.wf, Bool.and_eq_true, putChk_mem] at h ⊢
  exact ⟨h.1, kvPut_wf h.2⟩

theorem putBytes_wf {a v n : Nat} (h : s.mem.wf = true) : (putBytes a v n s).mem.wf = true := by
  induction n generalizing a v s with
  | zero => exact h
  | succ n ih => exact ih (putByte_wf h)

theorem storeWord_wf {a v : Nat} {m : Bool} (h : s.mem.wf = true) : (storeWord a v m s).mem.wf = true :=
  putChk_wf (putBytes_wf h)

theorem writeMasked_wf {a v m : Nat} {k : Bool} (h : s.mem.wf = true) : (writeMasked a v m k s).mem.wf = true := by
  unfold writeMasked
  split
  · exact storeWord_wf h
  · have h' : (readWord 11 0 a s).2.mem.wf = true := by rw [readWord_mem]; exact h
    exact storeWord_wf h'

theorem write32_wf {a v : Nat} {k : Bool} (h : s.mem.wf = true) : (write32 a v k s).mem.wf = true := by
  unfold write32; split <;> exact writeMasked_wf h

@[simp] theorem noteWord_mem {t a : Nat} : (noteWord t a s).mem = s.mem := rfl

theorem put32_wf {a v : Nat} {k : Bool} (h : s.mem.wf = true) : (put32 a v k s).mem.wf = true :=
  write32_wf (by rw [noteWord_mem]; exact h)

theorem write64_wf {a v : Nat} (h : s.mem.wf = true) : (write64 a v s).mem.wf = true :=
  storeWord_wf (by rw [noteWord_mem]; exact h)

theorem mergeSecond_wf {a v : Nat} {k : Bool} (h : s.mem.wf = true) : (mergeSecond a v k s).mem.wf = true :=
  storeWord_wf h

theorem write128_wf {a w0 w1 w2 w3 : Nat} (h : s.mem.wf = true) : (write128 a w0 w1 w2 w3 s).mem.wf = true :=
  write64_wf (write64_wf h)

theorem clearMem_wf {m : Nat} (h : s.mem.wf = true) : (clearMem m s).mem.wf = true := by
  simp only [MemSt.wf, Bool.and_eq_true, clearMem] at h ⊢
  exact ⟨kvFilter_wf _ h.1, kvFilter_wf _ h.2⟩

end Sys2Proof.Machine
end

