-- ==== Sys2Proof/Laws/PerInstr.lean ====
section
/-! SUPPORT. What the well-formedness of a command bounds, constructor by constructor. -/

namespace Sys2Proof.Laws.Bounds

/-- A well-formed command carries a frame of at most 64 payload words, whose ED stands within 4,096 wire bytes,
and names at least one byte lane (Tables 7-5 and 10-2, R8). -/
def Statement (i : Instr) : Prop :=
  i.wellFormed = true →
    (∀ f, i.frame? = some f → f.words.length ≤ 64 ∧ f.edAt < 4096) ∧ (∀ be, i.lanes? = some be → be ≠ 0)

/-- The same for any command. -/
theorem of_wellFormed (i : Instr) : Statement i := by
  intro h
  simp only [Instr.wellFormed, Bool.and_eq_true] at h
  obtain ⟨⟨hf, hl⟩, -⟩ := h
  constructor
  · intro f e
    rw [e] at hf
    simpa [Frame.wf] using hf
  · intro be e
    rw [e] at hl
    simpa [lanesWf] using hl

theorem cycleStart : Statement (.cycleStart) := of_wellFormed _
theorem commitCutoff : Statement (.commitCutoff) := of_wellFormed _
theorem cmtReq (blk : Fin 17) (w : Word) : Statement (.cmtReq blk w) := of_wellFormed _
theorem commitApplyIdle : Statement (.commitApplyIdle) := of_wellFormed _
theorem registerWrite (addr : Word) (be : BitVec 4) (w : Word) : Statement (.registerWrite addr be w) := of_wellFormed _
theorem rcFieldRead (addr : Word) (be : BitVec 4) : Statement (.rcFieldRead addr be) := of_wellFormed _
theorem processorAbort (addr : Word) (kind : AccessKind) (ordinary : Bool) : Statement (.processorAbort addr kind ordinary) := of_wellFormed _
theorem nop (pod pea ctx : Fin 4) : Statement (.nop pod pea ctx) := of_wellFormed _
theorem fma (pod pea ctx : Fin 4) : Statement (.fma pod pea ctx) := of_wellFormed _
theorem mul (pod pea ctx : Fin 4) : Statement (.mul pod pea ctx) := of_wellFormed _
theorem add (pod pea ctx : Fin 4) : Statement (.add pod pea ctx) := of_wellFormed _
theorem mov (pod pea ctx : Fin 4) : Statement (.mov pod pea ctx) := of_wellFormed _
theorem ldz (pod pea ctx : Fin 4) : Statement (.ldz pod pea ctx) := of_wellFormed _
theorem iadd (pod pea ctx : Fin 4) : Statement (.iadd pod pea ctx) := of_wellFormed _
theorem isub (pod pea ctx : Fin 4) : Statement (.isub pod pea ctx) := of_wellFormed _
theorem fmin (pod pea ctx : Fin 4) : Statement (.fmin pod pea ctx) := of_wellFormed _
theorem fmax (pod pea ctx : Fin 4) : Statement (.fmax pod pea ctx) := of_wellFormed _
theorem minx (pod pea ctx : Fin 4) : Statement (.minx pod pea ctx) := of_wellFormed _
theorem maxx (pod pea ctx : Fin 4) : Statement (.maxx pod pea ctx) := of_wellFormed _
theorem clt (pod pea ctx : Fin 4) : Statement (.clt pod pea ctx) := of_wellFormed _
theorem cle (pod pea ctx : Fin 4) : Statement (.cle pod pea ctx) := of_wellFormed _
theorem ceq (pod pea ctx : Fin 4) : Statement (.ceq pod pea ctx) := of_wellFormed _
theorem sel (pod pea ctx : Fin 4) : Statement (.sel pod pea ctx) := of_wellFormed _
theorem abs (pod pea ctx : Fin 4) : Statement (.abs pod pea ctx) := of_wellFormed _
theorem cvtfq (pod pea ctx : Fin 4) : Statement (.cvtfq pod pea ctx) := of_wellFormed _
theorem cvtqf (pod pea ctx : Fin 4) : Statement (.cvtqf pod pea ctx) := of_wellFormed _
theorem rcp (pod pea ctx : Fin 4) : Statement (.rcp pod pea ctx) := of_wellFormed _
theorem div (pod pea ctx : Fin 4) : Statement (.div pod pea ctx) := of_wellFormed _
theorem sqrt (pod pea ctx : Fin 4) : Statement (.sqrt pod pea ctx) := of_wellFormed _
theorem rsq (pod pea ctx : Fin 4) : Statement (.rsq pod pea ctx) := of_wellFormed _
theorem sincos (pod pea ctx : Fin 4) : Statement (.sincos pod pea ctx) := of_wellFormed _
theorem opLoop (pod pea ctx : Fin 4) : Statement (.opLoop pod pea ctx) := of_wellFormed _
theorem opOut (pod pea ctx : Fin 4) : Statement (.opOut pod pea ctx) := of_wellFormed _
theorem opEnd (pod pea ctx : Fin 4) : Statement (.opEnd pod pea ctx) := of_wellFormed _
theorem illegalWord (pod pea ctx : Fin 4) : Statement (.illegalWord pod pea ctx) := of_wellFormed _
theorem evx0640Instruction (pod pea ctx : Fin 4) : Statement (.evx0640Instruction pod pea ctx) := of_wellFormed _
theorem releaseRegistration (pod : Fin 4) : Statement (.releaseRegistration pod) := of_wellFormed _
theorem cycleRelease (pod : Fin 4) (idx : Fin 256) : Statement (.cycleRelease pod idx) := of_wellFormed _
theorem dispatch (pod : Fin 4) : Statement (.dispatch pod) := of_wellFormed _
theorem slotBound (pod pea ctx : Fin 4) : Statement (.slotBound pod pea ctx) := of_wellFormed _
theorem deadline (pod : Fin 4) (back : Fin 3) : Statement (.deadline pod back) := of_wellFormed _
theorem podSleep (pod : Fin 4) : Statement (.podSleep pod) := of_wellFormed _
theorem podWake (pod : Fin 4) : Statement (.podWake pod) := of_wellFormed _
theorem podWakeComplete (pod : Fin 4) : Statement (.podWakeComplete pod) := of_wellFormed _
theorem axAck (axis : Fin 256) : Statement (.axAck axis) := of_wellFormed _
theorem pgTapp (axis : Fin 256) (count : Fin 32768) : Statement (.pgTapp axis count) := of_wellFormed _
theorem pgTappSkip (axis : Fin 256) (count : Fin 32768) : Statement (.pgTappSkip axis count) := of_wellFormed _
theorem outputPhase : Statement (.outputPhase) := of_wellFormed _
theorem stepIssue (pair : Fin 8) : Statement (.stepIssue pair) := of_wellFormed _
theorem stepPulseEnd (pair : Fin 8) : Statement (.stepPulseEnd pair) := of_wellFormed _
theorem localRecordComplete (ch : Fin 8) (rawS rawC : BitVec 14) : Statement (.localRecordComplete ch rawS rawC) := of_wellFormed _
theorem quadratureEdge (ch : Fin 8) (a b z : List Bool) : Statement (.quadratureEdge ch a b z) := of_wellFormed _
theorem indexLatch (lines : LineSamples) : Statement (.indexLatch lines) := of_wellFormed _
theorem magneticSwitchEdge (ch : Fin 8) (u v w : List Bool) : Statement (.magneticSwitchEdge ch u v w) := of_wellFormed _
theorem quarterCount (ch : Fin 8) (quad : Fin 4) : Statement (.quarterCount ch quad) := of_wellFormed _
theorem freeConversion (ch : Fin 8) (rawS rawC : BitVec 14) : Statement (.freeConversion ch rawS rawC) := of_wellFormed _
theorem losEdge (ch : Fin 8) : Statement (.losEdge ch) := of_wellFormed _
theorem emulationEdge (out : Fin 2) : Statement (.emulationEdge out) := of_wellFormed _
theorem uplinkFrame (port : Fin 8) (sd : Nat) (fr : Frame) : Statement (.uplinkFrame port sd fr) := of_wellFormed _
theorem frameAccept (ring : Fin 4) (slot : Fin 80) : Statement (.frameAccept ring slot) := of_wellFormed _
theorem uplinkMiss (ring : Fin 4) (slot : Fin 80) : Statement (.uplinkMiss ring slot) := of_wellFormed _
theorem relayCopy (ring : Fin 4) (slot : Fin 80) : Statement (.relayCopy ring slot) := of_wellFormed _
theorem netEcho (ring : Fin 4) (sd : Nat) (fr : Frame) : Statement (.netEcho ring sd fr) := of_wellFormed _
theorem probeSend (port : Fin 8) : Statement (.probeSend port) := of_wellFormed _
theorem probeReturn (port : Fin 8) (sd : Nat) (fr : Frame) : Statement (.probeReturn port sd fr) := of_wellFormed _
theorem probeLost (port : Fin 8) (num : Fin 65536) : Statement (.probeLost port num) := of_wellFormed _
theorem loopNotice (port : Fin 8) (pos : Fin 80) : Statement (.loopNotice port pos) := of_wellFormed _
theorem segokNotice (port : Fin 8) (pos : Fin 80) : Statement (.segokNotice port pos) := of_wellFormed _
theorem linkUp (port : Fin 8) (eye : Fin 256) (eq : RxEq) (clean : Nat) : Statement (.linkUp port eye eq clean) := of_wellFormed _
theorem linkLoss (port : Fin 8) (rx : RxFail) : Statement (.linkLoss port rx) := of_wellFormed _
theorem downlinkDeparture (ring : Fin 4) (slot : Fin 80) : Statement (.downlinkDeparture ring slot) := of_wellFormed _
theorem beaconSend (ring : Fin 4) : Statement (.beaconSend ring) := of_wellFormed _
theorem syncSend (port : Fin 8) : Statement (.syncSend port) := of_wellFormed _
theorem netProbe (ring : Fin 4) : Statement (.netProbe ring) := of_wellFormed _
theorem netRestore (ring : Fin 4) : Statement (.netRestore ring) := of_wellFormed _
theorem autoRestore (ring : Fin 4) : Statement (.autoRestore ring) := of_wellFormed _
theorem csStart : Statement (.csStart) := of_wellFormed _
theorem csStop (withStart : Bool) : Statement (.csStop withStart) := of_wellFormed _
theorem listenTimeout : Statement (.listenTimeout) := of_wellFormed _
theorem beaconReceive (port : Fin 3) (sd : Nat) (fr : Frame) : Statement (.beaconReceive port sd fr) := of_wellFormed _
theorem coldstartWindowEnd : Statement (.coldstartWindowEnd) := of_wellFormed _
theorem backoffEnd : Statement (.backoffEnd) := of_wellFormed _
theorem coldEnd : Statement (.coldEnd) := of_wellFormed _
theorem integEnd : Statement (.integEnd) := of_wellFormed _
theorem claimGrant (ring : Fin 4) (slot : Fin 128) : Statement (.claimGrant ring slot) := of_wellFormed _
theorem claimRefuse (ring : Fin 4) : Statement (.claimRefuse ring) := of_wellFormed _
theorem claimRelease (ring : Fin 4) (slot : Fin 128) : Statement (.claimRelease ring slot) := of_wellFormed _
theorem spareAutoRelease (ring : Fin 4) (slot : Fin 80) : Statement (.spareAutoRelease ring slot) := of_wellFormed _
theorem muteEnd (n : Fin 324) : Statement (.muteEnd n) := of_wellFormed _
theorem tset : Statement (.tset) := of_wellFormed _
theorem timeRead : Statement (.timeRead) := of_wellFormed _
theorem correctionApply : Statement (.correctionApply) := of_wellFormed _
theorem followLockTimeout : Statement (.followLockTimeout) := of_wellFormed _
theorem cascadeSync (port : Fin 3) (sd : Nat) (fr : Frame) : Statement (.cascadeSync port sd fr) := of_wellFormed _
theorem cascadeLinkUp (port : Fin 3) (rx : CasUp) : Statement (.cascadeLinkUp port rx) := of_wellFormed _
theorem cascadeLinkLoss (rx : CasLoss) : Statement (.cascadeLinkLoss rx) := of_wellFormed _
theorem linkRecord (port : Fin 3) (sd : Nat) (fr : Frame) : Statement (.linkRecord port sd fr) := of_wellFormed _
theorem cascadeRecordSend (port : Fin 3) : Statement (.cascadeRecordSend port) := of_wellFormed _
theorem cascadeRecord (port : Fin 3) (sd : Nat) (fr : Frame) : Statement (.cascadeRecord port sd fr) := of_wellFormed _
theorem relayAccept (port : Fin 3) (idx : Fin 256) : Statement (.relayAccept port idx) := of_wellFormed _
theorem relayMiss (port : Fin 3) : Statement (.relayMiss port) := of_wellFormed _
theorem modeRecord (port : Fin 3) (sd : Nat) (fr : Frame) : Statement (.modeRecord port sd fr) := of_wellFormed _
theorem mabort (port : Fin 3) : Statement (.mabort port) := of_wellFormed _
theorem mcAnnounce : Statement (.mcAnnounce) := of_wellFormed _
theorem mcCancel : Statement (.mcCancel) := of_wellFormed _
theorem mirrorRecord (port : Fin 3) (sd : Nat) (fr : Frame) : Statement (.mirrorRecord port sd fr) := of_wellFormed _
theorem pairRecord (port : Fin 3) (sd : Nat) (fr : Frame) : Statement (.pairRecord port sd fr) := of_wellFormed _
theorem pairTimeout : Statement (.pairTimeout) := of_wellFormed _
theorem captureInstant : Statement (.captureInstant) := of_wellFormed _
theorem sproutEvaluate : Statement (.sproutEvaluate) := of_wellFormed _
theorem recordStore : Statement (.recordStore) := of_wellFormed _
theorem fifoDrain : Statement (.fifoDrain) := of_wellFormed _
theorem refreshSlot : Statement (.refreshSlot) := of_wellFormed _
theorem bar2Read (ofs : Fin 4194304) (len : Fin 4097) : Statement (.bar2Read ofs len) := of_wellFormed _
theorem acqArm : Statement (.acqArm) := of_wellFormed _
theorem acqStop : Statement (.acqStop) := of_wellFormed _
theorem triggerEdge (edge : PinEdge) (ofs : Nat) : Statement (.triggerEdge edge ofs) := of_wellFormed _
theorem xtrigDrive : Statement (.xtrigDrive) := of_wellFormed _
theorem xtrigRelease : Statement (.xtrigRelease) := of_wellFormed _
theorem xtrigEdge (ofs : Nat) : Statement (.xtrigEdge ofs) := of_wellFormed _
theorem filteredLevelChange (i : Fin 16) : Statement (.filteredLevelChange i) := of_wellFormed _
theorem wireBreak (i : Fin 16) : Statement (.wireBreak i) := of_wellFormed _
theorem wireBreakClear (i : Fin 16) : Statement (.wireBreakClear i) := of_wellFormed _
theorem thresholdRecompute : Statement (.thresholdRecompute) := of_wellFormed _
theorem fioOut (w : Word) : Statement (.fioOut w) := of_wellFormed _
theorem fioOutSet (w : Word) : Statement (.fioOutSet w) := of_wellFormed _
theorem fioOutClr (w : Word) : Statement (.fioOutClr w) := of_wellFormed _
theorem overload (chan : ChanTime) : Statement (.overload chan) := of_wellFormed _
theorem overTemperature (ch : Fin 8) : Statement (.overTemperature ch) := of_wellFormed _
theorem openWire (ch : Fin 8) : Statement (.openWire ch) := of_wellFormed _
theorem externalDrive (chan : ChanTime) : Statement (.externalDrive chan) := of_wellFormed _
theorem faultClear (w : Word) (lim hot ext : BitVec 8) : Statement (.faultClear w lim hot ext) := of_wellFormed _
theorem heartbeat : Statement (.heartbeat) := of_wellFormed _
theorem heartbeatLoss : Statement (.heartbeatLoss) := of_wellFormed _
theorem hback : Statement (.hback) := of_wellFormed _
theorem uvack : Statement (.uvack) := of_wellFormed _
theorem vfieldMeasure (mv : BitVec 16) : Statement (.vfieldMeasure mv) := of_wellFormed _
theorem supervisorPowerUp : Statement (.supervisorPowerUp) := of_wellFormed _
theorem safetyPeriod : Statement (.safetyPeriod) := of_wellFormed _
theorem hdlyExpiry (g : Fin 2) : Statement (.hdlyExpiry g) := of_wellFormed _
theorem discrepancy (pair : Fin 8) : Statement (.discrepancy pair) := of_wellFormed _
theorem safStok : Statement (.safStok) := of_wellFormed _
theorem safTest : Statement (.safTest) := of_wellFormed _
theorem endtest : Statement (.endtest) := of_wellFormed _
theorem runreq : Statement (.runreq) := of_wellFormed _
theorem reqWrite (req : BitVec 2) : Statement (.reqWrite req) := of_wellFormed _
theorem safPfm (id : BitVec 16) : Statement (.safPfm id) := of_wellFormed _
theorem pfmEnd : Statement (.pfmEnd) := of_wellFormed _
theorem flowWatchdog : Statement (.flowWatchdog) := of_wellFormed _
theorem lockstepMismatch : Statement (.lockstepMismatch) := of_wellFormed _
theorem hself : Statement .hself := of_wellFormed _
theorem stoFeedbackCheck (g : Fin 2) : Statement (.stoFeedbackCheck g) := of_wellFormed _
theorem testPulse (g : Fin 2) (low : Bool) : Statement (.testPulse g low) := of_wellFormed _
theorem checkCompute : Statement (.checkCompute) := of_wellFormed _
theorem scrubRead (macroNo : Fin 40) : Statement (.scrubRead macroNo) := of_wellFormed _
theorem memWzero (w : Word) : Statement (.memWzero w) := of_wellFormed _
theorem srepGo (w : Word) : Statement (.srepGo w) := of_wellFormed _
theorem memoryInit (m : Fin 8) : Statement (.memoryInit m) := of_wellFormed _
theorem initDone (m : Fin 8) : Statement (.initDone m) := of_wellFormed _
theorem doorbell (w : Word) : Statement (.doorbell w) := of_wellFormed _
theorem mailboxWrite (host : Bool) (ofs : Fin 65536) (data : Word) (be : BitVec 4) : Statement (.mailboxWrite host ofs data be) := of_wellFormed _
theorem hdoneClear (w : Word) : Statement (.hdoneClear w) := of_wellFormed _
theorem hnoteSet (w : Word) : Statement (.hnoteSet w) := of_wellFormed _
theorem hnoteClear (w : Word) : Statement (.hnoteClear w) := of_wellFormed _
theorem dbqRead : Statement (.dbqRead) := of_wellFormed _
theorem facc (mb : Fin 32) (bound : BitVec 16) : Statement (.facc mb bound) := of_wellFormed _
theorem fdone (mb : Fin 32) : Statement (.fdone mb) := of_wellFormed _
theorem mailboxTimeout (m : Fin 32) : Statement (.mailboxTimeout m) := of_wellFormed _
theorem hostReset : Statement (.hostReset) := of_wellFormed _
theorem spiRead (addr : BitVec 24) (len : Nat) (late : List Nat) : Statement (.spiRead addr len late) := of_wellFormed _
theorem spiWrite (addr : BitVec 24) (data : List (BitVec 8)) : Statement (.spiWrite addr data) := of_wellFormed _
theorem spiStatus : Statement (.spiStatus) := of_wellFormed _
theorem spiCsRise : Statement (.spiCsRise) := of_wellFormed _
theorem bar2Write : Statement (.bar2Write) := of_wellFormed _
theorem dmaGo (ch : Fin 4) (dir : Bool) (len : BitVec 22) : Statement (.dmaGo ch dir len) := of_wellFormed _
theorem dmaRst (ch : Fin 4) : Statement (.dmaRst ch) := of_wellFormed _
theorem dmaDone (ch : Fin 4) (words : List Word) (refusal : Bool) : Statement (.dmaDone ch words refusal) := of_wellFormed _
theorem dmaCompletionTimeout (ch : Fin 4) (words : List Word) : Statement (.dmaCompletionTimeout ch words) := of_wellFormed _
theorem flashGo (w : Word) : Statement (.flashGo w) := of_wellFormed _
theorem flashDone (data : List (BitVec 8)) : Statement (.flashDone data) := of_wellFormed _
theorem glPing (m : Fin 32) : Statement (.glPing m) := of_wellFormed _
theorem glInfo (m : Fin 32) : Statement (.glInfo m) := of_wellFormed _
theorem glStatus (m : Fin 32) : Statement (.glStatus m) := of_wellFormed _
theorem glAbort (m named : Fin 32) : Statement (.glAbort m named) := of_wellFormed _
theorem dmaReset (m : Fin 32) (ch : Fin 4) : Statement (.dmaReset m ch) := of_wellFormed _
theorem cfgRead (m : Fin 32) (regs : List (Fin 17 × BitVec 16)) : Statement (.cfgRead m regs) := of_wellFormed _
theorem cfgWrite (m : Fin 32) (entries : List (Fin 17 × BitVec 16 × Word × Word)) : Statement (.cfgWrite m entries) := of_wellFormed _
theorem glCommit (m : Fin 32) (groups : List (Fin 17 × Word)) : Statement (.glCommit m groups) := of_wellFormed _
theorem schedLoad (m : Fin 32) (dma : Option (Fin 4 × BitVec 64 × BitVec 22)) (regs : List (Fin 17 × BitVec 16 × Word)) (words : List (Word × Word)) (groups : List (Fin 17 × Word)) : Statement (.schedLoad m dma regs words groups) := of_wellFormed _
theorem schedChunk (m : Fin 32) (ofs : BitVec 32) (data : List (BitVec 8)) : Statement (.schedChunk m ofs data) := of_wellFormed _
theorem netStart (m : Fin 32) : Statement (.netStart m) := of_wellFormed _
theorem netStop (m : Fin 32) : Statement (.netStop m) := of_wellFormed _
theorem axisConfig (m : Fin 32) (axis : Fin 256) (pod : Fin 4) (regs : List (Fin 17 × BitVec 16 × Word)) (words : List (Word × Word)) : Statement (.axisConfig m axis pod regs words) := of_wellFormed _
theorem commutate (m : Fin 32) (axis : Fin 256) (pod : Fin 4) (xb : BitVec 17) (value : Word) : Statement (.commutate m axis pod xb value) := of_wellFormed _
theorem glMotion (m : Fin 32) (writes : List (Fin 256 × Fin 13 × Word)) : Statement (.glMotion m writes) := of_wellFormed _
theorem tableAppend (m : Fin 32) (axis : Fin 256) (pod : Fin 4) (skip : Bool) (points : List (Word × Word × Word × Word)) : Statement (.tableAppend m axis pod skip points) := of_wellFormed _
theorem axisAck (m : Fin 32) (axes : List (Fin 256)) : Statement (.axisAck m axes) := of_wellFormed _
theorem modeChange (m : Fin 32) (groups : List (Fin 17 × Word)) (mid : BitVec 16) (cyc : Word) : Statement (.modeChange m groups mid cyc) := of_wellFormed _
theorem claimDecide (m : Fin 32) (ring : Fin 4) (what : Fin 3) (slot : Fin 128) : Statement (.claimDecide m ring what slot) := of_wellFormed _
theorem acqCmd (m : Fin 32) (arm : Bool) : Statement (.acqCmd m arm) := of_wellFormed _
theorem safetyStatus (m : Fin 32) : Statement (.safetyStatus m) := of_wellFormed _
theorem safetyConfirm (m : Fin 32) (value : Word) (flash : FlashOk) : Statement (.safetyConfirm m value flash) := of_wellFormed _
theorem safetyCmd (m : Fin 32) (cmd : Fin 3) : Statement (.safetyCmd m cmd) := of_wellFormed _
theorem evlRead (m : Fin 32) (seq : Word) : Statement (.evlRead m seq) := of_wellFormed _
theorem fwWrite (m : Fin 32) (ofs : BitVec 32) (data : List (BitVec 8)) (flashOk : Bool) : Statement (.fwWrite m ofs data flashOk) := of_wellFormed _
theorem fwVerify (m : Fin 32) (img : Option (List (BitVec 8))) : Statement (.fwVerify m img) := of_wellFormed _
theorem fwCommit (m : Fin 32) : Statement (.fwCommit m) := of_wellFormed _
theorem keyRevoke (m : Fin 32) (slot : Fin 4) : Statement (.keyRevoke m slot) := of_wellFormed _
theorem memRepair (m : Fin 32) (w : Word) : Statement (.memRepair m w) := of_wellFormed _
theorem glPower (m : Fin 32) (tgt : Fin 4) : Statement (.glPower m tgt) := of_wellFormed _
theorem loadChunk (ofs : BitVec 32) (data : List (BitVec 8)) : Statement (.loadChunk ofs data) := of_wellFormed _
theorem loadGo (header : List (BitVec 8)) : Statement (.loadGo header) := of_wellFormed _
theorem imageBoot (a b : Option (List (BitVec 8))) : Statement (.imageBoot a b) := of_wellFormed _
theorem eventAccept : Statement (.eventAccept) := of_wellFormed _
theorem rateWindowEnd : Statement (.rateWindowEnd) := of_wellFormed _
theorem backgroundFlush : Statement (.backgroundFlush) := of_wellFormed _
theorem evlFlush : Statement (.evlFlush) := of_wellFormed _
theorem flushComplete : Statement (.flushComplete) := of_wellFormed _
theorem fwevGo (w : Word) : Statement (.fwevGo w) := of_wellFormed _
theorem powerStateRequest (tgt : Fin 4) : Statement (.powerStateRequest tgt) := of_wellFormed _
theorem transitionComplete : Statement (.transitionComplete) := of_wellFormed _
theorem pcrWake (src : Fin 4) : Statement (.pcrWake src) := of_wellFormed _
theorem pdCtlWrite (w : Word) : Statement (.pdCtlWrite w) := of_wellFormed _
theorem supplyWarning : Statement (.supplyWarning) := of_wellFormed _
theorem supplyReset (rail : Fin 6) : Statement (.supplyReset rail) := of_wellFormed _
theorem powerOnReset : Statement (.powerOnReset) := of_wellFormed _
theorem systemReset : Statement (.systemReset) := of_wellFormed _
theorem resetRelease (pins : Straps) : Statement (.resetRelease pins) := of_wellFormed _
theorem rstSys (key : BitVec 16) : Statement (.rstSys key) := of_wellFormed _
theorem rstCpu (key : BitVec 16) : Statement (.rstCpu key) := of_wellFormed _
theorem processorReset : Statement (.processorReset) := of_wellFormed _
theorem crystalFailure : Statement (.crystalFailure) := of_wellFormed _
theorem aoClockFailure : Statement (.aoClockFailure) := of_wellFormed _
theorem avsEvaluate (mworst : BitVec 8) : Statement (.avsEvaluate mworst) := of_wellFormed _
theorem vreqFrame (acks : BitVec 3) : Statement (.vreqFrame acks) := of_wellFormed _
theorem wdtKick (key : BitVec 16) : Statement (.wdtKick key) := of_wellFormed _
theorem watchdogExpiry : Statement (.watchdogExpiry) := of_wellFormed _
theorem restartTimeout : Statement (.restartTimeout) := of_wellFormed _
theorem tapReset : Statement (.tapReset) := of_wellFormed _
theorem tapExtest : Statement (.tapExtest) := of_wellFormed _
theorem tapSamplePreload : Statement (.tapSamplePreload) := of_wellFormed _
theorem tapIdcode : Statement (.tapIdcode) := of_wellFormed _
theorem dbgacc : Statement (.dbgacc) := of_wellFormed _
theorem dbgaccRead (addr : Word) : Statement (.dbgaccRead addr) := of_wellFormed _
theorem dbgaccWrite (addr : Word) (w : Word) : Statement (.dbgaccWrite addr w) := of_wellFormed _
theorem dbgaccReadNext : Statement (.dbgaccReadNext) := of_wellFormed _
theorem tapFrz (hold : Bool) : Statement (.tapFrz hold) := of_wellFormed _
theorem tapHighz : Statement (.tapHighz) := of_wellFormed _
theorem tapClamp : Statement (.tapClamp) := of_wellFormed _
theorem tapSysrst : Statement (.tapSysrst) := of_wellFormed _
theorem tapBypass : Statement (.tapBypass) := of_wellFormed _
theorem freezeRequest : Statement (.freezeRequest) := of_wellFormed _
theorem freezeStop : Statement (.freezeStop) := of_wellFormed _
theorem freezeRelease (ball : Bool) : Statement (.freezeRelease ball) := of_wellFormed _
theorem filterSample (i : Fin 16) : Statement (.filterSample i) := of_wellFormed _
theorem rawLevelChange (i : Fin 16) (mv : BitVec 16) : Statement (.rawLevelChange i mv) := of_wellFormed _
theorem openWireClear (ch : Fin 8) : Statement (.openWireClear ch) := of_wellFormed _
theorem vfoff : Statement (.vfoff) := of_wellFormed _
theorem supplyWarningCleared : Statement (.supplyWarningCleared) := of_wellFormed _
theorem alwaysOnRefresh : Statement (.alwaysOnRefresh) := of_wellFormed _
theorem ssiClockEdge (ch : Fin 8) (data : Bool) (delay : Option (Fin 65536)) : Statement (.ssiClockEdge ch data delay) := of_wellFormed _
theorem pcieLinkUp (gen2 x2 : Bool) : Statement (.pcieLinkUp gen2 x2) := of_wellFormed _
theorem pcieConfigWrite (cfg : PcieCfg) : Statement (.pcieConfigWrite cfg) := of_wellFormed _
theorem processorStore (addr : Word) (be : BitVec 4) (w : Word) : Statement (.processorStore addr be w) := of_wellFormed _

end Sys2Proof.Laws.Bounds
end

