-- ==== Sys2Proof/Laws/Wake.lean ====
section
/-! SUPPORT. What a wake can touch: three registers of PCR_ and the hidden state of the block. -/

namespace Sys2Proof.Machine

variable {s : State}

theorem abortEntry_frame (s : State) :
    ∃ regs clk pcr, abortEntry s = { s with regs := regs, clk := clk, pcr := pcr } := by
  unfold abortEntry
  split
  · split
    · exact ⟨s.regs, s.clk, s.pcr, rfl⟩
    · exact ⟨_, _, _, rfl⟩
  · exact ⟨s.regs, s.clk, s.pcr, rfl⟩

theorem wake_frame (b : Nat) (s : State) : ∃ regs clk pcr, wake b s = { s with regs := regs, clk := clk, pcr := pcr } := by
  unfold wake
  dsimp only
  split
  · obtain ⟨r, c, p, h⟩ := abortEntry_frame
      (setRb Reg.PCR_WAKE_STAT b true { s with pcr := { s.pcr with wokeAt := some (s.aoEdge, s.sleepState) } })
    exact ⟨r, c, p, h⟩
  · exact ⟨_, _, _, rfl⟩

/-- What `wakeBy` may change. -/
theorem wakeBy_frame (b : Nat) : ∃ regs clk pcr, wakeBy b s = { s with regs := regs, clk := clk, pcr := pcr } := by
  unfold wakeBy
  split
  · exact wake_frame b s
  · split
    · exact ⟨_, _, s.pcr, rfl⟩
    · split
      · exact ⟨s.regs, s.clk, _, rfl⟩
      · exact ⟨s.regs, s.clk, s.pcr, rfl⟩

@[simp] theorem wakeBy_mem (b : Nat) : (wakeBy b s).mem = s.mem := by
  obtain ⟨_, _, _, h⟩ := wakeBy_frame (s := s) b; rw [h]

@[simp] theorem wakeBy_hif (b : Nat) : (wakeBy b s).hif = s.hif := by
  obtain ⟨_, _, _, h⟩ := wakeBy_frame (s := s) b; rw [h]

@[simp] theorem wakeBy_fio (b : Nat) : (wakeBy b s).fio = s.fio := by
  obtain ⟨_, _, _, h⟩ := wakeBy_frame (s := s) b; rw [h]

@[simp] theorem wakeBy_fwIrq (b : Nat) : (wakeBy b s).fwIrq = s.fwIrq := by
  obtain ⟨_, _, _, h⟩ := wakeBy_frame (s := s) b; rw [h]

@[simp] theorem wakeBy_outs (b : Nat) : (wakeBy b s).outs = s.outs := by
  obtain ⟨_, _, _, h⟩ := wakeBy_frame (s := s) b; rw [h]

theorem reg_abortEntry {a : Nat} (h2 : a ≠ Reg.PCR_PSTATE) (h3 : a ≠ Reg.PCR_ERR) : (abortEntry s).reg a = s.reg a := by
  unfold abortEntry
  split
  · split
    · rfl
    · exact (reg_setRb_other h3).trans (reg_setRf_other h2)
  · rfl

theorem reg_wake (b : Nat) {a : Nat} (h1 : a ≠ Reg.PCR_WAKE_STAT) (h2 : a ≠ Reg.PCR_PSTATE) (h3 : a ≠ Reg.PCR_ERR) :
    (wake b s).reg a = s.reg a := by
  unfold wake
  dsimp only
  split
  · exact (reg_abortEntry h2 h3).trans (reg_setRb_other (s := { s with pcr := _ }) h1)
  · exact (reg_setRf_other h2).trans (reg_setRb_other (s := { s with pcr := _ }) h1)

/-- Registers but PCR_WAKE_STAT, PCR_PSTATE and PCR_ERR keep their values. -/
theorem reg_wakeBy (b : Nat) {a : Nat} (h1 : a ≠ Reg.PCR_WAKE_STAT) (h2 : a ≠ Reg.PCR_PSTATE) (h3 : a ≠ Reg.PCR_ERR) :
    (wakeBy b s).reg a = s.reg a := by
  unfold wakeBy
  split
  · exact reg_wake b h1 h2 h3
  · split
    · exact reg_setRb_other h1
    · split <;> rfl

/-- In RUN and IDLE nothing wakes, but for a second source at the edge at which an entry has ended. -/
theorem wakeBy_awake (b : Nat) (ht : s.pcr.trans = none) (hc : s.cur < 2) (hw : s.wakesToo b = false) : wakeBy b s = s := by
  have h2 : s.cur ≠ 2 := by omega
  have h3 : s.cur ≠ 3 := by omega
  simp [wakeBy, State.wakes, State.wakeActs, State.sourceActs, State.sleepState, ht, h2, h3, hw]

end Sys2Proof.Machine
end

