-- ==== Sys2Proof/Tests/Slice0.lean ====
section
/-! SUPPORT. Tests: ill-formed commands, spec-written values, and states that meet the premises of each
statement. -/

namespace Sys2Proof.Tests

open Sys2Proof.Machine

/-- Every domain powered and every memory initialised, in RUN. -/
def wake : State :=
  { setReg Reg.MEM_INIT 0xFF (setReg Reg.PCR_PD_STAT 0x3FF State.reset) with pcr := { State.reset.pcr with inReset := false, first := false } }

/-! A context about to issue one word. -/

/-- A legal word of an opcode: X names element 0, Y 0, Z immediate or none, DST 0. -/
def peaDemoWord (op : Nat) : Nat :=
  op * 2 ^ 58 + (if op = 0x11 || op = 0x12 || op = 0x18 then 2 ^ 53 else if usesZ op then 2 ^ 54 else 0)

/-- Context 0 in service at slot 0 of four, in tick 4, its program at word 0 of the Y region. -/
def peaDemoOf (v : State) (word : Nat) : State :=
  let s := { v with time := { v.time with tick := 4 },
                    le := { v.le with ctxs := [(0, { live := true, next := 4, desc := { slots := 4 } })] } }
  write64 (yWordAddr 0 0) word s

/-- The same with one opcode. -/
def peaDemo (op : Nat) : State := peaDemoOf wake (peaDemoWord op)

/-- The same at its slot bound. -/
def peaDemoBound : State :=
  { wake with le := { wake.le with ctxs := [(0, { live := true, next := 4, slot := 4, desc := { slots := 4 } })] } }

/-- The same in a pod that runs EVX0640 microcode. -/
def peaDemoCompat : State := setAct (Reg.LE_POD_CTL 0) 1 (peaDemoOf wake 7)

/-- A network in RUN, just after a cycle start. -/
def runDemo : State :=
  setReg Reg.SLT_CS_STAT 5 { wake with time := { wake.time with nextNs := wake.clenU } }


/-! Premises of EmptyQueueLetsTimePass. -/

theorem witness_idle_stopped : State.reset.pending = [] := rfl
theorem witness_idle_firstPower : wake.pending = [] ∧ wake.syn.stopped = false ∧ wake.firstPower = false := by decide
theorem witness_idle_tbclk : { wake with syn := { wake.syn with stopped := true } }.syn.stopped = true := rfl

/-! Premises of StepKeepsSettled. -/

theorem witness_settled_step : wake.settled := by
  refine ⟨?_, ?_, ?_, ?_⟩ <;> decide

/-! Premises of SettleTouchesMarrowOnly. -/

theorem witness_nothing_held : State.reset.fio.heldBits = [] := rfl

/-! Premises of PeaResultReachesLocal. -/

theorem witness_pea_local : ∀ e ∈ peaLocal 0 0 0, (peaDemo e.2).before 0 e.2 4 (peaDemoWord e.2) (toSlot 0 (peaDemo e.2)).2 := by
  intro e he
  fin_cases he <;> exact ⟨by decide, by rfl, by decide, by decide⟩

/-! Premises of PeaResultReachesElement. -/

theorem witness_pea_element : (peaFields (peaDemoWord 4 + 2 ^ 52)).dst = 16 ∧
    illegalWord (peaFields (peaDemoWord 4 + 2 ^ 52)) false = false := by decide

/-! Premises of PoisonedOperandGivesNaN. -/

theorem witness_pea_poison : (readX 0 ((peaDemo 4).ctx 0) (peaFields (peaDemoWord 4))
    (putChk (elemAddr 0 0) poisonMark (peaDemo 4))).1 = (qNaN, true) := by decide

/-! Premises of SearchAndSineWriteAPair. -/

theorem witness_pea_pair : ∀ e ∈ peaPair 0 0 0, (peaDemo e.2).before 0 e.2 4 (peaDemoWord e.2) (toSlot 0 (peaDemo e.2)).2 := by
  intro e he
  fin_cases he <;> exact ⟨by decide, by rfl, by decide, by decide⟩

/-! Premises of ComparesWriteC. -/

theorem witness_pea_compare : ∀ e ∈ peaCompare 0 0 0, (peaDemo e.2).before 0 e.2 4 (peaDemoWord e.2) (toSlot 0 (peaDemo e.2)).2 := by
  intro e he
  fin_cases he <;> exact ⟨by decide, by rfl, by decide, by decide⟩

/-! Premises of ControlWordsOfAPea. -/

theorem witness_pea_control : ∀ e ∈ [0x00, 0x18, 0x19, 0x3F],
    (peaDemo e).before 0 e 4 (peaDemoWord e) (toSlot 0 (peaDemo e)).2 ∧ ((toSlot 0 (peaDemo e)).2.ctx 0).loop.n = 0 := by
  intro e he
  fin_cases he <;> exact ⟨⟨by decide, by rfl, by decide, by decide⟩, by decide⟩
theorem witness_illegal : (peaDemo 0x1A).canIssue 0 = true ∧ (peaDemo 0x1A).atBound 0 = false ∧
    (peaDemo 0x1A).nextIllegal 0 = true := by decide
theorem witness_slot_bound : (peaDemoBound).canIssue 0 = true ∧ (peaDemoBound).atBound 0 = true := by decide
theorem witness_evx : peaDemoCompat.canIssue 0 = true ∧ peaDemoCompat.nativeCtx 0 = false ∧
    peaDemoCompat.atBound 0 = false ∧ peaDemoCompat.nextIllegal 0 = false := by decide

/-! Premises of ConversionRoundTrip. -/

theorem witness_conversion : (16777215 : Int).natAbs < 2 ^ 24 := by decide

/-! Premises of IntegerOpsWrapOrSaturate. -/

theorem witness_integer : (0x7FFFFFFF : Nat) < 2 ^ 32 ∧ toSigned 32 (intOp false true 0x7FFFFFFF 1).1 = 2 ^ 31 - 1 := by decide

/-! Premises of SchedulerCommands. -/

theorem witness_sched_on : wake.schedOn 0 = true := by decide
/-- A CYCLE release of descriptor 0 of pod 0 waits; v is what the scheduler holds otherwise. -/
def stageDemo (v : PodSt) : State :=
  putPod 0 { v with carry := [⟨0, 5, 2000, 0, 0, false, 0, 0⟩] }
    (write64 (yWordAddr 0 3) (4 + 0x1FF * 2 ^ 18 + 0x1FF * 2 ^ 27)
    (write64 (yWordAddr 0 2) 5 (write64 (yWordAddr 0 1) 0 (write64 (yWordAddr 0 0) 0 wake))))
/-- The release is registered in tick 0, in cycle 0. -/
theorem witness_release : (stageDemo {}).schedOn 0 = true ∧ ((stageDemo {}).pod 0).carry = ⟨0, 5, 2000, 0, 0, false, 0, 0⟩ :: [] ∧
    stageTick ((stageDemo {}).pod 0) 0 = 0 ∧ (stageDemo {}).cyc = 0 := by decide
theorem witness_release_enters : ((stageDemo {}).pod 0).seen.contains (0, 5, 0) = false ∧
    ((stageDemo {}).pod 0).closed.contains 0 = false ∧ (stageDemo {}).descGood 0 0 0 5 = true ∧
    ((stageDemo {}).pod 0).queue.length < 64 := by decide +kernel
theorem witness_release_dup : ((stageDemo { seen := [(0, 5, 0)] }).pod 0).seen.contains (0, 5, 0) = true := by decide
theorem witness_release_late : ((stageDemo { closed := [0] }).pod 0).seen.contains (0, 5, 0) = false ∧
    ((stageDemo { closed := [0] }).pod 0).closed.contains 0 = true := by decide
/-- A CHAIN release of it is a fault: its SRC is 5. -/
theorem witness_release_bad : ((stageDemo {}).pod 0).seen.contains (0, 4, 0) = false ∧ (stageDemo {}).descGood 0 0 0 4 = false := by
  decide +kernel
theorem witness_release_full :
    ((stageDemo { queue := List.replicate 64 ⟨1, { slots := 4 }, 5, 2000, 0, 0, 8, 0, false, false⟩ }).pod 0).queue.length = 64 := by
  decide +kernel
/-- A running network, pod 0 open with a CYCLE source at offset 100. -/
def schedDemo : State :=
  putPod 0 { mtch := [(1, 5, 100)] } (setReg Reg.MEM_INIT 0xFF (setAct (Reg.DS_POD_CTL 0) 2
    (setReg Reg.SLT_CS_STAT 5 { wake with time := { wake.time with nextNs := wake.clenU, starts := [0] } })))
theorem witness_cycle_release : schedDemo.schedOn 0 = true ∧ schedDemo.running = true ∧
    (schedDemo.pod 0).mtch.find? (fun m => m.1 = 1 && m.2.1 = 5) = some (1, 5, 100) ∧
    schedDemo.offsetTick 100 = some 100 ∧
    (advanceTo 100 schedDemo).podOpen (advanceTo 100 schedDemo).cyc 0 = true := by decide
/-- An entry that waits in pod 0. -/
def dispatchDemo : State := putPod 0 { queue := [⟨1, { slots := 4 }, 5, 2000, 0, 0, 8, 0, false, false⟩] } wake
theorem witness_dispatch : dispatchDemo.schedOn 0 = true ∧ (dispatchDemo.pod 0).asleep = false ∧
    firstElig (dispatchDemo.pod 0).queue = some 8 ∧ dispatchDemo.dispatchTick 0 8 16 = some 8 ∧
    (bestEntry ((advanceTo 8 dispatchDemo).admissible 0 8 [] (dispatchDemo.pod 0).queue)).isSome = true ∧
    (bestCtx ((advanceTo 8 dispatchDemo).suitable 0 ⟨1, { slots := 4 }, 5, 2000, 0, 0, 8, 0, false, false⟩ 8)).isSome
      = true := by decide
theorem witness_deadline : wake.deadlineNear 0 0 = true ∧ schedDemo.deadlineNear 0 0 = true ∧ schedDemo.running = true ∧
    (wake.pod 0).closed.contains (wake.cyc - 0) = false ∧ (schedDemo.pod 0).closed.contains (schedDemo.cyc - 0) = false ∧
    (setAct (Reg.DS_SIG_REF 0) 1 wake).actAt 0 (Reg.DS_SIG_REF 0) = 1 ∧
    kvGet (fun _ => 0xFFFFFFFF) (wake.pod 0).crc 0 ^^^ 0xFFFFFFFF = 0 := by decide
theorem witness_sleep : (setAct (Reg.PCR_PODSLP 0) 0x80000000 wake).schedOn 0 = true ∧
    (setAct (Reg.PCR_PODSLP 0) 0x80000000 wake).ab (Reg.PCR_PODSLP 0) 31 = true ∧ (wake.pod 0).queue = [] ∧
    ∀ n ∈ podCtxs 0, (wake.ctx n).live = false := by decide
theorem witness_wake : ((putPod 0 { asleep := true } wake).pod 0).asleep = true ∧
    ((putPod 0 { asleep := true } wake).pod 0).waking = none ∧
    (putPod 0 { asleep := true } (setAct (Reg.PCR_PODSLP 0) 0xC0000140 schedDemo)).wakeTick 0 = some 16 ∧
    ((putPod 0 { asleep := true, waking := some 64 } wake).pod 0).waking.isSome = true := by decide

/-! Premises of DispatchOrder. -/

theorem witness_best : bestEntry [(⟨1, {}, 5, 0, 0, 0, 0, 0, false, false⟩ : QEnt)] =
    some ⟨1, {}, 5, 0, 0, 0, 0, 0, false, false⟩ := by decide

/-! Premises of AxisAndGeneratorWrites. -/

/-- Axis 0 with a table of 8 points, WP 4, RP 2, and a pending geometry of 16. -/
def tableDemo : State := putPg 0 { nlen := 16 } (setReg (Reg.PG_STAT 0) 0x80000 (setReg (Reg.PG_TPTR 0) 0x40002
  (setReg (Reg.PG_TACT 0) 8 wake)))
theorem witness_append_on : tableDemo.cpuOn = true ∧ tableDemo.domOn 1 = true := by decide
theorem witness_append : pgOccupied 4 2 8 + 5 < 8 ∧ tableDemo.rb (Reg.PG_STAT 0) 19 = true ∧ pgBeyond 4 5 8 16 = false ∧
    wake.rb (Reg.PG_STAT 0) 19 = false := by decide
theorem witness_append_full : 8 ≤ pgOccupied 4 2 8 + 6 ∧ pgBeyond 4 2 8 5 = true := by decide
theorem witness_append_skip : tableDemo.rb (Reg.PG_STAT 0) 19 = true ∧ tableDemo.rf (Reg.PG_TPTR 0) 30 16 = 4 ∧
    tableDemo.rf (Reg.PG_TACT 0) 30 16 = 0 ∧ pgBeyond 0 1 4 (tableDemo.pgAx 0).nlen = false ∧
    pgOccupied 4 2 8 + 1 < 4 := by decide
theorem witness_append_skip_refused : wake.rb (Reg.PG_STAT 0) 19 = false ∧ 4 ≤ pgOccupied 4 2 8 + 2 ∧ pgBeyond 0 3 4 2 = true := by
  decide

/-! Premises of LocalChannelEvents. -/

/-- Channel 0 enabled in a mode. -/
def chanDemo (mode : Nat) : State := setAct (Reg.FB_CH_CTL 0) (BitVec.ofNat 32 (16 + mode)) wake
theorem witness_channel : ∀ m ∈ [0, 1, 2, 3], (chanDemo m).live 1 = true ∧ (chanDemo m).chEn 0 = true ∧
    (chanDemo m).chMode 0 = m ∧ ((chanDemo m).chan 0).raw = ((chanDemo m).chan 0).lines ∧
    ((chanDemo m).chan 0).lines < 8 ∧ ((chanDemo m).chan 0).sampled + (chanDemo m).filt 0 ≤ (chanDemo m).sclk + 1 ∧
    (5 : BitVec 3).toNat ≠ ((chanDemo m).chan 0).lines ∧ (5 : BitVec 3).getLsbD 0 = true ∧
    ((chanDemo m).chan 0).lines % 2 = 0 := by decide
theorem witness_filtered : 0 < (chanDemo 0).filt 0 := by decide
theorem witness_hall : ((putChan 0 { hall := 1 } (chanDemo 2)).chan 0).hall ≠ 0 := by decide
theorem witness_ssi : (chanDemo 3).loopOn = true ∧ ((putChan 0 { edge := 1 } (chanDemo 3)).chan 0).edge % 2 = 1 ∧
    1 < 2 * (setAct (Reg.FB_SSI_CFG 0) 25 (chanDemo 3)).ssiLen 0 := by decide
theorem witness_amplitude : (correctPair 0 0 0 (chanDemo 1)).1 = (0, 0) ∧
    ampBad 0 0 0 (correctPair 0 0 0 (chanDemo 1)).2 = true := by decide

/-! Premises of LocalRecordIsWritten. -/

theorem witness_record : ∀ m ∈ [0, 1, 2, 4], (putChan 0 { smp := { due := true, count := 7 } } (chanDemo m)).chanReady 0 = true ∧
    (putChan 0 { smp := { due := true, count := 7 } } (chanDemo m)).loopOn = true ∧
    (putChan 0 { smp := { due := true, count := 7 } } (chanDemo m)).live 1 = true ∧
    (putChan 0 { smp := { due := true, count := 7 } } (chanDemo m)).chMode 0 = m := by decide

/-! Premises of StepAndEmulationOutputs. -/

theorem witness_output_phase : runDemo.loopOn = true ∧ runDemo.domOn 1 = true ∧ runDemo.running = true := by decide
theorem witness_step : ((putStep 0 { left := 2, pulseEnd := some 9 } wake).step 0).left ≠ 0 ∧
    ((putStep 0 { left := 2, pulseEnd := some 9 } wake).step 0).pulseEnd = some 9 := by decide
theorem witness_emulation : (setAct (Reg.FB_EMU_CTL 0) 1 (putEmu 0 { left := 1 } wake)).ab (Reg.FB_EMU_CTL 0) 0 = true ∧
    ((putEmu 0 { left := 1 } wake).emu 0).left ≠ 0 ∧
    (setAct (Reg.FB_EMU_CTL 0) 1 (putChan 0 { recCyc := some 0, recd := true, pos := 5 } runDemo)).emuSource 0 = some 5 := by decide

/-! Premises of RegisterWritesFollowAccessCodes. -/

theorem witness_register_write : wake.cpuOn = true ∧ inWindows Reg.CAS_MC_ARG = true ∧ Reg.CAS_MC_ARG % 4 = 0 := by decide
theorem witness_register_write_action : (regRow Reg.CAS_MC_ARG).map (fun x => (actWrite (blkOf Reg.CAS_MC_ARG) x.1.off x.2 5).isNone)
    = some true ∧ wake.domOn (blkDom (blkOf Reg.CAS_MC_ARG)) = true := by decide
theorem witness_register_hole : regRow 0x4000F000 = none ∧ inWindows 0x4000F000 = true ∧ wake.evl.queue.length < 32 := by
  decide

/-! Premises of RegisterReadsClearRcFields. -/

theorem witness_register_read : inWindows Reg.CAS_MC_ARG = true ∧ (regRow Reg.CAS_MC_ARG).isSome = true ∧
    Reg.CAS_MC_ARG ≠ Reg.HIF_DBQ ∧ Reg.CAS_MC_ARG ≠ Reg.SYN_TIME_LO ∧
    (wake.freeReg (blkOf Reg.CAS_MC_ARG) (offOf Reg.CAS_MC_ARG)).isNone = true ∧
    (wake.derivedReg (blkOf Reg.CAS_MC_ARG) (offOf Reg.CAS_MC_ARG)).isNone = true := by decide

/-! Premises of ProcessorStoresAndAborts. -/

theorem witness_store : wake.cpuOn = true ∧ wake.dest 0x10000000 = .mem 0 ∧ wake.peaHit 0x10000000 = false := by decide
theorem witness_store_hit : (noteHit 0 (elemAddr 0 0) wake).dest (elemAddr 0 0) = .mem 1 ∧
    (noteHit 0 (elemAddr 0 0) wake).peaHit (elemAddr 0 0) = true := by decide
theorem witness_abort : wake.aborts .load 0x60000000 = true ∧ wake.domOn 7 = true ∧ wake.evl.queue.length < 30 ∧
    ({ wake with hif := { wake.hif with hstate := 3 } } : State).stage = 3 := by decide

/-! Premises of CommitCommandsInOrder. -/

theorem witness_cutoff : runDemo.sysOn = true ∧ runDemo.domOn 6 = true ∧ runDemo.cmt.cut ≠ some runDemo.cyc ∧
    runDemo.time.ns ≤ runDemo.time.nextNs - 1000 * 2 ^ 32 ∧ runDemo.clen ≠ 0 ∧ wake.running = false ∧ wake.sysOn = true := by
  decide
theorem witness_cycle_start : runDemo.loopOn = true ∧ runDemo.running = true ∧ runDemo.slt.stop = false ∧ runDemo.csState ≠ 6 ∧
    { runDemo with slt := { runDemo.slt with stop := true } }.slt.stop = true := by decide
theorem witness_cycle_start_staged : runDemo.cas.mc = none ∧ ((stageVals 8 0 wake).map (·.1)).Nodup := by decide

/-! Premises of GroupsApplyWholeOrNotAtAll. -/

theorem witness_staged : ((stageVals 6 0 wake).map (·.1)).Nodup := by decide
theorem witness_asked : (match exec (.cmtReq 8 1) wake with
    | .next t => decide (t.cmt.asked = [(some 0, [(8, 1)])]) && t.rb (Reg.CMT_REQ 8) 0 | _ => false) = true := by decide +kernel
theorem witness_request : wake.cpuOn = true ∧ ∀ k : Fin 17, wake.domOn (blkDom k) = true := by decide

/-! Premises of WholeWordsAndReservedFields. -/

theorem witness_narrow : wake.cpuOn = true ∧ inWindows 0x40080028 = true ∧ wake.domOn (blkDom (blkOf 0x40080028)) = true ∧
    wake.evl.queue.length < 32 ∧ (regRow 0x40080028).isSome = true := by decide

/-! Premises of UplinkFramesAreGuarded. -/

/-- A running network whose ring 0 is enabled, port 0 up and the network buffer initialised. -/
def netDemo : State :=
  setAct (Reg.NET_RING_CTL 0) 1 (setReg (Reg.NET_PORT_STAT 0) 15 (setReg Reg.MEM_INIT 0xFF
    { runDemo with time := { runDemo.time with nextNs := runDemo.clenU } }))
/-- A frame of TYPE 1 with nothing in it. -/
def emptyFrame : Frame := ⟨none, 0, [], 0, false, 0, 0⟩
theorem witness_uplink : netDemo.netOn = true ∧ netDemo.ringEn 0 = true ∧ netDemo.portUp 0 = true := by decide
theorem witness_guard_fails : (guardFrame 0 0 emptyFrame netDemo).2 = .fail 1 false := by decide
theorem witness_guard_admits : checkFrame 0 ⟨0, 512, 80, 20000, 1, 0⟩ 512
    (mkFrame (headOf 1 0 0 0 (netDemo.owner 0) netDemo.cyc 0 0) [0, 0, 0, 0, 0, 0, 0]) netDemo = .admits := by decide +kernel

/-! Premises of AcceptedFramesReachTheBuffer. -/

theorem witness_accept : ({ netDemo with net := { netDemo.net with
    accepts := [⟨3, 0, 40, [1, 2, 3, 4, 5, 6, 7], 0⟩] } } : State).netOn = true ∧
    ([⟨3, 0, 40, [1, 2, 3, 4, 5, 6, 7], 0⟩] : List AccPend).find? (fun a => a.n = 3 && netDemo.inCycle a.due) =
      some ⟨3, 0, 40, [1, 2, 3, 4, 5, 6, 7], 0⟩ := by decide
theorem witness_miss : let s := setAct (Reg.SLT_SLOT 3) 0xA0000003 netDemo
    s.missDue 3 = some 3 ∧ s.inCycle (s.missTick 3 3) = true ∧ s.net.late.find? (fun m => m.n = 3) = none := by decide
theorem witness_late_miss : ([⟨3, 0, 40⟩] : List LateMiss).find? (fun m => m.n = 3) = some ⟨3, 0, 40⟩ := by decide

/-! Premises of EchoesAndDownlinks. -/

theorem witness_downlink : (setAct (Reg.SLT_SLOT 3) 0x90000003 netDemo).downDue 3 =
    some (0, (setAct (Reg.SLT_SLOT 3) 0x90000003 netDemo).af (Reg.SLT_DD 3) 23 0) := by decide
theorem witness_echo : netDemo.ringEn 0 = true ∧ ([⟨0, 0, 0, 5, 9⟩] : List EchoPend).find?
    (fun e => e.ring = 0 && e.slot = fSlot emptyFrame && e.seq = fSeq emptyFrame) = some ⟨0, 0, 0, 5, 9⟩ := by decide

/-! Premises of ProbesMeasureRoundTrips. -/

theorem witness_probe_send : ((setAct (Reg.SLT_PRA 0) 0x80000000 (putRing 0 { probeA := some 5 } netDemo)).probeDue 0) = some 5 ∧
    (setAct (Reg.SLT_PRA 0) 0x80000000 (putRing 0 { probeA := some 5 } netDemo)).netOn = true := by decide
theorem witness_probe_return : let f := mkFrame (headOf 6 0 5 0 0 0 0 0) [0, 0, 65536, 0, 0]
    ((putRing 0 { pend := [⟨1, 0, 5, 0⟩] } netDemo).ring 0).pend.find?
        (fun e => e.num = fWord f 2 / 65536 && e.port = 0 && e.key = keyA 0 (fSlot f)) = some ⟨1, 0, 5, 0⟩ ∧ fType f = 6 ∧ fHcsOk f = true ∧ fCrcOk f = true ∧ fClean f = true := by decide +kernel
theorem witness_probe_partner : let s := setAct (Reg.NET_RING_CTL 0) 5 netDemo
    let f := mkFrame (headOf 6 1 0x7F 0 0 0 0 0) [0, 0, 65536, 0, 0]
    s.netOn = true ∧ s.role 0 = 2 ∧ (s.ring 0).pend = [] ∧ fSlot f = 0x7F ∧ fDir f = true ∧ fType f = 6 ∧
      fHcsOk f = true ∧ fCrcOk f = true ∧ fClean f = true := by decide +kernel
theorem witness_probe_lost : ((putRing 0 { pend := [⟨1, 0, 5, 0⟩] } netDemo).ring 0).pend.find?
      (fun e => e.num = 1 && e.port = 0) = some ⟨1, 0, 5, 0⟩ ∧
    0 * 2 ^ 28 + 2 * netDemo.clenU < 3 * netDemo.clenU ∧ netDemo.clen ≠ 0 := by decide

/-! Premises of LinksNoticesAndRestoration. -/

theorem witness_notice : netDemo.netOn = true ∧ netDemo.role 0 = 0 ∧ netDemo.live 6 = true ∧ netDemo.domOn 6 = true ∧
    (netDemo.ring 0).ins = [] ∧ (netDemo.ring 0).insRun = false ∧ netDemo.cpuOn = true := by decide
theorem witness_restore : let s := putRing 0 { segCnt := 1024 } (setReg (Reg.NET_RING_STAT 0) 0xC0
    (setAct (Reg.NET_RING_CTL 0) 9 netDemo))
    s.rf (Reg.NET_RING_STAT 0) 7 6 ≠ 0 ∧ (s.ring 0).unloop = [] ∧ s.netOn = true ∧
      s.ab (Reg.NET_RING_CTL 0) 3 = true ∧ 1024 ≤ (s.ring 0).segCnt := by decide

/-! Premises of BeaconsAndSyncFramesLeave. -/

theorem witness_beacon : (setAct (Reg.SLT_BCN 0) 0x80000000 netDemo).netOn = true ∧ netDemo.beaconing = true ∧
    (setAct (Reg.SLT_BCN 0) 0x80000000 netDemo).ringEn 0 = true ∧ netDemo.role 0 ≠ 2 := by decide
theorem witness_sync : (setAct (Reg.SYN_SS 0) 0x80000000 netDemo).syncDue 0 = true := by decide

/-! Premises of StartUpStates. -/

theorem witness_start : wake.sysOn = true ∧ wake.cpuOn = true ∧ wake.domOn 6 = true ∧ wake.csState = 0 ∧ wake.running = false ∧
    (setReg Reg.SLT_CS_STAT 1 (setAct Reg.SLT_CFG 16 wake)).csState = 1 ∧
    (setReg Reg.SLT_CS_STAT 1 (setAct Reg.SLT_CFG 16 wake)).ab Reg.SLT_CFG 4 = true ∧
    (setReg Reg.SLT_CS_STAT 1 (setAct Reg.SLT_CFG 16 wake)).clen ≠ 0 := by decide
/-- In COLD, in the second cycle of a coldstart window with a collision. -/
def windowDemo : State :=
  let s := setReg Reg.SLT_CS_STAT 3 runDemo
  { s with slt := { s.slt with collided := true, window := some 0 }, time := { s.time with nextNs := 2 * s.clenU } }
theorem witness_window : windowDemo.windowEnds = some windowDemo.clenU := by decide
theorem witness_backoff : (setReg Reg.SLT_CS_STAT 2 wake).csState = 2 := by decide
theorem witness_cold : let s := setReg Reg.SLT_CS_STAT 3 { runDemo with time := { runDemo.time with ns := 8 * runDemo.clenU } }
    s.csState = 3 ∧ s.slt.collided = false ∧ s.slt.cold0 + 8 ≤ s.cyc := by decide
theorem witness_integ : let s := setReg Reg.SLT_CS_STAT 4 { runDemo with time := { runDemo.time with ns := 170 * runDemo.clenU } }
    s.csState = 4 ∧ s.slt.cold0 + 170 ≤ s.cyc := by decide
/-- In LISTEN, in the cascade tier, port 0 of the cascade enabled and up. -/
def casDemo : State := setReg Reg.SLT_CS_STAT 1 (setAct Reg.SLT_CFG 8 (setAct (Reg.CAS_PORT_CTL 0) 256
  (setReg (Reg.CAS_PORT_STAT 0) 8 wake)))
/-- A beacon of the same cycle length and tier. -/
def beaconDemo : Frame := mkFrame (headOf 4 0 0 0 0 0 0 0) [0, 0, 0, 8, 0]
theorem witness_beacon_heard : casDemo.casOn = true ∧ casDemo.casUp 0 = true ∧ fType beaconDemo = 4 ∧
    casDemo.memDone 5 = true ∧ (casArrive 0 0 beaconDemo casDemo).casBad 0 beaconDemo = false := by decide +kernel
theorem witness_beacon_same : fWord beaconDemo 1 / 65536 + fWord beaconDemo 2 % 65536 * 65536 = (casDemo.act Reg.SLT_IMG).toNat ∧
    fByte beaconDemo 12 % 16 = casDemo.af Reg.SLT_CFG 3 0 ∧ casDemo.csState = 1 := by decide +kernel

/-! Premises of ClaimsReleasesAndMutes. -/

theorem witness_claim : wake.cpuOn = true ∧ (setReg (Reg.SLT_CLAIM 0) 0x80000000 wake).rb (Reg.SLT_CLAIM 0) 31 = true ∧
    wake.rb (Reg.SLT_CLAIM 0) 31 = false := by decide
/-- Slot 79 of ring 3 held by a grant and missed for 256 cycles, SPAREREL 1. -/
def spareDemo : State :=
  let s := setReg (Reg.SLT_SST (80 * 3 + 79)) 0x20000000 (setAct Reg.SLT_GUARD 0x10000 wake)
  { s with slt := { s.slt with missed := [(319, (256, 0))] } }
theorem witness_release_slot : spareDemo.rb (Reg.SLT_SST (80 * 3 + 79)) 29 = true ∧ 80 * 3 + 79 ∉ spareDemo.slt.release ∧
    spareDemo.af Reg.SLT_GUARD 31 16 ≠ 0 ∧
    spareDemo.af Reg.SLT_GUARD 31 16 * 256 ≤ spareDemo.missRun (80 * 3 + 79) := by decide
theorem witness_mute : (setReg (Reg.SLT_SST 323) 0x40000000 wake).rb (Reg.SLT_SST 323) 30 = true ∧
    (setReg (Reg.SLT_SST 323) 0x40000000 wake).rf (Reg.SLT_SST 323) 15 8 = 0 := by decide

/-! Premises of TimeBaseCommands. -/

theorem witness_correction : ({ runDemo with syn := { runDemo.syn with pendC := some 5 } } : State).loopOn = true ∧
    runDemo.running = true := by decide
theorem witness_follow_lock : let s := setReg Reg.SLT_CS_STAT 6 { wake with syn := { wake.syn with followCnt := 1024 } }
    s.csState = 6 ∧ s.syn.lockCnt < 8 ∧ s.rb Reg.SYN_STAT 3 = false ∧ 1024 ≤ s.syn.followCnt := by decide

/-! Premises of CascadeRecordsAreTaken. -/

theorem witness_cascade : casDemo.casOn = true ∧ casDemo.casUp 0 = true ∧ casDemo.memDone 5 = true ∧ (casArrive 0 0 emptyFrame casDemo).casBad 0 emptyFrame = true ∧
    casDemo.joined 0 = false := by decide +kernel
/-- A whole record of one TYPE. -/
def recDemo (type : Nat) : Frame := mkFrame (headOf type 0 0 0 0 0 0 0) [0, 0, 0, 0, 0]
/-- casDemo joined to unit 0, which is its partner. -/
def pairDemo : State := setReg (Reg.CAS_PORT_STAT 0) 0x18 (setAct Reg.CAS_CFG 0x20 casDemo)
theorem witness_record_types : ∀ k ∈ [1, 7, 8, 9], pairDemo.casBad 0 (recDemo k) = false ∧ fType (recDemo k) = k := by
  decide +kernel
theorem witness_record_link : casDemo.casBad 0 (recDemo 2) = false ∧ casDemo.casBad 0 (recDemo 3) = false ∧
    casDemo.linkGood 0 (recDemo 2) = false := by decide +kernel
/-- pairDemo in the role of standby with one axis mirrored. -/
theorem witness_mirror : let s := setAct (Reg.CAS_MIR_EN 0) 1 pairDemo
    s.ab Reg.CAS_CFG 8 = false ∧ s.mirEn 0 = true ∧ fByte (mkFrame (headOf 8 0 0 0 0 0 0 0) [1]) 0 = 2 ^ 0 ∧
    (mirAddrs 0 s).1.2 = true := by decide +kernel
theorem witness_pair : pairDemo.paired = true ∧ pairDemo.peer 0 = pairDemo.partner ∧ pairDemo.cas.mc = none := by decide

/-! Premises of RelaysMirrorsAndSending. -/

theorem witness_relay : let s := putCasPort 0 { accepts := [⟨3, 0, 40, [1, 2, 3, 4, 5, 6, 7], 0⟩] } (setReg Reg.MEM_INIT 0xFF casDemo)
    s.casOn = true ∧ s.netOn = true ∧ (s.casPort 0).accepts.find? (fun a => a.n = 3 && s.inCycle a.due) =
      some ⟨3, 0, 40, [1, 2, 3, 4, 5, 6, 7], 0⟩ := by decide
theorem witness_relay_miss : let s := setAct (Reg.CAS_RXDL 0) 160 (setReg Reg.SLT_CS_STAT 5 (setReg Reg.MEM_INIT 0xFF
      { casDemo with time := { casDemo.time with nextNs := 31250 * 2 ^ 32 } }))
    s.casOn = true ∧ s.netOn = true ∧ s.csState = 5 ∧ s.af (Reg.CAS_RXDL 0) 23 0 ≠ 0 ∧
      (s.casPort 0).missCyc ≠ some s.cyc ∧ (s.casPort 0).late = none ∧ s.inCycle (s.relayMissTick 0) = true := by decide
theorem witness_relay_late : (putCasPort 0 { late := some (⟨0, 0, 40⟩, [3]) } casDemo |>.casPort 0).late = some (⟨0, 0, 40⟩, [3]) := by
  decide
theorem witness_mirror_late : casDemo.rb Reg.CAS_PHEALTH 0 = false := by decide
theorem witness_cas_send : casDemo.casUp 0 = true ∧ earliest (casDemo.casReady 0) = some 0 ∧ casDemo.running = false ∧
    readyAt 0 (casDemo.casReady 0) = some 7 ∧ casDemo.memDone 5 = true := by decide

/-! Premises of CascadeLinksAndModeChanges. -/

theorem witness_cas_link : casDemo.live 6 = true ∧ casDemo.rb (Reg.CAS_PORT_STAT 0) 3 = true := by decide
theorem witness_announce : (setAct Reg.CAS_CFG 16 casDemo).casOn = true ∧ casDemo.cpuOn = true ∧ (setAct Reg.CAS_CFG 16 casDemo).ab Reg.CAS_CFG 4 = true := by
  decide
theorem witness_cancel : let s := { pairDemo with cas := { pairDemo.cas with mc := some ⟨1, 9, 3, true⟩ } }
    s.casOn = true ∧ s.cas.mc.isSome = true ∧ s.joined 0 = true ∧ s.cas.held = [] := by decide
theorem witness_pair_timeout : let s := { pairDemo with cas := { pairDemo.cas with gap := 8 } }
    s.casOn = true ∧ s.paired = true ∧ (s.portTo s.partner).isSome = true ∧ 8 ≤ s.cas.gap := by decide

/-! Premises of CaptureCycle. -/

/-- A running network with capture enabled and initialised, Sprout in HOLD, a record and an edge waiting. -/
def acqDemo : State :=
  let s := setReg Reg.ACQ_SQ_STAT 0x10 (setAct Reg.ACQ_CFG 0x80000000 runDemo)
  { s with acq := { s.acq with evalAt := some 300, recAt := some 308, xedge := some 5, fifo := [(1, [7])] } }
theorem witness_acq : acqDemo.acqOn = true ∧ acqDemo.running = true ∧ acqDemo.ab Reg.ACQ_CFG 31 = true ∧
    acqDemo.acq.capCyc ≠ some acqDemo.cyc ∧ acqDemo.phase = 1 ∧ wake.phase = 0 ∧ acqDemo.cpuOn = true ∧ (setReg Reg.MEM_INIT 0x7F wake).memDone 7 = false := by decide
/-- Area 0 in RING mode, armed. -/
theorem witness_record_due : let s := setReg (Reg.ACQ_AREA_STAT 0) 0x2000000 (setAct (Reg.ACQ_AREA_CTL 0) 1 acqDemo)
    s.acqOn = true ∧ s.acq.recAt = some 308 ∧ s.memDone 7 = true ∧ (∀ b, b < 4 → b ≠ 0 → s.areaMode b = 0) ∧ s.areaMode 0 = 1 ∧
    s.astate 0 = 2 ∧ s.af (Reg.ACQ_AREA_CTL 0) 15 12 = 0 ∧ s.acq.fifo.length + (recordLines 0 (s.wp 0) s).length < 32 := by
  decide
/-- Sprout in RUN in a state whose branch A always holds, and in HOLD while a RING area lacks its PRE records. -/
theorem witness_branches : let s := { acqDemo with acq := { acqDemo.acq with xedge := none } }
    let r := setReg Reg.ACQ_SQ_STAT 0x20 (setAct (Reg.ACQ_SQ_ST 0) 1 s)
    let h := setAct (Reg.ACQ_AREA_PP 0) 1 (setAct (Reg.ACQ_AREA_CTL 0) 1 s)
    r.phase = 2 ∧ r.condTrue (bitsOf (fld (r.act (Reg.ACQ_SQ_ST 0)) 15 0) 4 0) = true ∧ h.phase = 1 ∧ h.preDone = false := by
  decide
theorem witness_fifo_full : (List.replicate 31 (0, ([] : List Nat))).length + (recordLines 0 0 acqDemo).length = 32 := by decide
theorem witness_fifo_room : acqDemo.acq.fifo.length + (recordLines 0 0 acqDemo).length < 32 := by decide
theorem witness_drain : ((setAct Reg.ACQ_WHEEL_0 1 acqDemo).nextSlot 1 0).isSome = true := by decide

/-! Premises of EdgesAndTriggerOutput. -/

theorem witness_edge : acqDemo.acq.edges = [] ∧ (setAct Reg.ACQ_TIN_CFG 8 acqDemo).ab Reg.ACQ_TIN_CFG 3 = true ∧
    acqDemo.acq.xDrive = none ∧ wake.acq.xedge = none := by decide
theorem witness_drive : ({ acqDemo with acq := { acqDemo.acq with xDue := some 40, xDrive := some 80 } } : State).acqOn = true := by
  decide

/-! Premises of CaptureMemoryAccess. -/

theorem witness_refresh : wake.live 8 = true ∧ wake.live 7 = true ∧ wake.mi.refreshTick ≤ 0 := by decide
theorem witness_bar2 : (setReg Reg.HIF_LINK 1 wake).rb Reg.HIF_LINK 0 = true ∧ (setReg Reg.HIF_LINK 1 wake).rf Reg.HIF_LINK 15 14 = 0 ∧
    (setAct Reg.ACQ_WHEEL_0 2 wake).slotOwner 0 = 2 ∧ wake.le.writes = [] ∧
    (bar2Bytes 65 0 8 (setAct Reg.ACQ_WHEEL_0 2 wake)).1 = some (List.replicate 8 0) := by decide
theorem witness_refresh_due : let s := { wake with acq := { wake.acq with slotR := 15 } }
    4 * (toSlot15 s).acq.slotR - s.mi.refreshTick = 124 ∧ (toSlot15 { s with mi := { s.mi with refreshTick := 100 } }).refreshDue = true := by
  decide
theorem witness_scrub_line : let s := setAct (Reg.MEM_SCRUB 7) 0x80000000 { wake with mi := { wake.mi with refreshTick := 1000 } }
    s.live 8 = true ∧ 4 * (refreshSlot s).acq.slotR < s.mi.refreshTick ∧ s.ab (Reg.MEM_SCRUB 7) 31 = true ∧
    s.memDone 7 = true := by decide +kernel

/-! Premises of MemoryMaintenance. -/

theorem witness_scrub : (setAct (Reg.MEM_SCRUB 0) 0x80000000 (setReg Reg.MEM_INIT 0xFF wake)).scrubs (memOfPart 0) = true := by
  decide
theorem witness_wzero : wake.cpuOn = true ∧ wake.mayClear 0x10000000 = true ∧ wake.mayClear 0x30000000 = true ∧
    wake.mayClear 0 = false ∧ wake.le.writes = [] ∧ wake.peaHit 0x10000000 = false ∧ wake.peaHit 0x10000004 = false := by decide
theorem witness_init : let s := setReg Reg.MEM_INIT 0 wake
    ∀ m : Fin 8, s.live (memDom m) = true ∧ s.memDone m = false ∧ s.initBusy m = false := by decide
theorem witness_init_busy : ({ wake with mi := { wake.mi with initUntil := [(0, 65536)] } } : State).initBusy 0 = true := by decide
theorem witness_repair : (setReg Reg.MEM_INIT 0xFF wake).memDone (memOfPart 0) = true ∧
    (setReg Reg.MEM_INIT 0xFF wake).rf (Reg.MEM_REP 0) 5 4 + (setReg Reg.MEM_INIT 0xFF wake).rf (Reg.MEM_REP 0) 7 6 = 0 := by decide

/-! Premises of MemoriesKeepTheirForm. -/

theorem witness_memory_form : State.reset.mem.wf = true := by decide

/-! Premises of FieldInputsFollowTheirFilter. -/

/-- Field supply present, input 0 filtered high at its limit. -/
def fieldDemo : State := setReg Reg.FIO_SUP 6 (putFin 0 { raw := false, cnt := 255 } (setAct (Reg.FIO_IN_CFG 0) 0x504 wake))
theorem witness_field : fieldDemo.fieldOn = true ∧ fieldDemo.finDue 0 = some true ∧ fieldDemo.rb Reg.FIO_IN_LVL 0 ≠ true ∧
    (putFin 0 { cnt := 2 } fieldDemo).finDue 0 = none ∧ fieldDemo.wbMeasures 0 = true ∧
    fieldDemo.rb Reg.FIO_IN_WB 0 = false ∧ fieldDemo.huskOn = true ∧ (fieldDemo.fin 0).at_ = none ∧
    fieldDemo.mtick * 103 < 800 * 10 ^ fieldDemo.af (Reg.FIO_IN_CFG 0) 5 4 * 100 := by decide

/-! Premises of FieldOutputsAndFaults. -/

/-- Field supply present, output 0 commanded on and its open wire tested. -/
def outDemo : State := setReg Reg.FIO_SUP 0 (setReg Reg.FIO_OUT 1 (setAct (Reg.FIO_OUT_CFG 0) 1 wake))
theorem witness_outputs : outDemo.cpuOn = true ∧ outDemo.domOn 9 = true ∧ outDemo.huskOn = true ∧ outDemo.outOn 0 = true ∧
    outDemo.outOn 7 = false ∧ outDemo.owTests 0 = true ∧ outDemo.outFor 0 * 103 < 50 * 80000000 := by decide
theorem witness_output_times : let s := { outDemo with time := { outDemo.time with mono := 64 * 800000 * 60 } }
    50 * 80000000 ≤ s.outFor 0 * 97 ∧ (fld (s.outCfg 7) 19 16 + 1) * 80000000 ≤ s.outFor 7 * 97 ∧
    fld (s.outCfg 0) 11 8 * 80000000 ≤ min 1000000 (s.outFor 0) * 97 ∧ s.offFor 7 = some (s.outFor 7) ∧ s.offFor 0 = none := by decide

/-! Premises of HeartbeatAndFieldSupply. -/

theorem witness_heartbeat : fieldDemo.cpuOn = true ∧ fieldDemo.fieldOn = true ∧ fieldDemo.huskOn = true ∧
    fieldDemo.rb Reg.FIO_SUP 2 = true ∧ fieldDemo.rb Reg.FIO_SUP 1 = true ∧
    (setReg Reg.FIO_SUP 8 wake).rb Reg.FIO_SUP 3 = true := by decide
theorem witness_heartbeat_loss : let s := { fieldDemo with time := { fieldDemo.time with mono := 64 * 1650000 } }
    s.huskOn = true ∧ s.fio.linkDown = false ∧ 160000000 ≤ (s.mtick - s.fio.hbAt) * 97 := by decide

/-! Premises of SafetyStatesAndRequests. -/

/-- Field supply present, in RUN of the safety states. -/
def safDemo : State := setReg Reg.FIO_SUP 0 (setReg Reg.SAF_STATE 1 { wake with saf := { wake.saf with husk := [0, 1, 0, 0, 0, 0, 0] } })
theorem witness_safety : safDemo.cpuOn = true ∧ safDemo.huskOn = true ∧ safDemo.safState = 1 ∧ safDemo.live 1 = true ∧
    (fld (safDemo.huskReg 1) 15 0).testBit 0 = true ∧ safDemo.rb Reg.FIO_IN_LVL 0 = false ∧
    fld (safDemo.huskReg 3) 31 16 = 0 := by decide
theorem witness_test_state : (setReg Reg.SAF_STATE 0 safDemo).safState = 0 ∧ (setReg Reg.SAF_STATE 2 safDemo).safState = 2 := by decide
theorem witness_discrepancy : kvGet (fun _ => none) ({ safDemo.saf with diffAt := [(0, some 0)] } : SafSt).diffAt 0 = some 0 ∧ 0 < ({ safDemo.time with tick := 1 } : TimeSt).tick - 0 ∧
    (setAct Reg.SAF_INPAIR 1 safDemo).ab Reg.SAF_INPAIR 0 = true ∧ (setAct Reg.SAF_INPAIR 1 safDemo).af Reg.SAF_INPAIR 23 8 = 0 := by
  decide

/-! Premises of SafetyTaskAndMonitors. -/

theorem witness_period : (safDemo.noted Reg.SAF_REQ).upd = 0 ∧ safDemo.cpuOn = true ∧ safDemo.live 1 = true ∧ safDemo.fio.heldBits = [] ∧ safDemo.saf.period ≠ some safDemo.periodIdx := by decide
theorem witness_flow : safDemo.linkUp = true ∧ safDemo.rf Reg.SAF_PFM_SIG 15 0 ≠ fld (safDemo.huskReg 6) 15 0 ∧
    tsTicks (safDemo.huskReg 0) * 5 / 4 * 100 ≤ (({ safDemo with time := { safDemo.time with mono := 64 * 260000 } } : State).mtick - 0) * 97 := by
  decide
theorem witness_test_pulse : let s := setReg Reg.FIO_OUT 0x40 (setReg Reg.SAF_STATE 0x10001 safDemo)
    let p := { s with saf := { s.saf with pulse := [(0, some 0)] } }
    s.huskOn = true ∧ s.permit 0 = true ∧ s.outOn 6 = true ∧ s.pulseOf 0 = none ∧ fld (s.huskReg 0) 23 16 = 0 ∧
    p.huskOn = true ∧ p.permit 0 = true ∧ p.outOn 6 = true ∧ p.pulseOf 0 = some 0 ∧ fld (p.huskReg 0) 15 12 = 0 := by decide
theorem witness_sto : let s := setAct (Reg.AX_MODE 0) 1 (setAct (Reg.SAF_AXGRP 0) 1 (setReg Reg.SLT_CS_STAT 5
      (setAct (Reg.SAF_GCTL 0) 0 { safDemo with saf := { safDemo.saf with permAt := [(0, some 0)] } })))
    s.live 1 = true ∧ kvGet (fun _ => none) s.saf.permAt 0 = some 0 ∧ s.running = true ∧ 0 + s.af (Reg.SAF_GCTL 0) 31 24 ≤ s.cyc ∧
      s.permit 0 = false ∧ s.huskOn = true ∧ s.axGroup 0 = some 0 ∧ s.axEn s.cyc 0 = true ∧ (s.ax 0).dstat = none := by decide

/-! Premises of MailboxesChangeHands. -/

/-- The host interface with its link in D0 and mailbox 0 owned, mailbox 31 rung. -/
def hostDemo : State :=
  let s := setReg Reg.HIF_LINK 1 (setReg Reg.MEM_INIT 0xFF wake)
  { s with hif := { s.hif with hown := 1, queue := [0, 31], timers := [(0, some ⟨0, 0, true⟩)] } }
theorem witness_host_path : hostDemo.hostPath = true := by
  unfold State.hostPath
  rw [show (hostDemo.rb Reg.HIF_LINK 0 && decide (hostDemo.rf Reg.HIF_LINK 15 14 = 0)) = true from by decide]
  exact Bool.or_true _
theorem witness_mailbox : hostDemo.hostOn = true ∧ hostDemo.storedOn = true ∧ hostDemo.owned 0 = true ∧
    hostDemo.owned 1 = false ∧ hostDemo.mbFree 1 = true ∧ hostDemo.mbFree 0 = false ∧ hostDemo.nextRung = some 31 ∧
    wake.nextRung = none ∧ hostDemo.mbTimer 0 = some ⟨0, 0, true⟩ ∧ hostDemo.cpuOn = true ∧ hostDemo.domOn 7 = true ∧
    hostDemo.stage = 0 ∧ (hostDemo.decodeAt (mbAddr 0 8)).out = .clean := by decide
/-- In STAGE 3 an acceptance reads a clean header. -/
theorem witness_acceptance :
    let s : State := { hostDemo with hif := { hostDemo.hif with hstate := 3 } }
    s.stage = 3 ∧ (mbWord 0 0 s).1.isSome = true ∧ (mbWord 0 4 (mbWord 0 0 s).2).1.isSome = true := by decide

/-! Premises of HostLinkAndQuadSpi. -/

theorem witness_link : wake.hostOn = true ∧ wake.rb Reg.HIF_LINK 0 = false ∧ hostDemo.rb Reg.HIF_LINK 0 = true := by decide
/-- The quad-SPI slave is selected, and four bytes of mailbox 0 wait. -/
def spiDemo : State :=
  { hostDemo with
    pcr := { hostDemo.pcr with hostSel := true }
    hif := { hostDemo.hif with spi := [(16, 1), (17, 2), (18, 3), (19, 4)], jobs := [(0, some { opc := 2, since := 0 })] } }
theorem witness_spi : spiDemo.hostOn = true ∧ spiDemo.hostSel = true ∧ spiDemo.pinsTaken = false ∧
    spiDemo.hif.spi = (16, 1) :: (16 + 1, 2) :: (16 + 2, 3) :: (16 + 3, 4) :: [] ∧ hostDemo.hostSel = false ∧
    (spiDemo.job 0).isSome = true := by decide
theorem witness_spi_short : ({ spiDemo with hif := { spiDemo.hif with spi := [(17, 1)] } } : State).hif.spi = (17, 1) :: [] := by
  decide
theorem witness_spi_shown :
    let s : State := { spiDemo with hif := { spiDemo.hif with spi := [], spiShown := some 2 } }
    s.hif.spi = [] ∧ s.hif.spiShown.isSome = true := by decide

/-! Premises of DmaAndFlashRunAndHalt. -/

theorem witness_dma_go : hostDemo.cpuOn = true ∧ hostDemo.domOn 7 = true ∧ hostDemo.rb (Reg.HIF_DMA_STAT 0) 31 = false ∧
    hostDemo.rb (Reg.HIF_DMA_STAT 0) 29 = false := by decide
/-- hostDemo with a transfer of one word into tightly coupled memory on channel 0, outward on channel 1. -/
def dmaDemo : State :=
  setReg Reg.HIF_LINK 0x21 { hostDemo with hif := { hostDemo.hif with dma :=
    [(0, some ⟨0, 0x10000000, 4, false, 0⟩), (1, some ⟨0, 0x10000000, 4, true, 0⟩)] } }
theorem witness_dma_done : dmaDemo.hostOn = true ∧ dmaDemo.domOn 1 = true ∧ dmaDemo.dma 0 = some ⟨0, 0x10000000, 4, false, 0⟩ ∧
    dmaDemo.dma 1 = some ⟨0, 0x10000000, 4, true, 0⟩ ∧
    0 + 8000000 ≤ ({ dmaDemo.time with tick := 8000000 } : TimeSt).tick ∧ dmaDemo.rb Reg.HIF_LINK 5 = true ∧
    dmaRange 0x10000000 4 = some 0 ∧ dmaDemo.memDone 0 = true ∧
    ∀ i, i < 1 → (dmaDemo.decodeAt (0x10000000 + 4 * i)).out = .clean := by decide
theorem witness_flash_done : let s := { hostDemo with hif := { hostDemo.hif with flash := some { cmd := 0x200, addr := 0, ladr := 0x10000000 } } }
    s.hostOn = true ∧ s.domOn 1 = true ∧ s.pinsTaken = false ∧ ({ cmd := 0x200, addr := 0, ladr := 0x10000000 } : FlashOp).len = 2 ∧
    ∀ i, i < 2 → inTcm (0x10000000 + i) = true ∧ (s.decodeAt (0x10000000 + i)).out = .clean := by decide
/-- The task of mailbox 0 programs the second copy. -/
theorem witness_flash_task : let s := { hostDemo with hif := { hostDemo.hif with flash := (confOps 0 true true ({} : ConfCopy)).getLast? } }
    s.hostOn = true ∧ s.domOn 1 = true ∧ s.hif.flash.map (·.conf) = some (some (true, ({} : ConfCopy))) ∧ s.hif.flashTasks = [] ∧
      s.evl.eraseDue = [] := by decide
/-- A transfer over a boundary of 256 bytes takes two requests. -/
theorem test_requests : requests 256 0x1FC 8 = [(0x1FC, 4), (0x200, 4)] := by decide

/-! Premises of GliporConfiguresAndCommits. -/

/-- Glipor has accepted command opc in mailbox 0 of a device in STAGE 3. -/
def gliporDemo (opc : Nat) : State :=
  let s := { hostDemo with hif := { hostDemo.hif with hstate := 3 } }
  write32 (mbAddr 0 0) opc false s
theorem witness_takes : ∀ opc ∈ [0x10, 0x11, 0x12, 0x20, 0x30, 0x31, 0x32, 0x33, 0x34, 0x40], (gliporDemo opc).takes 0 opc 0 0 := by
  decide +kernel
theorem witness_no_job : ((gliporDemo 0x12).afterHead 0).job 0 = none ∧
    ((gliporDemo 0x30).afterHead 0).ab (Reg.AX_MODE 0) 0 = false ∧ (memOf (elemAddr 0 0)).isSome = true ∧
    (setAct (Reg.AX_MODE 0) 1 (gliporDemo 0x30)).ab (Reg.AX_MODE 0) 0 = true ∧
    (putJob 0 (some { opc := 0x12, since := 0 }) (gliporDemo 0x12)).takes 0 0x12 0 0 ∧
    (putJob 0 (some { opc := 0x40, since := 0, arg := 1 }) (gliporDemo 0x40)).rf Reg.CAS_MC_ACT 15 0 = 0 := by
  decide +kernel
/-- One point is in the pod's memory, one far beyond its end is not. -/
theorem witness_points : ((gliporDemo 0x33).afterHead 0).stage = 3 ∧
    ((gliporDemo 0x33).afterHead 0).dest (elemAddr 0 (((gliporDemo 0x33).afterHead 0).pointElem 0 0 false + 3)) = .mem 1 ∧
    (putPg 0 { abase := 60000 } ((gliporDemo 0x33).afterHead 0)).dest
      (elemAddr 3 ((putPg 0 { abase := 60000 } ((gliporDemo 0x33).afterHead 0)).pointElem 0 0 false)) = .hole := by
  decide +kernel

/-! Premises of GliporServesTheRest. -/

theorem witness_turned_away : ∃ w0 w1, (gliporDemo 0x999).serves 0 = true ∧ (mbWord 0 0 (gliporDemo 0x999)).1 = some w0 ∧
    (mbWord 0 4 (mbWord 0 0 (gliporDemo 0x999)).2).1 = some w1 ∧ (gliporDemo 0x999).orphan 0 2 = none :=
  ⟨0x999, 0, by decide +kernel⟩
theorem witness_orphan : (putJob 32 (some { opc := 2, since := 0 }) (gliporDemo 2)).orphan 0 2 = some (32, { opc := 2, since := 0 }) ∧
    (gliporDemo 2).hif.hown < 2 ^ 32 ∧ (gliporDemo 2).hif.struck = false := by decide +kernel
theorem witness_takes_rest : ∀ opc ∈ [1, 2, 3, 4, 5, 0x20, 0x21, 0x22, 0x23, 0x41, 0x50, 0x60, 0x61, 0x62, 0x70, 0x80, 0x81, 0x82,
    0x83, 0x90, 0xA0], (gliporDemo opc).takes 0 opc 0 0 := by decide +kernel
theorem witness_glipor_rest : ((gliporDemo 0x20).afterHead 0).job 0 = none ∧ ((gliporDemo 0x22).afterHead 0).domOn 6 = true ∧
    ((gliporDemo 0x61).afterHead 0).safState = 0 := by decide +kernel
theorem witness_flash_jobs : ∀ opc ∈ [0x61, 0x80], ((gliporDemo opc).afterHead 0).job 0 = none ∧
    ((gliporDemo opc).afterHead 0).rb Reg.HIF_FL_STAT 31 = false ∧ ((gliporDemo opc).afterHead 0).rb Reg.HIF_FL_STAT 28 = false ∧
    (putJob 0 (some { opc := opc, since := 0, arg := 1 }) (gliporDemo opc)).takes 0 opc 0 0 ∧
    ((putJob 0 (some { opc := opc, since := 0, arg := 1 }) (gliporDemo opc)).afterHead 0).taskRuns 0 = false := by decide +kernel

/-! Premises of BootRomStartsImages. -/

/-- The boot ROM with command opc in mailbox 0. -/
def romDemo (opc : Nat) : State :=
  let s := { hostDemo with hif := { hostDemo.hif with hstate := 1 } }
  write32 (mbAddr 0 20) 7 false (write32 (mbAddr 0 4) 5 false (write32 (mbAddr 0 0) opc false s))
theorem witness_rom : hostDemo.cpuOn = true ∧ hostDemo.hostOn = true ∧ hostDemo.stage = 0 ∧
    ∀ opc ∈ [0xF00, 0xF01], (romDemo opc).owned 0 = true ∧ (romDemo opc).stage = 1 ∧
      (mbWord 0 0 (romDemo opc)).1 = some opc ∧ (mbWord 0 4 (mbWord 0 0 (romDemo opc)).2).1 = some 5 ∧
      (mbPayload 0 0 2 (mbWord 0 4 (mbWord 0 0 (romDemo opc)).2).2).1.map (·.take 5) = some [0, 0, 0, 0, 7] := by decide +kernel

/-! Premises of RecorderAcceptsAndFlushes. -/

/-- The recorder at work with one event queued. -/
def evlDemo : State :=
  { hostDemo with evl := { hostDemo.evl with boot := none, queue := [⟨5, 1, 0, 0, 0, 0, 0, 0⟩] } }
theorem witness_recorder : evlDemo.cpuOn = true ∧ evlDemo.live 1 = true ∧ evlDemo.evl.acceptAt ≠ some evlDemo.sclk ∧
    evlDemo.evl.queue = [⟨5, 1, 0, 0, 0, 0, 0, 0⟩] ∧ evlDemo.evl.lostNow = 0 ∧ evlDemo.evl.held = [] ∧
    evlDemo.memDone 6 = true ∧ (setReg Reg.MEM_INIT 0xBF wake).memDone 6 = false ∧ 2 ≤ evlDemo.slotsFree ∧
    evlDemo.af Reg.EVL_RL 7 0 * 800000 ≤ ({ evlDemo with time := { evlDemo.time with tick := 204000000 } } : State).time.tick - 0 := by
  decide
/-- Eight records wait for a flush. -/
def flushDemo : State := setReg Reg.EVL_WSEQ 8 (setAct Reg.EVL_CFG 1 evlDemo)
theorem witness_flush : flushDemo.backgroundDue = true ∧ flushDemo.ab Reg.EVL_CFG 1 = false ∧ flushDemo.flen = true ∧
    flushDemo.rb Reg.EVL_STAT 3 = false ∧ (setRb Reg.HIF_FL_STAT 28 true flushDemo).rb Reg.HIF_FL_STAT 28 = true ∧
    flushDemo.live 1 = true ∧ flushDemo.evl.eraseDue = [] ∧ flushDemo.evl.boot = none ∧ flushDemo.evl.held = [] ∧ flushDemo.memDone 6 = true ∧ flushDemo.rb Reg.PCR_SUP_STAT 0 = false ∧ flushDemo.hostOn = true ∧ flushDemo.domOn 1 = true ∧ flushDemo.hif.flash = none ∧
    flushDemo.evl.forced = none ∧ flushDemo.evl.lostNow = 0 ∧ 2 ≤ flushDemo.slotsFree ∧ flushDemo.rb Reg.EVL_STAT 2 = false := by decide

/-! Premises of RecbadForABadSlot. -/

theorem witness_recbad : let s := putChk (memBase 6) poisonMark flushDemo
    s.unflushed = 8 ∧ (s.decodeAt (memBase 6)).ok = false ∧ s.flen = true ∧ s.live 1 = true ∧ s.ab Reg.EVL_CFG 1 = false ∧
    s.fseq = 0 ∧ s.backgroundDue = true ∧ s.pinsTaken = false ∧ s.sectorWaits = false ∧ s.rb Reg.PCR_SUP_STAT 0 = false ∧ s.rf Reg.MEM_ERR 7 0 = 0 ∧
    s.rf Reg.MEM_ERR 23 16 = 0 ∧ s.evl.lostNow = 0 ∧ (s.decodeAt (memBase 6 + 32 * (s.wseq % 16384))).ok = true := by decide +kernel

/-! Premises of PowerStatesDomainsAndClocks. -/

theorem witness_power_request : wake.cpuOn = true ∧ wake.sysOn = true ∧ wake.cur = 0 ∧ (setReg Reg.PCR_CLK_STAT 0x1F wake).rb Reg.PCR_CLK_STAT 5 = false ∧
    (setReg Reg.PCR_CLK_STAT 0x1F wake).rb Reg.PCR_CLK_STAT 0 = true ∧ wake.rb Reg.PCR_CLK_STAT 5 = false ∧
    wake.rb Reg.PCR_SUP_STAT 0 = false ∧ (setReg Reg.PCR_SUP_STAT 1 wake).rb Reg.PCR_SUP_STAT 0 = true := by decide
/-- In STANDBY, woken by source 0. -/
def standbyDemo : State := setReg Reg.PCR_WAKE_EN 1 (setReg Reg.PCR_PSTATE 0x20002 wake)
theorem witness_power_wake : standbyDemo.wakes 0 = true ∧ standbyDemo.pcr.trans = none ∧ standbyDemo.frozen = false := by decide
theorem witness_power_held : (setReg Reg.DBG_STAT 1 standbyDemo).wakes 0 = false ∧ (setReg Reg.DBG_STAT 1 standbyDemo).wakeActs 0 = true ∧
    (setReg Reg.DBG_STAT 1 standbyDemo).wakesToo 0 = false ∧ wake.wakes 0 = false ∧
    ({ setReg Reg.PCR_WAKE_EN 1 wake with pcr := { wake.pcr with wokeAt := some (0, 2) } } : State).wakesToo 0 = true := by decide
theorem witness_power_leaves : (setReg Reg.PCR_PSTATE 0x40001 { wake with pcr := { wake.pcr with trans := some (2, 1) } }).pcr.trans
    = some (2, 1) ∧ wake.evl.forced = none ∧ wake.pdActs = true ∧ wake.pinsTaken = false := by decide
theorem witness_power_entry : ({ setReg Reg.PCR_WAKE_EN 1 wake with pcr := { wake.pcr with trans := some (0, 3) } } : State).wakes 0
    = true := by decide
theorem witness_power_refresh : (setReg Reg.DBG_STAT 1 hostDemo).aoKeeps = true ∧ hostDemo.ab (Reg.MEM_SCRUB 7) 31 = true := by decide
theorem test_vreq_parity : vreqBits 30 = [false, false, false, true, true, true, true, false, true] := by decide
theorem witness_power_avs : (setAct Reg.PCR_AVS_CTL 0x80000000 wake).ab Reg.PCR_AVS_CTL 31 = true := by decide

/-! Premises of ResetsAndTheWatchdog. -/

theorem witness_resets : Machine.State.reset.pcr.inReset = true ∧ wake.cpuOn = true ∧ wake.live 1 = true := by decide
theorem witness_processor_reset : ({ wake with pcr := { wake.pcr with procReset := some 0x13 } } : State).pcr.procReset = some 0x13 ∧
    ({ wake with pcr := { wake.pcr with awaitStage := some 0 }, time := { wake.time with tick := 400000000 } } : State).time.tick - 0
      = 400000000 := by decide
theorem witness_release_warning : ({ Machine.State.reset with pcr := { Machine.State.reset.pcr with heldViow := true } } : State).pcr.inReset
    = true := by decide
theorem witness_watchdog : ({ wake with time := { wake.time with tick := 204000000 } } : State).kickLate = true ∧ standbyDemo.sleepState = 2 := by decide

/-! Premises of DebugPortAndFreeze. -/

theorem witness_debug : wake.tapOn = true ∧ Machine.State.reset.tapOn = true ∧ Machine.State.reset.pcr.inReset = true ∧ hostDemo.pcr.inReset = false ∧ hostDemo.dbg.waiting = [] ∧ ({ hostDemo with dbg := { hostDemo.dbg with ir := 8 } } : State).dest 0x10000000 = .mem 0 ∧
    hostDemo.dest 0x60000000 = .hole ∧ hostDemo.dest 0x30000000 = .mem 7 ∧ hostDemo.peaHit 0x10000000 = false ∧
    (∀ j, j < 16 → (setAct Reg.ACQ_WHEEL_0 0 (setAct Reg.ACQ_WHEEL_1 0 hostDemo)).slotOwner j ≠ 3) ∧ hostDemo.le.writes = [] ∧ (hostDemo.decodeAt 0x10000000).out = .clean := by decide
theorem witness_freeze : (setAct Reg.DBG_CTL 1 wake).ab Reg.DBG_CTL 0 = true ∧ wake.dbg.ballSeen = true ∧ wake.pcr.inReset = false ∧ wake.frozen = false ∧
    (setReg Reg.DBG_STAT 3 wake).frozen = true ∧ (setReg Reg.DBG_STAT 3 wake).rb Reg.DBG_STAT 2 = false ∧
    (setReg Reg.DBG_STAT 5 wake).rb Reg.DBG_STAT 2 = true := by decide

/-! Ill-formed commands, one for each check of WellFormed.lean. -/

theorem test_refuses_long_frame : (Instr.uplinkFrame 0 0 { emptyFrame with words := List.replicate 65 0 }).wellFormed = false := by
  decide +kernel
theorem test_refuses_far_end : (Instr.linkRecord 0 0 { emptyFrame with edAt := 4096 }).wellFormed = false := by decide +kernel
theorem test_refuses_no_lanes : (Instr.registerWrite 0x40000000 0 0).wellFormed = false ∧
    (Instr.mailboxWrite true 0 0 0).wellFormed = false ∧ (Instr.processorStore 0 0 0).wellFormed = false ∧
    (Instr.rcFieldRead 0 0).wellFormed = false := by decide
theorem test_refuses_empty_reads : (Instr.bar2Read 0 0).wellFormed = false ∧ (Instr.spiRead 0 0 []).wellFormed = false ∧
    (Instr.spiRead 0 4 [4]).wellFormed = false ∧ (Instr.spiWrite 0 []).wellFormed = false := by decide
theorem test_refuses_empty_requests : (Instr.cfgRead 0 []).wellFormed = false ∧ (Instr.cfgWrite 0 []).wellFormed = false ∧
    (Instr.glCommit 0 []).wellFormed = false ∧ (Instr.glMotion 0 []).wellFormed = false ∧
    (Instr.tableAppend 0 0 0 false []).wellFormed = false ∧ (Instr.axisAck 0 []).wellFormed = false := by decide
theorem test_refuses_long_requests : (Instr.cfgRead 0 (List.replicate 31 (0, 0))).wellFormed = false ∧
    (Instr.schedChunk 0 0 (List.replicate 237 0)).wellFormed = false ∧
    (Instr.fwWrite 0 0 (List.replicate 237 0) true).wellFormed = false ∧
    (Instr.loadChunk 0 (List.replicate 237 0)).wellFormed = false ∧
    (Instr.modeChange 0 (List.replicate 18 (0, 0)) 0 0).wellFormed = false := by decide +kernel
theorem test_accepts : (Instr.uplinkFrame 0 0 emptyFrame).wellFormed = true ∧ (Instr.registerWrite 0x40000000 15 0).wellFormed = true ∧
    (Instr.fwWrite 0 0 (List.replicate 232 0) true).wellFormed = true := by decide +kernel

/-! Values that the spec's tables and formats give by hand. -/

/-- R61: 1 + 2^-24 lies half way and goes to even; R64: a subnormal operand counts as zero; R66: ISUB wraps. -/
theorem test_arithmetic : fpAdd 0x3F800000 0x33800000 = (0x3F800000, 0) ∧ (fpAdd 1 0x3F800000).1 = 0x3F800000 ∧
    (intOp true false 0x80000000 1).1 = 0x7FFFFFFF := by decide
/-- The CRC-32 of R375 over "1234". -/
theorem test_check_value : crc32Words [0x34333231] = 0x9BE3E0A3 := by decide
/-- Table 8-4: the seven cycle lengths of R21. -/
theorem test_cycle_lengths : (List.range 7).map clenNs = [15625, 31250, 62500, 125000, 250000, 500000, 1000000] := by decide
/-- Table 1-5 and R29: window 13 begins at 0x400D_0000. -/
theorem test_window : Reg.HIF_CFG = 0x400D0000 ∧ Reg.MEM_WZERO = 0x400C00E0 := by decide
/-- Reset values that the spec gives (R466, R367, R231). -/
theorem test_reset_values : State.reset.reg Reg.PCR_RST_CAUSE = 1 ∧ State.reset.reg Reg.PCR_PD_STAT = 0x83 ∧
    State.reset.safState = 0 ∧ State.reset.csState = 0 ∧ State.reset.mem.wf = true ∧ State.reset.pending = [] := by decide
/-- The command in front runs: a warm system reset leaves its cause, 0x02 of Table 17-9. -/
theorem test_step : (match step ({ wake with pending := [.systemReset] } : State) with
    | .next t => t.rf Reg.PCR_RST_CAUSE 7 0 | _ => 0) = 2 := by decide +kernel

end Sys2Proof.Tests
end

section
/-! Refutations: states that the statements admit and in which the model answers otherwise. -/

namespace Sys2Proof.Machine

/-- Every domain powered and every memory initialised, in RUN. -/
def poweredState : State :=
  { setReg Reg.MEM_INIT 0xFF (setReg Reg.PCR_PD_STAT 0x3FF State.reset) with
    pcr := { State.reset.pcr with inReset := false, first := false } }

/-- A debug read of capture memory goes on (R469). -/
def waitingRead : State :=
  { poweredState with dbg := { poweredState.dbg with waiting := [⟨1, memBase 7, 0⟩] } }

/-- With the reset value of the wheel the next slot of owner 3 starts in tick 16, to which the waiting access
takes the time (R309). -/
theorem waitingRead_idle_tick : (idle waitingRead).time.tick = 16 := by decide +kernel

/-- Refutes O2: a debug access that waits for a slot of capture memory runs as soon as the tick has passed, and its slot
lies further ahead, so that an empty queue lets 16 ticks pass at once. -/
theorem not_emptyQueueLetsTimePass : ¬ Obligations.EmptyQueueLetsTimePass := by
  unfold Obligations.EmptyQueueLetsTimePass
  intro h
  obtain ⟨t, ht, -, hrun⟩ := h waitingRead rfl
  have hidle : t = idle waitingRead := by
    have e : step waitingRead = .next (idle waitingRead) := rfl
    exact Host.Outcome.next.inj (ht.symm.trans e)
  have htick := hrun rfl rfl
  rw [hidle, waitingRead_idle_tick] at htick
  exact absurd htick (by decide)

/-- Mailbox 0 is owned and its timer has ended, with PD_STAT 0x3FF. An echo of ring 2560 is awaited, whose error
counter NET_CNT_SEQ stands at the address of PCR_PD_STAT. -/
def timeoutPastEcho : State :=
  { poweredState with
    hif := { poweredState.hif with hown := 1, timers := [(0, some ⟨0, 0, true⟩)] }
    net := { poweredState.net with echoes := [⟨2560, 0, 0, 0, 0⟩] } }

theorem timeoutPastEcho_answers :
    exec (.mailboxTimeout 0) timeoutPastEcho =
      .next (settle (mailboxTimeout 0 (advanceTo 2 timeoutPastEcho))) := by rfl

/-- The missing echo counts within the sysclk and switches PD_CPU off, so that no STATUS is written. -/
theorem timeoutPastEcho_status :
    (settle (mailboxTimeout 0 (advanceTo 2 timeoutPastEcho))).rawBytes (mbAddr 0 8) 4 = 0 := by decide +kernel

/-- Refutes O50: what passes in the rest of the sysclk may change PCR_PD_STAT where the statement's premise, that the
mailbox can be reached, was read before; then the timeout completes the mailbox without STATUS. -/
theorem not_mailboxesChangeHands : ¬ Obligations.MailboxesChangeHands := by
  unfold Obligations.MailboxesChangeHands
  intro h
  obtain ⟨-, -, -, -, htimeout⟩ := h timeoutPastEcho
  obtain ⟨t, ht, -, -, -, -, -, hstatus⟩ :=
    htimeout 0 ⟨0, 0, true⟩ (by decide) (by decide) (by decide) (by decide)
  obtain rfl := Host.Outcome.next.inj (timeoutPastEcho_answers.symm.trans ht)
  have hraw := hstatus (by decide) (by decide +kernel)
  rw [show ((0 : Fin 32) : Nat) = 0 from rfl, timeoutPastEcho_status] at hraw
  exact absurd hraw (by decide)

end Sys2Proof.Machine
end

section
/-! Events that find room in the recorder's queue, and writes that are discarded. -/

namespace Sys2Proof.Machine

variable {s : State}

/-! The input queue of the recorder (R432). -/

theorem mem_evInsert {e x : Ev} {q : List Ev} : x ∈ evInsert e q ↔ x = e ∨ x ∈ q := by
  induction q with
  | nil => simp [evInsert]
  | cons y q ih =>
    unfold evInsert
    split
    · simp
    · simp only [List.mem_cons, ih]
      tauto

@[simp] theorem length_evInsert {e : Ev} {q : List Ev} : (evInsert e q).length = q.length + 1 := by
  induction q with
  | nil => rfl
  | cons y q ih =>
    unfold evInsert
    split
    · rfl
    · simp [ih]

/-- An event for which the queue has room enters it, and nothing else changes. -/
theorem queueEv_room {e : Ev} (h : s.evl.queue.length < 32) :
    queueEv e s = { s with evl := { s.evl with queue := evInsert e s.evl.queue } } := by
  have hfull : ¬ 32 < (evInsert e s.evl.queue).length := by rw [length_evInsert]; omega
  simp only [queueEv, hfull, decide_false, if_false, onlyIf_false]

theorem event_room {code cls inst x y : Nat} (hf : s.frozen = false) (h : s.evl.queue.length < 32) :
    event code cls inst x y s =
      { s with evl := { s.evl with queue := (evInsert
        ⟨code, cls, inst % 256, x % 2 ^ 32, y % 2 ^ 32, s.nsNow, s.cyc % 2 ^ 32, s.sclk⟩ s.evl.queue) } } := by
  unfold event pushEv
  rw [hf]
  exact queueEv_room h

/-! The clocks. -/

theorem sysOn_of_cpuOn (h : s.cpuOn = true) : s.sysOn = true := by
  simp only [State.cpuOn, Bool.and_eq_true] at h
  exact h.1

theorem not_frozen_of_sysOn (h : s.sysOn = true) : s.frozen = false := by
  simp only [State.sysOn, Bool.and_eq_true, Bool.not_eq_true'] at h
  exact h.1.2

theorem domOn_cpu_of_sysOn (h : s.sysOn = true) : s.domOn 1 = true := by
  simp only [State.sysOn, Bool.and_eq_true] at h
  exact h.1.1.1

/-! Register windows (R27, R29). -/

theorem inWindows_iff {a : Nat} : inWindows a = true ↔ 0x40000000 ≤ a ∧ a < 0x40110000 := by simp [inWindows]

theorem blkOf_aligned (a : Nat) : blkOf (a / 4 * 4) = blkOf a := by unfold blkOf; omega

theorem inWindows_aligned {a : Nat} (h : inWindows a = true) : inWindows (a / 4 * 4) = true := by
  rw [inWindows_iff] at h ⊢; omega

theorem dest_reg {a : Nat} (hw : inWindows a = true) (hd : s.domOn (blkDom (blkOf a)) = true) :
    s.dest a = .reg (blkOf a) := by simp [State.dest, hw, hd]

theorem dest_regOff {a : Nat} (hw : inWindows a = true) (hd : s.domOn (blkDom (blkOf a)) = false) :
    s.dest a = .regOff (blkOf a) := by simp [State.dest, hw, hd]

/-! Discarded writes (R8, R30, R31). -/

/-- From s to t a write to a is discarded and logged as an access error with its address. -/
def DiscardedWrite (a : Nat) (s t : State) : Prop :=
  t.regs = s.regs ∧ t.actv = s.actv ∧ t.mem = s.mem ∧ t.outs = s.outs ∧
    ∃ e ∈ t.evl.queue, e.code = evCode (blkOf a) 31 1 ∧ e.arg0 = a ∧ e.arg1 = 1

theorem accessError_discards {a : Nat} (ha : a < 2 ^ 32) (hf : s.frozen = false) (hq : s.evl.queue.length < 32) :
    DiscardedWrite a s (accessError (blkOf a) a true s) := by
  unfold accessError
  rw [event_room hf hq]
  refine ⟨rfl, rfl, rfl, rfl, _, mem_evInsert.2 (.inl rfl), ?_⟩
  exact ⟨rfl, Nat.mod_eq_of_lt ha, rfl⟩

theorem be_full {be : BitVec 4} : be.toNat % 16 = 15 ↔ be = 15 := by bv_omega

/-- A register write runs `procWrite`, which has no abort there to log. -/
theorem exec_registerWrite {addr w : Word} {be : BitVec 4} (hc : s.cpuOn = true) (hw : inWindows addr.toNat = true) :
    exec (.registerWrite addr be w) s = done (procStore addr.toNat be.toNat w s) := by
  simp [exec, execRegisterWrite, hc, hw]

theorem procStore_regOff {a be : Nat} {w : Word} (hw : inWindows a = true)
    (hd : s.domOn (blkDom (blkOf a)) = false) : procStore a be w s = accessError (blkOf a) a true s := by
  have h : s.dest (a / 4 * 4) = .regOff (blkOf a) := by
    rw [← blkOf_aligned a] at hd ⊢; exact dest_regOff (inWindows_aligned hw) hd
  simp [procStore, procWrite, h]

theorem procStore_narrow {a be : Nat} {w : Word} (hw : inWindows a = true) (hd : s.domOn (blkDom (blkOf a)) = true)
    (hn : a % 4 ≠ 0 ∨ be % 16 ≠ 15) : procStore a be w s = accessError (blkOf a) a true s := by
  have h : s.dest (a / 4 * 4) = .reg (blkOf a) := by
    rw [← blkOf_aligned a] at hd ⊢; exact dest_reg (inWindows_aligned hw) hd
  simp [procStore, procWrite, h, hn]

theorem procStore_whole {a be : Nat} {w : Word} (hw : inWindows a = true) (hd : s.domOn (blkDom (blkOf a)) = true)
    (ha : a % 4 = 0) (hb : be % 16 = 15) : procStore a be w s = writeReg a w s := by
  have h : s.dest (a / 4 * 4) = .reg (blkOf a) := by
    rw [← blkOf_aligned a] at hd ⊢; exact dest_reg (inWindows_aligned hw) hd
  simp [procStore, procWrite, h, ha, hb]

/-- A write to a hole, to a block without power, or of less than an aligned word. -/
theorem registerWrite_discarded {addr w : Word} {be : BitVec 4} (hc : s.cpuOn = true)
    (hw : inWindows addr.toNat = true) (hq : s.evl.queue.length < 32)
    (hbad : regRow addr.toNat = none ∨ s.domOn (blkDom (blkOf addr.toNat)) = false ∨ addr.toNat % 4 ≠ 0 ∨ be ≠ 15) :
    Ends (exec (.registerWrite addr be w) s) (DiscardedWrite addr.toNat s) := by
  have hstore : procStore addr.toNat be.toNat w s = accessError (blkOf addr.toNat) addr.toNat true s := by
    cases hd : s.domOn (blkDom (blkOf addr.toNat))
    · exact procStore_regOff hw hd
    · by_cases hn : addr.toNat % 4 ≠ 0 ∨ be.toNat % 16 ≠ 15
      · exact procStore_narrow hw hd hn
      · push Not at hn
        rw [procStore_whole hw hd hn.1 hn.2]
        have hrow : regRow addr.toNat = none := by simpa [hd, hn.1, be_full.1 hn.2] using hbad
        simp [writeReg, hrow]
  rw [exec_registerWrite hc hw, hstore]
  exact ends_done (accessError_discards addr.isLt (not_frozen_of_sysOn (sysOn_of_cpuOn hc)) hq)

end Sys2Proof.Machine
end

section
/-! The register table, its masks, and what a write of a whole word stores (R9, R32, R43). -/

namespace Sys2Proof.Machine

variable {s : State}

/-! The form of the rows. -/

/-- The groups of a field in a row of n registers have a bit in DIRTY. -/
def Fld.groupsFit (n : Nat) (f : Fld) : Bool :=
  match f.grp with
  | some (b, d) => decide (b + (n - 1) / d < 32)
  | none => true

/-- Fields lie within the word and apart from each other, and their groups have a bit in DIRTY. -/
def fldsWf (n : Nat) : List Fld → Bool
  | [] => true
  | f :: fs => decide (f.lo ≤ f.hi) && decide (f.hi < 32) && f.groupsFit n &&
      fs.all (fun g => decide (f.hi < g.lo) || decide (g.hi < f.lo)) && fldsWf n fs

/-- Every row of Table 1-5 and of the common registers has that form. -/
theorem rows_wf : ((List.range 17).all fun k => (blockRows k ++ rowsCommon k).all fun r => fldsWf r.count r.flds) = true := by
  decide +kernel

theorem findRow_some {rs : List RegSpec} {off i : Nat} {r : RegSpec} (h : findRow rs off = some (r, i)) :
    r ∈ rs ∧ i ≤ r.count - 1 := by
  induction rs with
  | nil => simp [findRow] at h
  | cons x rs ih =>
    have hrest (h' : findRow rs off = some (r, i)) : r ∈ x :: rs ∧ i ≤ r.count - 1 :=
      ⟨.tail _ (ih h').1, (ih h').2⟩
    unfold findRow at h
    split at h
    · split at h
      · cases h; exact ⟨.head _, Nat.zero_le _⟩
      · exact hrest h
    · split at h
      · rename_i _ hin
        simp only [Bool.and_eq_true, decide_eq_true_eq] at hin
        obtain ⟨⟨hlo, hhi⟩, -⟩ := hin
        have hlt : (off - x.off) / x.stride < x.count := Nat.div_lt_of_lt_mul (by omega)
        cases h
        exact ⟨.head _, by omega⟩
      · exact hrest h

/-- What `regRow` can answer: a row of the block, a common one from offset 0xFF00 on. -/
theorem regRow_some {a i : Nat} {r : RegSpec} (h : regRow a = some (r, i)) :
    inWindows a = true ∧ i ≤ r.count - 1 ∧
      (0xFF00 ≤ offOf a ∧ r ∈ rowsCommon (blkOf a) ∨ offOf a < 0xFF00 ∧ r ∈ blockRows (blkOf a)) := by
  unfold regRow at h
  split at h
  · rename_i hw
    split at h
    · obtain ⟨hr, hi⟩ := findRow_some h
      exact ⟨hw, hi, .inl ⟨‹_›, hr⟩⟩
    · obtain ⟨hr, hi⟩ := findRow_some h
      exact ⟨hw, hi, .inr ⟨by omega, hr⟩⟩
  · cases h

theorem regRow_wf {a i : Nat} {r : RegSpec} (h : regRow a = some (r, i)) : fldsWf r.count r.flds = true := by
  obtain ⟨hw, -, hr⟩ := regRow_some h
  rw [inWindows_iff] at hw
  have hk : blkOf a < 17 := by unfold blkOf; omega
  have hall := List.all_eq_true.1 rows_wf (blkOf a) (List.mem_range.2 hk)
  refine List.all_eq_true.1 hall r (List.mem_append.2 ?_)
  obtain ⟨-, hr⟩ | ⟨-, hr⟩ := hr
  · exact .inr hr
  · exact .inl hr

section Fields

variable {n : Nat} {f : Fld} {fs : List Fld}

theorem fldsWf_cons : fldsWf n (f :: fs) = true ↔
    (f.lo ≤ f.hi ∧ f.hi < 32 ∧ f.groupsFit n = true ∧ ∀ g ∈ fs, f.hi < g.lo ∨ g.hi < f.lo) ∧ fldsWf n fs = true := by
  simp [fldsWf, and_assoc]

theorem fldsWf_mem (h : fldsWf n fs = true) (hf : f ∈ fs) : f.lo ≤ f.hi ∧ f.hi < 32 ∧ f.groupsFit n = true := by
  induction fs with
  | nil => cases hf
  | cons g fs ih =>
    obtain ⟨⟨h1, h2, h3, -⟩, h4⟩ := fldsWf_cons.1 h
    cases hf with
    | head => exact ⟨h1, h2, h3⟩
    | tail _ hf => exact ih h4 hf

/-- A bit lies in one field at most. -/
theorem fld_unique {g : Fld} {b : Nat} (h : fldsWf n fs = true) (hf : f ∈ fs) (hg : g ∈ fs)
    (hbf : f.lo ≤ b ∧ b ≤ f.hi) (hbg : g.lo ≤ b ∧ b ≤ g.hi) : f = g := by
  induction fs with
  | nil => cases hf
  | cons x fs ih =>
    obtain ⟨⟨-, -, -, hx⟩, h4⟩ := fldsWf_cons.1 h
    cases hf with
    | head =>
      cases hg with
      | head => rfl
      | tail _ hg => have := hx g hg; omega
    | tail _ hf =>
      cases hg with
      | head => have := hx f hf; omega
      | tail _ hg => exact ih h4 hf hg

/-- The groups of a row's fields number below 32. -/
theorem fldGroup_lt {i g : Nat} (hfit : f.groupsFit n = true) (hi : i ≤ n - 1) (hg : fldGroup f i = some g) : g < 32 := by
  unfold fldGroup at hg
  unfold Fld.groupsFit at hfit
  split at hg
  · rename_i b d heq
    rw [heq] at hfit
    simp only [decide_eq_true_eq] at hfit
    have hle : i / d ≤ (n - 1) / d := Nat.div_le_div_right hi
    generalize (n - 1) / d = q at hfit hle
    generalize i / d = p at hg hle
    split at hg <;> cases hg <;> omega
  · cases hg

/-! Masks. -/

/-- Bit b of a mask of fields: some field that passes the test has it. -/
theorem rowMask_bit {p : Fld → Bool} {b : Nat} (h : fldsWf n fs = true) (hb : b < 32) :
    (rowMask p fs).getLsbD b = fs.any fun f => p f && decide (f.lo ≤ b ∧ b ≤ f.hi) := by
  have hfold (m : Word) : (fs.foldl (fun m f => if p f then m ||| maskW f.hi f.lo else m) m).getLsbD b =
      (m.getLsbD b || fs.any fun f => p f && decide (f.lo ≤ b ∧ b ≤ f.hi)) := by
    induction fs generalizing m with
    | nil => simp
    | cons f fs ih =>
      obtain ⟨⟨h1, -, -, -⟩, h4⟩ := fldsWf_cons.1 h
      rw [List.foldl_cons, ih h4, List.any_cons]
      cases hp : p f
      · simp
      · simp only [if_true, BitVec.getLsbD_or, maskW_bit _ _ _ h1 hb, Bool.true_and, Bool.or_assoc]
  simpa [rowMask] using hfold 0

/-- Within a field a mask has the field's bits, or none. -/
theorem rowMask_bit_of_mem {p : Fld → Bool} {b : Nat} (h : fldsWf n fs = true) (hf : f ∈ fs) (h1 : f.lo ≤ b)
    (h2 : b ≤ f.hi) : (rowMask p fs).getLsbD b = p f := by
  obtain ⟨-, h32, -⟩ := fldsWf_mem h hf
  rw [rowMask_bit h (by omega), Bool.eq_iff_iff, List.any_eq_true]
  constructor
  · rintro ⟨g, hg, hp⟩
    simp only [Bool.and_eq_true, decide_eq_true_eq] at hp
    rw [fld_unique h hf hg ⟨h1, h2⟩ hp.2]
    exact hp.1
  · intro hp
    exact ⟨f, hf, by simp [hp, h1, h2]⟩

/-- Outside every field a mask has no bit. -/
theorem rowMask_bit_outside {p : Fld → Bool} {b : Nat} (h : fldsWf n fs = true) (hb : b < 32)
    (hout : ∀ f ∈ fs, b < f.lo ∨ f.hi < b) : (rowMask p fs).getLsbD b = false := by
  rw [rowMask_bit h hb, List.any_eq_false]
  intro f hf
  have := hout f hf
  simp only [Bool.and_eq_true, decide_eq_true_eq, not_and]
  omega

end Fields

/-! The word that a write stores. -/

/-- The word that a write of w leaves of `old` in a register of row r, n being what hardware has done to it in the
same sysclk. -/
def storedWord (r : RegSpec) (n : HwNote) (old w : Word) : Word :=
  let rw := rowMask (fun f => decide (f.acc = .rw)) r.flds &&& ~~~n.upd
  let keep := if shadowMask r = 0 then rw else rw ||| ~~~(definedMask r)
  let c := rowMask (fun f => decide (f.acc = .w1c)) r.flds &&& ~~~n.ev
  let t := rowMask (fun f => decide (f.acc = .w1s)) r.flds
  let v := (old &&& ~~~keep) ||| (w &&& keep)
  (v &&& ~~~(w &&& c)) ||| (w &&& t)

theorem storeReg_eq {a i : Nat} {r : RegSpec} {w : Word} : storeReg a r i w s =
    markDirty (blkOf a) r i (setReg a (storedWord r (s.noted a) (s.reg a) w) s) := rfl

/-- One bit of the stored word, from the bit before, the written one, and what hardware has done to it. -/
theorem accessBit (acc : Acc) (old w upd ev : Bool) :
    ((old && !(decide (acc = .rw) && !upd) || w && (decide (acc = .rw) && !upd)) &&
        !(w && (decide (acc = .w1c) && !ev)) || w && decide (acc = .w1s)) =
      match acc with
      | .rw => if upd then old else w
      | .w1c => old && !(w && !ev)
      | .w1s => old || w
      | _ => old := by
  cases acc <;> revert old w upd ev <;> decide

/-- Bit b of a field after a write, by the field's access code (Table 0-3). -/
theorem storedWord_bit {r : RegSpec} {n : HwNote} {old w : Word} {f : Fld} {b : Nat}
    (h : fldsWf r.count r.flds = true) (hf : f ∈ r.flds) (h1 : f.lo ≤ b) (h2 : b ≤ f.hi) :
    bit (storedWord r n old w) b =
      match f.acc with
      | .rw => if bit n.upd b then bit old b else bit w b
      | .w1c => bit old b && !(bit w b && !(bit n.ev b))
      | .w1s => bit old b || bit w b
      | _ => bit old b := by
  obtain ⟨-, h32, -⟩ := fldsWf_mem h hf
  have hb : b < 32 := by omega
  have hkeep : (if shadowMask r = 0 then rowMask (fun f => decide (f.acc = .rw)) r.flds &&& ~~~n.upd
      else rowMask (fun f => decide (f.acc = .rw)) r.flds &&& ~~~n.upd ||| ~~~(definedMask r)).getLsbD b =
      (decide (f.acc = .rw) && !(n.upd.getLsbD b)) := by
    split <;> simp only [definedMask, BitVec.getLsbD_or, BitVec.getLsbD_and, BitVec.getLsbD_not,
      rowMask_bit_of_mem h hf h1 h2, hb, decide_true, Bool.true_and, Bool.not_true, Bool.or_false]
  simp only [bit, storedWord, BitVec.getLsbD_or, BitVec.getLsbD_and, BitVec.getLsbD_not, hkeep, hb,
    rowMask_bit_of_mem h hf h1 h2, decide_true, Bool.true_and]
  exact accessBit f.acc _ _ _ _

/-- A field whose bits all keep their values keeps its value. -/
theorem fld_eq_of_bits {v w : Word} {hi lo : Nat} (h : lo ≤ hi) (hb : ∀ b, lo ≤ b → b ≤ hi → bit v b = bit w b) :
    fld v hi lo = fld w hi lo := by
  apply Nat.eq_of_testBit_eq
  intro i
  rw [fld_testBit _ _ _ _ h, fld_testBit _ _ _ _ h]
  by_cases hi' : i ≤ hi - lo
  · have := hb (lo + i) (by omega) (by omega)
    simp only [bit] at this
    rw [this]
  · simp [hi']

/-! DIRTY (R43). -/

theorem forAll_cons {α : Type} {x : α} {xs : List α} {f : α → State → State} :
    forAll (x :: xs) f s = forAll xs f (f x s) := rfl

/-- The step of `markDirty` for one field. -/
def markField (k i : Nat) (f : Fld) (t : State) : State :=
  match fldGroup f i with
  | some g => orReg (Reg.CMT_DIRTY k) (2 ^ g) t
  | none => t

theorem markDirty_eq {k i : Nat} {r : RegSpec} : markDirty k r i s = forAll r.flds (markField k i) s := rfl

theorem markField_frame {k i : Nat} {f : Fld} : (markField k i f s).actv = s.actv ∧ (markField k i f s).mem = s.mem ∧
    ∀ a, a ≠ Reg.CMT_DIRTY k ∨ fldGroup f i = none → (markField k i f s).reg a = s.reg a := by
  unfold markField
  split
  · refine ⟨rfl, rfl, fun a ha => reg_orReg_other (ha.resolve_right ?_)⟩
    simp [*]
  · exact ⟨rfl, rfl, fun a _ => rfl⟩

theorem markFields_frame {k i : Nat} {fs : List Fld} :
    (forAll fs (markField k i) s).actv = s.actv ∧ (forAll fs (markField k i) s).mem = s.mem ∧
      ∀ a, (a ≠ Reg.CMT_DIRTY k ∨ ∀ f ∈ fs, fldGroup f i = none) → (forAll fs (markField k i) s).reg a = s.reg a := by
  induction fs generalizing s with
  | nil => exact ⟨rfl, rfl, fun _ _ => rfl⟩
  | cons f fs ih =>
    obtain ⟨ha, hm, hr⟩ := ih (s := markField k i f s)
    obtain ⟨ha', hm', hr'⟩ := markField_frame (s := s) (k := k) (i := i) (f := f)
    refine ⟨ha.trans ha', hm.trans hm', fun a h => (hr a ?_).trans (hr' a ?_)⟩
    · exact h.imp_right fun h g hg => h g (.tail _ hg)
    · exact h.imp_right fun h => h f (.head _)

theorem rb_orReg_self {a b : Nat} (hb : b < 32) : (orReg a (2 ^ b) s).rb a b = true := by
  simp only [State.rb, reg_orReg_self, bit, BitVec.getLsbD_or, BitVec.getLsbD_ofNat, hb, Nat.testBit_two_pow_self,
    decide_true, Bool.true_and, Bool.or_true]

/-- Setting bits of a register clears none. -/
theorem rb_orReg_of {a c b m : Nat} (h : s.rb a b = true) : (orReg c m s).rb a b = true := by
  by_cases hac : a = c
  · subst hac
    simp only [State.rb, bit] at h ⊢
    rw [reg_orReg_self, BitVec.getLsbD_or, h, Bool.true_or]
  · simpa only [State.rb, reg_orReg_other hac] using h

theorem rb_markFields_of {k i a b : Nat} {fs : List Fld} (h : s.rb a b = true) :
    (forAll fs (markField k i) s).rb a b = true := by
  induction fs generalizing s with
  | nil => exact h
  | cons f fs ih =>
    rw [forAll_cons]
    refine ih ?_
    unfold markField
    split
    · exact rb_orReg_of h
    · exact h

/-- DIRTY of each group of the fields is set. -/
theorem rb_markFields {k i g : Nat} {f : Fld} {fs : List Fld} (hf : f ∈ fs) (hg : fldGroup f i = some g) (h32 : g < 32) :
    (forAll fs (markField k i) s).rb (Reg.CMT_DIRTY k) g = true := by
  induction fs generalizing s with
  | nil => cases hf
  | cons x fs ih =>
    rw [forAll_cons]
    cases hf with
    | head =>
      refine rb_markFields_of ?_
      simp only [markField, hg]
      exact rb_orReg_self h32
    | tail _ hf => exact ih hf

/-- The common registers have no shadows. -/
theorem rowsCommon_groups {k i : Nat} {r : RegSpec} {f : Fld} (hr : r ∈ rowsCommon k) (hf : f ∈ r.flds) :
    fldGroup f i = none := by
  have hnone : ∀ r ∈ rowsCommon k, ∀ f ∈ r.flds, f.grp = none := by simp [rowsCommon]
  simp [fldGroup, hnone r hr f hf]

/-- The DIRTY register of a block lies among the common ones, which have no groups. -/
theorem not_dirty_or_no_groups {a i : Nat} {r : RegSpec} (h : regRow a = some (r, i)) :
    a ≠ Reg.CMT_DIRTY (blkOf a) ∨ ∀ f ∈ r.flds, fldGroup f i = none := by
  obtain ⟨hw, -, ⟨-, hr⟩ | ⟨hoff, -⟩⟩ := regRow_some h
  · exact .inr fun f hf => rowsCommon_groups hr hf
  · refine .inl fun e => ?_
    rw [inWindows_iff] at hw
    unfold offOf at hoff
    unfold Reg.CMT_DIRTY blkOf at e
    omega

/-! A write of a whole word (R9, R32). -/

theorem storeReg_frame {a i : Nat} {r : RegSpec} {w : Word} (h : regRow a = some (r, i)) :
    (storeReg a r i w s).reg a = storedWord r (s.noted a) (s.reg a) w ∧ (storeReg a r i w s).actv = s.actv ∧
      (storeReg a r i w s).mem = s.mem ∧ (storeReg a r i w s).SameRegs s [a, Reg.CMT_DIRTY (blkOf a)] ∧
      ∀ f ∈ r.flds, ∀ g, fldGroup f i = some g → (storeReg a r i w s).rb (Reg.CMT_DIRTY (blkOf a)) g = true := by
  rw [storeReg_eq, markDirty_eq]
  obtain ⟨hactv, hmem, hreg⟩ := markFields_frame (fs := r.flds) (k := blkOf a) (i := i)
    (s := setReg a (storedWord r (s.noted a) (s.reg a) w) s)
  refine ⟨(hreg a (not_dirty_or_no_groups h)).trans reg_setReg_self, hactv, hmem, fun b hb => ?_, fun f hf g hg => ?_⟩
  · simp only [List.mem_cons, List.not_mem_nil, or_false, not_or] at hb
    rw [hreg b (.inl hb.2), reg_setReg_other hb.1]
  · obtain ⟨-, hi, -⟩ := regRow_some h
    obtain ⟨-, -, hfit⟩ := fldsWf_mem (regRow_wf h) hf
    exact rb_markFields hf hg (fldGroup_lt hfit hi hg)

/-- `writeReg` with the row and the actions left open, so that no proof makes the kernel run through them. -/
def writeRow (row : Option (RegSpec × Nat)) (act : Nat → Nat → Nat → Word → Option (State → State)) (a : Nat) (w : Word)
    (s : State) : State :=
  match row with
  | none => accessError (blkOf a) a true s
  | some (r, i) =>
    match act (blkOf a) r.off i w with
    | some f => f s
    | none => storeReg a r i w s

theorem writeReg_eq {a : Nat} {w : Word} : writeReg a w s = writeRow (regRow a) actWrite a w s := rfl

theorem writeRow_stores {row : Option (RegSpec × Nat)} {act : Nat → Nat → Nat → Word → Option (State → State)} {a i : Nat}
    {r : RegSpec} {w : Word} (hrow : row = some (r, i)) (hact : act (blkOf a) r.off i w = none) :
    writeRow row act a w s = storeReg a r i w s := by
  simp only [writeRow, hrow, hact]

theorem writeReg_stores {a i : Nat} {r : RegSpec} {w : Word} (hrow : regRow a = some (r, i))
    (hact : actWrite (blkOf a) r.off i w = none) : writeReg a w s = storeReg a r i w s :=
  writeReg_eq.trans (writeRow_stores hrow hact)

/-- A whole word to a register without an action, its block powered. -/
theorem exec_registerWrite_whole {addr w : Word} {be : BitVec 4} {r : RegSpec} {i : Nat} (hc : s.cpuOn = true)
    (hbe : be = 15) (ha : addr.toNat % 4 = 0) (hd : s.domOn (blkDom (blkOf addr.toNat)) = true)
    (hrow : regRow addr.toNat = some (r, i)) (hact : actWrite (blkOf addr.toNat) r.off i w = none) :
    exec (.registerWrite addr be w) s = .next (settle (storeReg addr.toNat r i w s)) := by
  obtain ⟨hw, -, -⟩ := regRow_some hrow
  rw [exec_registerWrite hc hw, procStore_whole hw hd ha (be_full.2 hbe), done_eq, writeReg_stores hrow hact]

/-- What the fields of a register hold once a whole word has been stored. -/
theorem storeReg_fields {a i : Nat} {r : RegSpec} {w : Word} {f : Fld} (h : regRow a = some (r, i)) (hf : f ∈ r.flds) :
    let t := storeReg a r i w s
    (f.acc = .rw → ∀ b, f.lo ≤ b → b ≤ f.hi →
      bit (t.reg a) b = if bit (s.noted a).upd b then bit (s.reg a) b else bit w b) ∧
    (f.acc = .ro ∨ f.acc = .rc → fld (t.reg a) f.hi f.lo = fld (s.reg a) f.hi f.lo) ∧
    (f.acc = .w1c → ∀ b, f.lo ≤ b → b ≤ f.hi →
      bit (t.reg a) b = (bit (s.reg a) b && !(bit w b && !(bit (s.noted a).ev b)))) ∧
    (f.acc = .w1s → ∀ b, f.lo ≤ b → b ≤ f.hi → bit (t.reg a) b = (bit (s.reg a) b || bit w b)) := by
  have hwf := regRow_wf h
  have hbits := fun b h1 h2 => storedWord_bit (n := s.noted a) (old := s.reg a) (w := w) (b := b) hwf hf h1 h2
  intro t
  rw [(storeReg_frame h).1]
  refine ⟨fun hacc b h1 h2 => ?_, fun hacc => ?_, fun hacc b h1 h2 => ?_, fun hacc b h1 h2 => ?_⟩
  · rw [hbits b h1 h2, hacc]
  · refine fld_eq_of_bits (fldsWf_mem hwf hf).1 fun b h1 h2 => ?_
    rw [hbits b h1 h2]
    obtain hacc | hacc := hacc <;> rw [hacc]
  · rw [hbits b h1 h2, hacc]
  · rw [hbits b h1 h2, hacc]

/-- Settles O22: a whole word is stored field by field by the access codes, and every other write is discarded. -/
theorem registerWritesFollowAccessCodes : Obligations.RegisterWritesFollowAccessCodes := by
  unfold Obligations.RegisterWritesFollowAccessCodes
  intro addr w be s hc hw
  refine ⟨fun r i hbe ha hd hrow hact => ?_, fun hbad hq => ?_⟩
  · obtain ⟨-, hactv, hmem, hsame, hdirty⟩ := storeReg_frame (s := s) (w := w) hrow
    refine ⟨_, exec_registerWrite_whole hc hbe ha hd hrow hact, fun f hf => ?_, hactv, hmem, hsame⟩
    obtain ⟨hrw, hro, hw1c, hw1s⟩ := storeReg_fields (s := s) (w := w) hrow hf
    exact ⟨hrw, hro, hw1c, hw1s, hdirty f hf⟩
  · obtain ⟨t, ht, hregs, hactv, -, -, hev⟩ := registerWrite_discarded (w := w) (be := be) hc hw hq hbad
    exact ⟨t, ht, hregs, hactv, hev⟩

end Sys2Proof.Machine
end

section
/-! Reads of the register windows (R8 to R10). -/

namespace Sys2Proof.Machine

variable {s : State}

/-! What a read leaves alone. -/

theorem adaptPort_mem_outs {p : Nat} {fz : Bool} : (adaptPort p fz s).mem = s.mem ∧ (adaptPort p fz s).outs = s.outs := by
  unfold adaptPort
  dsimp only
  split
  · exact ⟨rfl, rfl⟩
  · split <;> exact ⟨rfl, rfl⟩

theorem freshReg_mem_outs {k off : Nat} : (freshReg k off s).mem = s.mem ∧ (freshReg k off s).outs = s.outs := by
  unfold freshReg
  split
  · exact adaptPort_mem_outs
  · exact ⟨rfl, rfl⟩

/-- Only the receivers' registers, from offset 0x400 of NET_ on, show anything anew. -/
theorem freshReg_low {k off : Nat} (h : off < 0x400) : freshReg k off s = s := by
  have : ¬ 0x400 ≤ off := by omega
  simp [freshReg, this]

/-! The lemmas on `peekReg` name block and offset apart, so that the kernel need not compute them from an address. -/

theorem peekReg_outs_at {a k off : Nat} (hk : blkOf a = k) (ho : offOf a = off) : (peekReg a s).2.outs = s.outs := by
  unfold peekReg
  rw [hk, ho]
  have hfresh := (freshReg_mem_outs (s := s) (k := k) (off := off)).2
  dsimp only
  split
  · exact hfresh
  · split
    · exact hfresh
    · split <;> exact hfresh

theorem peekReg_outs {a : Nat} : (peekReg a s).2.outs = s.outs := peekReg_outs_at rfl rfl

/-! RC fields. -/

theorem rcMask_eq {a i : Nat} {r : RegSpec} (h : regRow a = some (r, i)) :
    rcMask a = rowMask (fun f => decide (f.acc = .rc)) r.flds := by
  simp only [rcMask, h]

theorem clearNothing (x e : Word) : (x &&& ~~~0) ||| (e &&& 0) = x := by
  rw [show ~~~(0 : Word) = BitVec.allOnes 32 from rfl, BitVec.and_allOnes, show (0 : Word) = 0#32 from rfl, BitVec.and_zero,
    BitVec.or_zero]

/-- Clearing the RC fields leaves in them what arrived in the same sysclk. -/
theorem clearRc_frame {a : Nat} :
    (clearRc a s).reg a = (s.reg a &&& ~~~(rcMask a)) ||| ((s.noted a).ev &&& rcMask a) ∧
      (clearRc a s).SameRegs s [a] ∧ (clearRc a s).mem = s.mem ∧ (clearRc a s).outs = s.outs := by
  unfold clearRc
  dsimp only
  generalize rcMask a = m
  have hset : (setReg a ((s.reg a &&& ~~~m) ||| ((s.noted a).ev &&& m)) s).SameRegs s [a] := fun b hb =>
    (reg_setReg_other (by simpa using hb)).symm
  split
  · rename_i hm
    exact ⟨by rw [hm]; exact (clearNothing _ _).symm, fun _ _ => rfl, rfl, rfl⟩
  · split
    · exact ⟨reg_setReg_self, hset, rfl, rfl⟩
    · exact ⟨reg_setReg_self (s := s), hset, rfl, rfl⟩

theorem readReg_outs {a : Nat} : (readReg a s).2.outs = s.outs := by
  unfold readReg
  split
  · unfold dbqTake
    split <;> rfl
  · have hlatch : (onlyIf (decide (a = Reg.SYN_TIME_LO)) timeLatch s).outs = s.outs := by
      cases decide (a = Reg.SYN_TIME_LO) <;> rfl
    obtain ⟨-, -, -, hclear⟩ := clearRc_frame (s := (peekReg a (onlyIf (decide (a = Reg.SYN_TIME_LO)) timeLatch s)).2) (a := a)
    exact (hclear.trans peekReg_outs).trans hlatch

theorem procRead_reg {a k : Nat} (h : s.dest a = .reg k) :
    procRead a s = (some (readReg a s).1, (readReg a s).2) := by
  unfold procRead
  rw [h]

/-- A read of the register windows returns the addressed bytes of what `readReg` gives. -/
theorem exec_rcFieldRead {addr : Word} {be : BitVec 4} (hc : s.cpuOn = true) (hw : inWindows addr.toNat = true)
    (hd : s.domOn (blkDom (blkOf (addr.toNat / 4 * 4))) = true) :
    exec (.rcFieldRead addr be) s = .next (settle (emit
      (.value (BitVec.ofNat 32 (readReg (addr.toNat / 4 * 4) s).1 &&& laneMask be.toNat).toNat)
      (readReg (addr.toNat / 4 * 4) s).2)) := by
  have hdest := dest_reg (inWindows_aligned hw) hd
  have hread := procRead_reg hdest
  generalize readReg (addr.toNat / 4 * 4) s = p at hread ⊢
  simp only [exec, execRcFieldRead, hc, hw, Bool.and_self, onlyIf_true, hread, Option.getD_some, done_eq]

/-! The value of a register that is neither free nor derived. -/

theorem peekReg_stored {a i k off : Nat} {r : RegSpec} (hk : blkOf a = k) (ho : offOf a = off)
    (hrow : regRow a = some (r, i)) (hfree : (freshReg k off s).freeReg k off = none)
    (hder : (freshReg k off s).derivedReg k off = none) :
    peekReg a s = (((freshReg k off s).reg a &&& readMask r).toNat, freshReg k off s) := by
  unfold peekReg
  rw [hk, ho, hrow]
  simp only [hfree, hder]

theorem readReg_plain {a : Nat} (hq : a ≠ Reg.HIF_DBQ) (ht : a ≠ Reg.SYN_TIME_LO) :
    readReg a s = ((peekReg a s).2.rcValue a (peekReg a s).1, clearRc a (peekReg a s).2) := by
  simp [readReg, hq, ht]

/-- Settles O23: the value is that of the fresh register, with the RC fields as they were before this sysclk, and
`clearRc` alone changes the state. -/
theorem registerReadsClearRcFields : Obligations.RegisterReadsClearRcFields := by
  unfold Obligations.RegisterReadsClearRcFields
  intro addr be s r i hc hw a hd hrow hq ht u n rc hfree hder
  have hread := readReg_plain (s := s) hq ht
  rw [peekReg_stored rfl rfl hrow hfree hder] at hread
  obtain ⟨hreg, hsame, hmem, houts⟩ := clearRc_frame (s := u) (a := a)
  obtain ⟨hfmem, hfouts⟩ := freshReg_mem_outs (s := s) (k := blkOf a) (off := offOf a)
  rw [rcMask_eq hrow] at hreg
  refine ⟨_, exec_rcFieldRead hc hw hd, ?_⟩
  rw [hread]
  refine ⟨?_, hreg, hsame, hmem.trans hfmem, freshReg_low⟩
  simp only [emit_outs, State.rcValue, rcMask_eq hrow, BitVec.ofNat_toNat, BitVec.setWidth_eq]
  rw [houts, hfouts]

/-! Reserved bits (R10). -/

/-- Bit b lies in no field of the row. -/
def RegSpec.reserved (r : RegSpec) (b : Nat) : Prop := ∀ f ∈ r.flds, b < f.lo ∨ f.hi < b

theorem mask_reserved {a i b : Nat} {r : RegSpec} {p : Fld → Bool} (hrow : regRow a = some (r, i)) (hb : b < 32)
    (hres : r.reserved b) : (rowMask p r.flds).getLsbD b = false := rowMask_bit_outside (regRow_wf hrow) hb hres

theorem regRow_block {a : Nat} (hw : inWindows a = true) (h : offOf a < 0xFF00) :
    regRow a = findRow (blockRows (blkOf a)) (offOf a) := by
  have : ¬ 0xFF00 ≤ offOf a := by omega
  simp [regRow, hw, this]

/-- The output currents have one field, bits 11:0. -/
theorem curRows_flds : ∀ o < 32, ∀ x, findRow (blockRows 10) (0x140 + o) = some x → x.1.flds = [⟨11, 0, .ro, none⟩] := by
  decide +kernel

/-- A free value fills the field of its register at most. -/
theorem free_reserved {a i b w : Nat} {r : RegSpec} (hrow : regRow a = some (r, i)) (hres : r.reserved b)
    (hw : s.freeReg (blkOf a) (offOf a) = some w) : w ≤ b := by
  unfold State.freeReg at hw
  split at hw
  · rename_i hin
    simp only [Bool.and_eq_true, decide_eq_true_eq] at hin
    obtain ⟨⟨hk, hlo⟩, hhi⟩ := hin
    obtain ⟨hwin, -, -⟩ := regRow_some hrow
    have hfind := regRow_block hwin (by omega)
    rw [hrow, hk, show offOf a = 0x140 + (offOf a - 0x140) by omega] at hfind
    have hflds := curRows_flds _ (by omega) _ hfind.symm
    have hb := hres ⟨11, 0, .ro, none⟩ (by rw [hflds]; exact .head _)
    simp only at hb
    split at hw <;> cases hw <;> omega
  · cases hw

/-- A masked word shows no reserved bit. -/
theorem and_reserved {m : Word} {b : Nat} (h : m.getLsbD b = false) (x : Word) : (x &&& m).toNat.testBit b = false := by
  have hand : (x &&& m).getLsbD b = false := by rw [BitVec.getLsbD_and, h, Bool.and_false]
  exact hand

theorem freeBits_reserved {w b : Nat} (h : w ≤ b) : (s.freeBits w).testBit b = false :=
  Nat.testBit_lt_two_pow (lt_of_lt_of_le (Nat.mod_lt _ (Nat.two_pow_pos w)) (Nat.pow_le_pow_right (by decide) h))

theorem peekReg_reserved_at {a i b k off : Nat} {r : RegSpec} (hk : blkOf a = k) (ho : offOf a = off)
    (hrow : regRow a = some (r, i)) (hmask : (readMask r).getLsbD b = false)
    (hfree : ∀ w, (freshReg k off s).freeReg k off = some w → w ≤ b) : (peekReg a s).1.testBit b = false := by
  unfold peekReg
  rw [hk, ho, hrow]
  dsimp only
  split
  · rename_i w hw
    exact freeBits_reserved (hfree w hw)
  · split <;> exact and_reserved hmask _

theorem peekReg_reserved {a i b : Nat} {r : RegSpec} (hrow : regRow a = some (r, i)) (hb : b < 32) (hres : r.reserved b) :
    (peekReg a s).1.testBit b = false :=
  peekReg_reserved_at rfl rfl hrow (mask_reserved hrow hb hres) fun _ hw => free_reserved hrow hres hw

/-- What the RC fields add to a value lies in them. -/
theorem rcValue_reserved {a i b v : Nat} {r : RegSpec} (hrow : regRow a = some (r, i)) (hb : b < 32) (hres : r.reserved b)
    (hv : v.testBit b = false) : (s.rcValue a v).testBit b = false := by
  have h : ((BitVec.ofNat 32 v &&& ~~~(rcMask a &&& (s.noted a).upd)) |||
      ((s.noted a).was &&& (rcMask a &&& (s.noted a).upd))).getLsbD b = false := by
    simp only [BitVec.getLsbD_or, BitVec.getLsbD_and, BitVec.getLsbD_ofNat, rcMask_eq hrow, mask_reserved hrow hb hres,
      hv, Bool.and_false, Bool.false_and, Bool.or_false]
  exact h

theorem dbqRow : ∀ x, regRow Reg.HIF_DBQ = some x → x.1.flds = [⟨31, 31, .rc, none⟩, ⟨4, 0, .rc, none⟩] := by
  decide +kernel

theorem dbqTake_reserved {b : Nat} (h4 : 4 < b) (h31 : b < 31) : (dbqTake s).1.testBit b = false := by
  unfold dbqTake
  split
  · exact Nat.zero_testBit b
  · rename_i m _
    rw [Nat.testBit_two_pow_add_gt h31]
    exact Nat.testBit_lt_two_pow (lt_of_lt_of_le (Nat.mod_lt m (by decide : 32 > 0))
      (Nat.pow_le_pow_right (by decide) h4 : 2 ^ 5 ≤ 2 ^ b))

/-- A read returns 0 in every reserved bit. -/
theorem readReg_reserved {a i b : Nat} {r : RegSpec} (hrow : regRow a = some (r, i)) (hb : b < 32) (hres : r.reserved b) :
    (readReg a s).1.testBit b = false := by
  unfold readReg
  split
  · rename_i hq
    subst hq
    have hflds := dbqRow _ hrow
    have h31 := hres ⟨31, 31, .rc, none⟩ (by rw [hflds]; exact .head _)
    have h4 := hres ⟨4, 0, .rc, none⟩ (by rw [hflds]; exact .tail _ (.head _))
    simp only at h31 h4
    exact dbqTake_reserved (by omega) (by omega)
  · exact rcValue_reserved hrow hb hres (peekReg_reserved hrow hb hres)

theorem laneMask_full : laneMask (15 : BitVec 4).toNat = BitVec.allOnes 32 := by decide

/-- Settles O27: narrow writes are discarded, a narrow read is a whole one seen through its lanes, and reserved bits
read 0. -/
theorem wholeWordsAndReservedFields : Obligations.WholeWordsAndReservedFields := by
  unfold Obligations.WholeWordsAndReservedFields
  intro addr w be s hc hw hd
  refine ⟨fun hn hq => ?_, ?_⟩
  · exact registerWrite_discarded hc hw hq (.inr (.inr hn))
  · let a := addr.toNat / 4 * 4
    have hd' : s.domOn (blkDom (blkOf (addr.toNat / 4 * 4))) = true := by rw [blkOf_aligned]; exact hd
    refine ⟨(BitVec.ofNat 32 (readReg a s).1).toNat, (readReg a s).2, ?_, BitVec.isLt _, readReg_outs, ?_, ?_⟩
    · rw [exec_rcFieldRead hc hw hd', laneMask_full, BitVec.and_allOnes]
    · rw [exec_rcFieldRead hc hw hd', BitVec.toNat_and]
    · intro r i hrow b hres
      by_cases hb : b < 32
      · rw [BitVec.toNat_ofNat, Nat.testBit_mod_two_pow, readReg_reserved hrow hb hres, Bool.and_false]
      · exact BitVec.getLsbD_of_ge _ b (by omega)

end Sys2Proof.Machine
end

section
/-! The bytes of a stored word, and processor stores (R384, R390). -/

namespace Sys2Proof.Machine

variable {s : State}

/-! Little-endian numbers. -/

/-- The number whose bytes are f 0 to f (n − 1). -/
def bytesNum (f : Nat → Nat) (n : Nat) : Nat := (List.range n).foldl (fun acc i => acc + f i <<< (8 * i)) 0

theorem bytesNum_succ {f : Nat → Nat} {n : Nat} : bytesNum f (n + 1) = bytesNum f n + f n * 2 ^ (8 * n) := by
  simp [bytesNum, List.range_succ, Nat.shiftLeft_eq]

theorem bytesNum_lt {f : Nat → Nat} (hf : ∀ i, f i < 256) (n : Nat) : bytesNum f n < 2 ^ (8 * n) := by
  induction n with
  | zero => simp [bytesNum]
  | succ n ih =>
    have hmul : f n * 2 ^ (8 * n) ≤ 255 * 2 ^ (8 * n) := Nat.mul_le_mul_right _ (by have := hf n; omega)
    rw [bytesNum_succ, show 8 * (n + 1) = 8 + 8 * n by omega, Nat.pow_add]
    omega

theorem bytesNum_byte {f : Nat → Nat} (hf : ∀ i, f i < 256) {n i : Nat} (hi : i < n) :
    bytesNum f n >>> (8 * i) % 256 = f i := by
  induction n with
  | zero => omega
  | succ n ih =>
    rw [bytesNum_succ, Nat.shiftRight_eq_div_pow]
    rcases Nat.lt_succ_iff_lt_or_eq.1 hi with h | h
    · have hsplit : f n * 2 ^ (8 * n) = 2 ^ (8 * i) * (256 * (f n * 2 ^ (8 * (n - i - 1)))) := by
        rw [show 8 * n = 8 * i + (8 + 8 * (n - i - 1)) by omega, Nat.pow_add, Nat.pow_add]
        ring
      rw [hsplit, Nat.add_mul_div_left _ _ (Nat.two_pow_pos _), Nat.add_mul_mod_self_left, ← Nat.shiftRight_eq_div_pow, ih h]
    · subst h
      rw [Nat.add_mul_div_right _ _ (Nat.two_pow_pos _), Nat.div_eq_of_lt (bytesNum_lt hf i), Nat.zero_add,
        Nat.mod_eq_of_lt (hf i)]

theorem ofNat_byte {x y : Nat} (h : x % 256 = y % 256) : BitVec.ofNat 8 x = BitVec.ofNat 8 y := by
  apply BitVec.eq_of_toNat_eq
  simpa using h

/-- A merge takes each byte from one of the two words. -/
theorem mergeBytes_byte {d v m i : Nat} (hi : i < 8) :
    BitVec.ofNat 8 (mergeBytes d v m >>> (8 * i)) =
      BitVec.ofNat 8 (if m.testBit i then v >>> (8 * i) else d >>> (8 * i)) := by
  have hf : ∀ i, (if m.testBit i then (v >>> (8 * i)) % 256 else (d >>> (8 * i)) % 256) < 256 := fun i => by
    split <;> exact Nat.mod_lt _ (by decide)
  have h := bytesNum_byte hf hi
  apply ofNat_byte
  refine Eq.trans h ?_
  split <;> rfl

theorem rawBytes_byte {a n i : Nat} (hi : i < n) :
    BitVec.ofNat 8 (s.rawBytes a n >>> (8 * i)) = s.byteAt (a + i) := by
  induction n generalizing a i with
  | zero => omega
  | succ n ih =>
    unfold State.rawBytes
    have hb := (s.byteAt a).isLt
    cases i with
    | zero =>
      apply BitVec.eq_of_toNat_eq
      simp only [Nat.mul_zero, Nat.shiftRight_zero, BitVec.toNat_ofNat, Nat.add_zero]
      omega
    | succ i =>
      have hdiv : ((s.byteAt a).toNat + 256 * s.rawBytes (a + 1) n) / 256 = s.rawBytes (a + 1) n := by omega
      rw [show 8 * (i + 1) = 8 + 8 * i by omega, Nat.shiftRight_add, Nat.shiftRight_eq_div_pow _ 8, hdiv,
        ih (by omega), Nat.add_assoc, Nat.add_comm 1 i]

/-! Bytes written. -/

theorem byteAt_putBytes_in {a v n i : Nat} (ha : 0x40000 ≤ a) (hi : i < n) :
    (putBytes a v n s).byteAt (a + i) = BitVec.ofNat 8 (v >>> (8 * i)) := by
  induction n generalizing a v i s with
  | zero => omega
  | succ n ih =>
    unfold putBytes
    cases i with
    | zero =>
      rw [byteAt_putBytes_other (by omega), byteAt_putByte ha]
      simp
    | succ i =>
      have h := ih (a := a + 1) (v := v / 256) (i := i) (s := putByte a (BitVec.ofNat 8 v) s) (by omega) (by omega)
      rw [show a + (i + 1) = a + 1 + i by omega, h, show 8 * (i + 1) = 8 + 8 * i by omega, Nat.shiftRight_add,
        Nat.shiftRight_eq_div_pow v 8]

theorem byteAt_storeWord_in {a v i : Nat} {k : Bool} (ha : 0x40000 ≤ a) (hi : i < 8) :
    (storeWord a v k s).byteAt (a / 8 * 8 + i) = BitVec.ofNat 8 (v >>> (8 * i)) := by
  unfold storeWord
  rw [byteAt_putChk, byteAt_putBytes_in (by omega) hi]

theorem chkAt_storeWord_other {a v x : Nat} {k : Bool} (h : x / 8 ≠ a / 8) : (storeWord a v k s).chkAt x = s.chkAt x := by
  unfold storeWord
  rw [chkAt_putChk, if_neg h, chkAt_putBytes]

theorem decodeAt_clean {a : Nat} (h : (s.decodeAt a).out = .clean) : (s.decodeAt a).data = s.rawBytes (a / 8 * 8) 8 := by
  unfold State.decodeAt at h ⊢
  dsimp only at h ⊢
  split at h
  · cases h
  · rfl

theorem readWord_of_mem {g c a m : Nat} (h : memOf a = some m) : (readWord g c a s).1 = s.decodeAt a := by
  simp [readWord, h]

/-- What a write of the masked bytes of the word at a does from s to t (R390). -/
structure MaskedWrite (a v m : Nat) (s t : State) : Prop where
  written : ∀ i, i < 8 → m.testBit i = true → t.byteAt (a / 8 * 8 + i) = BitVec.ofNat 8 (v >>> (8 * i))
  kept : (s.decodeAt a).out = .clean → ∀ i, i < 8 → m.testBit i = false → t.byteAt (a / 8 * 8 + i) = s.byteAt (a / 8 * 8 + i)
  outside : ∀ x, x / 8 ≠ a / 8 → t.byteAt x = s.byteAt x ∧ t.chkAt x = s.chkAt x
  wf : s.mem.wf = true → t.mem.wf = true

theorem storeWord_outside {a v x : Nat} {k : Bool} (h : x / 8 ≠ a / 8) :
    (storeWord a v k s).byteAt x = s.byteAt x ∧ (storeWord a v k s).chkAt x = s.chkAt x :=
  ⟨byteAt_storeWord_other (by omega), chkAt_storeWord_other h⟩

theorem byteMask_bit {i : Nat} (hi : i < 8) : Nat.testBit 255 i = true := by
  have h : ∀ i < 8, Nat.testBit 255 i = true := by decide
  exact h i hi

theorem writeMasked_bytes {a v m r : Nat} {k : Bool} (ha : 0x40000 ≤ a) (hm : memOf a = some r) :
    MaskedWrite a v m s (writeMasked a v m k s) := by
  by_cases hfull : m = 255
  · have hstore : writeMasked a v m k s = storeWord a v k s := if_pos hfull
    rw [hstore]
    refine ⟨fun i hi _ => byteAt_storeWord_in ha hi, fun _ i hi hbit => ?_, fun x hx => storeWord_outside hx, storeWord_wf⟩
    rw [hfull, byteMask_bit hi] at hbit
    cases hbit
  have hmerge : writeMasked a v m k s = storeWord a (mergeBytes (readWord 11 0 a s).1.data v m)
      (k || !(readWord 11 0 a s).1.ok) (readWord 11 0 a s).2 := if_neg hfull
  refine ⟨fun i hi hbit => ?_, fun hclean i hi hbit => ?_, fun x hx => ?_, writeMasked_wf⟩ <;> rw [hmerge]
  · rw [byteAt_storeWord_in ha hi, mergeBytes_byte hi, if_pos hbit]
  · rw [byteAt_storeWord_in ha hi, mergeBytes_byte hi, if_neg (by simp [hbit]), readWord_of_mem hm, decodeAt_clean hclean,
      rawBytes_byte hi]
  · obtain ⟨hbyte, hchk⟩ := storeWord_outside (s := (readWord 11 0 a s).2) (v := mergeBytes (readWord 11 0 a s).1.data v m)
      (k := k || !(readWord 11 0 a s).1.ok) hx
    refine ⟨hbyte.trans (byteAt_congr readWord_mem x), hchk.trans ?_⟩
    simp only [State.chkAt, readWord_mem]

/-! The lanes of a 32-bit store. -/

/-- What a store of the bytes of w that be enables to the word at b does from u to t. -/
def LanesStored (b : Nat) (be : BitVec 4) (w : Word) (u t : State) : Prop :=
  (∀ i, i < 4 → be.getLsbD i = true → t.byteAt (b + i) = BitVec.ofNat 8 (w.toNat >>> (8 * i))) ∧
  (∀ x, x / 8 ≠ b / 8 → t.byteAt x = u.byteAt x ∧ t.chkAt x = u.chkAt x) ∧
  ((u.decodeAt b).out = .clean → ∀ x, x / 8 = b / 8 → (∀ i, i < 4 → be.getLsbD i = true → x ≠ b + i) →
    t.byteAt x = u.byteAt x) ∧
  (u.mem.wf = true → t.mem.wf = true)

/-- A masked write of be's lanes moved up by o bytes stores those lanes at a word that starts o bytes into its 64 bits. -/
theorem lanesStored_of_masked {b o : Nat} {be : BitVec 4} {w : Word} {u t : State} (ho : b = b / 8 * 8 + o) (h4 : o ≤ 4)
    (h : MaskedWrite b (w.toNat * 2 ^ (8 * o)) (be.toNat * 2 ^ o) u t) : LanesStored b be w u t := by
  obtain ⟨hwritten, hkept, houtside, hwf⟩ := h
  have hbit (j : Nat) : (be.toNat * 2 ^ o).testBit j = (decide (o ≤ j) && be.getLsbD (j - o)) :=
    Nat.testBit_mul_two_pow _ _ _
  refine ⟨fun i hi hb => ?_, houtside, fun hclean x hx hne => ?_, hwf⟩
  · have hw := hwritten (o + i) (by omega) (by rw [hbit]; simp [hb])
    rw [show b + i = b / 8 * 8 + (o + i) by omega, hw, show 8 * (o + i) = 8 * o + 8 * i by omega, Nat.shiftRight_add,
      Nat.shiftRight_eq_div_pow _ (8 * o), Nat.mul_div_cancel _ (Nat.two_pow_pos _)]
  · have hk := hkept hclean (x % 8) (Nat.mod_lt _ (by decide))
    rw [show b / 8 * 8 + x % 8 = x by omega] at hk
    apply hk
    rw [hbit, Bool.and_eq_false_iff, decide_eq_false_iff_not, ← Bool.not_eq_true]
    by_contra hcon
    push Not at hcon
    obtain ⟨hle, hlane⟩ := hcon
    have hlt : x % 8 - o < 4 := by
      by_contra hge
      rw [BitVec.getLsbD_of_ge be _ (by omega)] at hlane
      cases hlane
    exact hne _ hlt hlane (by omega)

theorem lanesStored_none {b : Nat} {be : BitVec 4} {w : Word} (h : be.toNat = 0) : LanesStored b be w s s := by
  have hbe (i : Nat) : be.getLsbD i = false := by rw [← BitVec.testBit_toNat, h, Nat.zero_testBit]
  refine ⟨fun i _ hb => ?_, fun _ _ => ⟨rfl, rfl⟩, fun _ _ _ _ => rfl, fun hwf => hwf⟩
  rw [hbe] at hb
  cases hb

theorem writeLanes_stored {b m : Nat} {be : BitVec 4} {w : Word} (h4 : b % 4 = 0) (hb : 0x40000 ≤ b)
    (hm : memOf b = some m) : LanesStored b be w s (writeLanes b w.toNat be.toNat s) := by
  have hbe : be.toNat % 16 = be.toNat := Nat.mod_eq_of_lt be.isLt
  have hw : w.toNat % 2 ^ 32 = w.toNat := Nat.mod_eq_of_lt w.isLt
  unfold writeLanes
  rw [hbe, hw]
  split
  · exact lanesStored_none ‹_›
  · split
    · have h := writeMasked_bytes (s := s) (v := w.toNat) (m := be.toNat) (k := false) hb hm
      exact lanesStored_of_masked (o := 0) (by omega) (by decide) (by simpa using h)
    · have h := writeMasked_bytes (s := s) (v := w.toNat <<< 32) (m := be.toNat * 16) (k := false) hb hm
      exact lanesStored_of_masked (o := 4) (by omega) (by decide) (by simpa [Nat.shiftLeft_eq] using h)

/-- Settling leaves memory as a store left it. -/
theorem LanesStored.settle {b : Nat} {be : BitVec 4} {w : Word} {u t : State} (h : LanesStored b be w u t) :
    LanesStored b be w u (settle t) := by
  have hbyte (x : Nat) : (Machine.settle t).byteAt x = t.byteAt x := byteAt_congr (settle_mem t) x
  have hchk (x : Nat) : (Machine.settle t).chkAt x = t.chkAt x := by simp only [State.chkAt, settle_mem]
  unfold LanesStored
  simp only [hbyte, hchk, settle_mem]
  exact h

/-! Stores of the processor. -/

/-- An address that names a memory lies outside the register windows and in that memory. -/
theorem dest_mem {a m : Nat} (h : s.dest a = .mem m) : inWindows a = false ∧ memOf a = some m := by
  unfold State.dest at h
  split at h
  · split at h <;> cases h
  · rename_i hw
    refine ⟨by simpa using hw, ?_⟩
    split at h
    · split at h <;> cases h
    · split at h
      · cases h
      · split at h
        · cases h
          assumption
        · cases h

theorem memOf_range {a m : Nat} (h : memOf a = some m) : m < 9 ∧ memBase m ≤ a ∧ a < memBase m + 8 * memWords m := by
  have hmem := List.mem_of_find?_eq_some h
  have hin := List.find?_some h
  simp only [Bool.and_eq_true, decide_eq_true_eq] at hin
  exact ⟨List.mem_range.1 hmem, hin⟩

/-- RAM lies above the boot ROM. -/
theorem ram_above {a m : Nat} (h : memOf a = some m) (h8 : m ≠ 8) : 0x40000 ≤ a := by
  obtain ⟨hlt, hlo, -⟩ := memOf_range h
  have hbase : ∀ m < 9, m ≠ 8 → 0x40000 ≤ memBase m := by decide
  exact le_trans (hbase m hlt h8) hlo

theorem exec_processorStore {addr w : Word} {be : BitVec 4} (hc : s.cpuOn = true)
    (hw : inWindows (addr.toNat / 4 * 4) = false) :
    exec (.processorStore addr be w) s = done (procStore addr.toNat be.toNat w s) := by
  have hwin : inWindows addr.toNat = false := by
    rw [← Bool.not_eq_true, inWindows_iff] at hw ⊢
    omega
  simp [exec, execProcessorStore, hc, hwin]

theorem procStore_capture {a be : Nat} {w : Word} {u : State} (hd : s.dest (a / 4 * 4) = .mem 7) (hslot : procSlot s = some u) :
    procStore a be w s = writeLanes (a / 4 * 4) w.toNat be u := by
  simp [procStore, procWrite, hd, hslot]

theorem procStore_ram {a be m : Nat} {w : Word} (hd : s.dest (a / 4 * 4) = .mem m) (h7 : m ≠ 7) (h8 : m ≠ 8) :
    procStore a be w s = onlyIf (!s.peaHit (a / 4 * 4)) (writeLanes (a / 4 * 4) w.toNat be) s := by
  simp only [procStore, procWrite, hd, onlyIf_false]

/-- A store to RAM, made in the state in which the memory is reached (R55, R309). -/
theorem processorStore_ram {addr w : Word} {be : BitVec 4} {m : Nat} {u : State} (hc : s.cpuOn = true) (h8 : m ≠ 8)
    (hd : s.dest (addr.toNat / 4 * 4) = .mem m) (hcap : m = 7 → procSlot s = some u)
    (hram : m ≠ 7 → s.peaHit (addr.toNat / 4 * 4) = false ∧ u = s) :
    Answers (exec (.processorStore addr be w) s) (LanesStored (addr.toNat / 4 * 4) be w u) := by
  obtain ⟨hw, hm⟩ := dest_mem hd
  have hstore : procStore addr.toNat be.toNat w s = writeLanes (addr.toNat / 4 * 4) w.toNat be.toNat u := by
    by_cases h7 : m = 7
    · exact procStore_capture (h7 ▸ hd) (hcap h7)
    · obtain ⟨hhit, rfl⟩ := hram h7
      rw [procStore_ram hd h7 h8, hhit]
      rfl
  rw [exec_processorStore hc hw, hstore]
  exact answers_done (writeLanes_stored (by omega) (ram_above hm h8) hm).settle

/-- A store that meets a pea's write changes no memory (R55). -/
theorem processorStore_hit {addr w : Word} {be : BitVec 4} {m : Nat} (hc : s.cpuOn = true) (h7 : m ≠ 7) (h8 : m ≠ 8)
    (hd : s.dest (addr.toNat / 4 * 4) = .mem m) (hhit : s.peaHit (addr.toNat / 4 * 4) = true) :
    Answers (exec (.processorStore addr be w) s) fun t => t.SameMem s := by
  rw [exec_processorStore hc (dest_mem hd).1, procStore_ram hd h7 h8, hhit]
  refine answers_done fun a => ⟨byteAt_congr (settle_mem s).symm a, ?_⟩
  simp only [State.chkAt, settle_mem, Bool.not_true, onlyIf_false]

end Sys2Proof.Machine
end

section
/-! Time that passes by itself while the processor waits for a slot leaves the host interface and the freeze alone. -/

namespace Sys2Proof.Machine

/-- From s to t neither the host interface nor the freeze changes. -/
structure KeepsHost (s t : State) : Prop where
  hif : t.hif = s.hif
  stat : t.reg Reg.DBG_STAT = s.reg Reg.DBG_STAT

theorem KeepsHost.frozen {s t : State} (h : KeepsHost s t) : t.frozen = s.frozen := by
  unfold State.frozen State.rb
  rw [h.stat]

namespace KeepsHost

variable {s t u : State}

theorem refl (s : State) : KeepsHost s s := ⟨rfl, rfl⟩

theorem trans (h : KeepsHost s t) (k : KeepsHost t u) : KeepsHost s u := ⟨k.hif.trans h.hif, k.stat.trans h.stat⟩

theorem after (k : KeepsHost t u) (h : KeepsHost s t) : KeepsHost s u := h.trans k

/-! Registers. -/

theorem setReg {a : Nat} {v : Word} (h : Reg.DBG_STAT ≠ a) : KeepsHost s (Machine.setReg a v s) :=
  ⟨rfl, reg_setReg_other h⟩

theorem setRf {a hi lo v : Nat} (h : Reg.DBG_STAT ≠ a) : KeepsHost s (Machine.setRf a hi lo v s) := ⟨rfl, reg_setRf_other h⟩

theorem orReg {a m : Nat} (h : Reg.DBG_STAT ≠ a) : KeepsHost s (Machine.orReg a m s) := ⟨rfl, reg_orReg_other h⟩

theorem incRf {a hi lo : Nat} (h : Reg.DBG_STAT ≠ a) : KeepsHost s (Machine.incRf a hi lo s) := ⟨rfl, reg_setReg_other h⟩

theorem onlyIf {c : Bool} {f : State → State} (h : KeepsHost s (f s)) : KeepsHost s (Machine.onlyIf c f s) := by
  cases c
  · exact refl s
  · exact h

theorem ite {c : Prop} [Decidable c] (h : KeepsHost s t) (k : KeepsHost s u) : KeepsHost s (if c then t else u) := by
  split
  · exact h
  · exact k

theorem forAll {α : Type} {f : α → State → State} (h : ∀ x s, KeepsHost s (f x s)) (xs : List α) (s : State) :
    KeepsHost s (Machine.forAll xs f s) := by
  induction xs generalizing s with
  | nil => exact refl s
  | cons x xs ih => exact (h x s).trans (ih _)

/-! Events. -/

theorem queueEv (e : Ev) (s : State) : KeepsHost s (Machine.queueEv e s) := by
  unfold Machine.queueEv
  refine after (onlyIf ?_) ⟨rfl, rfl⟩
  exact (incRf (a := Reg.EVL_LOST) (by decide)).trans ⟨rfl, rfl⟩

theorem event {code cls inst x y : Nat} : KeepsHost s (Machine.event code cls inst x y s) := by
  unfold Machine.event pushEv
  split
  · exact ⟨rfl, rfl⟩
  · exact queueEv _ s

theorem regEvent {src reg b cls inst a : Nat} : KeepsHost s (Machine.regEvent src reg b cls inst a s) := event

theorem flagEvent {src reg b cls inst a : Nat} (h : Reg.DBG_STAT ≠ a) :
    KeepsHost s (Machine.flagEvent src reg b cls inst a s) := (orReg h).trans regEvent

theorem irq {i : FwIrq} : KeepsHost s (Machine.irq i s) := by
  unfold Machine.irq
  split <;> exact ⟨rfl, rfl⟩

/-! Memory. -/

theorem memErr {b inst : Nat} : KeepsHost s (Machine.memErr b inst s) :=
  (flagEvent (a := Reg.MEM_ERR) (by decide)).trans (onlyIf irq)

theorem memElog {m agent chan a : Nat} {r : RdOut} : KeepsHost s (Machine.memElog m agent chan a r s) :=
  onlyIf ((setReg (by decide)).trans (setReg (by decide)))

theorem logRead {m agent chan a : Nat} {r : RdOut} (hm : m < 9) : KeepsHost s (Machine.logRead m agent chan a r s) := by
  have hce : Reg.DBG_STAT ≠ Reg.MEM_CE_CNT m := by unfold Reg.DBG_STAT Reg.MEM_CE_CNT; omega
  have hue : Reg.DBG_STAT ≠ Reg.MEM_UE_CNT m := by unfold Reg.DBG_STAT Reg.MEM_UE_CNT; omega
  have hrom : Reg.DBG_STAT ≠ Reg.MEM_ROM_CNT := by decide
  have hclog : Reg.DBG_STAT ≠ Reg.MEM_CLOG := by decide
  unfold Machine.logRead
  split
  · exact refl s
  · dsimp only
    split
    · exact memErr.after ((incRf hrom).after (setReg hclog))
    · split <;> exact memErr.after ((incRf hce).after (setReg hclog))
  · dsimp only
    split
    · exact memErr.after ((incRf hrom).after memElog)
    · exact memErr.after ((incRf hue).after memElog)
  · dsimp only
    split
    · exact memErr.after ((incRf hrom).after (memElog.after ⟨rfl, rfl⟩))
    · exact memErr.after ((incRf hue).after (memElog.after ⟨rfl, rfl⟩))

theorem readWord {agent chan a : Nat} : KeepsHost s (Machine.readWord agent chan a s).2 := by
  unfold Machine.readWord
  split
  · exact logRead (memOf_range ‹_›).1
  · exact refl s

theorem putBytes {a v n : Nat} : KeepsHost s (Machine.putBytes a v n s) := by
  induction n generalizing a v s with
  | zero => exact refl s
  | succ n ih => exact ih.after (s := s) ⟨rfl, rfl⟩

theorem storeWord {a v : Nat} {k : Bool} : KeepsHost s (Machine.storeWord a v k s) := putBytes.trans ⟨rfl, rfl⟩

theorem writeMasked {a v m : Nat} {k : Bool} : KeepsHost s (Machine.writeMasked a v m k s) := by
  unfold Machine.writeMasked
  split
  · exact storeWord
  · exact readWord.trans storeWord

theorem write32 {a v : Nat} {k : Bool} : KeepsHost s (Machine.write32 a v k s) := by
  unfold Machine.write32
  split <;> exact writeMasked

theorem put32 {a v : Nat} {k : Bool} : KeepsHost s (Machine.put32 a v k s) := write32.after ⟨rfl, rfl⟩

theorem writeNet (w : Nat) (vs : List Nat) (s : State) : KeepsHost s (Machine.writeNet w vs s) := by
  induction vs generalizing w s with
  | nil => exact refl s
  | cons v vs ih => exact put32.trans (ih _ _)

theorem mergeSecond {a v : Nat} {k : Bool} : KeepsHost s (Machine.mergeSecond a v k s) := by
  unfold Machine.mergeSecond
  exact storeWord

/-! Writes of the peas. -/

theorem commandReady {n ob cyc tick : Nat} : KeepsHost s (Machine.commandReady n ob cyc tick s) := by
  unfold Machine.commandReady
  dsimp only
  split
  · exact (put32.trans (writeNet _ _ _)).trans ⟨rfl, rfl⟩
  · exact put32.trans ⟨rfl, rfl⟩

theorem landAt {w : PendWr} {a : Nat} {k : Bool} : KeepsHost s (Machine.landAt w a k s) := by
  unfold Machine.landAt
  exact ite (mergeSecond.after ⟨rfl, rfl⟩) (write32.after ⟨rfl, rfl⟩)

theorem podFlags {p f : Nat} : KeepsHost s (Machine.podFlags p f s) := by
  have hf : Reg.DBG_STAT ≠ Reg.LE_FLAGS p := by unfold Reg.DBG_STAT Reg.LE_FLAGS; omega
  exact (orReg hf).trans (forAll (fun _ _ => onlyIf (regEvent.trans irq)) _ _)

theorem putCtx {n : Nat} {c : Ctx} (hn : n < 64) : KeepsHost s (Machine.putCtx n c s) := by
  have hc : Reg.DBG_STAT ≠ Reg.LE_CTX_STAT n := by unfold Reg.DBG_STAT Reg.LE_CTX_STAT; omega
  have hp : Reg.DBG_STAT ≠ Reg.LE_POD_STAT (ctxPod n) := by unfold Reg.DBG_STAT Reg.LE_POD_STAT; omega
  exact ((setReg hc).trans (setRf hp)).after ⟨rfl, rfl⟩

theorem ctxFlags {n p f : Nat} : KeepsHost s (Machine.ctxFlags n p f s) := by
  refine .trans ?_ podFlags
  by_cases hn : n < 64
  · exact onlyIf (putCtx hn)
  · rw [onlyIf_neg (by simpa using hn)]
    exact refl s

theorem landWrite {w : PendWr} : KeepsHost s (Machine.landWrite w s) := by
  unfold Machine.landWrite
  split
  · exact landAt
  · exact landAt.trans (onlyIf ⟨rfl, rfl⟩)
  · exact ctxFlags
  · exact commandReady

theorem toTick {n : Nat} : KeepsHost s (Machine.toTick n s) := ⟨rfl, rfl⟩

theorem landFirst (m n : Nat) (s : State) : KeepsHost s (Machine.landFirst m n s) := by
  induction n generalizing s with
  | zero => exact refl s
  | succ n ih =>
    unfold Machine.landFirst
    split
    · exact refl s
    · split
      · refine (ih _).after ?_
        split
        · exact podFlags.after (toTick.after ⟨rfl, rfl⟩)
        · exact landWrite.after (toTick.after ⟨rfl, rfl⟩)
      · exact refl s

theorem landUpTo {m : Nat} : KeepsHost s (Machine.landUpTo m s) := landFirst _ _ s

/-! Entries that turn LATE, and missing echoes. -/

theorem lateEntry {p : Nat} {e : QEnt} : KeepsHost s (Machine.lateEntry p e s) := by
  have hinfo : Reg.DBG_STAT ≠ Reg.DS_FLT_INFO p := by unfold Reg.DBG_STAT Reg.DS_FLT_INFO; omega
  have herr : Reg.DBG_STAT ≠ Reg.DS_ERR p := by unfold Reg.DBG_STAT Reg.DS_ERR; omega
  have hcnt : Reg.DBG_STAT ≠ Reg.DS_CNT p := by unfold Reg.DBG_STAT Reg.DS_CNT; omega
  unfold Machine.lateEntry dsMark putPod
  refine (incRf hcnt).after (event.after ((onlyIf ⟨rfl, rfl⟩).after ((orReg herr).after ((setReg hinfo).after ⟨rfl, rfl⟩))))

theorem latesUpTo (m n : Nat) (s : State) : KeepsHost s (Machine.latesUpTo m n s) := by
  induction n generalizing s with
  | zero => exact refl s
  | succ n ih =>
    unfold Machine.latesUpTo
    split
    · split
      · exact ((landUpTo.trans toTick).trans lateEntry).trans (ih _)
      · exact refl s
    · exact refl s

theorem netErr {r b : Nat} : KeepsHost s (Machine.netErr r b s) := by
  have herr : Reg.DBG_STAT ≠ Reg.NET_ERR r := by unfold Reg.DBG_STAT Reg.NET_ERR; omega
  have hfrm : Reg.DBG_STAT ≠ Reg.NET_CNT_FRM r := by unfold Reg.DBG_STAT Reg.NET_CNT_FRM; omega
  have hseq : Reg.DBG_STAT ≠ Reg.NET_CNT_SEQ r := by unfold Reg.DBG_STAT Reg.NET_CNT_SEQ; omega
  unfold Machine.netErr
  dsimp only
  split
  · exact (incRf hfrm).after (flagEvent herr)
  · exact (incRf hfrm).after (flagEvent herr)
  · exact (incRf hfrm).after (flagEvent herr)
  · exact (incRf hfrm).after (flagEvent herr)
  · exact (incRf hseq).after (flagEvent herr)
  · exact (incRf hseq).after (flagEvent herr)
  · exact flagEvent herr

theorem runTo {m : Nat} : KeepsHost s (Machine.runTo m s) := (latesUpTo _ _ s).trans (landUpTo.trans toTick)

theorem echoesUpTo (m n : Nat) (s : State) : KeepsHost s (Machine.echoesUpTo m n s) := by
  induction n generalizing s with
  | zero => exact refl s
  | succ n ih =>
    unfold Machine.echoesUpTo
    split
    · split
      · exact (ih _).after (netErr.after (runTo.trans ⟨rfl, rfl⟩))
      · exact refl s
    · exact refl s

theorem advanceTo {m : Nat} : KeepsHost s (Machine.advanceTo m s) := by
  unfold Machine.advanceTo
  split
  · exact refl s
  · exact (echoesUpTo _ _ s).trans runTo

theorem procSlot (h : Machine.procSlot s = some u) : KeepsHost s u := by
  unfold Machine.procSlot at h
  split at h
  · cases h
    exact refl s
  · obtain ⟨k, -, rfl⟩ := Option.map_eq_some_iff.1 h
    exact advanceTo.trans ⟨rfl, rfl⟩

end KeepsHost

end Sys2Proof.Machine
end

section
/-! Aborts of the processor (R28, R398, R420), and what its stores and aborts do. -/

namespace Sys2Proof.Machine

variable {s u w : State}

/-! How far an event fills the queue. -/

theorem queueEv_length {e : Ev} : (queueEv e s).evl.queue.length ≤ s.evl.queue.length + 1 := by
  by_cases hroom : s.evl.queue.length < 32
  · rw [queueEv_room hroom]
    exact le_of_eq length_evInsert
  · have hfull : 32 < (evInsert e s.evl.queue).length := by rw [length_evInsert]; omega
    unfold queueEv
    simp only [hfull, decide_true, if_true, onlyIf_true]
    change (evInsert e s.evl.queue).dropLast.length ≤ _
    rw [List.length_dropLast, length_evInsert]
    omega

theorem event_length {code cls inst x y : Nat} : (event code cls inst x y s).evl.queue.length ≤ s.evl.queue.length + 1 := by
  unfold event pushEv
  split
  · exact Nat.le_succ _
  · exact queueEv_length

@[simp] theorem irq_evl {i : FwIrq} : (irq i s).evl = s.evl := by
  unfold irq
  split <;> rfl

theorem memErr_length {b inst : Nat} : (memErr b inst s).evl.queue.length ≤ s.evl.queue.length + 1 := by
  have hevent : (flagEvent 12 0 b clsFault inst Reg.MEM_ERR s).evl.queue.length ≤ s.evl.queue.length + 1 := event_length
  unfold memErr
  dsimp only
  generalize (!s.rb Reg.MEM_ERR b && s.ab Reg.MEM_IEN b) = c
  cases c
  · exact hevent
  · rw [onlyIf_true, irq_evl]
    exact hevent

@[simp] theorem memElog_evl {m agent chan a : Nat} {r : RdOut} : (memElog m agent chan a r s).evl = s.evl := by
  unfold memElog onlyIf
  split <;> rfl

/-- A read logs one event at most. -/
theorem logRead_length {m agent chan a : Nat} {r : RdOut} :
    (logRead m agent chan a r s).evl.queue.length ≤ s.evl.queue.length + 1 := by
  have hcount {t : State} {b inst c hi lo : Nat} (h : t.evl = s.evl) :
      (memErr b inst (incRf c hi lo t)).evl.queue.length ≤ s.evl.queue.length + 1 := by
    rw [← h]
    exact memErr_length
  unfold logRead
  split
  · exact Nat.le_succ _
  · split
    · exact hcount rfl
    · split <;> exact hcount rfl
  · split <;> exact hcount memElog_evl
  · split <;> exact hcount memElog_evl

theorem readWord_length {agent chan a : Nat} :
    (readWord agent chan a s).2.evl.queue.length ≤ s.evl.queue.length + 1 := by
  unfold readWord
  split
  · exact logRead_length
  · exact Nat.le_succ _

/-! What an aborting access logs. -/

/-- The access at a ends in an abort, raised in a state that the read of a word has left. -/
def AbortsFrom (kind : AccessKind) (a : Nat) (s u : State) : Prop :=
  ∃ w, abortAccess kind a s = abortEvent (decide (kind = .fetch)) w ∧ KeepsHost s w ∧
    w.evl.queue.length ≤ u.evl.queue.length + 1

theorem abortsFrom_here {kind : AccessKind} {a : Nat}
    (h : abortAccess kind a s = abortEvent (decide (kind = .fetch)) s) : AbortsFrom kind a s s :=
  ⟨s, h, .refl s, Nat.le_succ _⟩

theorem abortAccess_fetch {a : Nat} : AbortsFrom .fetch a s s := by
  have hother (h : ∀ m, s.dest a ≠ .mem m) : AbortsFrom .fetch a s s := by
    apply abortsFrom_here
    unfold abortAccess
    dsimp only
    split
    · exact absurd ‹_› (h _)
    · rfl
  by_cases hmem : ∃ m, s.dest a = .mem m
  · obtain ⟨m, hm⟩ := hmem
    by_cases hread : (m = 0 || m = 8) = true
    · exact ⟨_, by simp only [abortAccess, hm, hread, if_true]; rfl, .readWord, readWord_length⟩
    · exact abortsFrom_here (by simp only [abortAccess, hm, hread]; rfl)
  · exact hother fun m hm => hmem ⟨m, hm⟩

theorem abortAccess_store {a : Nat} (h4 : a % 4 = 0) (h : s.aborts .store a = true) : AbortsFrom .store a s s := by
  have ha : a / 4 * 4 = a := by omega
  apply abortsFrom_here
  unfold State.aborts at h
  cases hd : s.dest a with
  | hole => simp only [abortAccess, procStore, procWrite, ha, hd]; rfl
  | mem m =>
    have hm : m = 8 := by simpa [hd] using h
    subst hm
    simp only [abortAccess, procStore, procWrite, ha, hd]
    rfl
  | _ => simp [hd] at h

/-- The read of a bad word raises an abort. -/
theorem procMem_aborts {a m : Nat} (hm : memOf a = some m) (hbad : (s.decodeAt a).ok = false) :
    (procMem a s).2 = abortEvent false (readWord 1 0 a s).2 := by
  have hok : (readWord 1 0 a s).1.ok = false := by rw [readWord_of_mem hm, hbad]
  simp only [procMem, read32, hok]
  rfl

theorem memOf_tcm {a : Nat} (h : 0x10000000 ≤ a) (h' : a < 0x10200000) : memOf a = some 0 := by
  have hin : (decide (memBase 0 ≤ a) && decide (a < memBase 0 + 8 * memWords 0)) = true := by
    rw [Bool.and_eq_true, decide_eq_true_eq, decide_eq_true_eq]
    exact ⟨h, h'⟩
  unfold memOf
  rw [show List.range 9 = 0 :: [1, 2, 3, 4, 5, 6, 7, 8] from rfl]
  exact List.find?_cons_of_pos hin

/-- The stored ranges of BAR0 lie in tightly coupled memory. -/
theorem memOf_bar {ofs : Nat} (h : barStored ofs = true) : memOf (barBase + ofs) = some 0 := by
  have hlt : ofs < 0x2030 := by
    unfold barStored at h
    simp only [Bool.or_eq_true, Bool.and_eq_true, decide_eq_true_eq] at h
    omega
  unfold barBase
  exact memOf_tcm (by omega) (by omega)

/-- A stored range holds a bad word, which raises an abort when it is read; the offset is named apart, so that the kernel
need not compute it. -/
theorem procRead_box {a ofs : Nat} (hd : s.dest a = .box) (ho : a - 0x50000000 = ofs) (hst : barStored ofs = true)
    (hon : s.storedOn = true) (hbad : (s.decodeAt (barBase + ofs)).ok = false) :
    (procRead a s).2 = abortEvent false (readWord 1 0 (barBase + ofs) s).2 := by
  have hok : (readWord 1 0 (barBase + ofs) s).1.ok = false := by rw [readWord_of_mem (memOf_bar hst), hbad]
  unfold procRead
  rw [hd, ho]
  simp only [hst, hon, read32, hok]
  rfl

theorem abortAccess_load {a : Nat} (h : s.aborts .load a = true) (hslot : s.dest a = .mem 7 → procSlot s = some u)
    (hnow : s.dest a ≠ .mem 7 → u = s) (hok : (u.decodeAt a).ok = (s.decodeAt a).ok) : AbortsFrom .load a s u := by
  unfold State.aborts at h
  cases hd : s.dest a with
  | hole =>
    obtain rfl := hnow (by rw [hd]; nofun)
    exact abortsFrom_here (by simp only [abortAccess, procRead, hd]; rfl)
  | mem m =>
    have hm := (dest_mem hd).2
    have hbad : (s.decodeAt a).ok = false := by simpa [hd] using h
    by_cases h7 : m = 7
    · subst h7
      have hu := hslot hd
      refine ⟨(readWord 1 0 a u).2, ?_, (KeepsHost.procSlot hu).trans .readWord, readWord_length⟩
      simp only [abortAccess, procRead, hd, hu]
      exact procMem_aborts hm (hok.trans hbad)
    · obtain rfl := hnow (by rw [hd]; simpa using h7)
      refine ⟨(readWord 1 0 a u).2, ?_, .readWord, readWord_length⟩
      have hread : procRead a u = procMem a u := by simp only [procRead, hd]
      simp only [abortAccess, hread]
      exact procMem_aborts hm hbad
  | box =>
    obtain rfl := hnow (by rw [hd]; nofun)
    simp only [hd, Bool.and_eq_true, Bool.not_eq_true'] at h
    obtain ⟨⟨hst, hon⟩, hbad⟩ := h
    exact ⟨_, procRead_box hd rfl hst hon hbad, .readWord, readWord_length⟩
  | _ => simp [hd] at h

/-- The abort of source 0x1D is among the events of t, which has room for another; the host interface is as in s. -/
structure AbortLogged (kind : AccessKind) (s t : State) : Prop where
  logged : ∃ e ∈ t.evl.queue, e.code = evCode 0x1D (b2n (decide (kind = .fetch))) 0 ∧ e.cls = clsFault
  hif : t.hif = s.hif
  running : t.frozen = false
  room : t.evl.queue.length < 32

theorem AbortsFrom.logged {kind : AccessKind} {a : Nat} (hf : s.frozen = false) (hq : u.evl.queue.length < 30)
    (h : AbortsFrom kind a s u) : AbortLogged kind s (abortAccess kind a s) := by
  obtain ⟨w, hw, hkeep, hlen⟩ := h
  have hwf : w.frozen = false := hkeep.frozen.trans hf
  rw [hw]
  unfold abortEvent
  rw [event_room (s := useFree w) hwf (lt_of_le_of_lt hlen (by omega))]
  refine ⟨⟨_, mem_evInsert.2 (.inl rfl), rfl, rfl⟩, hkeep.hif, hwf, ?_⟩
  simp only [length_evInsert]
  exact lt_of_le_of_lt (Nat.succ_le_succ hlen) (by omega)

/-! STAGE 4. -/

theorem natSet_testBit {n b : Nat} : (natSet n b true).testBit b = true := by
  unfold natSet
  split
  · assumption
  · rename_i hb
    rw [if_pos rfl, Nat.add_comm, Nat.testBit_two_pow_add_eq, eq_false_of_ne_true hb]
    rfl

/-- From s to t a vector may have been signalled; HSTATE, HNOTE and the recorder stay. -/
structure OnlySignals (s t : State) : Prop where
  hstate : t.hif.hstate = s.hif.hstate
  hnote : t.hif.hnote = s.hif.hnote
  evl : t.evl = s.evl
  regs : t.regs = s.regs

theorem signalVector_only {v : Nat} : OnlySignals s (signalVector v s) := by
  have hmsix (v : Nat) : OnlySignals s (msixSend v s) := by
    unfold msixSend
    split <;> exact ⟨rfl, rfl, rfl, rfl⟩
  have hmsi (v : Nat) : OnlySignals s (msiSend v s) := by
    unfold msiSend
    split <;> exact ⟨rfl, rfl, rfl, rfl⟩
  unfold signalVector
  split
  · exact ⟨rfl, rfl, rfl, rfl⟩
  · split
    · exact hmsix _
    · split
      · exact hmsi _
      · exact ⟨rfl, rfl, rfl, rfl⟩

/-- Setting a note sets its bit of HNOTE and touches no register and no event. -/
theorem setNote_bit {j : Nat} : (setNote j s).hif.hnote.testBit j = true ∧ (setNote j s).hif.hstate = s.hif.hstate ∧
    (setNote j s).evl = s.evl ∧ (setNote j s).regs = s.regs := by
  unfold setNote
  split
  · exact ⟨‹_›, rfl, rfl, rfl⟩
  · obtain ⟨hstate, hnote, hevl, hregs⟩ := signalVector_only
      (s := markSet 0 (2 ^ j) { s with hif := { s.hif with hnote := natSet s.hif.hnote j true } })
      (v := s.af (Reg.HIF_NVEC (j / 4)) (8 * (j % 4) + 4) (8 * (j % 4)))
    exact ⟨by rw [hnote]; exact natSet_testBit, hstate, hevl, hregs⟩

/-- An event of Glipor's for which there is room leaves those in the queue, the host interface and the registers. -/
theorem gliporEvent_room (hf : s.frozen = false) (hq : s.evl.queue.length < 32) :
    (gliporEvent s).hif = s.hif ∧ ∀ e ∈ s.evl.queue, e ∈ (gliporEvent s).evl.queue := by
  unfold gliporEvent
  dsimp only
  rw [event_room (s := useFree s) hf hq]
  exact ⟨rfl, fun e he => mem_evInsert.2 (.inr he)⟩

theorem enterStage4_enters (hf : s.frozen = false) (hq : s.evl.queue.length < 32) :
    fld (enterStage4 s).hif.hstate 3 0 = 4 ∧ (enterStage4 s).hif.hnote.testBit 1 = true ∧
      ∀ e ∈ s.evl.queue, e ∈ (enterStage4 s).evl.queue := by
  have hset := setNote_bit (s := putHstate (setFld s.hstateNow 3 0 4) s) (j := 1)
  unfold enterStage4 gliporNotes
  generalize setNote 1 (putHstate (setFld s.hstateNow 3 0 4) s) = t at hset ⊢
  obtain ⟨hbit, hstate, hevl, hregs⟩ := hset
  have hf' : t.frozen = false := by
    unfold State.frozen State.rb at hf ⊢
    rw [reg_congr hregs]
    exact hf
  have hevl' : t.evl = s.evl := hevl
  obtain ⟨hhif, hkeep⟩ := gliporEvent_room hf' (by rw [hevl']; exact hq)
  rw [hhif, hstate]
  refine ⟨?_, hbit, fun e he => hkeep e (by rw [hevl']; exact he)⟩
  exact fld_setFld_self _ 3 0 4 (by decide) (by decide)

/-- The events and the host interface that an aborting access leaves (R420). -/
theorem ordinaryAbort_leaves {kind : AccessKind} {t : State} {c : Bool} (h : AbortLogged kind s t) :
    (∃ e ∈ (onlyIf c ordinaryAbort t).evl.queue, e.code = evCode 0x1D (b2n (decide (kind = .fetch))) 0 ∧ e.cls = clsFault) ∧
      (c = true → s.stage = 2 ∨ s.stage = 3 → fld (onlyIf c ordinaryAbort t).hif.hstate 3 0 = 4 ∧
        (onlyIf c ordinaryAbort t).hif.hnote.testBit 1 = true) := by
  obtain ⟨⟨e, he, hcode⟩, hhif, hf, hq⟩ := h
  have hstage : t.stage = s.stage := by unfold State.stage; rw [hhif]
  obtain ⟨hfour, hnote, hkeep⟩ := enterStage4_enters hf hq
  cases c
  · exact ⟨⟨e, he, hcode⟩, nofun⟩
  · rw [onlyIf_true]
    unfold ordinaryAbort
    by_cases hs : s.stage = 2 ∨ s.stage = 3
    · rw [onlyIf_pos (by simpa [hstage] using hs)]
      exact ⟨⟨e, hkeep e he, hcode⟩, fun _ _ => ⟨hfour, hnote⟩⟩
    · rw [onlyIf_neg (by simpa [hstage] using hs)]
      exact ⟨⟨e, he, hcode⟩, fun _ hin => absurd hin hs⟩

theorem exec_processorAbort {addr : Word} {kind : AccessKind} {ordinary : Bool} (hc : s.cpuOn = true)
    (h : s.aborts kind (addr.toNat / 4 * 4) = true) : exec (.processorAbort addr kind ordinary) s =
      done (onlyIf (ordinary && s.domOn 7) ordinaryAbort (abortAccess kind (addr.toNat / 4 * 4) s)) := by
  simp only [exec, execProcessorAbort, hc, h, Bool.and_self, onlyIf_true]

/-- Settles O24: a store merges the enabled bytes into its word; an access that aborts does so from a state that a
logged read at most has left. -/
theorem processorStoresAndAborts : Obligations.ProcessorStoresAndAborts := by
  unfold Obligations.ProcessorStoresAndAborts
  intro addr w be s hc b
  refine ⟨fun m u h8 hd hcap hram => processorStore_ram hc h8 hd hcap hram,
    fun m h7 h8 hd hhit => processorStore_hit hc h7 h8 hd hhit, fun kind ordinary u hab hslot hnow hok hq => ?_⟩
  have hfrom : AbortsFrom kind b s u := by
    cases kind with
    | fetch =>
      obtain rfl := hnow (.inl nofun)
      exact abortAccess_fetch
    | load => exact abortAccess_load hab (hslot rfl) (fun h => hnow (.inr h)) hok
    | store =>
      obtain rfl := hnow (.inl nofun)
      exact abortAccess_store (by omega) hab
  obtain ⟨hevent, hstage⟩ := ordinaryAbort_leaves (c := ordinary && s.domOn 7)
    (hfrom.logged (not_frozen_of_sysOn (sysOn_of_cpuOn hc)) hq)
  rw [exec_processorAbort hc hab]
  refine answers_done ⟨?_, fun ho hd hs => ?_⟩
  · rw [settle_evl]
    exact hevent
  · rw [settle_hif]
    exact hstage (by rw [ho, hd]; rfl) hs

end Sys2Proof.Machine
end

section
/-! Marrow's faults and the safety state: what each function reaches of the registers and of what Marrow holds. -/

namespace Sys2Proof.Machine

variable {s t u : State}

/-! Marrow's oscillator (R480). -/

theorem marrowRate_bounds : 970000 ≤ s.marrowRate ∧ s.marrowRate ≤ 1030000 := by
  have h := Nat.mod_lt (Config.marrowError s.mtick) (by decide : 60001 > 0)
  unfold State.marrowRate
  omega

/-- At 97 percent of the nominal rate a span has passed at any rate. -/
theorem marrowReached_of_slow {dt lim : Nat} (h : lim * 100 ≤ dt * 97) : s.marrowReached dt lim = true := by
  have hslow : lim * 1000000 ≤ dt * 970000 := by omega
  exact decide_eq_true (hslow.trans (Nat.mul_le_mul_left dt marrowRate_bounds.1))

/-- At 103 percent of the nominal rate it has not. -/
theorem not_marrowReached_of_fast {dt lim : Nat} (h : dt * 103 < lim * 100) : s.marrowReached dt lim = false := by
  have hfast : dt * 1030000 < lim * 1000000 := by omega
  exact decide_eq_false (Nat.not_le.2 (lt_of_le_of_lt (Nat.mul_le_mul_left dt marrowRate_bounds.2) hfast))

/-! Held bits. -/

/-- The bits of the register at a that Marrow holds for the logic die (R477). -/
def State.heldAt (s : State) (a : Nat) : Nat := kvGet (fun _ => 0) s.fio.heldBits a

/-! Reach. -/

/-- From s to t no register and no held bits change but those at the addresses of a list, and no latch does. -/
structure Touches (ex : List Nat) (s t : State) : Prop where
  reg : ∀ a, a ∉ ex → t.reg a = s.reg a
  held : ∀ a, a ∉ ex → t.heldAt a = s.heldAt a
  latch : t.fio.latch = s.fio.latch

namespace Touches

variable {ex ex' : List Nat}

theorem refl (s : State) : Touches ex s s := ⟨fun _ _ => rfl, fun _ _ => rfl, rfl⟩

theorem trans (h : Touches ex s t) (k : Touches ex t u) : Touches ex s u :=
  ⟨fun a ha => (k.reg a ha).trans (h.reg a ha), fun a ha => (k.held a ha).trans (h.held a ha), k.latch.trans h.latch⟩

theorem after (k : Touches ex t u) (h : Touches ex s t) : Touches ex s u := h.trans k

theorem mono (h : Touches ex s t) (hsub : ex ⊆ ex') : Touches ex' s t :=
  ⟨fun a ha => h.reg a fun hin => ha (hsub hin), fun a ha => h.held a fun hin => ha (hsub hin), h.latch⟩

theorem of_regs {a : Nat} (ha : a ∈ ex) (hreg : ∀ b, b ≠ a → t.reg b = s.reg b) (hfio : t.fio = s.fio) : Touches ex s t :=
  ⟨fun b hb => hreg b fun h => hb (h ▸ ha), fun _ _ => by unfold State.heldAt; rw [hfio], by rw [hfio]⟩

theorem setRf {a hi lo v : Nat} (ha : a ∈ ex) : Touches ex s (Machine.setRf a hi lo v s) :=
  of_regs ha (fun _ hb => reg_setRf_other hb) rfl

theorem setRb {a b : Nat} {v : Bool} (ha : a ∈ ex) : Touches ex s (Machine.setRb a b v s) := setRf ha

theorem orReg {a m : Nat} (ha : a ∈ ex) : Touches ex s (Machine.orReg a m s) :=
  of_regs ha (fun _ hb => reg_orReg_other hb) rfl

theorem onlyIf {c : Bool} {f : State → State} (h : Touches ex s (f s)) : Touches ex s (Machine.onlyIf c f s) := by
  cases c
  · exact refl s
  · exact h

theorem ite {c : Prop} [Decidable c] (h : Touches ex s t) (k : Touches ex s u) : Touches ex s (if c then t else u) := by
  split
  · exact h
  · exact k

theorem rb {a b : Nat} (h : Touches ex s t) (ha : a ∉ ex) : t.rb a b = s.rb a b := by
  unfold State.rb
  rw [h.reg a ha]

theorem rf {a hi lo : Nat} (h : Touches ex s t) (ha : a ∉ ex) : t.rf a hi lo = s.rf a hi lo := by
  unfold State.rf
  rw [h.reg a ha]

end Touches

/-! Events. -/

theorem queueEv_only {e : Ev} : ∃ r c v, queueEv e s = { s with regs := r, clk := c, evl := v } ∧
    ∀ a, a ≠ Reg.EVL_LOST → kvGet regReset r a = s.reg a := by
  by_cases hroom : s.evl.queue.length < 32
  · exact ⟨_, _, _, queueEv_room hroom, fun _ _ => rfl⟩
  · have hfull : 32 < (evInsert e s.evl.queue).length := by rw [length_evInsert]; omega
    unfold queueEv
    simp only [hfull, decide_true, if_true, onlyIf_true]
    exact ⟨_, _, _, rfl, fun _ ha => reg_setReg_other ha⟩

/-- An event reaches the recorder, its register of losses and the notes of what hardware does to registers. -/
theorem event_only {code cls inst x y : Nat} : ∃ r c v, event code cls inst x y s = { s with regs := r, clk := c, evl := v } ∧
    ∀ a, a ≠ Reg.EVL_LOST → kvGet regReset r a = s.reg a := by
  unfold event pushEv
  split
  · exact ⟨_, _, _, rfl, fun _ _ => rfl⟩
  · exact queueEv_only

theorem reg_event {code cls inst x y a : Nat} (ha : a ≠ Reg.EVL_LOST) : (event code cls inst x y s).reg a = s.reg a := by
  obtain ⟨r, c, v, h, hreg⟩ := event_only (s := s) (code := code) (cls := cls) (inst := inst) (x := x) (y := y)
  rw [h]
  exact hreg a ha

@[simp] theorem event_fio {code cls inst x y : Nat} : (event code cls inst x y s).fio = s.fio := by
  obtain ⟨r, c, v, h, -⟩ := event_only (s := s) (code := code) (cls := cls) (inst := inst) (x := x) (y := y)
  rw [h]

@[simp] theorem event_saf {code cls inst x y : Nat} : (event code cls inst x y s).saf = s.saf := by
  obtain ⟨r, c, v, h, -⟩ := event_only (s := s) (code := code) (cls := cls) (inst := inst) (x := x) (y := y)
  rw [h]

theorem event_touches {code cls inst x y : Nat} {ex : List Nat} (hl : Reg.EVL_LOST ∈ ex) :
    Touches ex s (event code cls inst x y s) := .of_regs hl (fun _ hb => reg_event hb) event_fio

theorem marrowEvent_touches {src hsrc reg b cls inst a : Nat} {ex : List Nat} (hl : Reg.EVL_LOST ∈ ex) :
    Touches ex s (marrowEvent src hsrc reg b cls inst a s) := by
  unfold marrowEvent
  refine .ite (event_touches hl) (.ite ?_ (.refl s))
  exact ⟨fun _ _ => rfl, fun _ _ => rfl, rfl⟩

/-! Bits that Marrow sets. -/

theorem orMarrow_live {a m : Nat} (hs : s.sysOn = true) (hd : s.domOn (blkDom (blkOf a)) = true) :
    orMarrow a m s = orReg a m s := by
  simp only [orMarrow, hs, hd, Bool.and_self, if_true]

theorem orMarrow_held {a m : Nat} (h : (s.sysOn && s.domOn (blkDom (blkOf a))) = false) :
    (orMarrow a m s).regs = s.regs ∧ (orMarrow a m s).heldAt a = s.heldAt a ||| m := by
  unfold orMarrow
  rw [if_neg (by simp [h])]
  exact ⟨rfl, kvGet_kvPut.trans (if_pos rfl)⟩

theorem orMarrow_touches {a m : Nat} {ex : List Nat} (ha : a ∈ ex) : Touches ex s (orMarrow a m s) := by
  unfold orMarrow
  refine .ite (.orReg ha) ⟨fun _ _ => rfl, fun b hb => kvGet_kvPut_other fun h => hb (h ▸ ha), rfl⟩

theorem rb_orReg {a b m : Nat} (hb : b < 32) : (orReg a m s).rb a b = (s.rb a b || m.testBit b) := by
  unfold State.rb bit
  rw [reg_orReg_self, BitVec.getLsbD_or, BitVec.getLsbD_ofNat, decide_eq_true hb, Bool.true_and]

theorem orMarrow_rb_mono {a b m : Nat} (hb : b < 32) (h : s.rb a b = true) : (orMarrow a m s).rb a b = true := by
  unfold orMarrow
  split
  · rw [rb_orReg hb, h, Bool.true_or]
  · exact h

/-- Bit b of the register at a stands, in the register or among what Marrow holds for it. -/
def State.shows (s : State) (a b : Nat) : Bool := s.rb a b || (s.heldAt a).testBit b

theorem orMarrow_shows {a b m : Nat} (hb : b < 32) : (orMarrow a m s).shows a b = (s.shows a b || m.testBit b) := by
  unfold State.shows
  cases h : s.sysOn && s.domOn (blkDom (blkOf a))
  · obtain ⟨hregs, hheld⟩ := orMarrow_held (m := m) h
    unfold State.rb
    rw [reg_congr hregs, hheld, Nat.testBit_or, Bool.or_assoc]
  · rw [Bool.and_eq_true] at h
    rw [orMarrow_live h.1 h.2, rb_orReg hb, Bool.or_right_comm]
    rfl

theorem Touches.shows {a b : Nat} {ex : List Nat} (h : Touches ex s t) (ha : a ∉ ex) : t.shows a b = s.shows a b := by
  unfold State.shows
  rw [h.rb ha, h.held a ha]

/-! Bits of SAF_ERR (R367). -/

theorem safErr_touches {b inst : Nat} : Touches [Reg.SAF_ERR, Reg.EVL_LOST] s (safErr b inst s) := by
  unfold safErr flagEvent
  exact .ite ((Touches.orReg (.head _)).trans (event_touches (.tail _ (.head _))))
    ((orMarrow_touches (.head _)).trans (marrowEvent_touches (.tail _ (.head _))))

/-- What Husk detects sets its bit of SAF_ERR as Marrow does. -/
theorem safErr_husk {b c inst : Nat} (hb : taskFault b = false) :
    (safErr b inst s).rb Reg.SAF_ERR c = (orMarrow Reg.SAF_ERR (2 ^ b) s).rb Reg.SAF_ERR c := by
  unfold safErr
  rw [hb, if_neg (by decide), (marrowEvent_touches (ex := [Reg.EVL_LOST]) (.head _)).rb (by decide)]

/-- What Husk detects shows its bit of SAF_ERR, at once or held; no bit clears. -/
theorem safErr_shows {b c inst : Nat} (hb : taskFault b = false) (hc : c < 32) :
    (safErr b inst s).shows Reg.SAF_ERR c = (s.shows Reg.SAF_ERR c || (2 ^ b).testBit c) := by
  unfold safErr
  rw [hb, if_neg (by decide), (marrowEvent_touches (ex := [Reg.EVL_LOST]) (.head _)).shows (by decide), orMarrow_shows hc]

/-- What the safety task detects sets its bit of SAF_ERR at once. -/
theorem safErr_task {b inst : Nat} (hb : taskFault b = true) (h32 : b < 32) : (safErr b inst s).rb Reg.SAF_ERR b = true := by
  unfold safErr flagEvent
  rw [hb, if_pos rfl]
  have hl := (event_touches (ex := [Reg.EVL_LOST]) (s := orReg Reg.SAF_ERR (2 ^ b) s) (.head _)
    (code := evCode 11 0 b) (cls := clsFault) (inst := inst) (x := ((orReg Reg.SAF_ERR (2 ^ b) s).reg Reg.SAF_ERR).toNat)
    (y := (orReg Reg.SAF_ERR (2 ^ b) s).cyc % 2 ^ 32)).rb (a := Reg.SAF_ERR) (b := b) (by decide)
  refine hl.trans ?_
  rw [rb_orReg h32, Nat.testBit_two_pow_self, Bool.or_true]

/-! The safety state (R367, R368, R370). -/

/-- The registers that a transition of the safety state writes. -/
def safMoved : List Nat := [Reg.SAF_STATE, Reg.SAF_REQ, Reg.SAF_FLT]

theorem clearReq_touches : Touches safMoved s (clearReq s) := by
  unfold clearReq
  exact .ite (.setRf (by decide)) ⟨fun _ _ => rfl, fun _ _ => rfl, rfl⟩

theorem setAgr_touches {g : Nat} {v : Bool} : Touches safMoved s (setAgr g v s) := .setRb (by decide)

theorem setSafState_touches {st : Nat} : Touches safMoved s (setSafState st s) := by
  have hset : Touches safMoved s
      { setRf Reg.SAF_STATE 2 0 st s with saf := { s.saf with stok := false, wdRef := s.mtick, wdFirst := true } } :=
    .of_regs (a := Reg.SAF_STATE) (by decide) (fun _ hb => reg_setRf_other hb) rfl
  unfold setSafState
  exact .ite (clearReq_touches.after (setAgr_touches.after (setAgr_touches.after hset))) hset

theorem safFall_touches {st b : Nat} : Touches safMoved s (safFall st b s) := by
  unfold safFall
  have hset := setSafState_touches (s := s) (st := st)
  exact .ite ((Touches.setRf (by decide)).after hset) ⟨hset.reg, hset.held, hset.latch⟩

theorem showRecs_touches {rs : List Nat} : Touches safMoved s (showRecs rs s) := by
  unfold showRecs
  refine (Touches.onlyIf (.setRf (by decide))).after ?_
  exact ⟨fun _ _ => rfl, fun _ _ => rfl, rfl⟩

theorem clearReq_stat : (clearReq s).reg Reg.SAF_STATE = s.reg Reg.SAF_STATE := by
  unfold clearReq
  split
  · exact reg_setRf_other (by decide)
  · rfl

theorem setAgr_safState {g : Nat} {v : Bool} (hg : g < 2) : (setAgr g v s).safState = s.safState := by
  unfold setAgr State.safState State.rf
  rw [reg_setRb_self]
  exact fld_setFld_apart _ _ _ _ _ _ (le_refl _) (by omega) (by decide) (by decide) (.inr (by omega))

theorem setAgr_agr {g h : Nat} {v : Bool} (hh : h < 2) : (setAgr g v s).agr h = if h = g then v else s.agr h := by
  unfold setAgr State.agr State.rb
  rw [reg_setRb_self, bit_setFld_bit _ _ _ _ (by omega)]
  simp

/-- SAF_STATE after a transition to st, before the agreements are seen to. -/
theorem safState_of_reg {st : Nat} (hst : st < 8) (h : t.reg Reg.SAF_STATE = setFld (s.reg Reg.SAF_STATE) 2 0 st) :
    t.safState = st := by
  unfold State.safState State.rf
  rw [h, fld_setFld_self _ _ _ _ (by decide) (by decide)]
  exact Nat.mod_eq_of_lt hst

theorem clearReq_safState : (clearReq s).safState = s.safState := by
  unfold State.safState State.rf
  rw [clearReq_stat]

theorem clearReq_agr {g : Nat} : (clearReq s).agr g = s.agr g := by
  unfold State.agr State.rb
  rw [clearReq_stat]

theorem setSafState_safState {st : Nat} (hst : st < 8) : (setSafState st s).safState = st := by
  unfold setSafState
  dsimp only
  split
  · rw [clearReq_safState, setAgr_safState (by decide), setAgr_safState (by decide)]
    exact safState_of_reg (s := s) hst reg_setRf_self
  · exact safState_of_reg (s := s) hst reg_setRf_self

/-- A fall takes the agreements with it. -/
theorem setSafState_agr {st g : Nat} (hst : st = 3 ∨ st = 4) (hg : g < 2) : (setSafState st s).agr g = false := by
  unfold setSafState
  dsimp only
  rw [if_pos (by simpa using hst), clearReq_agr, setAgr_agr hg, setAgr_agr hg]
  have h : g = 1 ∨ g = 0 := by omega
  obtain rfl | rfl := h <;> rfl

theorem safFall_stat {st b : Nat} : (safFall st b s).reg Reg.SAF_STATE = (setSafState st s).reg Reg.SAF_STATE := by
  unfold safFall
  dsimp only
  split
  · exact reg_setRf_other (by decide)
  · rfl

theorem safFall_safState {st b : Nat} (hst : st < 8) : (safFall st b s).safState = st := by
  refine Eq.trans ?_ (setSafState_safState (s := s) hst)
  unfold State.safState State.rf
  rw [safFall_stat]

theorem safFall_agr {st b g : Nat} (hst : st = 3 ∨ st = 4) (hg : g < 2) : (safFall st b s).agr g = false := by
  refine Eq.trans ?_ (setSafState_agr (s := s) hst hg)
  unfold State.agr State.rb
  rw [safFall_stat]

/-! Faults (R371). -/

/-- The registers that a fault of the safety state writes. -/
def safReach : List Nat := Reg.SAF_ERR :: Reg.EVL_LOST :: safMoved

theorem safErr_reach {b inst : Nat} : Touches safReach s (safErr b inst s) := safErr_touches.mono (by decide)

theorem safFall_reach {st b : Nat} : Touches safReach s (safFall st b s) := safFall_touches.mono (by decide)

theorem safFault_touches {b inst : Nat} {lock : Bool} : Touches safReach s (safFault b inst lock s) := by
  have hfall {t : State} {st : Nat} (h : Touches safReach s t) : Touches safReach s (safFall st b t) := safFall_reach.after h
  have hrecs (rs : List Nat) : Touches safReach s (showRecs rs (safErr b inst s)) :=
    (showRecs_touches.mono (by decide)).after safErr_reach
  unfold safFault
  refine .ite (.onlyIf safErr_reach) (.ite (.ite safErr_reach (hfall safErr_reach)) ?_)
  refine .ite (hfall (safErr_reach.after safErr_reach)) (.ite ?_ safErr_reach)
  exact .ite (hfall (safErr_reach.after (hrecs _))) (hfall (hrecs _))

theorem safErr_huskOn {b inst : Nat} : (safErr b inst s).huskOn = s.huskOn := by
  unfold State.huskOn
  rw [safErr_touches.rb (by decide)]

theorem safErr_safState {b inst : Nat} : (safErr b inst s).safState = s.safState := safErr_touches.rf (by decide)

/-- A fault that calls for LOCKOUT leads there from every state. -/
theorem safFault_lock {b inst : Nat} (hh : s.huskOn = true) : (safFault b inst true s).safState = 4 := by
  unfold safFault
  simp only [hh, Bool.not_true, Bool.false_eq_true, if_false, if_true]
  split
  · assumption
  · exact safFall_safState (by decide)

theorem safFault_lock_agr {b inst g : Nat} (hh : s.huskOn = true) (hs : s.safState ≠ 4) (hg : g < 2) :
    (safFault b inst true s).agr g = false := by
  unfold safFault
  simp only [hh, Bool.not_true, Bool.false_eq_true, if_false, if_true, safErr_safState, hs]
  exact safFall_agr (.inr rfl) hg

/-- A fault ends RUN and TEST. -/
theorem safFault_recovery {b inst : Nat} (hh : s.huskOn = true) (hs : s.safState = 1 ∨ s.safState = 2) :
    (safFault b inst false s).safState = 3 ∨ (safFault b inst false s).safState = 4 := by
  have hne : s.safState ≠ 3 := by omega
  have hin : (decide (s.safState = 1) || decide (s.safState = 2)) = true := by simpa using hs
  unfold safFault
  simp only [hh, Bool.not_true, Bool.false_eq_true, if_false, safErr_safState, hne, hin, if_true]
  split
  · exact .inr (safFall_safState (by decide))
  · exact .inl (safFall_safState (by decide))

/-- What the bit of a fault brings, further bits keep and the moves of the state do not touch holds after the fault. -/
theorem safFault_of_safErr {b inst : Nat} {lock : Bool} {P : State → Prop} (hh : s.huskOn = true)
    (herr : P (safErr b inst s)) (hmore : ∀ t, P t → P (safErr 14 0 t))
    (hmove : ∀ t u, Touches safMoved t u → P t → P u) : P (safFault b inst lock s) := by
  have hrecs (rs : List Nat) : P (showRecs rs (safErr b inst s)) := hmove _ _ showRecs_touches herr
  have hfall {t : State} {st : Nat} (h : P t) : P (safFall st b t) := hmove _ _ safFall_touches h
  unfold safFault
  rw [if_neg (by simp [hh])]
  dsimp only
  split
  · split
    · exact herr
    · exact hfall herr
  · split
    · exact hfall (hmore _ herr)
    · split
      · split
        · exact hfall (hmore _ (hrecs _))
        · exact hfall (hrecs _)
      · exact herr

/-- The bit of a fault that Husk detects shows in SAF_ERR. -/
theorem safFault_shows {b inst : Nat} {lock : Bool} (hh : s.huskOn = true) (hb : taskFault b = false) (h32 : b < 32) :
    (safFault b inst lock s).shows Reg.SAF_ERR b = true := by
  refine safFault_of_safErr (P := fun t => t.shows Reg.SAF_ERR b = true) hh ?_ (fun t h => ?_) fun t u h ht => ?_
  · rw [safErr_shows hb h32, Nat.testBit_two_pow_self, Bool.or_true]
  · rw [safErr_shows rfl h32, h, Bool.true_or]
  · rw [h.shows (by decide), ht]

/-- While the logic die runs it stands in the register. -/
theorem safFault_rb {b inst : Nat} {lock : Bool} (hh : s.huskOn = true) (hb : taskFault b = false) (h32 : b < 32)
    (hs : s.sysOn = true) (hd : s.domOn 1 = true) : (safFault b inst lock s).rb Reg.SAF_ERR b = true := by
  refine safFault_of_safErr (P := fun t => t.rb Reg.SAF_ERR b = true) hh ?_ (fun t h => ?_) fun t u h ht => ?_
  · rw [safErr_husk hb, orMarrow_live (a := Reg.SAF_ERR) hs hd, rb_orReg h32, Nat.testBit_two_pow_self, Bool.or_true]
  · rw [safErr_husk rfl, orMarrow_rb_mono h32 h]
  · rw [h.rb (by decide), ht]

end Sys2Proof.Machine
end

section
/-! Commands and faults of the field outputs (R343 to R349). -/

namespace Sys2Proof.Machine

variable {s t u : State}

/-! Bits of words. -/

/-- Bits taken out of a number. -/
theorem testBit_sub_and (x y i : Nat) : (x - (x &&& y)).testBit i = (x.testBit i && !(y.testBit i)) := by
  induction i generalizing x y with
  | zero =>
    have hle : x &&& y ≤ x := Nat.and_le_left
    have hodd : (x &&& y) % 2 = 1 ↔ x % 2 = 1 ∧ y % 2 = 1 := Nat.and_mod_two_eq_one
    rw [Bool.eq_iff_iff]
    simp only [Nat.testBit_zero, Bool.and_eq_true, Bool.not_eq_true', decide_eq_true_eq, decide_eq_false_iff_not]
    omega
  | succ i ih =>
    have hle : x &&& y ≤ x := Nat.and_le_left
    have hodd : (x &&& y) % 2 = 1 ↔ x % 2 = 1 ∧ y % 2 = 1 := Nat.and_mod_two_eq_one
    have hhalf : (x &&& y) / 2 = x / 2 &&& y / 2 := Nat.and_div_two
    have hdiv : (x - (x &&& y)) / 2 = x / 2 - (x / 2 &&& y / 2) := by omega
    simp only [Nat.testBit_succ, hdiv, ih]

theorem fld_lt (w : Word) (hi lo : Nat) : fld w hi lo < 2 ^ (hi + 1 - lo) := Nat.mod_lt _ (Nat.two_pow_pos _)

/-- Bit k of byte n of a word. -/
theorem fld_byte_bit {w : Word} {n k : Nat} (hk : k < 8) : (fld w (8 * n + 7) (8 * n)).testBit k = bit w (8 * n + k) := by
  rw [fld_testBit _ _ _ _ (by omega), decide_eq_true (by omega : k ≤ 8 * n + 7 - 8 * n), Bool.true_and]
  rfl

/-! Commands (R343). -/

theorem regWrite_on {a : Nat} {f : State → State} (hc : s.cpuOn = true) (hd : s.domOn (blkDom (blkOf a)) = true) :
    regWrite a f s = f s := by
  simp only [regWrite, hc, hd, Bool.not_true, Bool.false_eq_true, if_false, if_true]

theorem outBits_same {cmd : Nat} : (outBits cmd s).SameRegs s [Reg.FIO_OUT] := fun a ha =>
  (reg_setReg_other (by simpa using ha)).symm

theorem outBits_rf {cmd : Nat} (h : cmd < 256) : (outBits cmd s).rf Reg.FIO_OUT 7 0 = cmd := by
  unfold outBits State.rf
  rw [reg_setReg_self, fld_setFld_self _ _ _ _ (by decide) (by decide)]
  exact Nat.mod_eq_of_lt h

theorem outBits_bit {cmd k : Nat} (hk : k < 8) : (outBits cmd s).rb Reg.FIO_OUT k = cmd.testBit k := by
  unfold outBits State.rb bit
  rw [reg_setReg_self, setFld_bit _ _ _ _ _ (by decide) (by omega), if_pos (by omega), Nat.sub_zero]

theorem out_bit {k : Nat} (hk : k < 8) : (s.rf Reg.FIO_OUT 7 0).testBit k = s.rb Reg.FIO_OUT k := by
  unfold State.rf State.rb
  have h := fld_byte_bit (w := s.reg Reg.FIO_OUT) (n := 0) hk
  rwa [Nat.mul_zero, Nat.zero_add, Nat.zero_add] at h

theorem low_bit {w : Word} {k : Nat} (hk : k < 8) : (fld w 7 0).testBit k = bit w k := by
  have h := fld_byte_bit (w := w) (n := 0) hk
  rwa [Nat.mul_zero, Nat.zero_add, Nat.zero_add] at h

/-! Faults that clear (R349). -/

/-- The bits of FIO_OUT_FLT that a write of w clears, with the channels in limit, hot and driven. -/
def clearedFaults (w : Word) (lim hot ext : Nat) : Nat :=
  fld w 7 0 - (fld w 7 0 &&& lim) + 256 * (fld w 15 8 - (fld w 15 8 &&& hot))
    + 65536 * (fld w 23 16 - (fld w 23 16 &&& ext)) + 2 ^ 24 * fld w 31 24

/-- The four bytes of a number. -/
theorem bytes_testBit {x0 x1 x2 x3 k : Nat} (h0 : x0 < 256) (h1 : x1 < 256) (h2 : x2 < 256) (hk : k < 8) :
    (x0 + 256 * x1 + 65536 * x2 + 2 ^ 24 * x3).testBit k = x0.testBit k ∧
    (x0 + 256 * x1 + 65536 * x2 + 2 ^ 24 * x3).testBit (8 + k) = x1.testBit k ∧
    (x0 + 256 * x1 + 65536 * x2 + 2 ^ 24 * x3).testBit (16 + k) = x2.testBit k ∧
    (x0 + 256 * x1 + 65536 * x2 + 2 ^ 24 * x3).testBit (24 + k) = x3.testBit k := by
  have hsplit : x0 + 256 * x1 + 65536 * x2 + 2 ^ 24 * x3 = 2 ^ 8 * (2 ^ 8 * (2 ^ 8 * x3 + x2) + x1) + x0 := by ring
  have hlow {a b j : Nat} (h : b < 2 ^ 8) (hj : j < 8) : (2 ^ 8 * a + b).testBit j = b.testBit j := by
    rw [Nat.testBit_two_pow_mul_add a h, if_pos hj]
  have hhigh {a b j : Nat} (h : b < 2 ^ 8) : (2 ^ 8 * a + b).testBit (8 + j) = a.testBit j := by
    rw [Nat.testBit_two_pow_mul_add a h, if_neg (by omega), Nat.add_sub_cancel_left]
  rw [hsplit]
  refine ⟨hlow h0 hk, ?_, ?_, ?_⟩
  · rw [hhigh h0, hlow h1 hk]
  · rw [show 16 + k = 8 + (8 + k) by omega, hhigh h0, hhigh h1, hlow h2 hk]
  · rw [show 24 + k = 8 + (8 + (8 + k)) by omega, hhigh h0, hhigh h1, hhigh h2]

theorem clearedFaults_bits {w : Word} {lim hot ext k : Nat} (hk : k < 8) :
    (clearedFaults w lim hot ext).testBit k = (bit w k && !(lim.testBit k)) ∧
    (clearedFaults w lim hot ext).testBit (8 + k) = (bit w (8 + k) && !(hot.testBit k)) ∧
    (clearedFaults w lim hot ext).testBit (16 + k) = (bit w (16 + k) && !(ext.testBit k)) ∧
    (clearedFaults w lim hot ext).testBit (24 + k) = bit w (24 + k) := by
  have hlt (x y : Nat) (h : x < 256) : x - (x &&& y) < 256 := by omega
  obtain ⟨b0, b1, b2, b3⟩ := bytes_testBit (x3 := fld w 31 24) (hlt _ lim (fld_lt w 7 0)) (hlt _ hot (fld_lt w 15 8))
    (hlt _ ext (fld_lt w 23 16)) hk
  unfold clearedFaults
  rw [b0, b1, b2, b3, testBit_sub_and, testBit_sub_and, testBit_sub_and]
  exact ⟨by rw [fld_byte_bit (n := 0) hk, Nat.mul_zero, Nat.zero_add], by rw [fld_byte_bit (n := 1) hk],
    by rw [fld_byte_bit (n := 2) hk], fld_byte_bit (n := 3) hk⟩

theorem faultClear_same {w : Word} {lim hot ext : Nat} : (faultClear w lim hot ext s).SameRegs s [Reg.FIO_OUT_FLT] :=
  fun a ha => (reg_setReg_other (by simpa using ha)).symm

theorem faultClear_bit {w : Word} {lim hot ext b : Nat} (hb : b < 32) : (faultClear w lim hot ext s).rb Reg.FIO_OUT_FLT b =
    (s.rb Reg.FIO_OUT_FLT b && !((clearedFaults w lim hot ext).testBit b && !(bit (s.noted Reg.FIO_OUT_FLT).ev b))) := by
  unfold faultClear State.rb bit
  rw [reg_setReg_self]
  simp only [BitVec.getLsbD_and, BitVec.getLsbD_not, BitVec.getLsbD_ofNat, decide_eq_true hb, Bool.true_and]
  rfl

/-! Faults that arise (R344 to R347). -/

/-- Fault b of channel k, raised in s, is felt in u: in FIO_OUT_FLT, among the bits held for it while no clock runs, or
in the supervisor's latch while PD_FIELD is off. -/
def Felt (s u : State) (k b : Nat) : Prop :=
  (s.fieldOn = true → s.sysOn = true → u.rb Reg.FIO_OUT_FLT b = true) ∧
  (s.fieldOn = true → s.sysOn = false → (u.heldAt Reg.FIO_OUT_FLT).testBit b = true) ∧
  (s.fieldOn = false → b < 24 → u.fio.latch.testBit k = true)

theorem Felt.touches {k b : Nat} {ex : List Nat} (h : Felt s t k b) (ht : Touches ex t u) (ha : Reg.FIO_OUT_FLT ∉ ex) :
    Felt s u k b := by
  obtain ⟨hreg, hheld, hlatch⟩ := h
  exact ⟨fun hf hs => (ht.rb ha).trans (hreg hf hs), fun hf hs => by rw [ht.held _ ha]; exact hheld hf hs,
    fun hf hb => by rw [ht.latch]; exact hlatch hf hb⟩

/-- What a channel's fault leaves in FIO_OUT_FLT. -/
theorem outFault_touches {lo k : Nat} :
    Touches [Reg.EVL_LOST] (onlyIf s.fieldOn (orMarrow Reg.FIO_OUT_FLT (2 ^ (lo + k))) s) (outFault lo k s) :=
  marrowEvent_touches (.head _)

theorem outFault_reach {lo k : Nat} : Touches [Reg.FIO_OUT_FLT, Reg.EVL_LOST] s (outFault lo k s) :=
  (outFault_touches.mono (List.subset_cons_self _ _)).after (.onlyIf (orMarrow_touches (.head _)))

theorem outFault_felt {lo k : Nat} (h32 : lo + k < 32) (hf : t.fieldOn = s.fieldOn) (hs : t.sysOn = s.sysOn)
    (hl : s.fieldOn = false → lo + k < 24 → t.fio.latch.testBit k = true) : Felt s (outFault lo k t) k (lo + k) := by
  refine Felt.touches ?_ outFault_touches (by decide)
  rw [hf]
  refine ⟨fun hon hrun => ?_, fun hon hrun => ?_, fun hoff hb => ?_⟩
  · rw [hon, onlyIf_true, orMarrow_live (a := Reg.FIO_OUT_FLT) (hs.trans hrun) (hf.trans hon), rb_orReg h32,
      Nat.testBit_two_pow_self, Bool.or_true]
  · rw [hon, onlyIf_true, (orMarrow_held (by rw [hs, hrun, Bool.false_and])).2, Nat.testBit_or, Nat.testBit_two_pow_self,
      Bool.or_true]
  · rw [hoff]
    exact hl hoff hb

/-- The supervisor latches channel k alone (R18). -/
def latched (k : Nat) (s : State) : State :=
  onlyIf (!s.fieldOn) (fun t => { t with fio := { t.fio with latch := t.fio.latch ||| 2 ^ k } }) s

theorem latchFault_eq {lo k : Nat} : latchFault lo k s = outFault lo k (latched k s) := rfl

theorem latched_regs {k : Nat} : (latched k s).regs = s.regs ∧ (latched k s).pcr = s.pcr := by
  unfold latched onlyIf
  split <;> exact ⟨rfl, rfl⟩

theorem latched_clocks {k : Nat} : (latched k s).fieldOn = s.fieldOn ∧ (latched k s).sysOn = s.sysOn := by
  unfold latched onlyIf
  split <;> exact ⟨rfl, rfl⟩

theorem latched_latch {k : Nat} (hf : s.fieldOn = false) : (latched k s).fio.latch.testBit k = true := by
  unfold latched
  rw [hf, Bool.not_false, onlyIf_true, Nat.testBit_or, Nat.testBit_two_pow_self, Bool.or_true]

theorem latchFault_felt {lo k : Nat} (h32 : lo + k < 32) : Felt s (latchFault lo k s) k (lo + k) := by
  rw [latchFault_eq]
  exact outFault_felt h32 latched_clocks.1 latched_clocks.2 fun hf _ => latched_latch hf

theorem latchFault_huskOn {lo k : Nat} : (latchFault lo k s).huskOn = s.huskOn := by
  have h := (outFault_reach (s := latched k s) (lo := lo) (k := k)).rb (a := Reg.FIO_SUP) (b := 3) (by decide)
  rw [latchFault_eq]
  unfold State.huskOn
  refine congrArg Bool.not (h.trans ?_)
  unfold State.rb
  rw [reg_congr latched_regs.1]

/-! Times that have passed, and times that have not. -/

theorem marrowReached_ms {dt ms : Nat} (h : ms * 80000000 ≤ dt * 97) : s.marrowReached dt (ms * 800000) = true :=
  marrowReached_of_slow (by omega)

theorem not_marrowReached_ms {dt ms : Nat} (h : dt * 103 < ms * 80000000) : s.marrowReached dt (ms * 800000) = false :=
  not_marrowReached_of_fast (by omega)

theorem onReached_of {dt ms : Nat} {f : State → State} (h : ms * 80000000 ≤ dt * 97) : onReached dt ms f s = f s :=
  onlyIf_pos (marrowReached_ms h)

theorem onReached_not {dt ms : Nat} {f : State → State} (h : dt * 103 < ms * 80000000) : onReached dt ms f s = s :=
  onlyIf_neg (not_marrowReached_ms h)

theorem onReached_same {dt ms : Nat} {f : State → State} (h : f s = s) : onReached dt ms f s = s := by
  unfold onReached onlyIf
  split
  · exact h
  · rfl

/-! The commands. -/

theorem exec_overload {k : Fin 8} {dur : Nat} (hh : s.huskOn = true) (ho : s.outOn k = true) :
    exec (.overload ⟨k, dur⟩) s = done (overload k dur s) :=
  congrArg done (onlyIf_pos (by rw [hh, ho]; rfl))

theorem exec_overTemperature {k : Fin 8} (hh : s.huskOn = true) :
    exec (.overTemperature k) s = done (latchFault 8 k s) := congrArg done (onlyIf_pos hh)

theorem exec_externalDrive_none {k : Fin 8} {dur : Nat} (ho : s.offFor k = none) :
    exec (.externalDrive ⟨k, dur⟩) s = .next (settle s) := by
  simp only [exec, execExternalDrive, ho, done]

theorem exec_externalDrive {k : Fin 8} {dur off : Nat} (hh : s.huskOn = true) (ho : s.offFor k = some off) :
    exec (.externalDrive ⟨k, dur⟩) s = done (externalDrive k off dur s) := by
  change execExternalDrive ⟨k, dur⟩ s = _
  unfold execExternalDrive
  rw [ho]
  exact congrArg done (onlyIf_pos hh)

theorem exec_openWire {k : Fin 8} (hh : s.huskOn = true) (ho : s.owTests k = true) :
    exec (.openWire k) s = done (openWire k s) := congrArg done (onlyIf_pos (by rw [hh, ho]; rfl))

theorem exec_openWireClear {k : Fin 8} (hf : s.fieldOn = true) :
    exec (.openWireClear k) s = done (setRb Reg.FIO_OUT_STAT (16 + k) false s) := congrArg done (onlyIf_pos hf)

theorem overload_lasted {k dur : Nat} (hk : k < 8) (h : fld (s.outCfg k) 11 8 * 80000000 ≤ min dur (s.outFor k) * 97) :
    Felt s (overload k dur s) k k := by
  have hfelt := latchFault_felt (s := s) (lo := 0) (k := k) (by omega)
  rw [Nat.zero_add] at hfelt
  unfold overload
  rw [onReached_of h]
  exact hfelt

/-- A drive from outside that has lasted is felt, and leads to LOCKOUT on a safety output (Table 13-4). -/
theorem externalDrive_lasted {k off dur : Nat} (hk : k < 8) (hh : s.huskOn = true) (hdur : 1 * 80000000 ≤ dur * 97)
    (hoff : (fld (s.outCfg k) 19 16 + 1) * 80000000 ≤ off * 97) :
    Felt s (externalDrive k off dur s) k (16 + k) ∧ (6 ≤ k → (externalDrive k off dur s).safState = 4) := by
  have hfelt := latchFault_felt (s := s) (lo := 16) (k := k) (by omega)
  unfold externalDrive
  rw [onReached_of hdur, onReached_of hoff]
  by_cases h6 : 6 ≤ k
  · rw [onlyIf_pos (decide_eq_true h6)]
    exact ⟨hfelt.touches safFault_touches (by decide), fun _ => safFault_lock (latchFault_huskOn.trans hh)⟩
  · rw [onlyIf_neg (decide_eq_false h6)]
    exact ⟨hfelt, fun h => absurd h h6⟩

theorem externalDrive_short {k off dur : Nat}
    (h : dur * 103 < 1 * 80000000 ∨ off * 103 < (fld (s.outCfg k) 19 16 + 1) * 80000000) :
    externalDrive k off dur s = s := by
  obtain hdur | hoff := h
  · exact onReached_not hdur
  · exact onReached_same (onReached_not hoff)

theorem openWire_lasted {k : Nat} (hk : k < 8) (h : 50 * 80000000 ≤ s.outFor k * 97) :
    Felt s (openWire k s) k (24 + k) ∧ (s.fieldOn = true → (openWire k s).rb Reg.FIO_OUT_STAT (16 + k) = true) := by
  have hfelt := outFault_felt (s := s) (t := s) (lo := 24) (k := k) (by omega) rfl rfl (by omega)
  unfold openWire
  rw [onReached_of h]
  refine ⟨hfelt.touches (ex := [Reg.FIO_OUT_STAT]) (.onlyIf (.setRb (.head _))) (by decide), fun hf => ?_⟩
  rw [hf, onlyIf_true]
  unfold State.rb
  rw [reg_setRb_self, bit_setFld_bit _ _ _ _ (by omega), if_pos rfl]

theorem openWireClear_clears {k : Nat} (hk : k < 8) :
    (setRb Reg.FIO_OUT_STAT (16 + k) false s).rb Reg.FIO_OUT_STAT (16 + k) = false ∧
      (setRb Reg.FIO_OUT_STAT (16 + k) false s).SameRegs s [Reg.FIO_OUT_STAT] := by
  refine ⟨?_, fun a ha => (reg_setRb_other (by simpa using ha)).symm⟩
  unfold State.rb
  rw [reg_setRb_self, bit_setFld_bit _ _ _ _ (by omega), if_pos rfl]

/-! The obligation's parts. -/

section Commands

variable (hc : s.cpuOn = true) (hd : s.domOn 9 = true) (w : Word)
include hc hd

theorem fioOut_writes : Ends (exec (.fioOut w) s) fun u =>
    u.rf Reg.FIO_OUT 7 0 = fld w 7 0 ∧ u.SameRegs s [Reg.FIO_OUT] := by
  have h : exec (.fioOut w) s = done (outBits (fld w 7 0) s) := congrArg done (regWrite_on (a := Reg.FIO_OUT) hc hd)
  rw [h]
  exact ends_done ⟨outBits_rf (fld_lt w 7 0), outBits_same⟩

theorem fioOutSet_adds {k : Nat} (hk : k < 8) : Ends (exec (.fioOutSet w) s) fun u =>
    u.rb Reg.FIO_OUT k = (s.rb Reg.FIO_OUT k || bit w k) ∧ u.SameRegs s [Reg.FIO_OUT] := by
  have h : exec (.fioOutSet w) s = done (outBits (s.rf Reg.FIO_OUT 7 0 ||| fld w 7 0) s) :=
    congrArg done (regWrite_on (a := Reg.FIO_OUT_SET) hc hd)
  rw [h]
  refine ends_done ⟨?_, outBits_same⟩
  rw [outBits_bit hk, Nat.testBit_or, out_bit hk, low_bit hk]

theorem fioOutClr_removes {k : Nat} (hk : k < 8) : Ends (exec (.fioOutClr w) s) fun u =>
    u.rb Reg.FIO_OUT k = (s.rb Reg.FIO_OUT k && !(bit w k)) ∧ u.SameRegs s [Reg.FIO_OUT] := by
  have h : exec (.fioOutClr w) s = done (outBits (clearBits (s.rf Reg.FIO_OUT 7 0) (fld w 7 0)) s) :=
    congrArg done (regWrite_on (a := Reg.FIO_OUT_CLR) hc hd)
  rw [h]
  refine ends_done ⟨?_, outBits_same⟩
  unfold clearBits
  rw [outBits_bit hk, testBit_sub_and, out_bit hk, low_bit hk]

theorem faultClear_clears {k : Nat} (hk : k < 8) (lim hot ext : BitVec 8) :
    let ev := (s.noted Reg.FIO_OUT_FLT).ev
    Ends (exec (.faultClear w lim hot ext) s) fun u => u.SameRegs s [Reg.FIO_OUT_FLT] ∧
      u.rb Reg.FIO_OUT_FLT k = (s.rb Reg.FIO_OUT_FLT k && !(bit w k && !(lim.getLsbD k) && !(bit ev k))) ∧
      u.rb Reg.FIO_OUT_FLT (8 + k) = (s.rb Reg.FIO_OUT_FLT (8 + k) && !(bit w (8 + k) && !(hot.getLsbD k) && !(bit ev (8 + k)))) ∧
      u.rb Reg.FIO_OUT_FLT (16 + k) = (s.rb Reg.FIO_OUT_FLT (16 + k) && !(bit w (16 + k) && !(ext.getLsbD k) && !(bit ev (16 + k)))) ∧
      u.rb Reg.FIO_OUT_FLT (24 + k) = (s.rb Reg.FIO_OUT_FLT (24 + k) && !(bit w (24 + k) && !(bit ev (24 + k)))) := by
  have h : exec (.faultClear w lim hot ext) s = done (faultClear w lim.toNat hot.toNat ext.toNat s) :=
    congrArg done (regWrite_on (a := Reg.FIO_OUT_FLT) hc hd)
  obtain ⟨b0, b1, b2, b3⟩ := clearedFaults_bits (w := w) (lim := lim.toNat) (hot := hot.toNat) (ext := ext.toNat) hk
  rw [h]
  refine ends_done ⟨faultClear_same, ?_, ?_, ?_, ?_⟩
  · rw [faultClear_bit (by omega), b0]
    rfl
  · rw [faultClear_bit (by omega), b1]
    rfl
  · rw [faultClear_bit (by omega), b2]
    rfl
  · rw [faultClear_bit (by omega), b3]

end Commands

/-- Settles O46: a command or a clear rewrites its register bit by bit; a fault that has lasted is felt, through LOCKOUT
too, and one that has not leaves the state alone. -/
theorem fieldOutputsAndFaults : Obligations.FieldOutputsAndFaults := by
  unfold Obligations.FieldOutputsAndFaults
  intro k s felt lasted short
  have hk := k.isLt
  refine ⟨fun hc hd w => ?_, fun hh => ?_, fun hf => ?_⟩
  · exact ⟨fioOut_writes hc hd w, fioOutSet_adds hc hd w hk, fioOutClr_removes hc hd w hk,
      fun lim hot ext => faultClear_clears hc hd w hk lim hot ext⟩
  · refine ⟨fun dur ho => ?_, ?_, fun ho => ?_, fun dur off ho => ⟨fun h1 h2 => ?_, fun h => ?_⟩,
      fun ho dur => exec_externalDrive_none ho, fun ho => ?_⟩
    · rw [exec_overload hh ho]
      exact ⟨fun h => ends_done (overload_lasted hk h), fun h => ends_done (onReached_not h)⟩
    · rw [exec_overTemperature hh]
      exact ends_done (latchFault_felt (by omega))
    · unfold State.offFor
      rw [ho]
      rfl
    · rw [exec_externalDrive hh ho]
      exact ends_done (externalDrive_lasted hk hh h1 h2)
    · rw [exec_externalDrive hh ho]
      refine ends_done ?_
      rw [externalDrive_short h]
      exact ⟨rfl, rfl⟩
    · rw [exec_openWire hh ho]
      exact ⟨fun h => ends_done (openWire_lasted hk h), fun h => ends_done (onReached_not h)⟩
  · rw [exec_openWireClear hf]
    exact ends_done (openWireClear_clears hk)

end Sys2Proof.Machine
end

section
/-! Commands, timers and faults of the safety states (R358, R364 to R371, R375). -/

namespace Sys2Proof.Machine

variable {s : State}

/-! SAF_CMD and SAF_REQ. -/

/-- A write to SAF_CMD of a single command word runs that command alone. -/
theorem exec_safCommands (hc : s.cpuOn = true) :
    exec .safStok s = done { s with saf := { s.saf with stok := true } } ∧
    exec .runreq s = done { s with saf := { s.saf with runreq := true } } ∧
    exec .safTest s = done (onlyIf (s.safState = 0 && s.huskOn) (fun s => setSafState 2 (setRf Reg.SAF_REQ 1 0 0 s)) s) ∧
    exec .endtest s = done (onlyIf (s.safState = 2) (fun s => setSafState 0 (setRf Reg.SAF_REQ 1 0 0 s)) s) := by
  have hcmd (w : Word) : regWrite Reg.SAF_CMD (safCmd w) s = safCmd w s :=
    regWrite_on (a := Reg.SAF_CMD) hc (domOn_cpu_of_sysOn (sysOn_of_cpuOn hc))
  exact ⟨congrArg done (hcmd 8), congrArg done (hcmd 1), congrArg done (hcmd 2), congrArg done (hcmd 4)⟩

theorem setSafState_req {st : Nat} (hst : st ≠ 3 ∧ st ≠ 4) : (setSafState st (setRf Reg.SAF_REQ 1 0 0 s)).rf Reg.SAF_REQ 1 0 = 0 ∧
    (setSafState st (setRf Reg.SAF_REQ 1 0 0 s)).saf.stok = false := by
  unfold setSafState
  dsimp only
  rw [if_neg (by simpa using hst)]
  refine ⟨?_, rfl⟩
  unfold State.rf
  have hother : (setRf Reg.SAF_STATE 2 0 st (setRf Reg.SAF_REQ 1 0 0 s)).reg Reg.SAF_REQ = setFld (s.reg Reg.SAF_REQ) 1 0 0 :=
    (reg_setRf_other (by decide)).trans reg_setRf_self
  exact (congrArg (fun w => fld w 1 0) hother).trans (fld_setFld_self _ 1 0 0 (by decide) (by decide))

theorem writeRf_bit {a hi lo v b : Nat} (hl : lo ≤ hi) (hb : b < 32) (hin : lo ≤ b ∧ b ≤ hi) : (writeRf a hi lo v s).rb a b =
    if bit (s.noted a).upd b then s.rb a b else v.testBit (b - lo) := by
  unfold writeRf State.rb bit
  rw [reg_setReg_self, BitVec.getLsbD_or, BitVec.getLsbD_and, BitVec.getLsbD_and, BitVec.getLsbD_not,
    setFld_bit _ _ _ _ _ hl hb, if_pos hin, decide_eq_true hb, Bool.true_and]
  cases (s.noted a).upd.getLsbD b <;> simp

theorem writeRf_same {a hi lo v : Nat} : (writeRf a hi lo v s).SameRegs s [a] ∧ (writeRf a hi lo v s).saf = s.saf :=
  ⟨fun b hb => (reg_setReg_other (by simpa using hb)).symm, rfl⟩

section Commands

variable (hc : s.cpuOn = true)
include hc

theorem safTest_moves : Ends (exec .safTest s) fun u => if s.safState = 0 ∧ s.huskOn = true
    then u.safState = 2 ∧ u.rf Reg.SAF_REQ 1 0 = 0 ∧ u.saf.stok = false else u = s := by
  obtain ⟨-, -, htest, -⟩ := exec_safCommands hc
  rw [htest]
  refine ends_done ?_
  split
  · rename_i h
    rw [onlyIf_pos (by simpa using h)]
    exact ⟨setSafState_safState (by decide), setSafState_req (by decide)⟩
  · rename_i h
    exact onlyIf_neg (by simpa using h)

theorem endtest_moves : Ends (exec .endtest s) fun u => if s.safState = 2
    then u.safState = 0 ∧ u.rf Reg.SAF_REQ 1 0 = 0 else u = s := by
  obtain ⟨-, -, -, hendtest⟩ := exec_safCommands hc
  rw [hendtest]
  refine ends_done ?_
  split
  · rename_i h
    rw [onlyIf_pos (decide_eq_true h)]
    exact ⟨setSafState_safState (by decide), (setSafState_req (by decide)).1⟩
  · rename_i h
    exact onlyIf_neg (decide_eq_false h)

theorem reqWrite_writes (r : BitVec 2) : Ends (exec (.reqWrite r) s) fun u => u.SameRegs s [Reg.SAF_REQ] ∧ u.saf = s.saf ∧
    ∀ g, g < 2 → u.rb Reg.SAF_REQ g = if bit (s.noted Reg.SAF_REQ).upd g then s.rb Reg.SAF_REQ g else r.getLsbD g := by
  have h : exec (.reqWrite r) s = done (writeRf Reg.SAF_REQ 1 0 r.toNat s) :=
    congrArg done (regWrite_on (a := Reg.SAF_REQ) hc (domOn_cpu_of_sysOn (sysOn_of_cpuOn hc)))
  rw [h]
  refine ends_done ⟨writeRf_same.1, writeRf_same.2, fun g hg => ?_⟩
  rw [writeRf_bit (by decide) (by omega) (by omega), Nat.sub_zero]
  rfl

end Commands

/-! Husk's demand timer and the discrepancy of a pair. -/

/-- A demand that has stood for HDLY drops the agreement and moves no state. -/
theorem hdlyExpiry_drops {g i : Nat} (hg : g < 2) (hrun : s.safState = 1) (hi : i < 16)
    (hin : (fld (s.huskReg (1 + g)) 15 0).testBit i = true) (hlow : s.rb Reg.FIO_IN_LVL i = false)
    (hdly : fld (s.huskReg (3 + g)) 31 16 * 800000 * 100 ≤ (s.mtick - kvGet (fun _ => 0) s.saf.zeroAt i) * 97) :
    (hdlyExpiry g s).agr g = false ∧ (hdlyExpiry g s).safState = 1 := by
  have hdue : ((List.range 16).any fun i => (fld (s.huskReg (1 + g)) 15 0).testBit i && !(s.rb Reg.FIO_IN_LVL i) &&
      s.marrowReached (s.mtick - kvGet (fun _ => 0) s.saf.zeroAt i) (fld (s.huskReg (3 + g)) 31 16 * 800000)) = true :=
    List.any_eq_true.2 ⟨i, List.mem_range.2 hi, by rw [hin, hlow, marrowReached_of_slow hdly]; rfl⟩
  have hset : hdlyExpiry g s = setAgr g false s := onlyIf_pos (by rw [hrun, hdue]; rfl)
  rw [hset]
  exact ⟨(setAgr_agr hg).trans (if_pos rfl), (setAgr_safState hg).trans hrun⟩

theorem discrepancy_notes {j t : Nat} (hj : j < 8) (hdiff : kvGet (fun _ => none) s.saf.diffAt j = some t)
    (hpair : s.ab Reg.SAF_INPAIR j = true) (hlong : s.af Reg.SAF_INPAIR 23 8 * 800000 < s.time.tick - t) (hnew : j ∉ s.saf.disc) :
    (discrepancy j s).saf.disc = j :: s.saf.disc ∧ (discrepancy j s).rb Reg.SAF_ERR (16 + j) = true := by
  have htask : taskFault (16 + j) = true := by simp [taskFault]
  have hset : discrepancy j s = safErr (16 + j) (s.pairGroup j) { s with saf := { s.saf with disc := j :: s.saf.disc } } := by
    unfold discrepancy
    rw [hdiff]
    simp only [hpair, hlong, decide_true, Bool.and_self, List.contains_eq_mem, hnew, decide_false,
      Bool.not_false, if_true]
  rw [hset]
  refine ⟨?_, safErr_task htask (by omega)⟩
  unfold safErr
  rw [htask, if_pos rfl]
  exact congrArg SafSt.disc event_saf

/-! Faults. -/

/-- A failed self-test leaves LOCKOUT and its cause. -/
theorem hself_locks (hh : s.huskOn = true) : Ends (exec .hself s) fun u =>
    u.lockCause = true ∧ u.safState = 4 ∧ (s.safState ≠ 4 → u.agr 0 = false ∧ u.agr 1 = false) := by
  have h : exec .hself s = done (safFault 8 0 true s) := congrArg done (onlyIf_pos hh)
  rw [h]
  refine ends_done ⟨?_, safFault_lock hh, fun hs => ⟨safFault_lock_agr hh hs (by decide), safFault_lock_agr hh hs (by decide)⟩⟩
  have hshow : ((safFault 8 0 true s).reg Reg.SAF_ERR).toNat.testBit 8 = true ∨
      ((safFault 8 0 true s).heldAt Reg.SAF_ERR).testBit 8 = true :=
    Bool.or_eq_true_iff.1 (safFault_shows (inst := 0) (lock := true) hh rfl (by decide : 8 < 32))
  unfold State.lockCause
  simp only [Nat.testBit_or]
  unfold State.heldAt at hshow
  rw [Bool.or_eq_true_iff.2 hshow]
  simp

theorem askProcReset_asks {c : Nat} : (askProcReset c s).regs = s.regs ∧ (askProcReset c s).cas = s.cas ∧
    (askProcReset c s).pcr.procReset.isSome = true := by
  unfold askProcReset
  split
  · exact ⟨rfl, rfl, ‹_›⟩
  · exact ⟨rfl, rfl, rfl⟩

/-- A lockstep mismatch ends RUN and TEST and asks for a processor reset. -/
theorem lockstepMismatch_falls (hh : s.huskOn = true) (hl : s.live 1 = true) : Ends (exec .lockstepMismatch s) fun u =>
    u.cas.lsx = true ∧ u.rb Reg.SAF_ERR 1 = true ∧ u.pcr.procReset.isSome = true ∧
      (s.safState = 1 ∨ s.safState = 2 → u.safState = 3 ∨ u.safState = 4) := by
  have h : exec .lockstepMismatch s =
      done (askProcReset 0x10 { (safFault 1 0 false s) with cas := { s.cas with lsx := true } }) :=
    congrArg done (onlyIf_pos hl)
  obtain ⟨hd, hs⟩ : s.domOn 1 = true ∧ s.sysOn = true := by simpa [State.live] using hl
  obtain ⟨hregs, hcas, hask⟩ := askProcReset_asks (c := 0x10)
    (s := { (safFault 1 0 false s) with cas := { s.cas with lsx := true } })
  have hreg (a : Nat) := reg_congr hregs a
  rw [h]
  refine ends_done ⟨by rw [hcas], ?_, hask, fun hst => ?_⟩
  · unfold State.rb
    rw [hreg]
    exact safFault_rb hh rfl (by decide) hs hd
  · have hfall := safFault_recovery (b := 1) (inst := 0) hh hst
    unfold State.safState State.rf at hfall ⊢
    rw [hreg]
    exact hfall

theorem exec_checkCompute (hl : s.live 1 = true) (hdue : s.saf.checkDue = true) : exec .checkCompute s =
    done (setReg Reg.SAF_CHECK (BitVec.ofNat 32 s.checkValue) { s with saf := { s.saf with checkDue := false } }) :=
  congrArg done (onlyIf_pos (by rw [hl, hdue]; rfl))

/-- Settles O48: each command and each fault by the move of the safety state that it makes. -/
theorem safetyStatesAndRequests : Obligations.SafetyStatesAndRequests := by
  unfold Obligations.SafetyStatesAndRequests
  intro s
  refine ⟨fun hc => ?_, fun g i hh hrun hi hin hlow hdly => ?_, fun j t hl hdiff hpair hlong hnew => ?_,
    fun hh => ⟨hself_locks hh, lockstepMismatch_falls hh⟩, fun hl hdue => ?_⟩
  · obtain ⟨hstok, hrunreq, -, -⟩ := exec_safCommands hc
    rw [hstok, hrunreq]
    exact ⟨ends_done ⟨rfl, rfl⟩, ends_done ⟨rfl, rfl⟩, safTest_moves hc, endtest_moves hc, fun r => reqWrite_writes hc r⟩
  · have h : exec (.hdlyExpiry g) s = done (hdlyExpiry g s) := congrArg done (onlyIf_pos hh)
    rw [h]
    exact ends_done (hdlyExpiry_drops g.isLt hrun hi hin hlow hdly)
  · have h : exec (.discrepancy j) s = done (discrepancy j s) := congrArg done (onlyIf_pos hl)
    rw [h]
    exact ends_done (discrepancy_notes j.isLt hdiff hpair hlong hnew)
  · rw [exec_checkCompute hl hdue]
    exact ends_done ⟨reg_setReg_self, rfl, fun a ha => (reg_setReg_other (by simpa using ha)).symm⟩

end Sys2Proof.Machine
end

section
/-! A request that is taken in the next sysclk, and what may pass until then (R9, R39). -/

namespace Sys2Proof.Machine

/-- Group 0 of block 13 was requested in the present sysclk, while no cycles run. An echo of ring 2560 is awaited, whose
error counter NET_CNT_SEQ stands at the address of PCR_PD_STAT. -/
def requestWithEcho : State :=
  requestBatch [(13, 1)] { poweredState with net := { poweredState.net with echoes := [⟨2560, 0, 0, 0, 0⟩] } }

theorem requestWithEcho_waits : requestWithEcho.cmt.asked = [(some 0, [(13, 1)])] ∧
    requestWithEcho.rb (Reg.CMT_REQ 13) 0 = true ∧ requestWithEcho.domOn (blkDom 13) = true := by decide +kernel

/-- The request is taken in the next sysclk; the missing echo counts before it and switches the domains off, so that
the group is refused where nothing of the refusal shows. -/
theorem requestWithEcho_undecided :
    (applyIdle requestWithEcho).rb (Reg.CMT_DONE 13) 0 = false ∧
    (applyIdle requestWithEcho).rb (Reg.CMT_REFUSED 13) 0 = false := by decide +kernel

/-- Refutes O25: what passes until the next sysclk may switch off the domain of a requested group, where the statement's
premise, that its block is powered, was read before; then the group is neither applied nor refused in its registers. -/
theorem not_commitCommandsInOrder : ¬ Obligations.CommitCommandsInOrder := by
  unfold Obligations.CommitCommandsInOrder
  intro h
  obtain ⟨-, hidle, -⟩ := h requestWithEcho (by decide +kernel)
  obtain ⟨t, -, -, ht, hdecided⟩ := hidle (by decide +kernel)
  obtain ⟨hasked, hreq, hdom⟩ := requestWithEcho_waits
  obtain ⟨hdone, hrefused⟩ := requestWithEcho_undecided
  have hmem : (13, 1) ∈ [(13, 1)] := by simp
  obtain ⟨-, hor⟩ := hdecided (some 0, [(13, 1)]) (by rw [hasked]; simp) (13, 1) hmem 0 (by decide) (by decide) (by decide)
    hdom hreq
  rw [ht, hdone, hrefused] at hor
  exact absurd hor (by decide)

end Sys2Proof.Machine
end

section
/-! A miss and what may pass until its tick (R106, R214). -/

namespace Sys2Proof.Machine

/-- A miss of slot 6 in ring 0 is due in tick 2, and an echo of ring 304 is awaited, whose error counter NET_CNT_SEQ stands
at the address of SLT_MCNT 6. -/
def missWithEcho : State :=
  { poweredState with
    net := { poweredState.net with late := [⟨6, 0, 2⟩], echoes := [⟨304, 0, 0, 0, 0⟩] } }

theorem missWithEcho_answers :
    exec (.uplinkMiss 0 6) missWithEcho = .next (settle (onlyIf missWithEcho.netOn (nextMiss 6) missWithEcho)) := by rfl

/-- The echo that stays away and the miss both count in SLT_MCNT 6. -/
theorem missWithEcho_counts :
    (settle (onlyIf missWithEcho.netOn (nextMiss 6) missWithEcho)).rf (Reg.SLT_MCNT 6) 15 0 = 2 := by decide +kernel

/-- Refutes O29: on the way to the tick of a miss a missing echo may count, and with a ring beyond the four its counter
stands at the address of the slot's SLT_MCNT, which then moves by two. -/
theorem not_acceptedFramesReachTheBuffer : ¬ Obligations.AcceptedFramesReachTheBuffer := by
  unfold Obligations.AcceptedFramesReachTheBuffer
  intro h
  obtain ⟨-, hmiss, -⟩ := h 0 6 missWithEcho (by decide +kernel)
  obtain ⟨t, ht, -, -, -, -, hcount, -⟩ := hmiss 0 2 (.inl rfl)
  obtain rfl := Host.Outcome.next.inj (missWithEcho_answers.symm.trans ht)
  have hbefore : missWithEcho.rf (Reg.SLT_MCNT 6) 15 0 = 0 := by decide +kernel
  rw [show 80 * ((0 : Fin 4) : Nat) + ((6 : Fin 80) : Nat) = 6 from rfl, missWithEcho_counts, hbefore] at hcount
  exact absurd hcount (by decide)

end Sys2Proof.Machine
end

section
/-! Appends to motion tables and acknowledgements (R129, R157, R159). -/

namespace Sys2Proof.Machine

variable {s t : State}

/-! Bits that are set and reported (R429). -/

theorem reg_flagEvent {src reg b cls inst r a : Nat} (ha : a ≠ r) (hl : a ≠ Reg.EVL_LOST) :
    (flagEvent src reg b cls inst r s).reg a = s.reg a := (reg_event hl).trans (reg_orReg_other ha)

theorem flagEvent_sets {src reg b cls inst r : Nat} (hb : b < 32) (hl : r ≠ Reg.EVL_LOST) :
    (flagEvent src reg b cls inst r s).rb r b = true :=
  (congrArg (fun w => bit w b) (reg_event hl)).trans (rb_orReg_self hb)

theorem flagEvent_keeps {src reg b cls inst r a c : Nat} (h : s.rb a c = true) (hl : a ≠ Reg.EVL_LOST) :
    (flagEvent src reg b cls inst r s).rb a c = true :=
  (congrArg (fun w => bit w c) (reg_event hl)).trans (rb_orReg_of h)

theorem rf_setRf_self {a hi lo v : Nat} (h : lo ≤ hi) (hhi : hi < 32) (hv : v < 2 ^ (hi + 1 - lo)) :
    (setRf a hi lo v s).rf a hi lo = v := by
  simp only [State.rf, reg_setRf_self, fld_setFld_self _ _ _ _ h hhi, Nat.mod_eq_of_lt hv]

theorem rf_setRf_apart {a hi lo v hi' lo' : Nat} (h : lo ≤ hi) (hhi : hi < 32) (h' : lo' ≤ hi') (hhi' : hi' < 32)
    (hd : hi < lo' ∨ hi' < lo) : (setRf a hi lo v s).rf a hi' lo' = s.rf a hi' lo' := by
  simp only [State.rf, reg_setRf_self, fld_setFld_apart _ _ _ _ _ _ h hhi h' hhi' hd]

theorem rf_of_reg {a hi lo : Nat} (h : t.reg a = s.reg a) : t.rf a hi lo = s.rf a hi lo :=
  congrArg (fun w => fld w hi lo) h

theorem rb_of_reg {a b : Nat} (h : t.reg a = s.reg a) : t.rb a b = s.rb a b := congrArg (fun w => bit w b) h

/-! Motion tables (R157, R159). -/

/-- The index after the last point of the table of axis n: the wrap mark, or the length (R157). -/
def State.tend (s : State) (n : Nat) : Nat :=
  if s.rf (Reg.PG_TACT n) 30 16 ≠ 0 then s.rf (Reg.PG_TACT n) 30 16 else s.rf (Reg.PG_TACT n) 14 0

/-- Points the table holds with count more (R157). -/
def State.tableUsed (s : State) (n count : Nat) : Nat :=
  pgOccupied (s.rf (Reg.PG_TPTR n) 30 16) (s.rf (Reg.PG_TPTR n) 14 0) (s.tend n) + count

/-- An append is turned away with TREF, TOVF or both. -/
def turnAway (n : Nat) (ref ovf : Bool) (s : State) : State :=
  onlyIf ref (flagEvent 3 0 14 clsWarn n (Reg.PG_STAT n)) (onlyIf ovf (flagEvent 3 0 15 clsWarn n (Reg.PG_STAT n)) s)

theorem reg_turnAway {n a : Nat} {ref ovf : Bool} (ha : a ≠ Reg.PG_STAT n) (hl : a ≠ Reg.EVL_LOST) :
    (turnAway n ref ovf s).reg a = s.reg a := by
  unfold turnAway
  cases ref <;> cases ovf <;> simp only [onlyIf_true, onlyIf_false, reg_flagEvent ha hl]

section Addresses

variable {n : Nat} (hn : n < 256)
include hn

theorem pgStat_ne_lost : Reg.PG_STAT n ≠ Reg.EVL_LOST := by unfold Reg.PG_STAT Reg.EVL_LOST; omega

theorem pgTptr_apart : Reg.PG_TPTR n ≠ Reg.PG_STAT n ∧ Reg.PG_TPTR n ≠ Reg.EVL_LOST ∧ Reg.PG_TPTR n ≠ Reg.PG_TACT n := by
  unfold Reg.PG_TPTR Reg.PG_STAT Reg.EVL_LOST Reg.PG_TACT; omega

theorem pgTact_apart : Reg.PG_TACT n ≠ Reg.PG_STAT n ∧ Reg.PG_TACT n ≠ Reg.EVL_LOST := by
  unfold Reg.PG_TACT Reg.PG_STAT Reg.EVL_LOST; omega

theorem pg_not_marrow : marrowReg (Reg.PG_TPTR n) = false ∧ marrowReg (Reg.PG_TACT n) = false ∧
    marrowReg (Reg.PG_STAT n) = false := by
  unfold marrowReg Reg.PG_TPTR Reg.PG_TACT Reg.PG_STAT
  simp only [Bool.and_eq_false_iff, decide_eq_false_iff_not]
  omega

theorem pgTapp_dom : blkDom (blkOf (Reg.PG_TAPP n)) = 1 ∧ blkDom (blkOf (Reg.AX_ACK n)) = 1 := by
  have hpg : blkOf (Reg.PG_TAPP n) = 3 := by unfold blkOf Reg.PG_TAPP; omega
  have hax : blkOf (Reg.AX_ACK n) = 2 := by unfold blkOf Reg.AX_ACK; omega
  rw [hpg, hax]
  exact ⟨rfl, rfl⟩

theorem turnAway_tref {ref ovf : Bool} (h : ref = true) : (turnAway n ref ovf s).rb (Reg.PG_STAT n) 14 = true := by
  subst h
  exact flagEvent_sets (by decide) (pgStat_ne_lost hn)

theorem turnAway_tovf {ref ovf : Bool} (h : ovf = true) : (turnAway n ref ovf s).rb (Reg.PG_STAT n) 15 = true := by
  subst h
  have hset := flagEvent_sets (s := s) (src := 3) (reg := 0) (cls := clsWarn) (inst := n) (b := 15) (by decide) (pgStat_ne_lost hn)
  cases ref
  · exact hset
  · exact flagEvent_keeps hset (pgStat_ne_lost hn)

end Addresses

section Appends

variable {n count : Nat}

/-- TREF of an append without SKIP (R159). -/
def State.appendRef (s : State) (n count : Nat) : Bool :=
  s.rb (Reg.PG_STAT n) 19 && pgBeyond (s.rf (Reg.PG_TPTR n) 30 16) count (s.tend n) (s.pgAx n).nlen

/-- TOVF of an append without SKIP (R157). -/
def State.appendOvf (s : State) (n count : Nat) : Bool := count = 0 || s.tend n ≤ s.tableUsed n count

/-- No SKIP is possible (R159): no geometry is pending, WP is 0, or a mark is set. -/
def State.noSkip (s : State) (n : Nat) : Bool :=
  !(s.rb (Reg.PG_STAT n) 19) || s.rf (Reg.PG_TPTR n) 30 16 = 0 || s.rf (Reg.PG_TACT n) 30 16 ≠ 0

/-- TREF of an append with SKIP (R159). -/
def State.skipRef (s : State) (n count : Nat) : Bool :=
  s.noSkip n || pgBeyond 0 count (s.rf (Reg.PG_TPTR n) 30 16) (s.pgAx n).nlen

/-- TOVF of an append with SKIP (R157, R159). -/
def State.skipOvf (s : State) (n count : Nat) : Bool :=
  count = 0 || (if s.noSkip n then s.tend n else s.rf (Reg.PG_TPTR n) 30 16) ≤ s.tableUsed n count

theorem noSkip_iff : s.noSkip n = true ↔
    s.rb (Reg.PG_STAT n) 19 = false ∨ s.rf (Reg.PG_TPTR n) 30 16 = 0 ∨ s.rf (Reg.PG_TACT n) 30 16 ≠ 0 := by
  simp [State.noSkip, or_assoc]

theorem pgAppend_eq : pgAppend n count s =
    if s.appendOvf n count || s.appendRef n count then turnAway n (s.appendRef n count) (s.appendOvf n count) s
    else setRf (Reg.PG_TPTR n) 30 16
      (if s.tend n ≤ s.rf (Reg.PG_TPTR n) 30 16 + count then s.rf (Reg.PG_TPTR n) 30 16 + count - s.tend n
       else s.rf (Reg.PG_TPTR n) 30 16 + count) s := rfl

theorem pgSkip_eq : pgSkip n count s =
    if s.skipRef n count || s.skipOvf n count then turnAway n (s.skipRef n count) (s.skipOvf n count) s
    else setRf (Reg.PG_TPTR n) 30 16 count
      (setRf (Reg.PG_TACT n) 30 16 (s.rf (Reg.PG_TPTR n) 30 16) (keepGeometry n (s.cyc + 1) s)) := rfl

theorem reg_pgTapp {skip : Bool} {a : Nat} :
    (pgTapp n count skip s).reg a = (if skip then pgSkip n count s else pgAppend n count s).reg a := rfl

theorem rf_lt_15 {a : Nat} : s.rf a 14 0 < 2 ^ 15 ∧ s.rf a 30 16 < 2 ^ 15 := ⟨fld_lt _ _ _, fld_lt _ _ _⟩

theorem tend_lt : s.tend n < 2 ^ 15 := by
  unfold State.tend
  split
  · exact rf_lt_15.2
  · exact rf_lt_15.1

/-- What fits stays below the end of the table: the WP after it can be held in its field. -/
theorem wp_after_lt (h : s.tableUsed n count < s.tend n) :
    (if s.tend n ≤ s.rf (Reg.PG_TPTR n) 30 16 + count then s.rf (Reg.PG_TPTR n) 30 16 + count - s.tend n
     else s.rf (Reg.PG_TPTR n) 30 16 + count) < 2 ^ (30 + 1 - 16) := by
  have hend := tend_lt (s := s) (n := n)
  obtain ⟨hrp, hwp⟩ := rf_lt_15 (s := s) (a := Reg.PG_TPTR n)
  unfold State.tableUsed pgOccupied at h
  split at h <;> split <;> omega

theorem pgAppend_fits (hc : count ≠ 0) (hused : s.tableUsed n count < s.tend n) (href : s.appendRef n count = false) :
    (pgAppend n count s).rf (Reg.PG_TPTR n) 14 0 = s.rf (Reg.PG_TPTR n) 14 0 ∧
    (pgAppend n count s).rf (Reg.PG_TPTR n) 30 16 =
      if s.tend n ≤ s.rf (Reg.PG_TPTR n) 30 16 + count then s.rf (Reg.PG_TPTR n) 30 16 + count - s.tend n
      else s.rf (Reg.PG_TPTR n) 30 16 + count := by
  have hovf : s.appendOvf n count = false := by simp [State.appendOvf, hc, hused]
  rw [pgAppend_eq, hovf, href, if_neg (by decide)]
  exact ⟨rf_setRf_apart (by decide) (by decide) (by decide) (by decide) (by decide),
    rf_setRf_self (by decide) (by decide) (wp_after_lt hused)⟩

theorem pgAppend_turned (h : (s.appendOvf n count || s.appendRef n count) = true) :
    pgAppend n count s = turnAway n (s.appendRef n count) (s.appendOvf n count) s := by
  rw [pgAppend_eq, if_pos h]

theorem pgSkip_fits (hn : n < 256) (hc : count < 2 ^ 15) (href : s.skipRef n count = false)
    (hovf : s.skipOvf n count = false) :
    (pgSkip n count s).rf (Reg.PG_TPTR n) 30 16 = count ∧
    (pgSkip n count s).rf (Reg.PG_TPTR n) 14 0 = s.rf (Reg.PG_TPTR n) 14 0 ∧
    (pgSkip n count s).rf (Reg.PG_TACT n) 30 16 = s.rf (Reg.PG_TPTR n) 30 16 := by
  obtain ⟨-, -, happart⟩ := pgTptr_apart hn
  rw [pgSkip_eq, href, hovf, if_neg (by decide)]
  refine ⟨rf_setRf_self (by decide) (by decide) hc, ?_, ?_⟩
  · rw [rf_setRf_apart (by decide) (by decide) (by decide) (by decide) (by decide)]
    exact rf_of_reg (reg_setRf_other happart)
  · rw [rf_of_reg (reg_setRf_other happart.symm)]
    exact rf_setRf_self (by decide) (by decide) rf_lt_15.2

theorem pgSkip_turned (h : (s.skipRef n count || s.skipOvf n count) = true) :
    pgSkip n count s = turnAway n (s.skipRef n count) (s.skipOvf n count) s := by
  rw [pgSkip_eq, if_pos h]

end Appends

/-! The commands. -/

section Commands

variable {n : Fin 256} {count : Fin 32768} (hc : s.cpuOn = true) (hd : s.domOn 1 = true)
include hc hd

theorem exec_pgTapp : exec (.pgTapp n count) s = done (pgTapp n count false s) :=
  congrArg done (regWrite_on hc (by rw [(pgTapp_dom n.isLt).1]; exact hd))

theorem exec_pgTappSkip : exec (.pgTappSkip n count) s = done (pgTapp n count true s) :=
  congrArg done (regWrite_on hc (by rw [(pgTapp_dom n.isLt).1]; exact hd))

theorem exec_axAck : exec (.axAck n) s = done (putAx n { s.ax n with ack := true } s) :=
  congrArg done (regWrite_on hc (by rw [(pgTapp_dom n.isLt).2]; exact hd))

theorem axAck_kept : Answers (exec (.axAck n) s) fun t => t.ax n = { s.ax n with ack := true } ∧
    (∀ x, marrowReg x = false → t.reg x = s.reg x) ∧ ∀ m, m ≠ n.val → t.ax m = s.ax m := by
  rw [exec_axAck hc hd]
  refine answers_done ⟨?_, fun x hx => settle_reg hx, fun m hm => ?_⟩
  · rw [State.ax, settle_axes]
    exact kvGet_kvPut_self
  · rw [State.ax, settle_axes]
    exact kvGet_kvPut_other hm

theorem pgTapp_fits (hcount : count.val ≠ 0) (hused : s.tableUsed n count < s.tend n)
    (href : s.appendRef n count = false) :
    Answers (exec (.pgTapp n count) s) fun t => t.rf (Reg.PG_TPTR n) 14 0 = s.rf (Reg.PG_TPTR n) 14 0 ∧
      t.rf (Reg.PG_TPTR n) 30 16 = if s.tend n ≤ s.rf (Reg.PG_TPTR n) 30 16 + count
        then s.rf (Reg.PG_TPTR n) 30 16 + count - s.tend n else s.rf (Reg.PG_TPTR n) 30 16 + count := by
  rw [exec_pgTapp hc hd]
  have hreg := settle_reg (s := pgTapp n count false s) (pg_not_marrow n.isLt).1
  obtain ⟨hrp, hwp⟩ := pgAppend_fits hcount hused href
  exact answers_done ⟨(rf_of_reg hreg).trans hrp, (rf_of_reg hreg).trans hwp⟩

theorem pgTapp_turned (h : (s.appendOvf n count || s.appendRef n count) = true) :
    Answers (exec (.pgTapp n count) s) fun t => t.reg (Reg.PG_TPTR n) = s.reg (Reg.PG_TPTR n) ∧
      (s.appendOvf n count = true → t.rb (Reg.PG_STAT n) 15 = true) ∧
      (s.appendRef n count = true → t.rb (Reg.PG_STAT n) 14 = true) := by
  obtain ⟨htptr, -, hstat⟩ := pg_not_marrow n.isLt
  obtain ⟨hs, hl, -⟩ := pgTptr_apart n.isLt
  have hreg (a : Nat) (ha : marrowReg a = false) : (settle (pgTapp n count false s)).reg a =
      (turnAway n (s.appendRef n count) (s.appendOvf n count) s).reg a := by
    rw [settle_reg ha, ← pgAppend_turned h]
    exact reg_pgTapp
  rw [exec_pgTapp hc hd]
  exact answers_done ⟨(hreg _ htptr).trans (reg_turnAway hs hl),
    fun hovf => (rb_of_reg (hreg _ hstat)).trans (turnAway_tovf n.isLt hovf),
    fun href => (rb_of_reg (hreg _ hstat)).trans (turnAway_tref n.isLt href)⟩

theorem pgTappSkip_fits (href : s.skipRef n count = false) (hovf : s.skipOvf n count = false) :
    Answers (exec (.pgTappSkip n count) s) fun t => t.rf (Reg.PG_TPTR n) 30 16 = count ∧
      t.rf (Reg.PG_TPTR n) 14 0 = s.rf (Reg.PG_TPTR n) 14 0 ∧
      t.rf (Reg.PG_TACT n) 30 16 = s.rf (Reg.PG_TPTR n) 30 16 := by
  rw [exec_pgTappSkip hc hd]
  obtain ⟨hm, hm', -⟩ := pg_not_marrow n.isLt
  have htptr := settle_reg (s := pgTapp n count true s) hm
  have htact := settle_reg (s := pgTapp n count true s) hm'
  obtain ⟨hwp, hrp, hmark⟩ := pgSkip_fits n.isLt count.isLt href hovf
  exact answers_done ⟨(rf_of_reg htptr).trans hwp, (rf_of_reg htptr).trans hrp, (rf_of_reg htact).trans hmark⟩

theorem pgTappSkip_turned (h : (s.skipRef n count || s.skipOvf n count) = true) :
    Answers (exec (.pgTappSkip n count) s) fun t => t.reg (Reg.PG_TPTR n) = s.reg (Reg.PG_TPTR n) ∧
      t.reg (Reg.PG_TACT n) = s.reg (Reg.PG_TACT n) ∧
      (s.skipRef n count = true → t.rb (Reg.PG_STAT n) 14 = true) ∧
      (s.skipOvf n count = true → t.rb (Reg.PG_STAT n) 15 = true) := by
  obtain ⟨htptr, htact, hstat⟩ := pg_not_marrow n.isLt
  obtain ⟨hs, hl, -⟩ := pgTptr_apart n.isLt
  obtain ⟨hs', hl'⟩ := pgTact_apart n.isLt
  have hreg (a : Nat) (ha : marrowReg a = false) : (settle (pgTapp n count true s)).reg a =
      (turnAway n (s.skipRef n count) (s.skipOvf n count) s).reg a := by
    rw [settle_reg ha, ← pgSkip_turned h]
    exact reg_pgTapp
  rw [exec_pgTappSkip hc hd]
  exact answers_done ⟨(hreg _ htptr).trans (reg_turnAway hs hl), (hreg _ htact).trans (reg_turnAway hs' hl'),
    fun href => (rb_of_reg (hreg _ hstat)).trans (turnAway_tref n.isLt href),
    fun hovf => (rb_of_reg (hreg _ hstat)).trans (turnAway_tovf n.isLt hovf)⟩

end Commands

theorem Answers.mono {o : Host.Outcome State Fault Refusal} {P Q : State → Prop} (h : Answers o P) (hpq : ∀ t, P t → Q t) :
    Answers o Q := by
  obtain ⟨t, ht, hp⟩ := h
  exact ⟨t, ht, hpq t hp⟩

/-- Settles O18: each append either moves WP within its field, or is turned away with the flags whose conditions hold, whose
events reach no register of the axis. -/
theorem axisAndGeneratorWrites : Obligations.AxisAndGeneratorWrites := by
  unfold Obligations.AxisAndGeneratorWrites
  intro n count s hc hd wp rp mark pend nlen tend used noSkip
  have hovf : s.appendOvf n count = true ↔ count.val = 0 ∨ tend ≤ used := by
    simp only [State.appendOvf, Bool.or_eq_true, decide_eq_true_eq]; rfl
  have href : s.appendRef n count = true ↔ pend = true ∧ pgBeyond wp count tend nlen = true :=
    Bool.and_eq_true_iff
  have hno : s.noSkip n = true ↔ noSkip := noSkip_iff
  have hskip : s.skipRef n count = true ↔ noSkip ∨ pgBeyond 0 count wp nlen = true := by
    rw [State.skipRef, Bool.or_eq_true, hno]
  have hfull : s.skipOvf n count = true ↔ count.val = 0 ∨ (noSkip ∧ tend ≤ used) ∨ (¬ noSkip ∧ wp ≤ used) := by
    rw [State.skipOvf, Bool.or_eq_true, decide_eq_true_eq, decide_eq_true_eq, ← hno]
    cases s.noSkip n <;> simp <;> rfl
  refine ⟨axAck_kept hc hd, fun hcount hused hpend => ?_, fun h => ?_, fun hns hcount hbeyond hused => ?_, fun h => ?_⟩
  · refine pgTapp_fits hc hd hcount hused ?_
    rw [← Bool.not_eq_true, href]
    rintro ⟨hp, hb⟩
    rw [hpend hp] at hb
    cases hb
  · refine (pgTapp_turned hc hd ?_).mono fun t ⟨hreg, ht15, ht14⟩ =>
      ⟨hreg, fun ho => ht15 (hovf.2 ho), fun hp hb => ht14 (href.2 ⟨hp, hb⟩)⟩
    rw [Bool.or_eq_true, hovf, href]
    exact h
  · refine pgTappSkip_fits hc hd ?_ ?_
    · rw [← Bool.not_eq_true, hskip]
      simp [hns, hbeyond]
    · rw [← Bool.not_eq_true, hfull]
      simp only [hns, hcount, false_and, not_false_iff, true_and, false_or]
      omega
  · refine (pgTappSkip_turned hc hd ?_).mono fun t ⟨hreg, hreg', ht14, ht15⟩ => ⟨hreg, hreg', fun hr => ht14 (hskip.2 hr),
      fun h0 => ht15 (hfull.2 (.inl h0)), fun hn hu => ht15 (hfull.2 (.inr (.inl ⟨hn, hu⟩))),
      fun hn hu => ht15 (hfull.2 (.inr (.inr ⟨hn, hu⟩)))⟩
    rw [Bool.or_eq_true, hskip, hfull]
    rcases h with hn | h0 | hb | hu
    · exact .inl (.inl hn)
    · exact .inr (.inl h0)
    · exact .inl (.inr hb)
    · by_cases hn : noSkip
      · exact .inl (.inl hn)
      · exact .inr (.inr (.inr ⟨hn, hu⟩))

end Sys2Proof.Machine
end

section
/-! Heartbeats, the field supply and what Marrow keeps of its own (R350 to R353). -/

namespace Sys2Proof.Machine

variable {s t u : State}

/-! What Marrow keeps of its own (R434, R477). -/

/-- From s to t nothing changes of what Marrow keeps but events and bits that wait for the logic die. -/
def KeepsFio (s t : State) : Prop := ∃ h b, t.fio = { s.fio with held := h, heldBits := b }

namespace KeepsFio

theorem of_eq (h : t.fio = s.fio) : KeepsFio s t := ⟨s.fio.held, s.fio.heldBits, h⟩

theorem refl (s : State) : KeepsFio s s := of_eq rfl

theorem trans (h : KeepsFio s t) (k : KeepsFio t u) : KeepsFio s u := by
  obtain ⟨h1, b1, e1⟩ := h
  obtain ⟨h2, b2, e2⟩ := k
  exact ⟨h2, b2, by rw [e2, e1]⟩

theorem ite {c : Prop} [Decidable c] (h : KeepsFio s t) (k : KeepsFio s u) : KeepsFio s (if c then t else u) := by
  split
  · exact h
  · exact k

theorem onlyIf {c : Bool} {f : State → State} (h : KeepsFio s (f s)) : KeepsFio s (Machine.onlyIf c f s) := by
  cases c
  · exact refl s
  · exact h

theorem event {code cls inst x y : Nat} : KeepsFio s (Machine.event code cls inst x y s) := of_eq event_fio

theorem marrowEvent {src hsrc reg b cls inst a : Nat} : KeepsFio s (Machine.marrowEvent src hsrc reg b cls inst a s) := by
  unfold Machine.marrowEvent
  exact ite event (ite ⟨_, _, rfl⟩ (refl s))

theorem orMarrow {a m : Nat} : KeepsFio s (Machine.orMarrow a m s) := by
  unfold Machine.orMarrow
  exact ite (of_eq rfl) ⟨_, _, rfl⟩

theorem fioFlag {reg b cls inst a : Nat} : KeepsFio s (Machine.fioFlag reg b cls inst a s) :=
  (onlyIf orMarrow).trans marrowEvent

theorem safErr {b inst : Nat} : KeepsFio s (Machine.safErr b inst s) := by
  unfold Machine.safErr flagEvent
  exact ite event (orMarrow.trans marrowEvent)

theorem clearReq : KeepsFio s (Machine.clearReq s) := ite (of_eq rfl) (of_eq rfl)

theorem setSafState {st : Nat} : KeepsFio s (Machine.setSafState st s) := by
  unfold Machine.setSafState
  exact ite (trans (of_eq rfl) clearReq) (of_eq rfl)

theorem showRecs {rs : List Nat} : KeepsFio s (Machine.showRecs rs s) := (of_eq rfl : KeepsFio s _).trans (onlyIf (of_eq rfl))

theorem safFall {st b : Nat} : KeepsFio s (Machine.safFall st b s) := setSafState.trans (ite (of_eq rfl) (of_eq rfl))

theorem safFault {b inst : Nat} {lock : Bool} : KeepsFio s (Machine.safFault b inst lock s) := by
  unfold Machine.safFault
  refine ite (onlyIf safErr) (ite (ite safErr (safErr.trans safFall)) (ite (safErr.trans (safErr.trans safFall)) (ite ?_ safErr)))
  exact safErr.trans (showRecs.trans (ite (safErr.trans safFall) safFall))

end KeepsFio

/-! Bits of FIO_ registers that are set and reported. -/

theorem fioFlag_touches {reg b cls inst a : Nat} : Touches [a, Reg.EVL_LOST] s (fioFlag reg b cls inst a s) :=
  (Touches.onlyIf (orMarrow_touches (.head _))).trans (marrowEvent_touches (.tail _ (.head _)))

/-- The event leaves every register but its own. -/
theorem fioFlag_rb {reg b c cls inst a : Nat} (hl : a ≠ Reg.EVL_LOST) :
    (fioFlag reg b cls inst a s).rb a c = (onlyIf s.fieldOn (orMarrow a (2 ^ b)) s).rb a c :=
  (marrowEvent_touches (ex := [Reg.EVL_LOST]) (.head _)).rb (by simpa using hl)

theorem fioFlag_keeps {reg b c cls inst a : Nat} (hl : a ≠ Reg.EVL_LOST) (hc : c < 32) (h : s.rb a c = true) :
    (fioFlag reg b cls inst a s).rb a c = true := by
  rw [fioFlag_rb hl]
  cases s.fieldOn
  · exact h
  · exact orMarrow_rb_mono hc h

theorem fioFlag_sets {reg b cls inst a : Nat} (hl : a ≠ Reg.EVL_LOST) (hb : b < 32) (hf : s.fieldOn = true)
    (hs : s.sysOn = true) (hd : s.domOn (blkDom (blkOf a)) = true) : (fioFlag reg b cls inst a s).rb a b = true := by
  rw [fioFlag_rb hl, hf, onlyIf_true, orMarrow_live hs hd]
  exact rb_orReg_self hb

theorem fioFlag_other {reg b c cls inst a : Nat} (hl : a ≠ Reg.EVL_LOST) (hc : c < 32) (hne : b ≠ c) :
    (fioFlag reg b cls inst a s).rb a c = s.rb a c := by
  rw [fioFlag_rb hl]
  cases s.fieldOn
  · rfl
  · rw [onlyIf_true]
    unfold orMarrow
    split
    · rw [rb_orReg hc, Nat.testBit_two_pow_of_ne hne, Bool.or_false]
    · rfl

theorem rb_setRb {a b c : Nat} {v : Bool} (hc : c < 32) : (setRb a b v s).rb a c = if c = b then v else s.rb a c := by
  unfold State.rb
  rw [reg_setRb_self, bit_setFld_bit _ _ _ _ hc]

theorem rb_onlyIf {c : Bool} {f : State → State} {a b : Nat} :
    (onlyIf c f s).rb a b = if c then (f s).rb a b else s.rb a b := by cases c <;> rfl

/-- What every step of a loop keeps, the loop keeps. -/
theorem forAll_keeps {α : Type} {P : State → Prop} {f : α → State → State} (h : ∀ x t, P t → P (f x t)) (xs : List α)
    (hs : P s) : P (forAll xs f s) := by
  induction xs generalizing s with
  | nil => exact hs
  | cons x xs ih => exact ih (h x s hs)

/-! The clocks read three registers. -/

theorem domOn_of_reg {d : Nat} (h : t.reg Reg.PCR_PD_STAT = s.reg Reg.PCR_PD_STAT) : t.domOn d = s.domOn d := by
  unfold State.domOn State.rb
  rw [h]

theorem sysOn_of_regs (hd : t.reg Reg.PCR_PD_STAT = s.reg Reg.PCR_PD_STAT) (hp : t.reg Reg.PCR_PSTATE = s.reg Reg.PCR_PSTATE)
    (hg : t.reg Reg.DBG_STAT = s.reg Reg.DBG_STAT) (hr : t.pcr = s.pcr) : t.sysOn = s.sysOn := by
  unfold State.sysOn State.frozen State.rf
  rw [domOn_of_reg hd, hp, hr]
  unfold State.rb
  rw [hg]

/-! Heartbeats (R350, R351). -/

theorem passHeld_fio : (passHeld s).fio = { s.fio with held := [] } :=
  forAll_keeps (P := fun t => t.fio = { s.fio with held := [] }) (fun _ _ h => event_fio.trans h) _ rfl

theorem gliporEvent_fio : (gliporEvent s).fio = s.fio := by
  unfold gliporEvent
  exact event_fio

theorem signalVector_fio {v : Nat} : (signalVector v s).fio = s.fio := by
  have hmsix (v : Nat) : (msixSend v s).fio = s.fio := by
    unfold msixSend
    split <;> rfl
  have hmsi (v : Nat) : (msiSend v s).fio = s.fio := by
    unfold msiSend
    split <;> rfl
  unfold signalVector
  split
  · rfl
  · split
    · exact hmsix _
    · split
      · exact hmsi _
      · rfl

theorem setNote_fio {j : Nat} : (setNote j s).fio = s.fio := by
  unfold setNote
  split
  · rfl
  · exact signalVector_fio

theorem observed_fio : (observed s).fio = s.fio := by
  unfold observed gliporNotes
  cases s.cpuOn && s.domOn 7 && s.stage = 3
  · rfl
  · exact gliporEvent_fio.trans setNote_fio

/-- Marrow has sent a heartbeat. -/
def beatSent (s : State) : State := { s with fio := { s.fio with hbSent := (s.fio.hbSent + 1) % 16 } }

/-- The supervisor has accepted it. -/
def beatTaken (s : State) : State :=
  { s with fio := { s.fio with hbSent := (s.fio.hbSent + 1) % 16, hbLast := (s.fio.hbSent + 1) % 16,
                               hbRow := s.fio.hbRow + 1, hbAt := s.mtick, linkDown := false } }

theorem heartbeat_eq : heartbeat s = if !(beatSent s).huskOn then beatSent s
    else if (s.fio.hbSent + 1) % 16 = (s.fio.hbLast + 1) % 16 then
      onlyIf s.fio.linkDown observed (if (beatTaken s).fio.held.isEmpty then beatTaken s else passHeld (beatTaken s))
    else { s with fio := { s.fio with hbSent := (s.fio.hbSent + 1) % 16, hbRow := 0 } } := rfl

theorem beatSent_huskOn : (beatSent s).huskOn = s.huskOn := rfl

theorem heartbeat_accepted (hh : s.huskOn = true) (h : (s.fio.hbSent + 1) % 16 = (s.fio.hbLast + 1) % 16) :
    (heartbeat s).fio = { (beatTaken s).fio with held := [] } := by
  have hpass (t : State) : (if t.fio.held.isEmpty then t else passHeld t).fio = { t.fio with held := [] } := by
    split
    · rename_i hempty
      rw [← List.isEmpty_iff.1 hempty]
    · exact passHeld_fio
  have hobs (c : Bool) (t : State) : (onlyIf c observed t).fio = t.fio := by
    cases c
    · rfl
    · exact observed_fio
  rw [heartbeat_eq, beatSent_huskOn, hh, if_neg (by decide), if_pos h, hobs, hpass]

theorem heartbeat_unexpected (hh : s.huskOn = true) (h : (s.fio.hbSent + 1) % 16 ≠ (s.fio.hbLast + 1) % 16) :
    heartbeat s = { s with fio := { s.fio with hbSent := (s.fio.hbSent + 1) % 16, hbRow := 0 } } := by
  rw [heartbeat_eq, beatSent_huskOn, hh, if_neg (by decide), if_neg h]

theorem heartbeat_alone (hh : s.huskOn = false) : heartbeat s = beatSent s := by
  rw [heartbeat_eq, beatSent_huskOn, hh, if_pos (by decide)]

theorem heartbeat_counts (hs : s.sysOn = true) (hf : s.fieldOn = true) :
    Ends (exec .heartbeat s) fun u => u.fio.hbSent = (s.fio.hbSent + 1) % 16 ∧
      (s.huskOn = true → if u.fio.hbSent = (s.fio.hbLast + 1) % 16
        then u.fio.hbLast = u.fio.hbSent ∧ u.fio.hbRow = s.fio.hbRow + 1 ∧ u.fio.hbAt = s.mtick ∧
          u.fio.linkDown = false ∧ u.fio.held = []
        else u.fio.hbRow = 0 ∧ u.fio.hbLast = s.fio.hbLast ∧ u.fio.hbAt = s.fio.hbAt) := by
  have hexec : exec .heartbeat s = done (heartbeat s) := congrArg done (onlyIf_pos (by rw [hs, hf]; rfl))
  rw [hexec]
  refine ends_done ?_
  cases hh : s.huskOn
  · rw [heartbeat_alone hh]
    exact ⟨rfl, fun h => by cases h⟩
  · by_cases h : (s.fio.hbSent + 1) % 16 = (s.fio.hbLast + 1) % 16
    · rw [heartbeat_accepted hh h]
      refine ⟨rfl, fun _ => ?_⟩
      split
      · exact ⟨rfl, rfl, rfl, rfl, rfl⟩
      · contradiction
    · rw [heartbeat_unexpected hh h]
      refine ⟨rfl, fun _ => ?_⟩
      split
      · contradiction
      · exact ⟨rfl, rfl, rfl⟩

theorem exec_heartbeatLoss (hh : s.huskOn = true) (hup : s.fio.linkDown = false) : exec .heartbeatLoss s =
    done (onlyIf (s.marrowReached (s.mtick - s.fio.hbAt) 1600000) heartbeatLoss s) := by
  have h : exec .heartbeatLoss s = done (onlyIf (s.huskOn && !s.fio.linkDown &&
    s.marrowReached (s.mtick - s.fio.hbAt) 1600000) heartbeatLoss s) := rfl
  rw [h, hh, hup, Bool.not_false, Bool.true_and, Bool.true_and]

/-- The link is down, and HBLOSS stands. -/
def linkLost (s : State) : State :=
  setRb Reg.FIO_SUP 2 true { s with fio := { s.fio with linkDown := true, hbRow := 0 } }

/-- A loss as Marrow logs it, before it is reported as a fault. -/
def beatsLost (s : State) : State := fioFlag 0 10 clsFault 0 Reg.FIO_SUP (linkLost s)

theorem heartbeatLoss_eq : heartbeatLoss s = safFault 2 0 false (beatsLost s) := rfl

theorem linkLost_reg {a : Nat} (ha : a ≠ Reg.FIO_SUP) : (linkLost s).reg a = s.reg a := reg_setRb_other ha

theorem beatsLost_hbloss : (beatsLost s).rb Reg.FIO_SUP 2 = true :=
  fioFlag_keeps (by decide) (by decide) ((rb_setRb (by decide)).trans (if_pos rfl))

theorem beatsLost_huskOn : (beatsLost s).huskOn = s.huskOn := by
  refine congrArg (!·) ((fioFlag_other (by decide) (by decide) (by decide)).trans ?_)
  exact (rb_setRb (by decide)).trans (if_neg (by decide))

theorem beatsLost_safState : (beatsLost s).safState = s.safState :=
  (fioFlag_touches.rf (by decide)).trans (congrArg (fun w => fld w 2 0) (linkLost_reg (by decide)))

theorem beatsLost_logged (hf : s.fieldOn = true) (hs : s.sysOn = true) : (beatsLost s).rb Reg.FIO_SUP 10 = true := by
  have hdom : (linkLost s).domOn 9 = true := (domOn_of_reg (linkLost_reg (by decide))).trans hf
  have hsys : (linkLost s).sysOn = true :=
    (sysOn_of_regs (linkLost_reg (by decide)) (linkLost_reg (by decide)) (linkLost_reg (by decide)) rfl).trans hs
  exact fioFlag_sets (by decide) (by decide) hdom hsys hdom

theorem heartbeatLoss_falls (hh : s.huskOn = true) : (heartbeatLoss s).fio.linkDown = true ∧ (heartbeatLoss s).fio.hbRow = 0 ∧
    (heartbeatLoss s).rb Reg.FIO_SUP 2 = true ∧
    (s.fieldOn = true → s.sysOn = true → (heartbeatLoss s).rb Reg.FIO_SUP 10 = true) ∧
    (s.safState = 1 ∨ s.safState = 2 → (heartbeatLoss s).safState = 3 ∨ (heartbeatLoss s).safState = 4) := by
  rw [heartbeatLoss_eq]
  have hsup (b : Nat) : (safFault 2 0 false (beatsLost s)).rb Reg.FIO_SUP b = (beatsLost s).rb Reg.FIO_SUP b :=
    safFault_touches.rb (by decide)
  obtain ⟨h, b, hfio⟩ : KeepsFio (linkLost s) (safFault 2 0 false (beatsLost s)) := KeepsFio.fioFlag.trans KeepsFio.safFault
  refine ⟨by rw [hfio]; rfl, by rw [hfio]; rfl, (hsup 2).trans beatsLost_hbloss,
    fun hf hs => (hsup 10).trans (beatsLost_logged hf hs), fun hst => ?_⟩
  exact safFault_recovery (beatsLost_huskOn.trans hh) (by rwa [beatsLost_safState])

/-! Acknowledgements (R351, R353). -/

section Acknowledgements

variable (hc : s.cpuOn = true) (hd : s.domOn 9 = true)
include hc hd

theorem exec_supCmd : exec .hback s = done (supCmd 1 s) ∧ exec .uvack s = done (supCmd 2 s) :=
  ⟨congrArg done (regWrite_on hc hd), congrArg done (regWrite_on hc hd)⟩

/-- A refused acknowledgement sets bit 12 and clears nothing. -/
theorem refused_flags {b : Nat} (hb : b < 32) (h : s.rb Reg.FIO_SUP b = true) :
    (fioFlag 0 12 clsFault 0 Reg.FIO_SUP s).rb Reg.FIO_SUP b = true ∧
    (fioFlag 0 12 clsFault 0 Reg.FIO_SUP s).rb Reg.FIO_SUP 12 = true :=
  ⟨fioFlag_keeps (by decide) hb h, fioFlag_sets (by decide) (by decide) hd (sysOn_of_cpuOn hc) hd⟩

omit hc hd in
/-- An acknowledgement that is taken clears its bit and every output command. -/
theorem acknowledged_clears {b : Nat} (hb : b < 32) :
    (setOutputs 0 (setRb Reg.FIO_SUP b false s)).rb Reg.FIO_SUP b = false ∧
    (setOutputs 0 (setRb Reg.FIO_SUP b false s)).rf Reg.FIO_OUT 7 0 = 0 := by
  refine ⟨(congrArg (fun w => bit w b) (reg_setRf_other (by decide))).trans ((rb_setRb hb).trans (if_pos rfl)), ?_⟩
  unfold setOutputs State.rf
  rw [reg_setRf_self, fld_setFld_self _ _ _ _ (by decide) (by decide)]
  rfl

theorem hback_answers (h : s.rb Reg.FIO_SUP 2 = true) : Ends (exec .hback s) fun u =>
    if 32 ≤ s.fio.hbRow then u.rb Reg.FIO_SUP 2 = false ∧ u.rf Reg.FIO_OUT 7 0 = 0
    else u.rb Reg.FIO_SUP 2 = true ∧ u.rb Reg.FIO_SUP 12 = true := by
  have hcmd : supCmd 1 s = if 32 ≤ s.fio.hbRow then setOutputs 0 (setRb Reg.FIO_SUP 2 false s)
      else fioFlag 0 12 clsFault 0 Reg.FIO_SUP s := by
    have h0 : bit (1 : Word) 0 = true := by decide
    have h1 : bit (1 : Word) 1 = false := by decide
    simp only [supCmd, h0, h1, h, Bool.and_self, if_true, Bool.false_and, Bool.false_eq_true, if_false]
  rw [(exec_supCmd hc hd).1, hcmd]
  refine ends_done ?_
  split
  · exact acknowledged_clears (by decide)
  · exact refused_flags hc hd (by decide) h

theorem uvack_answers (h : s.rb Reg.FIO_SUP 1 = true) : Ends (exec .uvack s) fun u =>
    if s.rb Reg.FIO_SUP 0 then u.rb Reg.FIO_SUP 1 = true ∧ u.rb Reg.FIO_SUP 12 = true
    else u.rb Reg.FIO_SUP 1 = false ∧ u.rf Reg.FIO_OUT 7 0 = 0 := by
  have hcmd : supCmd 2 s = if s.rb Reg.FIO_SUP 0 then fioFlag 0 12 clsFault 0 Reg.FIO_SUP s
      else setOutputs 0 (setRb Reg.FIO_SUP 1 false s) := by
    have h0 : bit (2 : Word) 0 = false := by decide
    have h1 : bit (2 : Word) 1 = true := by decide
    simp only [supCmd, h0, h1, h, Bool.and_self, if_true, Bool.false_and, Bool.false_eq_true, if_false]
  rw [(exec_supCmd hc hd).2, hcmd]
  refine ends_done ?_
  split
  · exact refused_flags hc hd (by decide) h
  · exact acknowledged_clears (by decide)

end Acknowledgements

/-! Measurements of VFIELD (R352). -/

theorem supSet_touches {b ev : Nat} : Touches [Reg.FIO_SUP, Reg.EVL_LOST] s (supSet b ev s) := by
  have hset : Touches [Reg.FIO_SUP, Reg.EVL_LOST] s (setRb Reg.FIO_SUP b true s) := .setRb (.head _)
  unfold supSet
  exact .ite (.refl s) (hset.trans fioFlag_touches)

theorem supSet_fio {b ev : Nat} : KeepsFio s (supSet b ev s) := by
  have hset : KeepsFio s (setRb Reg.FIO_SUP b true s) := .of_eq rfl
  unfold supSet
  exact .ite (.refl s) (hset.trans .fioFlag)

theorem supSet_self {b ev : Nat} (hb : b < 32) : (supSet b ev s).rb Reg.FIO_SUP b = true := by
  unfold supSet
  split
  · assumption
  · exact fioFlag_keeps (by decide) hb ((rb_setRb hb).trans (if_pos rfl))

theorem supSet_other {b ev c : Nat} (hc : c < 32) (hb : c ≠ b) (he : ev ≠ c) :
    (supSet b ev s).rb Reg.FIO_SUP c = s.rb Reg.FIO_SUP c := by
  unfold supSet
  split
  · rfl
  · exact (fioFlag_other (by decide) hc he).trans ((rb_setRb hc).trans (if_neg hb))

/-- The last 100 measurements, with the newest. -/
def vfieldLog (mv : Nat) (s : State) : List Nat := (mv :: s.fio.vlog).take 100

/-- Three measurements in a row lie where p says. -/
def threeRow (log : List Nat) (p : Nat → Bool) : Bool := 3 ≤ log.length && (log.take 3).all p

/-- A measurement and the mean of those kept. -/
def vfieldSeen (mv : Nat) (s : State) : State :=
  let log := vfieldLog mv s
  onlyIf s.fieldOn (setReg Reg.FIO_VF (BitVec.ofNat 32 (log.foldl (· + ·) 0 / log.length)))
    { s with fio := { s.fio with vlog := log } }

/-- The bits of FIO_SUP that a measurement moves, by the limits of Table 12-3 that three in a row have passed. -/
def supLimits (low ok under high back : Bool) (s : State) : State :=
  onlyIf back (setRb Reg.FIO_SUP 4 false) (onlyIf high (supSet 4 11) (onlyIf under (supSet 1 9)
    (onlyIf ok (setRb Reg.FIO_SUP 0 false) (onlyIf low (supSet 0 8) s))))

theorem vfieldMeasure_eq {mv : Nat} : vfieldMeasure mv s =
    supLimits (threeRow (vfieldLog mv s) (· ≤ 19000)) (threeRow (vfieldLog mv s) (19500 ≤ ·))
      (threeRow (vfieldLog mv s) (· ≤ 16500)) (threeRow (vfieldLog mv s) (31000 ≤ ·))
      (threeRow (vfieldLog mv s) (· ≤ 30500)) (vfieldSeen mv s) := rfl

section Limits

variable {low ok under high back : Bool}

theorem supLimits_touches : Touches [Reg.FIO_SUP, Reg.EVL_LOST] s (supLimits low ok under high back s) :=
  .after (.onlyIf (.setRb (.head _))) <| .after (.onlyIf supSet_touches) <| .after (.onlyIf supSet_touches) <|
    .after (.onlyIf (.setRb (.head _))) (.onlyIf supSet_touches)

theorem supLimits_fio : KeepsFio s (supLimits low ok under high back s) :=
  (KeepsFio.onlyIf supSet_fio).trans <| (KeepsFio.onlyIf (.of_eq rfl)).trans <| (KeepsFio.onlyIf supSet_fio).trans <|
    (KeepsFio.onlyIf supSet_fio).trans (.onlyIf (.of_eq rfl))

theorem supLimits_warn : (supLimits low ok under high back s).rb Reg.FIO_SUP 0 =
    if ok then false else if low then true else s.rb Reg.FIO_SUP 0 := by
  simp [supLimits, rb_onlyIf, rb_setRb, supSet_self, supSet_other]

theorem supLimits_under : (supLimits low ok under high back s).rb Reg.FIO_SUP 1 =
    if under then true else s.rb Reg.FIO_SUP 1 := by
  simp [supLimits, rb_onlyIf, rb_setRb, supSet_self, supSet_other]

theorem supLimits_over : (supLimits low ok under high back s).rb Reg.FIO_SUP 4 =
    if back then false else if high then true else s.rb Reg.FIO_SUP 4 := by
  simp [supLimits, rb_onlyIf, rb_setRb, supSet_self, supSet_other]

end Limits

theorem threeRow_iff {log : List Nat} {p : Nat → Bool} : threeRow log p = true ↔ 3 ≤ log.length ∧ (log.take 3).all p = true := by
  unfold threeRow
  rw [Bool.and_eq_true, decide_eq_true_eq]

/-- Conditions that exclude each other do not both hold of three measurements. -/
theorem threeRow_excludes {mv : Nat} {p q : Nat → Bool} (hpq : p mv = true → q mv = false)
    (hp : threeRow (vfieldLog mv s) p = true) : threeRow (vfieldLog mv s) q = false := by
  have hall := (threeRow_iff.1 hp).2
  have hpmv : p mv = true := by
    simp only [vfieldLog, List.take_succ_cons, List.all_cons, Bool.and_eq_true] at hall
    exact hall.1
  simp [threeRow, vfieldLog, hpq hpmv]

theorem vfieldMeasure_moves (mv : BitVec 16) (hh : s.huskOn = true) : Ends (exec (.vfieldMeasure mv) s) fun u =>
    let log := (mv.toNat :: s.fio.vlog).take 100
    let three := fun (p : Nat → Bool) => 3 ≤ log.length ∧ (log.take 3).all p = true
    u.fio.vlog = log ∧
    u.reg Reg.FIO_VF = (if s.fieldOn = true then BitVec.ofNat 32 (log.foldl (· + ·) 0 / log.length) else s.reg Reg.FIO_VF) ∧
    (three (· ≤ 19000) → u.rb Reg.FIO_SUP 0 = true) ∧ (three (19500 ≤ ·) → u.rb Reg.FIO_SUP 0 = false) ∧
    (three (· ≤ 16500) → u.rb Reg.FIO_SUP 1 = true) ∧ (three (31000 ≤ ·) → u.rb Reg.FIO_SUP 4 = true) ∧
    (three (· ≤ 30500) → u.rb Reg.FIO_SUP 4 = false) := by
  have hexec : exec (.vfieldMeasure mv) s = done (vfieldMeasure mv.toNat s) := congrArg done (onlyIf_pos hh)
  rw [hexec, vfieldMeasure_eq]
  have hvlog : (vfieldSeen mv.toNat s).fio.vlog = vfieldLog mv.toNat s := by
    unfold vfieldSeen
    cases s.fieldOn <;> rfl
  have hrow {p : Nat → Bool} (h : 3 ≤ ((mv.toNat :: s.fio.vlog).take 100).length ∧
      (((mv.toNat :: s.fio.vlog).take 100).take 3).all p = true) : threeRow (vfieldLog mv.toNat s) p = true :=
    threeRow_iff.2 h
  refine ends_done ⟨?_, ?_, fun h => ?_, fun h => ?_, fun h => ?_, fun h => ?_, fun h => ?_⟩
  · obtain ⟨h, b, hfio⟩ := supLimits_fio
    rw [hfio]
    exact hvlog
  · rw [supLimits_touches.reg Reg.FIO_VF (by decide)]
    unfold vfieldSeen
    cases s.fieldOn
    · rfl
    · exact reg_setReg_self
  · have hlow := hrow h
    rw [supLimits_warn, hlow, threeRow_excludes (fun hp => by simp only [decide_eq_true_eq] at hp; simp; omega) hlow]
    rfl
  · rw [supLimits_warn, hrow h]
    rfl
  · rw [supLimits_under, hrow h]
    rfl
  · have hover := hrow h
    rw [supLimits_over, hover, threeRow_excludes (fun hp => by simp only [decide_eq_true_eq] at hp; simp; omega) hover]
    rfl
  · rw [supLimits_over, hrow h]
    rfl

/-! The return of VFIELD (R353, R367). -/

theorem showRecs_stat {rs : List Nat} : (showRecs rs s).reg Reg.SAF_STATE = s.reg Reg.SAF_STATE ∧ (showRecs rs s).saf.recs = rs := by
  unfold showRecs
  dsimp only
  cases State.sysOn { s with saf := { s.saf with recs := rs, heldRec := !s.sysOn } }
  · exact ⟨rfl, rfl⟩
  · exact ⟨reg_setRf_other (by decide), rfl⟩

/-- Husk's agreements are down in START-UP. -/
def agrDown (s : State) : State := setAgr 1 false (setAgr 0 false (setSafState 0 s))

/-- What Husk has forgotten at its power-up. -/
def huskForgot (s : State) : State :=
  { s with saf := { s.saf with huskRise := none, tpFail := [], pulse := [], pulseAt := [] } }

theorem huskPowerUp_eq : huskPowerUp s = showRecs [] (huskForgot (agrDown s)) := rfl

theorem agrDown_touches : Touches safMoved s (agrDown s) := setAgr_touches.after (setAgr_touches.after setSafState_touches)

theorem agrDown_fio : KeepsFio s (agrDown s) := (KeepsFio.setSafState (st := 0)).trans (.of_eq rfl)

theorem huskForgot_touches : Touches safMoved s (huskForgot s) := ⟨fun _ _ => rfl, fun _ _ => rfl, rfl⟩

theorem huskPowerUp_touches : Touches safMoved s (huskPowerUp s) := by
  rw [huskPowerUp_eq]
  exact showRecs_touches.after (huskForgot_touches.after agrDown_touches)

theorem huskPowerUp_fio : KeepsFio s (huskPowerUp s) := by
  have hforgot : KeepsFio (agrDown s) (huskForgot (agrDown s)) := .of_eq rfl
  rw [huskPowerUp_eq]
  exact (agrDown_fio.trans hforgot).trans .showRecs

theorem huskPowerUp_starts : (huskPowerUp s).safState = 0 ∧ (huskPowerUp s).agr 0 = false ∧ (huskPowerUp s).agr 1 = false ∧
    (huskPowerUp s).saf.recs = [] := by
  have hstat : (huskPowerUp s).reg Reg.SAF_STATE = (agrDown s).reg Reg.SAF_STATE := by
    rw [huskPowerUp_eq]
    exact showRecs_stat.1
  have hagr (g : Nat) : (huskPowerUp s).agr g = (agrDown s).agr g := congrArg (fun w => bit w (18 + g)) hstat
  have hrecs : (huskPowerUp s).saf.recs = [] := by
    rw [huskPowerUp_eq]
    exact showRecs_stat.2
  refine ⟨?_, ?_, ?_, hrecs⟩
  · refine (congrArg (fun w => fld w 2 0) hstat).trans ?_
    exact (setAgr_safState (by decide)).trans ((setAgr_safState (by decide)).trans (setSafState_safState (by decide)))
  · rw [hagr, agrDown, setAgr_agr (by decide), setAgr_agr (by decide)]
    rfl
  · rw [hagr, agrDown, setAgr_agr (by decide)]
    rfl

/-- The supervisor as it powers up, before Husk does. -/
def supervisorFresh (s : State) : State :=
  showThr { setRf Reg.FIO_SUP 4 0 6 s with fio := { s.fio with
    vlog := [], thr1 := 2816000, thr3 := 2048000, hbLast := 0, hbRow := 0, hbAt := s.mtick, linkDown := false, cmd := 0,
    latch := 0, since := (List.range 8).foldl (fun m k => kvPut (fun _ => 0) m k s.mtick) [] } }

theorem supervisorUp_eq : supervisorUp s = huskPowerUp (supervisorFresh s) := rfl

theorem supervisorFresh_sup : (supervisorFresh s).rf Reg.FIO_SUP 4 0 = 6 := by
  refine (congrArg (fun w => fld w 4 0) (reg_setReg_other (by decide))).trans ?_
  exact (congrArg (fun w => fld w 4 0) reg_setRf_self).trans (fld_setFld_self _ _ _ _ (by decide) (by decide))

theorem supervisorPowerUp_starts (h : s.rb Reg.FIO_SUP 3 = true) : Ends (exec .supervisorPowerUp s) fun u =>
    u.rf Reg.FIO_SUP 4 0 = 6 ∧ u.safState = 0 ∧ u.agr 0 = false ∧ u.agr 1 = false ∧ u.fio.vlog = [] ∧ u.fio.hbRow = 0 ∧
      u.saf.recs = [] := by
  have hexec : exec .supervisorPowerUp s = done (supervisorUp s) := congrArg done (onlyIf_pos h)
  rw [hexec, supervisorUp_eq]
  obtain ⟨hstate, h0, h1, hrecs⟩ := huskPowerUp_starts (s := supervisorFresh s)
  obtain ⟨q, b, hfio⟩ := huskPowerUp_fio (s := supervisorFresh s)
  refine ends_done ⟨(huskPowerUp_touches.rf (by decide)).trans supervisorFresh_sup, hstate, h0, h1, ?_, ?_, hrecs⟩
  · rw [hfio]
    rfl
  · rw [hfio]
    rfl

/-! The obligation. -/

theorem vfoff_stands : Ends (exec .vfoff s) fun u => u.rb Reg.FIO_SUP 3 = true ∧ u.SameRegs s [Reg.FIO_SUP] := by
  have hexec : exec .vfoff s = done (setRb Reg.FIO_SUP 3 true s) := rfl
  rw [hexec]
  exact ends_done ⟨(rb_setRb (by decide)).trans (if_pos rfl), fun a ha => (reg_setRb_other (by simpa using ha)).symm⟩

/-- Settles O47: what Marrow keeps of the link changes in the two commands of the heartbeat alone, and the bits of FIO_SUP
are followed through the events and the fault that each change brings. -/
theorem heartbeatAndFieldSupply : Obligations.HeartbeatAndFieldSupply := by
  unfold Obligations.HeartbeatAndFieldSupply
  intro s
  refine ⟨heartbeat_counts, fun hh hup hshort => ?_, fun hh hup hlong => ?_, fun hc hd => ⟨hback_answers hc hd, uvack_answers hc hd⟩,
    vfieldMeasure_moves, vfoff_stands, supervisorPowerUp_starts⟩
  · rw [exec_heartbeatLoss hh hup, not_marrowReached_of_fast (by omega)]
    exact ends_done rfl
  · rw [exec_heartbeatLoss hh hup, marrowReached_of_slow (by omega)]
    exact ends_done (heartbeatLoss_falls hh)

end Sys2Proof.Machine
end

section
/-! Field inputs: levels, wire breaks and thresholds, and what the safety logic reaches on a change of level (R336 to R341, R364 to R366). -/

namespace Sys2Proof.Machine

variable {s t u : State}

/-! What the safety logic reaches (R364 to R371). -/

/-- From s to t the safety logic may have moved: its registers, its own state and what Marrow holds for the recorder. -/
structure SafMoves (s t : State) : Prop where
  touches : Touches safReach s t
  fio : KeepsFio s t
  irq : t.fwIrq = s.fwIrq

namespace SafMoves

theorem refl (s : State) : SafMoves s s := ⟨.refl s, .refl s, rfl⟩

theorem trans (h : SafMoves s t) (k : SafMoves t u) : SafMoves s u :=
  ⟨h.touches.trans k.touches, h.fio.trans k.fio, k.irq.trans h.irq⟩

theorem ite {c : Prop} [Decidable c] (h : SafMoves s t) (k : SafMoves s u) : SafMoves s (if c then t else u) := by
  split
  · exact h
  · exact k

theorem onlyIf {c : Bool} {f : State → State} (h : SafMoves s (f s)) : SafMoves s (Machine.onlyIf c f s) := by
  cases c
  · exact refl s
  · exact h

theorem forAll {α : Type} {f : α → State → State} (h : ∀ x t, SafMoves t (f x t)) (xs : List α) :
    SafMoves s (Machine.forAll xs f s) := forAll_keeps (fun x t ht => ht.trans (h x t)) xs (refl s)

theorem saf {x : SafSt} : SafMoves s { s with saf := x } := ⟨⟨fun _ _ => rfl, fun _ _ => rfl, rfl⟩, .of_eq rfl, rfl⟩

theorem event {code cls inst x y : Nat} : SafMoves s (Machine.event code cls inst x y s) := by
  refine ⟨event_touches (by decide), .event, ?_⟩
  obtain ⟨r, c, v, h, -⟩ := event_only (s := s) (code := code) (cls := cls) (inst := inst) (x := x) (y := y)
  rw [h]

theorem marrowEvent {src hsrc reg b cls inst a : Nat} : SafMoves s (Machine.marrowEvent src hsrc reg b cls inst a s) := by
  unfold Machine.marrowEvent
  refine ite event (ite ⟨⟨fun _ _ => rfl, fun _ _ => rfl, rfl⟩, ⟨_, _, rfl⟩, rfl⟩ (refl s))

theorem setRb {a b : Nat} {v : Bool} (ha : a ∈ safReach) : SafMoves s (Machine.setRb a b v s) :=
  ⟨.setRb ha, .of_eq rfl, rfl⟩

theorem setRf {a hi lo v : Nat} (ha : a ∈ safReach) : SafMoves s (Machine.setRf a hi lo v s) := ⟨.setRf ha, .of_eq rfl, rfl⟩

theorem orReg {a m : Nat} (ha : a ∈ safReach) : SafMoves s (Machine.orReg a m s) := ⟨.orReg ha, .of_eq rfl, rfl⟩

theorem orMarrow {a m : Nat} (ha : a ∈ safReach) : SafMoves s (Machine.orMarrow a m s) := by
  refine ⟨orMarrow_touches ha, .orMarrow, ?_⟩
  unfold Machine.orMarrow
  split <;> rfl

theorem safErr {b inst : Nat} : SafMoves s (Machine.safErr b inst s) := by
  unfold Machine.safErr flagEvent
  exact ite ((orReg (by decide)).trans event) ((orMarrow (by decide)).trans marrowEvent)

theorem setAgr {g : Nat} {v : Bool} : SafMoves s (Machine.setAgr g v s) := setRb (by decide)

theorem clearReq : SafMoves s (Machine.clearReq s) := ite (setRf (by decide)) saf

theorem setSafState {st : Nat} : SafMoves s (Machine.setSafState st s) := by
  have hset : SafMoves s { Machine.setRf Reg.SAF_STATE 2 0 st s with
      saf := { s.saf with stok := false, wdRef := s.mtick, wdFirst := true } } := (setRf (by decide)).trans saf
  exact ite (hset.trans (setAgr.trans (setAgr.trans clearReq))) hset

theorem putGrp {g : Nat} {v : SafGrp} : SafMoves s (Machine.putGrp g v s) := saf.trans (setRb (by decide))

end SafMoves

theorem huskAgree_moves {g : Nat} : SafMoves s (huskAgree g s) := .onlyIf .setAgr

theorem resetAccepted_moves {task husk : Bool} : SafMoves s (resetAccepted task husk s) := by
  have hagree : SafMoves s (onlyIf (husk && s.safState ≠ 4) (fun s => huskAgree 1 (huskAgree 0 s)) s) :=
    .onlyIf (huskAgree_moves.trans huskAgree_moves)
  have hstate (t : State) (st : Nat) : SafMoves t (if husk && task then
      if (st = 0 || st = 3) && t.saf.runreq && t.saf.stok && t.confirmed && !t.lockCause then
        huskAgree 1 (huskAgree 0 (setSafState 1 { t with saf := { t.saf with runreq := false } }))
      else if st = 4 && !t.lockCause then setSafState 0 t
      else t
    else t) :=
    .ite (.ite (SafMoves.saf.trans (SafMoves.setSafState.trans (huskAgree_moves.trans huskAgree_moves)))
      (.ite .setSafState (.refl t))) (.refl t)
  exact (hagree.trans (hstate _ s.safState)).trans (.onlyIf (.forAll (fun _ _ => .onlyIf .putGrp) _))

theorem taskPulse_moves {w : Nat} : SafMoves s (taskPulse w s).2 := .onlyIf .safErr

theorem resetPulse_moves {w hw : Option Nat} : SafMoves s (resetPulse w hw s) := by
  unfold resetPulse
  cases w with
  | none => exact resetAccepted_moves
  | some w => exact taskPulse_moves.trans resetAccepted_moves

theorem resetEdge_moves {task husk lvl : Bool} : SafMoves s (resetEdge task husk lvl s) := by
  unfold resetEdge
  exact .ite .saf (SafMoves.saf.trans resetPulse_moves)

theorem safLevel_moves {i : Nat} {lvl : Bool} : SafMoves s (safLevel i lvl s) := by
  unfold safLevel
  extract_lets j a b now zeroed arisen old diff disc pairs paired task husk
  have hzero : SafMoves s zeroed := .onlyIf .saf
  have harise : SafMoves zeroed arisen := by
    refine .forAll (fun g t => ?_) _
    exact SafMoves.onlyIf (f := fun s => putGrp g { s.grp g with arose := true } s) .putGrp
  clear_value arisen
  have hpair : SafMoves arisen paired := .saf
  exact hzero.trans (harise.trans (hpair.trans (.onlyIf (f := resetEdge task husk lvl) resetEdge_moves)))

/-! Wakes (R449, R450). -/

/-- The registers that a wake writes. -/
def wakeReach : List Nat := [Reg.PCR_WAKE_STAT, Reg.PCR_PSTATE, Reg.PCR_ERR]

theorem abortEntry_touches : Touches wakeReach s (abortEntry s) := by
  unfold abortEntry
  split
  · refine .ite (.refl s) (.after (.setRb (by decide)) (.after (.setRf (by decide)) ?_))
    exact ⟨fun _ _ => rfl, fun _ _ => rfl, rfl⟩
  · exact .refl s

theorem wake_touches {b : Nat} : Touches wakeReach s (wake b s) := by
  have hstat : Touches wakeReach s
      (setRb Reg.PCR_WAKE_STAT b true { s with pcr := { s.pcr with wokeAt := some (s.aoEdge, s.sleepState) } }) :=
    .of_regs (a := Reg.PCR_WAKE_STAT) (by decide) (fun _ h => reg_setRb_other h) rfl
  unfold wake
  dsimp only
  split
  · exact hstat.trans abortEntry_touches
  · refine hstat.trans (.of_regs (a := Reg.PCR_PSTATE) (by decide) (fun _ h => reg_setRf_other h) rfl)

theorem wakeBy_touches {b : Nat} : Touches wakeReach s (wakeBy b s) := by
  unfold wakeBy
  refine .ite wake_touches (.ite (.setRb (by decide)) (.ite ?_ (.refl s)))
  exact ⟨fun _ _ => rfl, fun _ _ => rfl, rfl⟩

/-! Levels (R339, R340). -/

/-- A change at input i interrupts and may wake. -/
def inputWakes (i : Nat) (lvl : Bool) (s : State) : State :=
  onlyIf (s.ab Reg.FIO_IN_IEN (if lvl then i else 16 + i)) (fun s => wakeBy 3 (irq .fieldInput s)) s

/-- The level of input i and its edge. -/
def levelSeen (i : Nat) (lvl : Bool) (s : State) : State :=
  orReg Reg.FIO_IN_EDGE (2 ^ (if lvl then i else 16 + i)) (setRb Reg.FIO_IN_LVL i lvl s)

theorem setLevel_eq {i : Nat} {lvl : Bool} (h : s.rb Reg.FIO_IN_LVL i ≠ lvl) :
    setLevel i lvl s = safLevel i lvl (inputWakes i lvl (levelSeen i lvl s)) := if_neg h

theorem irq_fields {q : FwIrq} : q ∈ (irq q s).fwIrq ∧ (irq q s).regs = s.regs ∧ (irq q s).fio = s.fio := by
  unfold irq
  split
  · exact ⟨‹_›, rfl, rfl⟩
  · exact ⟨List.mem_append_right _ (.head _), rfl, rfl⟩

theorem inputWakes_touches {i : Nat} {lvl : Bool} : Touches wakeReach s (inputWakes i lvl s) := by
  obtain ⟨-, hregs, hfio⟩ := irq_fields (s := s) (q := .fieldInput)
  refine .onlyIf (.trans (t := irq .fieldInput s) ⟨fun a _ => reg_congr hregs a, fun a _ => ?_, by rw [hfio]⟩ wakeBy_touches)
  rw [State.heldAt, hfio]
  rfl

theorem inputWakes_fields {i : Nat} {lvl : Bool} : (inputWakes i lvl s).fio = s.fio ∧
    (s.ab Reg.FIO_IN_IEN (if lvl then i else 16 + i) = true → .fieldInput ∈ (inputWakes i lvl s).fwIrq) := by
  obtain ⟨hirq, -, hfio⟩ := irq_fields (s := s) (q := .fieldInput)
  obtain ⟨r, c, p, hwake⟩ := wakeBy_frame (s := irq .fieldInput s) 3
  unfold inputWakes
  cases s.ab Reg.FIO_IN_IEN (if lvl then i else 16 + i)
  · exact ⟨rfl, fun h => by cases h⟩
  · rw [onlyIf_true, hwake]
    exact ⟨hfio, fun _ => hirq⟩

theorem fin_of_fio {i : Nat} (h : KeepsFio s t) : t.fin i = s.fin i := by
  obtain ⟨q, b, hfio⟩ := h
  unfold State.fin
  rw [hfio]

@[simp] theorem fin_putFin_self {i : Nat} {v : FinSt} : (putFin i v s).fin i = v := kvGet_kvPut_self

theorem setLevel_moves {i : Nat} {lvl : Bool} (hi : i < 16) (h : s.rb Reg.FIO_IN_LVL i ≠ lvl) :
    (setLevel i lvl s).rb Reg.FIO_IN_LVL i = lvl ∧
    (setLevel i lvl s).rb Reg.FIO_IN_EDGE (if lvl then i else 16 + i) = true ∧ (setLevel i lvl s).fin i = s.fin i ∧
    (s.ab Reg.FIO_IN_IEN (if lvl then i else 16 + i) = true → .fieldInput ∈ (setLevel i lvl s).fwIrq) := by
  have hsaf := safLevel_moves (s := inputWakes i lvl (levelSeen i lvl s)) (i := i) (lvl := lvl)
  have hwake := inputWakes_touches (s := levelSeen i lvl s) (i := i) (lvl := lvl)
  obtain ⟨hfio, hirq⟩ := inputWakes_fields (s := levelSeen i lvl s) (i := i) (lvl := lvl)
  have hb : (if lvl then i else 16 + i) < 32 := by split <;> omega
  rw [setLevel_eq h]
  refine ⟨?_, ?_, ?_, fun hen => ?_⟩
  · rw [hsaf.touches.rb (by decide), hwake.rb (by decide)]
    refine (rb_of_reg (reg_orReg_other (by decide))).trans ?_
    rw [rb_setRb (by omega), if_pos rfl]
  · rw [hsaf.touches.rb (by decide), hwake.rb (by decide)]
    exact rb_orReg_self hb
  · exact fin_of_fio (.trans (.of_eq hfio) hsaf.fio)
  · rw [hsaf.irq]
    exact hirq hen

section Inputs

variable (i : Fin 16)

theorem filteredLevelChange_shows {lvl : Bool} (hf : s.fieldOn = true) (hdue : s.finDue i = some lvl)
    (h : s.rb Reg.FIO_IN_LVL i ≠ lvl) : Ends (exec (.filteredLevelChange i) s) fun u => u.rb Reg.FIO_IN_LVL i = lvl ∧
      u.rb Reg.FIO_IN_EDGE (if lvl then i else 16 + i) = true ∧ (u.fin i).filt = !(s.fin i).filt ∧
      (s.ab Reg.FIO_IN_IEN (if lvl then i else 16 + i) = true → .fieldInput ∈ u.fwIrq) := by
  have hexec : exec (.filteredLevelChange i) s = done (filterChange i s) := congrArg done (onlyIf_pos hf)
  have hchange : filterChange i s = setLevel i lvl (putFin i { s.fin i with filt := !(s.fin i).filt } s) := by
    rw [filterChange, hdue]
  rw [hexec, hchange]
  obtain ⟨hlvl, hedge, hfin, hirq⟩ :=
    setLevel_moves (s := putFin i { s.fin i with filt := !(s.fin i).filt } s) (lvl := lvl) i.isLt h
  exact ends_done ⟨hlvl, hedge, by rw [hfin, fin_putFin_self], hirq⟩

theorem exec_filterSample (hf : s.fieldOn = true) : exec (.filterSample i) s = done (filterSample i s) :=
  congrArg done (onlyIf_pos hf)

theorem filterSample_counts (hf : s.fieldOn = true) (hdue : s.finDue i = none)
    (hlong : ∀ b, (s.fin i).at_ = some b → 800 * 10 ^ s.af (Reg.FIO_IN_CFG i) 5 4 * 100 ≤ (s.mtick - b) * 97) :
    Ends (exec (.filterSample i) s) fun u => u.regs = s.regs ∧
      u.fin i = { s.fin i with cnt := if (s.fin i).raw then min ((s.fin i).cnt + 1) (s.af (Reg.FIO_IN_CFG i) 15 8)
        else (s.fin i).cnt - 1, at_ := some s.mtick } := by
  have hsample : s.sampleDue i = true := by
    unfold State.sampleDue
    split
    · exact marrowReached_of_slow (hlong _ ‹_›)
    · rfl
  have hchange : filterChange i s = s := by rw [filterChange, hdue]
  rw [exec_filterSample i hf]
  unfold filterSample
  rw [hsample, if_neg (by decide), hchange]
  exact ends_done ⟨rfl, fin_putFin_self⟩

theorem filterSample_waits {b : Nat} (hf : s.fieldOn = true) (hat : (s.fin i).at_ = some b)
    (hshort : (s.mtick - b) * 103 < 800 * 10 ^ s.af (Reg.FIO_IN_CFG i) 5 4 * 100) :
    Ends (exec (.filterSample i) s) fun u => u = s := by
  have hsample : s.sampleDue i = false := by
    unfold State.sampleDue
    rw [hat]
    exact not_marrowReached_of_fast hshort
  rw [exec_filterSample i hf]
  unfold filterSample
  rw [hsample, if_pos (by decide)]
  exact ends_done rfl

/-! Raw levels and wire breaks (R336, R337, R341). -/

/-- The falling threshold of input i lies 1.0 V below the rising one (R337). -/
def State.inputThr (s : State) (i : Nat) : Nat := s.rising i - (if (s.fin i).raw then 256000 else 0)

/-- The raw level by a threshold. -/
def levelBy (thr mv : Nat) (s : State) : Bool × State :=
  if thr + 102400 ≤ 256 * mv then (true, s)
  else if 256 * mv + 102400 < thr then (false, s)
  else (s.freeBits 1 = 1, useFree s)

theorem rawLevel_eq {i mv : Nat} : rawLevel i mv s = levelBy (s.inputThr i) mv s := rfl

theorem levelBy_frame {thr mv : Nat} : (levelBy thr mv s).2.regs = s.regs ∧ (levelBy thr mv s).2.fio = s.fio := by
  unfold levelBy
  split
  · exact ⟨rfl, rfl⟩
  · split <;> exact ⟨rfl, rfl⟩

theorem levelBy_high {thr mv : Nat} (h : thr + 102400 ≤ 256 * mv) : (levelBy thr mv s).1 = true := by
  unfold levelBy
  rw [if_pos h]

theorem levelBy_low {thr mv : Nat} (h : 256 * mv + 102400 < thr) : (levelBy thr mv s).1 = false := by
  unfold levelBy
  rw [if_neg (by omega), if_pos h]

theorem rawChange_regs {lvl : Bool} : (rawChange i lvl s).SameRegs s [Reg.FIO_IN_WB] := fun a ha => by
  unfold rawChange
  cases lvl && s.fieldOn
  · rfl
  · exact (reg_setRb_other (by simpa using ha)).symm

theorem rawChange_fin {lvl : Bool} : (rawChange i lvl s).fin i = { s.fin i with raw := lvl } := by
  unfold rawChange
  cases lvl && s.fieldOn <;> exact kvGet_kvPut_self

theorem rawChange_clears (hf : s.fieldOn = true) : (rawChange i true s).rb Reg.FIO_IN_WB i = false := by
  unfold rawChange
  rw [hf, Bool.and_self, onlyIf_true, rb_setRb (by omega), if_pos rfl]

theorem rawLevelChange_follows (mv : BitVec 16) (hh : s.huskOn = true) : Ends (exec (.rawLevelChange i mv) s) fun u =>
    u.SameRegs s [Reg.FIO_IN_WB] ∧
    let thr := s.rising i - (if (s.fin i).raw then 1000 * 256 else 0)
    ∃ lvl, u.fin i = { s.fin i with raw := lvl } ∧ (thr + 400 * 256 ≤ 256 * mv.toNat → lvl = true) ∧
      (256 * mv.toNat + 400 * 256 < thr → lvl = false) ∧
      (lvl = true → s.fieldOn = true → u.rb Reg.FIO_IN_WB i = false) := by
  have hthr : s.inputThr i = s.rising i - (if (s.fin i).raw then 1000 * 256 else 0) := by simp [State.inputThr]
  rw [← hthr]
  generalize hlevel : levelBy (s.inputThr i) mv.toNat s = r
  have hexec : exec (.rawLevelChange i mv) s = done (rawChange i r.1 r.2) := by
    rw [← hlevel, ← rawLevel_eq]
    exact congrArg done (onlyIf_pos hh)
  obtain ⟨hregs, hfio⟩ := levelBy_frame (s := s) (thr := s.inputThr i) (mv := mv.toNat)
  rw [hlevel] at hregs hfio
  have hfin : r.2.fin i = s.fin i := fin_of_fio (.of_eq hfio)
  have hfield : r.2.fieldOn = s.fieldOn := domOn_of_reg (reg_congr hregs _)
  rw [hexec]
  refine ends_done ⟨fun a ha => (reg_congr hregs a).symm.trans (rawChange_regs i a ha), r.1, ?_, fun h => ?_, fun h => ?_,
    fun hlvl hf => ?_⟩
  · rw [rawChange_fin, hfin]
  · rw [← hlevel]
    exact levelBy_high h
  · rw [← hlevel]
    exact levelBy_low h
  · rw [hlvl]
    exact rawChange_clears i (hfield.trans hf)

theorem wbMeasures_on (h : s.wbMeasures i = true) : s.fieldOn = true := by
  simp only [State.wbMeasures, Bool.and_eq_true] at h
  exact h.1.1.1

theorem wireBreak_shows (h : s.wbMeasures i = true) (hwb : s.rb Reg.FIO_IN_WB i = false) :
    Ends (exec (.wireBreak i) s) fun u => u.rb Reg.FIO_IN_WB i = true ∧
      (s.sysOn = true → u.rb Reg.FIO_IN_WB (16 + i) = true) := by
  have hexec : exec (.wireBreak i) s =
      done (fioFlag 2 (16 + i) clsWarn i Reg.FIO_IN_WB (setRb Reg.FIO_IN_WB i true s)) :=
    congrArg done (onlyIf_pos (by rw [h, hwb]; rfl))
  have hreg {a : Nat} (ha : a ≠ Reg.FIO_IN_WB) : (setRb Reg.FIO_IN_WB i true s).reg a = s.reg a := reg_setRb_other ha
  have hfield : (setRb Reg.FIO_IN_WB i true s).domOn 9 = true :=
    (domOn_of_reg (hreg (by decide))).trans (wbMeasures_on i h)
  rw [hexec]
  refine ends_done ⟨fioFlag_keeps (by decide) (by omega) ((rb_setRb (by omega)).trans (if_pos rfl)), fun hs => ?_⟩
  refine fioFlag_sets (by decide) (by omega) hfield ?_ hfield
  exact (sysOn_of_regs (hreg (by decide)) (hreg (by decide)) (hreg (by decide)) rfl).trans hs

theorem wireBreakClear_clears (h : s.wbMeasures i = true) : Ends (exec (.wireBreakClear i) s) fun u =>
    u.rb Reg.FIO_IN_WB i = false ∧ u.SameRegs s [Reg.FIO_IN_WB] := by
  have hexec : exec (.wireBreakClear i) s = done (setRb Reg.FIO_IN_WB i false s) := congrArg done (onlyIf_pos h)
  rw [hexec]
  exact ends_done ⟨(rb_setRb (by omega)).trans (if_pos rfl), fun a ha => (reg_setRb_other (by simpa using ha)).symm⟩

end Inputs

/-! Thresholds (R337, R338). -/

theorem rising_fixed {i : Nat} (h : s.ab (Reg.FIO_IN_CFG i) 1 = false) :
    s.rising i = if s.ab (Reg.FIO_IN_CFG i) 0 then 8000 * 256 else 11000 * 256 := by
  unfold State.rising
  rw [h, if_neg (by decide)]

/-- A step toward any target moves a threshold by 0.25 V at most. -/
theorem thrStep_near {cur ratio vf lo hi : Nat} :
    thrStep cur ratio vf lo hi ≤ cur + 64000 ∧ cur ≤ thrStep cur ratio vf lo hi + 64000 := by
  unfold thrStep
  dsimp only
  generalize max lo (min hi (ratio * vf)) = tgt
  split <;> omega

theorem thresholdRecompute_moves (hf : s.fieldOn = true) (hh : s.huskOn = true) : Ends (exec .thresholdRecompute s) fun u =>
    (if s.tracking 0 then u.fio.thr1 ≤ s.fio.thr1 + 64000 ∧ s.fio.thr1 ≤ u.fio.thr1 + 64000 else u.fio.thr1 = 2816000) ∧
    (if s.tracking 1 then u.fio.thr3 ≤ s.fio.thr3 + 64000 ∧ s.fio.thr3 ≤ u.fio.thr3 + 64000 else u.fio.thr3 = 2048000) ∧
    u.SameRegs s [Reg.FIO_IN_THR] := by
  have hexec : exec .thresholdRecompute s = done (thrRecompute s) := congrArg done (onlyIf_pos (by rw [hf, hh]; rfl))
  have hthr1 : (thrRecompute s).fio.thr1 = if s.tracking 0 then
      thrStep s.fio.thr1 (s.af Reg.FIO_IN_TRK 7 0) (s.rf Reg.FIO_VF 15 0) 1792000 3584000 else 2816000 := rfl
  have hthr3 : (thrRecompute s).fio.thr3 = if s.tracking 1 then
      thrStep s.fio.thr3 (s.af Reg.FIO_IN_TRK 15 8) (s.rf Reg.FIO_VF 15 0) 1792000 2688000 else 2048000 := rfl
  rw [hexec]
  refine ends_done ⟨?_, ?_, fun a ha => (reg_setReg_other (by simpa using ha)).symm⟩
  · rw [hthr1]
    split
    · exact thrStep_near
    · rfl
  · rw [hthr3]
    split
    · exact thrStep_near
    · rfl

/-- Settles O45: the safety logic and the wakes that a change of level brings reach neither the registers of the inputs
nor their filters. -/
theorem fieldInputsFollowTheirFilter : Obligations.FieldInputsFollowTheirFilter := by
  unfold Obligations.FieldInputsFollowTheirFilter
  intro i s
  exact ⟨fun lvl => filteredLevelChange_shows i,
    fun hf hdue => ⟨fun hlong => filterSample_counts i hf hdue hlong, fun b hat hshort => filterSample_waits i hf hat hshort⟩,
    rising_fixed, rawLevelChange_follows i, fun h => ⟨wireBreak_shows i h, wireBreakClear_clears i h⟩, thresholdRecompute_moves⟩

end Sys2Proof.Machine
end

section
/-! Time that passes by itself, memory accesses and events: what they leave alone (R48, R53, R96, R211). -/

namespace Sys2Proof.Machine

/-! Parts of the state. -/

/-- The state without what a memory access or an event may change. -/
def State.calm (s : State) : State :=
  { s with regs := [], clk := {}, evl := {}, fwIrq := [], mi := {}, mem := {} }

/-- The state without what time that passes by itself may change. -/
def State.still (s : State) : State :=
  { s.calm with time := {}, le := {}, pods := [], dsBad := false, axes := [], net := {} }

/-- The register at a is none of the counts of the cascade ports. -/
def notPortCnt (a : Nat) : Prop := ∀ p, p < 3 → Reg.CAS_PORT_CNT p ≠ a

/-- From s to t a part of the state stays, and so do the counts of missed records of the cascade ports. -/
structure Keeps (part : State → State) (s t : State) : Prop where
  rest : part t = part s
  missed : ∀ p, p < 3 → t.rf (Reg.CAS_PORT_CNT p) 23 12 = s.rf (Reg.CAS_PORT_CNT p) 23 12

/-- A memory access or an event may lie between s and t. -/
abbrev Logs (s t : State) : Prop := Keeps State.calm s t

/-- Time may have passed by itself between s and t. -/
abbrev Passes (s t : State) : Prop := Keeps State.still s t

namespace Keeps

variable {part : State → State} {s t u : State}

theorem refl (s : State) : Keeps part s s := ⟨rfl, fun _ _ => rfl⟩

theorem trans (h : Keeps part s t) (k : Keeps part t u) : Keeps part s u :=
  ⟨k.rest.trans h.rest, fun p hp => (k.missed p hp).trans (h.missed p hp)⟩

theorem after (k : Keeps part t u) (h : Keeps part s t) : Keeps part s u := h.trans k

theorem of_regs (hregs : t.regs = s.regs) (hrest : part t = part s) : Keeps part s t :=
  ⟨hrest, fun _ _ => rf_of_reg (reg_congr hregs _)⟩

theorem onlyIf {c : Bool} {f : State → State} (h : Keeps part s (f s)) : Keeps part s (Machine.onlyIf c f s) := by
  cases c
  · exact refl s
  · exact h

theorem ite {c : Prop} [Decidable c] (h : Keeps part s t) (k : Keeps part s u) : Keeps part s (if c then t else u) := by
  split
  · exact h
  · exact k

theorem forAll {α : Type} {f : α → State → State} (h : ∀ x t, Keeps part t (f x t)) (xs : List α) :
    Keeps part s (Machine.forAll xs f s) := forAll_keeps (fun x t ht => ht.trans (h x t)) xs (refl s)

/-- Less stays where time passes. -/
theorem passes (h : Keeps State.calm s t) : Passes s t :=
  ⟨congrArg (fun x : State => ({ x with time := {}, le := {}, pods := [], dsBad := false, axes := [], net := {} } : State)) h.rest,
    h.missed⟩

end Keeps

namespace Logs

variable {s t u : State}

/-! Registers. -/

theorem setReg {a : Nat} {v : Word} (h : notPortCnt a) : Logs s (Machine.setReg a v s) :=
  ⟨rfl, fun p hp => rf_of_reg (reg_setReg_other (h p hp))⟩

theorem setRf {a hi lo v : Nat} (h : notPortCnt a) : Logs s (Machine.setRf a hi lo v s) :=
  ⟨rfl, fun p hp => rf_of_reg (reg_setRf_other (h p hp))⟩

theorem incRf {a hi lo : Nat} (h : notPortCnt a) : Logs s (Machine.incRf a hi lo s) :=
  ⟨rfl, fun p hp => rf_of_reg (reg_setReg_other (h p hp))⟩

theorem orReg {a m : Nat} (h : notPortCnt a) : Logs s (Machine.orReg a m s) :=
  ⟨rfl, fun p hp => rf_of_reg (reg_orReg_other (h p hp))⟩

/-- Low bits that are set leave the counts, whatever the register. -/
theorem orReg_low {a m : Nat} (hm : m < 2 ^ 12) : Logs s (Machine.orReg a m s) := by
  refine ⟨rfl, fun p _ => ?_⟩
  by_cases ha : Reg.CAS_PORT_CNT p = a
  · refine fld_eq_of_bits (by decide) fun b hlo hhi => ?_
    have hbit : m.testBit b = false := Nat.testBit_lt_two_pow (lt_of_lt_of_le hm (Nat.pow_le_pow_right (by decide) hlo))
    subst ha
    rw [reg_orReg_self, bit, BitVec.getLsbD_or, BitVec.getLsbD_ofNat, hbit, Bool.and_false, Bool.or_false]
    rfl
  · exact rf_of_reg (reg_orReg_other ha)

/-! Events. -/

theorem queueEv (e : Ev) (s : State) : Logs s (Machine.queueEv e s) := by
  unfold Machine.queueEv
  refine Keeps.after (Keeps.onlyIf ?_) (Keeps.of_regs rfl rfl)
  exact (incRf (a := Reg.EVL_LOST) (by unfold notPortCnt; decide)).trans (Keeps.of_regs rfl rfl)

theorem event {code cls inst x y : Nat} : Logs s (Machine.event code cls inst x y s) := by
  unfold Machine.event pushEv
  split
  · exact Keeps.of_regs rfl rfl
  · exact queueEv _ s

theorem flagEvent {src reg b cls inst a : Nat} (h : notPortCnt a) :
    Logs s (Machine.flagEvent src reg b cls inst a s) := (orReg h).trans event

theorem flagEvent_low {src reg b cls inst a : Nat} (hb : b < 12) :
    Logs s (Machine.flagEvent src reg b cls inst a s) := (orReg_low (Nat.pow_lt_pow_right (by decide) hb)).trans event

theorem stickyEvent {src reg b cls inst a : Nat} (h : notPortCnt a) :
    Logs s (Machine.stickyEvent src reg b cls inst a s) := .ite (orReg h) (flagEvent h)

theorem irq {i : FwIrq} : Logs s (Machine.irq i s) := by
  unfold Machine.irq
  split <;> exact Keeps.of_regs rfl rfl

/-! Memory. -/

theorem memErr {b inst : Nat} : Logs s (Machine.memErr b inst s) :=
  (flagEvent (a := Reg.MEM_ERR) (by unfold notPortCnt; decide)).trans (.onlyIf irq)

theorem memElog {m agent chan a : Nat} {r : RdOut} : Logs s (Machine.memElog m agent chan a r s) :=
  .onlyIf ((setReg (by unfold notPortCnt; decide)).trans (setReg (by unfold notPortCnt; decide)))

theorem logRead {m agent chan a : Nat} {r : RdOut} (hm : m < 9) : Logs s (Machine.logRead m agent chan a r s) := by
  have hce : notPortCnt (Reg.MEM_CE_CNT m) := fun p _ => by unfold Reg.CAS_PORT_CNT Reg.MEM_CE_CNT; omega
  have hue : notPortCnt (Reg.MEM_UE_CNT m) := fun p _ => by unfold Reg.CAS_PORT_CNT Reg.MEM_UE_CNT; omega
  have hrom : notPortCnt Reg.MEM_ROM_CNT := by unfold notPortCnt; decide
  have hclog : notPortCnt Reg.MEM_CLOG := by unfold notPortCnt; decide
  unfold Machine.logRead
  split
  · exact .refl s
  · dsimp only
    split
    · exact memErr.after ((incRf hrom).after (setReg hclog))
    · split <;> exact memErr.after ((incRf hce).after (setReg hclog))
  · dsimp only
    split
    · exact memErr.after ((incRf hrom).after memElog)
    · exact memErr.after ((incRf hue).after memElog)
  · have hue' : Logs s { s with mi := { s.mi with ueCycle := true } } := .of_regs rfl rfl
    dsimp only
    split
    · exact memErr.after ((incRf hrom).after (memElog.after hue'))
    · exact memErr.after ((incRf hue).after (memElog.after hue'))

theorem readWord {agent chan a : Nat} : Logs s (Machine.readWord agent chan a s).2 := by
  unfold Machine.readWord
  split
  · exact logRead (memOf_range ‹_›).1
  · exact .refl s

theorem read32 {agent chan a : Nat} : Logs s (Machine.read32 agent chan a s).2 := readWord

theorem putBytes {a v n : Nat} : Logs s (Machine.putBytes a v n s) := by
  induction n generalizing a v s with
  | zero => exact .refl s
  | succ n ih => exact ih.after (.of_regs (s := s) rfl rfl)

theorem storeWord {a v : Nat} {k : Bool} : Logs s (Machine.storeWord a v k s) := putBytes.trans (.of_regs rfl rfl)

theorem writeMasked {a v m : Nat} {k : Bool} : Logs s (Machine.writeMasked a v m k s) := by
  unfold Machine.writeMasked
  split
  · exact storeWord
  · exact readWord.trans storeWord

theorem write32 {a v : Nat} {k : Bool} : Logs s (Machine.write32 a v k s) := by
  unfold Machine.write32
  split <;> exact writeMasked

theorem put32 {a v : Nat} {k : Bool} : Logs s (Machine.put32 a v k s) := write32.after (.of_regs rfl rfl)

theorem writeNet (w : Nat) (vs : List Nat) (s : State) : Logs s (Machine.writeNet w vs s) := by
  induction vs generalizing w s with
  | nil => exact .refl s
  | cons v vs ih => exact put32.trans (ih _ _)

theorem mergeSecond {a v : Nat} {k : Bool} : Logs s (Machine.mergeSecond a v k s) := by
  unfold Machine.mergeSecond
  exact storeWord

end Logs

/-! Time that passes by itself. -/

namespace Passes

variable {s t u : State}

theorem commandReady {n ob cyc tick : Nat} : Passes s (Machine.commandReady n ob cyc tick s) := by
  have hput (t : State) (v : AxSt) : Passes t (putAx n v t) := .of_regs rfl rfl
  unfold Machine.commandReady
  dsimp only
  split
  · exact (Logs.put32.trans (Logs.writeNet _ _ _)).passes.trans (hput _ _)
  · exact Logs.put32.passes.trans (hput _ _)

theorem landAt {w : PendWr} {a : Nat} {k : Bool} : Passes s (Machine.landAt w a k s) := by
  have hnote : Passes s (noteWord w.due a (noteHit w.due a s)) := .of_regs rfl rfl
  unfold Machine.landAt
  exact .ite (hnote.trans Logs.mergeSecond.passes) (hnote.trans Logs.write32.passes)

theorem podFlags {p f : Nat} : Passes s (Machine.podFlags p f s) := by
  have hp : notPortCnt (Reg.LE_FLAGS p) := fun q _ => by unfold Reg.CAS_PORT_CNT Reg.LE_FLAGS; omega
  have hflag (t : State) (b : Nat) : Logs t (irq (.loopEngine p b) (regEvent 0 0 b clsWarn p (Reg.LE_FLAGS p) t)) :=
    Logs.event.trans Logs.irq
  exact ((Logs.orReg hp).trans (.forAll (fun b t => .onlyIf (hflag t b)) _)).passes

theorem putCtx {n : Nat} {c : Ctx} (hn : n < 64) : Passes s (Machine.putCtx n c s) := by
  have hc : notPortCnt (Reg.LE_CTX_STAT n) := fun p _ => by unfold Reg.CAS_PORT_CNT Reg.LE_CTX_STAT; omega
  have hp : notPortCnt (Reg.LE_POD_STAT (ctxPod n)) := fun p _ => by unfold Reg.CAS_PORT_CNT Reg.LE_POD_STAT ctxPod; omega
  have hput : Passes s { s with le := { s.le with ctxs := kvPut (fun _ => {}) s.le.ctxs n c } } := .of_regs rfl rfl
  exact hput.trans ((Logs.setReg hc).trans (Logs.setRf hp)).passes

theorem ctxFlags {n p f : Nat} : Passes s (Machine.ctxFlags n p f s) := by
  refine .trans ?_ podFlags
  by_cases hn : n < 64
  · exact .onlyIf (putCtx hn)
  · rw [onlyIf_neg (by simpa using hn)]
    exact .refl s

theorem landWrite {w : PendWr} : Passes s (Machine.landWrite w s) := by
  have hadd (t : State) (w : PendWr) : Passes t (addWrite w t) := .of_regs rfl rfl
  unfold Machine.landWrite
  split
  · exact landAt
  · exact landAt.trans (.onlyIf (hadd _ _))
  · exact ctxFlags
  · exact commandReady

theorem toTick {n : Nat} : Passes s (Machine.toTick n s) := .of_regs rfl rfl

theorem landFirst (m n : Nat) (s : State) : Passes s (Machine.landFirst m n s) := by
  induction n generalizing s with
  | zero => exact .refl s
  | succ n ih =>
    unfold Machine.landFirst
    split
    · exact .refl s
    · rename_i w ws _
      have htaken : Passes s (Machine.toTick w.due { s with le := { s.le with writes := ws } }) := .of_regs rfl rfl
      split
      · refine (ih _).after ?_
        split
        · exact podFlags.after htaken
        · exact landWrite.after htaken
      · exact .refl s

theorem landUpTo {m : Nat} : Passes s (Machine.landUpTo m s) := landFirst _ _ s

theorem lateEntry {p : Nat} {e : QEnt} : Passes s (Machine.lateEntry p e s) := by
  have hinfo : notPortCnt (Reg.DS_FLT_INFO p) := fun q _ => by unfold Reg.CAS_PORT_CNT Reg.DS_FLT_INFO; omega
  have herr : notPortCnt (Reg.DS_ERR p) := fun q _ => by unfold Reg.CAS_PORT_CNT Reg.DS_ERR; omega
  have hcnt : notPortCnt (Reg.DS_CNT p) := fun q _ => by unfold Reg.CAS_PORT_CNT Reg.DS_CNT; omega
  have hput (v : PodSt) : Passes s (putPod p v s) := .of_regs rfl rfl
  have hbad (t : State) : Passes t { t with dsBad := true } := .of_regs rfl rfl
  have hmark (t : State) : Passes t (dsMark p 0 e.idx e.desc.axis t) := by
    unfold dsMark
    exact ((Logs.setReg hinfo).trans (Logs.orReg herr)).passes.trans (.onlyIf (hbad _))
  unfold Machine.lateEntry
  exact (hput _).trans ((hmark _).trans (Logs.event.trans (Logs.incRf hcnt)).passes)

theorem latesUpTo (m n : Nat) (s : State) : Passes s (Machine.latesUpTo m n s) := by
  induction n generalizing s with
  | zero => exact .refl s
  | succ n ih =>
    unfold Machine.latesUpTo
    split
    · split
      · exact ((landUpTo.trans toTick).trans lateEntry).trans (ih _)
      · exact .refl s
    · exact .refl s

/-- The miss of an echo, whose ring may be any number. -/
theorem missedEcho {r : Nat} : Passes s (netErr r 5 s) := by
  have hseq : notPortCnt (Reg.NET_CNT_SEQ r) := fun p _ => by unfold Reg.CAS_PORT_CNT Reg.NET_CNT_SEQ; omega
  exact ((Logs.flagEvent_low (by decide)).trans (Logs.incRf hseq)).passes

theorem runTo {m : Nat} : Passes s (Machine.runTo m s) := (latesUpTo _ _ s).trans (landUpTo.trans toTick)

theorem echoesUpTo (m n : Nat) (s : State) : Passes s (Machine.echoesUpTo m n s) := by
  have htake (t : State) (es : List EchoPend) : Passes t { t with net := { t.net with echoes := es } } := .of_regs rfl rfl
  induction n generalizing s with
  | zero => exact .refl s
  | succ n ih =>
    unfold Machine.echoesUpTo
    split
    · split
      · exact (ih _).after (missedEcho.after (runTo.trans (htake _ _)))
      · exact .refl s
    · exact .refl s

theorem advanceTo {m : Nat} : Passes s (Machine.advanceTo m s) := by
  unfold Machine.advanceTo
  split
  · exact .refl s
  · exact (echoesUpTo _ _ s).trans runTo

theorem advanceNs {n : Nat} : Passes s (Machine.advanceNs n s) := by
  unfold Machine.advanceNs
  split
  · exact .refl s
  · exact advanceTo.trans (.of_regs rfl rfl)

end Passes

section Reached

variable {s : State}

theorem toTick_tick {m : Nat} : (toTick m s).time.tick = max s.time.tick m := by
  have h : (toTick m s).time.tick = s.time.tick + (m - s.time.tick) := rfl
  omega

theorem advanceTo_tick {m : Nat} : m ≤ (advanceTo m s).time.tick := by
  unfold advanceTo
  split
  · assumption
  · unfold runTo
    dsimp only
    rw [toTick_tick]
    exact le_max_right _ _

theorem advanceNs_ns {n : Nat} : n ≤ (advanceNs n s).time.ns := by
  unfold advanceNs
  split
  · assumption
  · dsimp only
    omega

end Reached

end Sys2Proof.Machine
end

section
/-! The output phase, steps and emulated edges (R160 to R163, R189 to R191). -/

namespace Sys2Proof.Machine

variable {s t u : State}

/-! What an output phase leaves alone (R161 to R163, R189, R190). -/

/-- The state without what the output phase at a step pair may change. -/
def State.offPhase (s : State) : State := { s.calm with axes := [], steps := [] }

/-- The parts of an axis that an output phase reads. -/
def AxSt.seen (v : AxSt) : Option (Nat × Nat) × Option Nat × Option (Nat × Nat) := (v.ready, v.psnCyc, v.fbPos)

/-- An output phase at the pairs of a list may lie between s and t. -/
structure PairPhase (ps : List Nat) (s t : State) : Prop where
  rest : t.offPhase = s.offPhase
  axes : ∀ n, (t.ax n).seen = (s.ax n).seen
  steps : ∀ q, q ∉ ps → t.step q = s.step q

namespace PairPhase

variable {ps qs : List Nat}

theorem refl (s : State) : PairPhase ps s s := ⟨rfl, fun _ => rfl, fun _ _ => rfl⟩

theorem trans (h : PairPhase ps s t) (k : PairPhase ps t u) : PairPhase ps s u :=
  ⟨k.rest.trans h.rest, fun n => (k.axes n).trans (h.axes n), fun q hq => (k.steps q hq).trans (h.steps q hq)⟩

theorem mono (h : PairPhase ps s t) (hsub : ps ⊆ qs) : PairPhase qs s t :=
  ⟨h.rest, h.axes, fun q hq => h.steps q fun hin => hq (hsub hin)⟩

theorem of_logs (h : Logs s t) : PairPhase ps s t where
  rest := congrArg (fun x : State => ({ x with axes := [], steps := [] } : State)) h.rest
  axes n := (congrArg (fun x : State => (x.ax n).seen) h.rest :)
  steps q _ := (congrArg (fun x : State => x.step q) h.rest :)

theorem putAx {n : Nat} {v : AxSt} (h : v.seen = (s.ax n).seen) : PairPhase ps s (Machine.putAx n v s) := by
  refine ⟨rfl, fun m => ?_, fun _ _ => rfl⟩
  by_cases hm : m = n
  · subst hm
    exact (congrArg AxSt.seen kvGet_kvPut_self).trans h
  · exact congrArg AxSt.seen (kvGet_kvPut_other hm)

theorem putStep {p : Nat} {v : StepSt} : PairPhase [p] s (Machine.putStep p v s) :=
  ⟨rfl, fun _ => rfl, fun q hq => kvGet_kvPut_other (by simpa using hq)⟩

theorem onlyIf {c : Bool} {f : State → State} (h : PairPhase ps s (f s)) : PairPhase ps s (Machine.onlyIf c f s) := by
  cases c
  · exact refl s
  · exact h

theorem actv (h : PairPhase ps s t) : t.actv = s.actv := (congrArg State.actv h.rest :)

theorem time (h : PairPhase ps s t) : t.time = s.time := (congrArg State.time h.rest :)

theorem stepAxis (h : PairPhase ps s t) (p : Nat) : t.stepAxis p = s.stepAxis p := by
  unfold State.stepAxis State.af State.act
  rw [h.actv]

theorem cyc (h : PairPhase ps s t) : t.cyc = s.cyc := by
  unfold State.cyc State.clen State.nsNow State.af State.act
  rw [h.actv, h.time]

end PairPhase

/-- An axis is ready by its READY and PSN alone. -/
theorem cmdReady_of_seen {n cyc tick : Nat} (h : (t.ax n).seen = (s.ax n).seen) :
    t.cmdReady n cyc tick = s.cmdReady n cyc tick := by
  obtain ⟨hready, hpsn, -⟩ : (t.ax n).ready = (s.ax n).ready ∧ (t.ax n).psnCyc = (s.ax n).psnCyc ∧
    (t.ax n).fbPos = (s.ax n).fbPos := by simpa [AxSt.seen] using h
  unfold State.cmdReady
  rw [hready, hpsn]

theorem stepAxis_lt {p n : Nat} (h : s.stepAxis p = some n) : n < 256 := List.mem_range.1 (List.mem_of_find?_eq_some h)

/-! The parts of the phase. -/

section Pair

variable {ps : List Nat} {n : Nat} (hn : n < 256)
include hn

theorem axTrip_phase {b : Nat} {c : Bool} : PairPhase ps s (axTripIf c n b s) := by
  have hstat : notPortCnt (Reg.AX_STAT n) := fun p _ => by unfold Reg.CAS_PORT_CNT Reg.AX_STAT; omega
  have hfault : notPortCnt (Reg.AX_FAULT n) := fun p _ => by unfold Reg.CAS_PORT_CNT Reg.AX_FAULT; omega
  have hput (t : State) : PairPhase ps t (putAx n { t.ax n with trips := (t.ax n).trips ||| 2 ^ b } t) := .putAx rfl
  exact .onlyIf ((PairPhase.of_logs ((Logs.orReg hstat).trans (Logs.flagEvent hfault))).trans (hput _))

theorem pgFlag_phase {b : Nat} {c : Bool} : PairPhase ps s (onlyIf c (pgFlag n b) s) := by
  have hstat : notPortCnt (Reg.PG_STAT n) := fun p _ => by unfold Reg.CAS_PORT_CNT Reg.PG_STAT; omega
  exact .onlyIf (.of_logs (Logs.stickyEvent hstat))

omit hn in
theorem retainCopy_phase {ws : Nat × Nat × Nat × Nat} : PairPhase ps s (retainCopy n ws s) := by
  unfold retainCopy
  split
  · exact .putAx rfl
  · exact .refl s

omit hn in
theorem stepRecord_phase : PairPhase ps s (stepRecord n s).2 := by
  have hread (t : State) (a : Nat) : PairPhase ps t (read32 12 0 a t).2 := .of_logs .read32
  unfold stepRecord
  split
  · split
    · exact .refl s
    · dsimp only
      split
      · exact ((((hread _ _).trans (hread _ _)).trans (hread _ _)).trans (hread _ _)).trans retainCopy_phase
      · exact (((hread _ _).trans (hread _ _)).trans (hread _ _)).trans (hread _ _)
  · exact .refl s

omit hn in
theorem writeAxisElem_phase {ofs v : Nat} : PairPhase ps s (writeAxisElem n ofs v s) := by
  unfold writeAxisElem
  split
  · exact .of_logs .put32
  · exact .refl s

end Pair

theorem showStep_phase {p : Nat} : PairPhase [p] s (showStep p s) := by
  unfold showStep
  split <;> exact .putStep

theorem showStep_counts {p : Nat} : ((showStep p s).step p).left = (s.step p).left ∧
    ((showStep p s).step p).carried = (s.step p).carried ∧ ((showStep p s).step p).spos = (s.step p).spos := by
  unfold showStep
  split <;> (rw [State.step, putStep, kvGet_kvPut_self]; exact ⟨rfl, rfl, rfl⟩)

/-- A record of no steps leaves what is carried, with the steps of the record before. -/
theorem stepLoad_none {v : StepSt} {miniv dsu now iv ph : Nat} {neg : Bool} {div : Int} :
    (stepLoad v miniv dsu now 0 neg iv div ph).left = 0 ∧
    (stepLoad v miniv dsu now 0 neg iv div ph).carried = stepCarry v := by
  unfold stepLoad
  dsimp only
  split <;> exact ⟨rfl, rfl⟩

/-- The state in which pair p takes the record r of axis n. -/
def pairLoads (p n : Nat) (r : Option (Nat × Nat × Nat × Nat)) (s : State) : State :=
  let s := axTripIf r.isNone n 6 s
  onlyIf (!(stepCarry (s.step p)).isEmpty) (pgFlag n 17) s

/-- What pair p holds once it has taken the record r. -/
def pairLoaded (p : Nat) (r : Option (Nat × Nat × Nat × Nat)) (s : State) : StepSt :=
  let (w1, w2, w3, w4) := r.getD (0, 0, 0, 0)
  let k := toSigned 32 w1
  stepLoad (s.step p) (s.minIv p) (s.dsu p) s.time.tick k.natAbs (k < 0) w2 (toSigned 32 w3) w4

theorem stepOutputPhase_eq {p n : Nat} (h : s.stepAxis p = some n) : stepOutputPhase p s =
    let u := pairLoads p n (stepRecord n s).1 (stepRecord n s).2
    let v := pairLoaded p (stepRecord n s).1 u
    writeAxisElem n 0x7E v.sacc (showStep p (putStep p v u)) := by
  unfold stepOutputPhase
  rw [h]
  rfl

theorem pairLoads_phase {p n : Nat} {r : Option (Nat × Nat × Nat × Nat)} (hn : n < 256) {ps : List Nat} :
    PairPhase ps s (pairLoads p n r s) := (axTrip_phase hn).trans (pgFlag_phase hn)

theorem stepOutputPhase_phase {p : Nat} : PairPhase [p] s (stepOutputPhase p s) := by
  cases h : s.stepAxis p with
  | none =>
    unfold stepOutputPhase
    rw [h]
    exact .refl s
  | some n =>
    rw [stepOutputPhase_eq h]
    exact (stepRecord_phase.trans (pairLoads_phase (stepAxis_lt h))).trans
      (.trans .putStep (.trans showStep_phase writeAxisElem_phase))

/-- R163: a pair without a ready record takes no steps and keeps those left over. -/
theorem stepOutputPhase_unready {p n : Nat} (h : s.stepAxis p = some n) (hready : s.cmdReady n s.cyc s.time.tick = false) :
    ((stepOutputPhase p s).step p).left = 0 ∧ ((stepOutputPhase p s).step p).carried = stepCarry (s.step p) := by
  have hnone : stepRecord n s = (none, s) := by
    unfold stepRecord
    rw [hready, if_neg (by decide)]
  rw [stepOutputPhase_eq h, hnone]
  dsimp only
  generalize hu : pairLoads p n none s = u
  have hstep : u.step p = s.step p := by
    rw [← hu]
    exact (pairLoads_phase (stepAxis_lt h) (ps := [])).steps p (by simp)
  rw [(writeAxisElem_phase (ps := [])).steps p (by simp), showStep_counts.1, showStep_counts.2.1, State.step, putStep,
    kvGet_kvPut_self, ← hstep]
  exact stepLoad_none

theorem forAll_pairs {ps : List Nat} : PairPhase ps s (forAll ps stepOutputPhase s) := by
  induction ps generalizing s with
  | nil => exact .refl s
  | cons p ps ih => exact (stepOutputPhase_phase.mono (by simp)).trans (ih.mono (by simp))

/-- In a run over different pairs each finds its own state as before. -/
theorem forAll_pair {ps : List Nat} {p n : Nat} (hnodup : ps.Nodup) (hp : p ∈ ps) (h : s.stepAxis p = some n)
    (hready : s.cmdReady n s.cyc s.time.tick = false) : ((forAll ps stepOutputPhase s).step p).left = 0 ∧
    ((forAll ps stepOutputPhase s).step p).carried = stepCarry (s.step p) := by
  induction ps generalizing s with
  | nil => cases hp
  | cons q qs ih =>
    obtain ⟨hq, hqs⟩ := List.nodup_cons.1 hnodup
    rw [forAll_cons]
    by_cases hpq : p = q
    · subst hpq
      rw [forAll_pairs.steps p hq]
      exact stepOutputPhase_unready h hready
    · have hphase := stepOutputPhase_phase (s := s) (p := q)
      rw [← hphase.steps p (by simpa using hpq)]
      refine ih hqs ((List.mem_cons.1 hp).resolve_left hpq) ((hphase.stepAxis p).trans h) ?_
      rw [cmdReady_of_seen (hphase.axes n), hphase.cyc, hphase.time]
      exact hready

/-! Emulation outputs (R189, R190). -/

/-- The state without what an emulation output may change. -/
def State.offEmu (s : State) : State := { s.calm with emus := [] }

/-- Output e may have moved between s and t. -/
structure EmuPhase (e : Nat) (s t : State) : Prop where
  rest : t.offEmu = s.offEmu
  emus : ∀ k, k ≠ e → t.emu k = s.emu k

namespace EmuPhase

variable {e : Nat}

theorem of_logs (h : Logs s t) : EmuPhase e s t where
  rest := congrArg (fun x : State => ({ x with emus := [] } : State)) h.rest
  emus k _ := (congrArg (fun x : State => x.emu k) h.rest :)

theorem putEmu {v : EmuSt} : EmuPhase e s (Machine.putEmu e v s) := ⟨rfl, fun _ hk => kvGet_kvPut_other hk⟩

theorem trans (h : EmuPhase e s t) (k : EmuPhase e t u) : EmuPhase e s u :=
  ⟨k.rest.trans h.rest, fun j hj => (k.emus j hj).trans (h.emus j hj)⟩

theorem actv (h : EmuPhase e s t) : t.actv = s.actv := (congrArg State.actv h.rest :)

theorem time (h : EmuPhase e s t) : t.time = s.time := (congrArg State.time h.rest :)

theorem steps (h : EmuPhase e s t) : t.steps = s.steps := (congrArg State.steps h.rest :)

theorem chans (h : EmuPhase e s t) : t.chans = s.chans := (congrArg State.chans h.rest :)

theorem axes (h : EmuPhase e s t) : t.axes = s.axes := (congrArg State.axes h.rest :)

end EmuPhase

@[simp] theorem emu_putEmu_self {e : Nat} {v : EmuSt} : (putEmu e v s).emu e = v := kvGet_kvPut_self

@[simp] theorem step_putStep_self {p : Nat} {v : StepSt} : (putStep p v s).step p = v := kvGet_kvPut_self

theorem emuOutputPhase_phase {e : Nat} : EmuPhase e s (emuOutputPhase e s) := by
  have hstat : notPortCnt (Reg.FB_EMU_STAT e) := fun p _ => by unfold Reg.CAS_PORT_CNT Reg.FB_EMU_STAT; omega
  unfold emuOutputPhase
  split
  · exact .putEmu
  · dsimp only
    split
    · exact .of_logs (.refl s)
    · exact .putEmu
    · exact (EmuPhase.of_logs (Keeps.onlyIf (Logs.stickyEvent hstat))).trans .putEmu

/-- The source of an output depends on the channels, the fed-back positions, the cycle and the active copies. -/
theorem emuSource_congr {e : Nat} (hactv : t.actv = s.actv) (htime : t.time = s.time) (hchans : t.chans = s.chans)
    (haxes : ∀ n, (t.ax n).fbPos = (s.ax n).fbPos) : t.emuSource e = s.emuSource e := by
  have hchan (i : Nat) : t.chan i = s.chan i := by
    unfold State.chan
    rw [hchans]
  have hcyc : t.cyc = s.cyc := by
    unfold State.cyc State.clen State.nsNow State.af State.act
    rw [hactv, htime]
  have haf (a hi lo : Nat) : t.af a hi lo = s.af a hi lo := by
    unfold State.af State.act
    rw [hactv]
  unfold State.emuSource
  simp only [haf, hchan, haxes, hcyc]

theorem emuOutputPhase_off {e : Nat} (h : s.ab (Reg.FB_EMU_CTL e) 0 = false) : (emuOutputPhase e s).emu e = {} := by
  have hoff : emuOutputPhase e s = putEmu e {} s := by
    unfold emuOutputPhase
    rw [h, Bool.not_false, if_pos rfl]
  rw [hoff, emu_putEmu_self]

theorem emuOutputPhase_first {e x : Nat} (h : s.ab (Reg.FB_EMU_CTL e) 0 = true) (hnone : (s.emu e).src = none)
    (hx : s.emuSource e = some x) : ((emuOutputPhase e s).emu e).src = some x := by
  have htaken : emuOutputPhase e s = putEmu e { s.emu e with src := some x } s := by
    unfold emuOutputPhase
    rw [h, if_neg (by decide)]
    dsimp only
    rw [hnone, hx]
  rw [htaken, emu_putEmu_self]

/-- Both outputs: the second finds what the first read. -/
theorem emuPhases {e : Nat} (he : e < 2) :
    (s.ab (Reg.FB_EMU_CTL e) 0 = false → (forAll (List.range 2) emuOutputPhase s).emu e = {}) ∧
    (∀ x, s.ab (Reg.FB_EMU_CTL e) 0 = true → (s.emu e).src = none → s.emuSource e = some x →
      ((forAll (List.range 2) emuOutputPhase s).emu e).src = some x) := by
  have hfirst := emuOutputPhase_phase (s := s) (e := 0)
  have hsecond := emuOutputPhase_phase (s := emuOutputPhase 0 s) (e := 1)
  have hall : forAll (List.range 2) emuOutputPhase s = emuOutputPhase 1 (emuOutputPhase 0 s) := rfl
  rw [hall]
  have hcases : e = 0 ∨ e = 1 := by omega
  obtain rfl | rfl := hcases
  · rw [hsecond.emus 0 (by decide)]
    exact ⟨emuOutputPhase_off, fun x => emuOutputPhase_first⟩
  · have hab : (emuOutputPhase 0 s).ab (Reg.FB_EMU_CTL 1) 0 = s.ab (Reg.FB_EMU_CTL 1) 0 := by
      unfold State.ab State.act
      rw [hfirst.actv]
    have hsource : (emuOutputPhase 0 s).emuSource 1 = s.emuSource 1 :=
      emuSource_congr hfirst.actv hfirst.time hfirst.chans fun n => by
        unfold State.ax
        rw [hfirst.axes]
    rw [← hab, ← hfirst.emus 1 (by decide), ← hsource]
    exact ⟨emuOutputPhase_off, fun x => emuOutputPhase_first⟩

/-! The commands. -/

section Commands

variable (hl : s.loopOn = true) (hd : s.domOn 1 = true)
include hl hd

theorem exec_outputPhase (hrun : s.running = true) : exec .outputPhase s = done (outputPhase s) :=
  congrArg done (onlyIf_pos (by rw [hl, hrun, hd]; rfl))

theorem exec_stepIssue {p : Fin 8} : exec (.stepIssue p) s = done (stepIssue p s) :=
  congrArg done (onlyIf_pos (by rw [hl, hd]; rfl))

theorem exec_stepPulseEnd {p : Fin 8} : exec (.stepPulseEnd p) s = done (stepPulseEnd p s) :=
  congrArg done (onlyIf_pos (by rw [hl, hd]; rfl))

theorem exec_emulationEdge {e : Fin 2} (hen : s.ab (Reg.FB_EMU_CTL e) 0 = true)
    (hwork : (s.emu e).carried ≠ [] ∨ (s.emu e).left ≠ 0) : exec (.emulationEdge e) s = done (emuEdge e s) := by
  have hcond : ((s.emu e).left ≠ 0 || !(s.emu e).carried.isEmpty) = true := by
    rcases hwork with h | h <;> simp [h]
  refine congrArg done (onlyIf_pos ?_)
  rw [hl, hd, hen]
  exact hcond

end Commands

theorem not_inReset_of_loopOn (h : s.loopOn = true) : s.pcr.inReset = false := by
  simp only [State.loopOn, State.sysOn, Bool.and_eq_true, Bool.not_eq_true'] at h
  exact h.1.2

namespace Passes

theorem actv (h : Passes s t) : t.actv = s.actv := (congrArg State.actv h.rest :)
theorem steps (h : Passes s t) : t.steps = s.steps := (congrArg State.steps h.rest :)
theorem emus (h : Passes s t) : t.emus = s.emus := (congrArg State.emus h.rest :)
theorem pcr (h : Passes s t) : t.pcr = s.pcr := (congrArg State.pcr h.rest :)
theorem ab (h : Passes s t) (a b : Nat) : t.ab a b = s.ab a b := congrArg (bit · b) (act_congr h.actv a)
theorem af (h : Passes s t) (a hi lo : Nat) : t.af a hi lo = s.af a hi lo := congrArg (fld · hi lo) (act_congr h.actv a)
theorem step (h : Passes s t) (p : Nat) : t.step p = s.step p := congrArg (kvGet _ · p) h.steps
theorem emu (h : Passes s t) (e : Nat) : t.emu e = s.emu e := congrArg (kvGet _ · e) h.emus

theorem stepAxis (h : Passes s t) (p : Nat) : t.stepAxis p = s.stepAxis p := by
  unfold State.stepAxis
  simp only [h.af]

end Passes

theorem step_settle {p : Nat} : (settle s).step p = s.step p := congrArg (kvGet _ · p) (settle_steps s)

theorem emu_settle {e : Nat} : (settle s).emu e = s.emu e := congrArg (kvGet _ · e) (settle_emus s)

/-- Both parts of the output phase. -/
def outputsTaken (u : State) : State := forAll (List.range 2) emuOutputPhase (forAll (List.range 8) stepOutputPhase u)

theorem outputPhase_eq : outputPhase s = outputsTaken (advanceNs (s.cycStart + s.af Reg.SLT_OPH 15 0 * (125 * 2 ^ 29)) s) := rfl

theorem emuRange_eq : forAll (List.range 2) emuOutputPhase s = emuOutputPhase 1 (emuOutputPhase 0 s) := rfl

theorem emuRange_frame : (forAll (List.range 2) emuOutputPhase s).time = s.time ∧
    (forAll (List.range 2) emuOutputPhase s).steps = s.steps := by
  have hfirst := emuOutputPhase_phase (s := s) (e := 0)
  have hsecond := emuOutputPhase_phase (s := emuOutputPhase 0 s) (e := 1)
  rw [emuRange_eq]
  exact ⟨hsecond.time.trans hfirst.time, hsecond.steps.trans hfirst.steps⟩

theorem outputsTaken_time : (outputsTaken s).time = s.time := emuRange_frame.1.trans forAll_pairs.time

theorem outputsTaken_pair {p n : Nat} (hp : p < 8) (hn : s.stepAxis p = some n)
    (hready : s.cmdReady n s.cyc s.time.tick = false) :
    ((outputsTaken s).step p).left = 0 ∧ ((outputsTaken s).step p).carried = stepCarry (s.step p) := by
  have hstep : (outputsTaken s).step p = (forAll (List.range 8) stepOutputPhase s).step p :=
    congrArg (kvGet _ · p) emuRange_frame.2
  rw [hstep]
  exact forAll_pair List.nodup_range (List.mem_range.2 hp) hn hready

theorem outputsTaken_emu {e : Nat} (he : e < 2) : (s.ab (Reg.FB_EMU_CTL e) 0 = false → (outputsTaken s).emu e = {}) ∧
    (∀ x, s.ab (Reg.FB_EMU_CTL e) 0 = true → (s.emu e).src = none → s.emuSource e = some x →
      ((outputsTaken s).emu e).src = some x) := by
  have hpairs := forAll_pairs (s := s) (ps := List.range 8)
  have hsame : (forAll (List.range 8) stepOutputPhase s).emu e = s.emu e := (congrArg (fun x : State => x.emu e) hpairs.rest :)
  have hab : (forAll (List.range 8) stepOutputPhase s).ab (Reg.FB_EMU_CTL e) 0 = s.ab (Reg.FB_EMU_CTL e) 0 :=
    congrArg (bit · 0) (act_congr hpairs.actv _)
  have hsource : (forAll (List.range 8) stepOutputPhase s).emuSource e = s.emuSource e :=
    emuSource_congr hpairs.actv hpairs.time (congrArg State.chans hpairs.rest :) fun n =>
      (congrArg (fun x => x.2.2) (hpairs.axes n) :)
  rw [← hab, ← hsame, ← hsource]
  exact emuPhases he

theorem outputPhase_takes (hl : s.loopOn = true) (hd : s.domOn 1 = true) (hrun : s.running = true) :
    let u := advanceNs (s.cycStart + s.af Reg.SLT_OPH 15 0 * (125 * 2 ^ 29)) s
    Answers (exec .outputPhase s) fun t => s.cycStart + s.af Reg.SLT_OPH 15 0 * (125 * 2 ^ 29) ≤ t.time.ns ∧
      (∀ p n, p < 8 → s.stepAxis p = some n → u.cmdReady n u.cyc u.time.tick = false →
        (t.step p).left = 0 ∧ (t.step p).carried = stepCarry (s.step p)) ∧
      ∀ e, e < 2 → (s.ab (Reg.FB_EMU_CTL e) 0 = false → t.emu e = {}) ∧
        (∀ x, s.ab (Reg.FB_EMU_CTL e) 0 = true → (s.emu e).src = none → u.emuSource e = some x →
          (t.emu e).src = some x) := by
  rw [exec_outputPhase hl hd hrun, outputPhase_eq]
  generalize s.cycStart + s.af Reg.SLT_OPH 15 0 * (125 * 2 ^ 29) = n
  have hpass : Passes s (advanceNs n s) := .advanceNs
  refine answers_done ⟨?_, fun p n hp hn hready => ?_, fun e he => ?_⟩
  · rw [settle_time, outputsTaken_time]
    exact advanceNs_ns
  · rw [step_settle, ← hpass.step p]
    exact outputsTaken_pair hp ((hpass.stepAxis p).trans hn) hready
  · rw [emu_settle, ← hpass.ab, ← hpass.emu]
    exact outputsTaken_emu he

/-! Steps and edges (R161, R162, R190, R191). -/

theorem stepTurn_left {v : StepSt} {d : Bool} {at_ : Nat} : (stepTurn v d at_).left = v.left ∧ (stepTurn v d at_).spos = v.spos := by
  unfold stepTurn
  split <;> exact ⟨rfl, rfl⟩

theorem stepAfterCarry_left {v : StepSt} {t miniv dsu : Nat} : (stepAfterCarry v t miniv dsu).left = v.left ∧
    (stepAfterCarry v t miniv dsu).spos = v.spos := by
  unfold stepAfterCarry
  split
  · exact ⟨rfl, rfl⟩
  · exact stepTurn_left

/-- The direction of the next step: that of the carried ones first. -/
def StepSt.nextNeg (v : StepSt) : Bool := match v.carried with | (d, _) :: _ => d | [] => v.neg

/-- A step counts by one in its direction; only without carried ones it is one of the record's. -/
theorem stepNext_counts {v : StepSt} {miniv dsu : Nat} :
    (stepNext v miniv dsu).2.left = (if v.carried = [] then v.left - 1 else v.left) ∧
    (stepNext v miniv dsu).2.spos = if v.nextNeg then (v.spos + 2 ^ 32 - 1) % 2 ^ 32 else (v.spos + 1) % 2 ^ 32 := by
  unfold stepNext StepSt.nextNeg
  cases hc : v.carried with
  | nil => exact ⟨rfl, rfl⟩
  | cons dk rest =>
    obtain ⟨d, k⟩ := dk
    have hne : (d, k) :: rest ≠ [] := List.cons_ne_nil _ _
    dsimp only
    rw [if_neg hne]
    split
    · exact ⟨rfl, rfl⟩
    · split
      · exact stepTurn_left
      · exact stepAfterCarry_left

/-- The state in which a step of pair p, next as v, starts. -/
def stepStarts (p : Nat) (v : StepSt) (s : State) : State :=
  showStep p (putStep p { v with pulseEnd := some (s.time.tick + s.af (Reg.FB_STEP_CFG p) 11 0) } s)

/-- A first interval that MINIV clamps is flagged. -/
theorem clampFlag_phase {p : Nat} {clamped : Bool} : PairPhase [] s
    (match clamped, s.stepAxis p with | true, some n => pgFlag n 16 s | _, _ => s) := by
  cases hn : s.stepAxis p with
  | none => cases clamped <;> exact .refl s
  | some n =>
    cases clamped
    · exact .refl s
    · exact pgFlag_phase (stepAxis_lt hn) (c := true)

theorem stepIssue_eq {p : Nat} (h : (s.step p).carried ≠ [] ∨ (s.step p).left ≠ 0) :
    ∃ u, PairPhase [] (advanceTo ((s.step p).t / 256) s) u ∧
      stepIssue p s = stepStarts p (stepNext (s.step p) (s.minIv p) (s.dsu p)).2 u := by
  have hpass : Passes s (advanceTo ((s.step p).t / 256) s) := .advanceTo
  have hmin : (advanceTo ((s.step p).t / 256) s).minIv p = s.minIv p := congrArg (256 * ·) (hpass.af _ _ _)
  have hdsu : (advanceTo ((s.step p).t / 256) s).dsu p = s.dsu p := congrArg (256 * ·) (hpass.af _ _ _)
  have hwork : ¬ (((s.step p).left = 0 && (s.step p).carried.isEmpty) = true) := by
    rcases h with h | h <;> simp [h]
  refine ⟨_, clampFlag_phase (p := p) (clamped := (stepNext (s.step p) (s.minIv p) (s.dsu p)).1), ?_⟩
  unfold stepIssue
  dsimp only
  rw [if_neg hwork, hmin, hdsu]
  rfl

theorem stepStarts_step {p : Nat} {v : StepSt} : ((stepStarts p v s).step p).left = v.left ∧
    ((stepStarts p v s).step p).spos = v.spos ∧ ∀ k, k ≠ p → (stepStarts p v s).step k = s.step k := by
  obtain ⟨hleft, -, hspos⟩ := showStep_counts (p := p)
    (s := putStep p { v with pulseEnd := some (s.time.tick + s.af (Reg.FB_STEP_CFG p) 11 0) } s)
  rw [step_putStep_self] at hleft hspos
  refine ⟨hleft, hspos, fun k hk => ?_⟩
  have hk' : k ∉ [p] := by simpa using hk
  exact (showStep_phase.steps k hk').trans (PairPhase.putStep.steps k hk')

theorem stepOn_congr {p : Nat} (h : t.actv = s.actv) : t.stepOn p = s.stepOn p := by
  unfold State.stepOn State.stepAxis State.ab State.af State.act
  rw [h]

theorem showStep_pulse {p : Nat} (h : s.stepOn p = true) : ((showStep p s).step p).pulseEnd = (s.step p).pulseEnd := by
  unfold showStep
  rw [if_pos h, step_putStep_self]

theorem stepStarts_pulse {p : Nat} {v : StepSt} (hon : s.stepOn p = true) :
    ((stepStarts p v s).step p).pulseEnd.isSome = true := by
  have hshow := showStep_pulse (s := putStep p { v with pulseEnd := some (s.time.tick + s.af (Reg.FB_STEP_CFG p) 11 0) } s)
    (p := p) ((stepOn_congr (s := s) rfl).trans hon)
  rw [stepStarts, hshow, step_putStep_self]
  rfl

/-- The level of STEP_OUT (R191). -/
theorem stepOut_level {p : Nat} (hr : s.pcr.inReset = false) (hpcr : t.pcr = s.pcr) (hactv : t.actv = s.actv) {on : Bool}
    (hon : (t.step p).pulseEnd.isSome = on) : t.stepOut p = some (on != s.ab (Reg.FB_STEP_CFG p) 21) := by
  have hab : t.ab (Reg.FB_STEP_CFG p) 21 = s.ab (Reg.FB_STEP_CFG p) 21 := congrArg (bit · 21) (act_congr hactv _)
  unfold State.stepOut
  rw [hpcr, hr, if_neg (by decide), hon, hab]

theorem stepStarts_rest {p : Nat} {v : StepSt} : (stepStarts p v s).pcr = s.pcr ∧ (stepStarts p v s).actv = s.actv := by
  unfold stepStarts showStep
  split <;> exact ⟨rfl, rfl⟩

theorem stepIssue_steps (hl : s.loopOn = true) (hd : s.domOn 1 = true) (p : Fin 8)
    (h : (s.step p).carried ≠ [] ∨ (s.step p).left ≠ 0) : Answers (exec (.stepIssue p) s) fun t =>
      let d := match (s.step p).carried with | (d, _) :: _ => d | [] => (s.step p).neg
      (t.step p).left = (if (s.step p).carried = [] then (s.step p).left - 1 else (s.step p).left) ∧
      (t.step p).spos = (if d then ((s.step p).spos + 2 ^ 32 - 1) % 2 ^ 32 else ((s.step p).spos + 1) % 2 ^ 32) ∧
      (s.stepOn p = true → t.stepOut p = !(s.ab (Reg.FB_STEP_CFG p) 21)) ∧
      (∀ k, k ≠ p.val → t.step k = s.step k) := by
  rw [exec_stepIssue hl hd]
  obtain ⟨u, hphase, heq⟩ := stepIssue_eq h
  have hpass : Passes s (advanceTo ((s.step p).t / 256) s) := .advanceTo
  have hactv : u.actv = s.actv := hphase.actv.trans hpass.actv
  have hpcr : u.pcr = s.pcr := (congrArg State.pcr hphase.rest :).trans hpass.pcr
  obtain ⟨hleft, hspos⟩ := stepNext_counts (v := s.step p) (miniv := s.minIv p) (dsu := s.dsu p)
  rw [heq]
  generalize (stepNext (s.step p) (s.minIv p) (s.dsu p)).2 = v at hleft hspos
  obtain ⟨hl', hs', hother⟩ := stepStarts_step (s := u) (p := p) (v := v)
  obtain ⟨hpcr', hactv'⟩ := stepStarts_rest (s := u) (p := p) (v := v)
  refine answers_done ⟨?_, ?_, fun hon => ?_, fun k hk => ?_⟩
  · rw [step_settle, hl']
    exact hleft
  · rw [step_settle, hs']
    exact hspos
  · have hpulse : ((settle (stepStarts p v u)).step p).pulseEnd.isSome = true := by
      rw [step_settle]
      exact stepStarts_pulse ((stepOn_congr hactv).trans hon)
    have hlevel := stepOut_level (s := s) (not_inReset_of_loopOn hl) ((settle_pcr _).trans (hpcr'.trans hpcr))
      ((settle_actv _).trans (hactv'.trans hactv)) hpulse
    rw [hlevel]
    cases s.ab (Reg.FB_STEP_CFG p) 21 <;> rfl
  · rw [step_settle, hother k hk, hphase.steps k (by simp), hpass.step]

theorem stepPulseEnd_ends (hl : s.loopOn = true) (hd : s.domOn 1 = true) (p : Fin 8) (e : Nat)
    (h : (s.step p).pulseEnd = some e) : Answers (exec (.stepPulseEnd p) s) fun t =>
      (t.step p).pulseEnd = none ∧ e ≤ t.time.tick ∧ t.stepOut p = s.ab (Reg.FB_STEP_CFG p) 21 := by
  have hpass : Passes s (advanceTo e s) := .advanceTo
  have heq : stepPulseEnd p s = putStep p { (advanceTo e s).step p with pulseEnd := none } (advanceTo e s) := by
    unfold stepPulseEnd
    rw [h]
  have hend : ((stepPulseEnd p s).step p).pulseEnd = none := by rw [heq, step_putStep_self]
  have htime : (stepPulseEnd p s).time = (advanceTo e s).time := by
    rw [heq]
    rfl
  have hpcr : (stepPulseEnd p s).pcr = s.pcr := by
    rw [heq]
    exact hpass.pcr
  have hactv : (stepPulseEnd p s).actv = s.actv := by
    rw [heq]
    exact hpass.actv
  rw [exec_stepPulseEnd hl hd]
  refine answers_done ⟨?_, ?_, ?_⟩
  · rw [step_settle, hend]
  · rw [settle_time, htime]
    exact advanceTo_tick
  · have hlevel := stepOut_level (p := p) (not_inReset_of_loopOn hl) ((settle_pcr _).trans hpcr)
      ((settle_actv _).trans hactv) (on := false) (by rw [step_settle, hend]; rfl)
    rw [hlevel]
    cases s.ab (Reg.FB_STEP_CFG p) 21 <;> rfl

/-- The direction of the next edge: that of the carried ones first. -/
def EmuSt.nextNeg (v : EmuSt) : Bool := match v.carried with | (d, _) :: _ => d | [] => v.neg

theorem emuEdge_counts {e : Nat} (h : (s.emu e).carried ≠ [] ∨ (s.emu e).left ≠ 0) :
    ((emuEdge e s).emu e).left = (if (s.emu e).carried = [] then (s.emu e).left - 1 else (s.emu e).left) ∧
    ((emuEdge e s).emu e).count = if (s.emu e).nextNeg then (s.emu e).count - 1 else (s.emu e).count + 1 := by
  unfold emuEdge EmuSt.nextNeg
  cases hc : (s.emu e).carried with
  | nil =>
    have hleft : (s.emu e).left ≠ 0 := h.resolve_left fun hne => hne hc
    dsimp only
    rw [hc]
    dsimp only
    rw [if_neg hleft, emu_putEmu_self]
    exact ⟨rfl, rfl⟩
  | cons dk rest =>
    obtain ⟨d, k⟩ := dk
    dsimp only
    rw [hc]
    dsimp only
    rw [emu_putEmu_self]
    exact ⟨rfl, rfl⟩

theorem emulationEdge_counts (hl : s.loopOn = true) (hd : s.domOn 1 = true) (e : Fin 2)
    (hen : s.ab (Reg.FB_EMU_CTL e) 0 = true) (h : (s.emu e).carried ≠ [] ∨ (s.emu e).left ≠ 0) :
    Answers (exec (.emulationEdge e) s) fun t =>
      let d := match (s.emu e).carried with | (d, _) :: _ => d | [] => (s.emu e).neg
      (t.emu e).left = (if (s.emu e).carried = [] then (s.emu e).left - 1 else (s.emu e).left) ∧
      (t.emu e).count = if d then (s.emu e).count - 1 else (s.emu e).count + 1 := by
  rw [exec_emulationEdge hl hd hen h]
  obtain ⟨hleft, hcount⟩ := emuEdge_counts h
  exact answers_done ⟨by rw [emu_settle]; exact hleft, by rw [emu_settle]; exact hcount⟩

/-- Settles O21: time that passes on the way to an output phase, a step or an edge reaches neither the pairs nor the
emulation outputs, and the pairs and outputs of one phase do not reach each other. -/
theorem stepAndEmulationOutputs : Obligations.StepAndEmulationOutputs := by
  unfold Obligations.StepAndEmulationOutputs
  intro s hl hd
  exact ⟨outputPhase_takes hl hd, stepIssue_steps hl hd, stepPulseEnd_ends hl hd, emulationEdge_counts hl hd⟩

end Sys2Proof.Machine
end

section
/-! What a block does when a group has become active: it leaves the active copies and the group's DONE (R35, R41). -/

namespace Sys2Proof.Machine

variable {s t u : State} {k b : Nat}

/-! What an application of a group keeps. -/

/-- The register at a is no CMT_DONE. -/
abbrev notDone (a : Nat) : Prop := a % 65536 ≠ 0xFF18

theorem ne_of_notDone {a : Nat} (h : notDone a) : Reg.CMT_DONE k ≠ a := by
  unfold Reg.CMT_DONE
  omega

/-- From s to t every active copy stays, and bit b of CMT_DONE of block k is not lost. -/
structure Applied (k b : Nat) (s t : State) : Prop where
  actv : t.actv = s.actv
  done : s.rb (Reg.CMT_DONE k) b = true → t.rb (Reg.CMT_DONE k) b = true

namespace Applied

theorem refl (s : State) : Applied k b s s := ⟨rfl, id⟩

theorem trans (h : Applied k b s t) (g : Applied k b t u) : Applied k b s u :=
  ⟨g.actv.trans h.actv, fun hs => g.done (h.done hs)⟩

theorem after (g : Applied k b t u) (h : Applied k b s t) : Applied k b s u := h.trans g

theorem of_reg (hreg : t.reg (Reg.CMT_DONE k) = s.reg (Reg.CMT_DONE k)) (hactv : t.actv = s.actv) : Applied k b s t :=
  ⟨hactv, fun hs => (rb_of_reg hreg).trans hs⟩

theorem of_regs (hregs : t.regs = s.regs) (hactv : t.actv = s.actv) : Applied k b s t := of_reg (reg_congr hregs _) hactv

theorem onlyIf {c : Bool} {f : State → State} (h : Applied k b s (f s)) : Applied k b s (Machine.onlyIf c f s) := by
  cases c
  · exact refl s
  · exact h

theorem ite {c : Prop} [Decidable c] (h : Applied k b s t) (g : Applied k b s u) : Applied k b s (if c then t else u) := by
  split
  · exact h
  · exact g

theorem forAllMem {α : Type} {f : α → State → State} {xs : List α} (h : ∀ x ∈ xs, ∀ t, Applied k b t (f x t)) :
    Applied k b s (Machine.forAll xs f s) := by
  induction xs generalizing s with
  | nil => exact refl s
  | cons x xs ih =>
    exact (h x (by simp) s).trans (ih fun y hy => h y (List.mem_cons_of_mem _ hy))

theorem forAll {α : Type} {f : α → State → State} {xs : List α} (h : ∀ x t, Applied k b t (f x t)) :
    Applied k b s (Machine.forAll xs f s) := forAllMem fun x _ => h x

/-! Registers. -/

theorem setReg {a : Nat} {v : Word} (h : notDone a := by decide) : Applied k b s (Machine.setReg a v s) :=
  of_reg (reg_setReg_other (ne_of_notDone h)) rfl

theorem setRf {a hi lo v : Nat} (h : notDone a := by decide) : Applied k b s (Machine.setRf a hi lo v s) :=
  of_reg (reg_setRf_other (ne_of_notDone h)) rfl

theorem setRb {a c : Nat} {v : Bool} (h : notDone a := by decide) : Applied k b s (Machine.setRb a c v s) := setRf h

theorem incRf {a hi lo : Nat} (h : notDone a := by decide) : Applied k b s (Machine.incRf a hi lo s) :=
  of_reg (reg_setReg_other (ne_of_notDone h)) rfl

/-- A field of any register above bit b. -/
theorem setRf_above {a hi lo v : Nat} (hb : b < lo) (hle : lo ≤ hi) (hhi : hi < 32) : Applied k b s (Machine.setRf a hi lo v s) := by
  refine ⟨rfl, fun hs => ?_⟩
  by_cases ha : Reg.CMT_DONE k = a
  · subst ha
    unfold State.rb bit at hs ⊢
    rw [reg_setRf_self, setFld_bit _ _ _ _ _ hle (by omega), if_neg (by omega), hs]
  · exact (rb_of_reg (reg_setRf_other ha)).trans hs

theorem orReg {a m : Nat} : Applied k b s (Machine.orReg a m s) := ⟨rfl, rb_orReg_of⟩

/-! Events. -/

theorem queueEv {e : Ev} : Applied k b s (Machine.queueEv e s) := by
  unfold Machine.queueEv
  refine after (onlyIf ?_) (of_regs rfl rfl)
  exact (incRf (a := Reg.EVL_LOST)).trans (of_regs rfl rfl)

theorem event {code cls inst x y : Nat} : Applied k b s (Machine.event code cls inst x y s) := by
  unfold Machine.event pushEv
  split
  · exact of_regs rfl rfl
  · exact queueEv

theorem flagEvent {src reg c cls inst a : Nat} : Applied k b s (Machine.flagEvent src reg c cls inst a s) := orReg.trans event

theorem irq {i : FwIrq} : Applied k b s (Machine.irq i s) := by
  unfold Machine.irq
  split <;> exact of_regs rfl rfl

theorem emitPins {o : Out} : Applied k b s (Machine.emitPins o s) := ite (refl s) (of_regs rfl rfl)

theorem signalVector {v : Nat} : Applied k b s (Machine.signalVector v s) := by
  have hmsix : Applied k b s (msixSend v s) := ite (of_regs rfl rfl) (of_regs rfl rfl)
  have hmsi (v : Nat) : Applied k b s (msiSend v s) := ite (of_regs rfl rfl) (of_regs rfl rfl)
  exact ite (refl s) (ite hmsix (ite (hmsi _) (refl s)))

theorem observed : Applied k b s (Machine.observed s) := by
  have hnote : Applied k b s (setNote 0 s) := ite (of_regs rfl rfl) (signalVector.after (of_regs rfl rfl))
  have hevent (t : State) : Applied k b t (gliporEvent t) := event.after (of_regs rfl rfl)
  exact onlyIf (hnote.trans (hevent _))

/-! Memory. -/

theorem memErr {c inst : Nat} : Applied k b s (Machine.memErr c inst s) := flagEvent.trans (onlyIf irq)

theorem memElog {m agent chan a : Nat} {r : RdOut} : Applied k b s (Machine.memElog m agent chan a r s) :=
  onlyIf ((setReg).trans setReg)

theorem logRead {m agent chan a : Nat} {r : RdOut} (hm : m < 9) : Applied k b s (Machine.logRead m agent chan a r s) := by
  have hce : notDone (Reg.MEM_CE_CNT m) := by unfold notDone Reg.MEM_CE_CNT; omega
  have hue : notDone (Reg.MEM_UE_CNT m) := by unfold notDone Reg.MEM_UE_CNT; omega
  unfold Machine.logRead
  dsimp only
  split
  · exact refl s
  · exact ite (memErr.after ((incRf).after setReg))
      (memErr.after (ite ((incRf hce).after setReg) ((incRf hce).after setReg)))
  · exact ite (memErr.after ((incRf).after memElog)) (memErr.after ((incRf hue).after memElog))
  · have hcycle : Applied k b s { s with mi := { s.mi with ueCycle := true } } := of_regs rfl rfl
    exact ite (memErr.after ((incRf).after (memElog.after hcycle))) (memErr.after ((incRf hue).after (memElog.after hcycle)))

theorem readWord {agent chan a : Nat} : Applied k b s (Machine.readWord agent chan a s).2 := by
  unfold Machine.readWord
  split
  · exact logRead (memOf_range ‹_›).1
  · exact refl s

theorem read32 {agent chan a : Nat} : Applied k b s (Machine.read32 agent chan a s).2 := readWord

/-! Axes and generators. -/

theorem putAx {n : Nat} {v : AxSt} : Applied k b s (Machine.putAx n v s) := of_regs rfl rfl

theorem putPg {n : Nat} {v : PgSt} : Applied k b s (Machine.putPg n v s) := of_regs rfl rfl

theorem putPod {p : Nat} {v : PodSt} : Applied k b s (Machine.putPod p v s) := of_regs rfl rfl

theorem axTripIf {c : Bool} {n i : Nat} : Applied k b s (Machine.axTripIf c n i s) :=
  onlyIf (f := axTrip n i) (putAx.after (flagEvent.after orReg))

theorem pgMiss {n : Nat} : Applied k b s (Machine.pgMiss n s) := flagEvent

theorem showStep {p : Nat} : Applied k b s (Machine.showStep p s) := ite (of_regs rfl rfl) (of_regs rfl rfl)

theorem axCommitted {old : State} {n : Nat} (hn : n < 256) : Applied k b s (Machine.axCommitted old n s) := by
  have hstat : notDone (Reg.AX_STAT n) := by unfold notDone Reg.AX_STAT; omega
  have hshow (t : State) : Applied k b t (showAxis n t) := (setRb hstat).after (setRf hstat)
  exact ite (refl s) ((hshow _).after (onlyIf putAx))

theorem pgGeometry {n mode : Nat} (hn : n < 512) : Applied k b s (Machine.pgGeometry n mode s) := by
  have hptr : notDone (Reg.PG_TPTR n) := by unfold notDone Reg.PG_TPTR; omega
  have hact : notDone (Reg.PG_TACT n) := by unfold notDone Reg.PG_TACT; omega
  have hstat : notDone (Reg.PG_STAT n) := by unfold notDone Reg.PG_STAT; omega
  have hkeep (c : Nat) (t : State) : Applied k b t (keepGeometry n c t) := putPg
  exact ite ((setReg hptr).after ((setReg hact).after (putPg.after (hkeep _ _)))) ((setRb hstat).after putPg)

theorem pgCommitted {old : State} {n : Nat} (hn : n < 512) : Applied k b s (Machine.pgCommitted old n s) :=
  ite (refl s) ((onlyIf (pgGeometry hn)).after (ite putPg putPg))

/-! The graph engine: matches, and cycles that the count of cycles leaves. -/

theorem readMatch {agent p base n : Nat} : Applied k b s (Machine.readMatch agent p base n s).2 := by
  induction n generalizing s with
  | zero => exact refl s
  | succ n ih =>
    have hword := (ih (s := s)).trans (readWord (agent := agent) (chan := p) (a := yWordAddr p (base + 4 * n + 2)))
    simp only [Machine.readMatch, apply_ite Prod.snd, ite_self]
    exact hword

theorem takeMatch {p : Nat} : Applied k b s (Machine.takeMatch p s) := putPod.after readMatch

theorem dsFault {p c idx axis : Nat} : Applied k b s (Machine.dsFault p c idx axis s) := by
  have hinfo : notDone (Reg.DS_FLT_INFO p) := by unfold notDone Reg.DS_FLT_INFO; omega
  have hbad (t : State) : Applied k b t { t with dsBad := true } := of_regs rfl rfl
  have hmark : Applied k b s (dsMark p c idx axis s) := by
    unfold dsMark
    exact ((setReg hinfo).trans orReg).trans (onlyIf (hbad _))
  exact event.after hmark

theorem setOvr {p cyc idx axis : Nat} : Applied k b s (Machine.setOvr p cyc idx axis s) := by
  have hcnt : notDone (Reg.DS_CNT p) := by unfold notDone Reg.DS_CNT; omega
  have halarm (t : State) : Applied k b t { t with ovrAlarm := t.ovrAlarm ++ [p] } := of_regs rfl rfl
  have hcount (t : State) : Applied k b t (Machine.observed (Machine.incRf (Reg.DS_CNT p) 31 16 t)) := observed.after (incRf hcnt)
  unfold Machine.setOvr
  extract_lets s₁ cs v s₂ s₃
  have hfault : Applied k b s s₁ := dsFault
  refine ite hfault (hfault.trans ?_)
  have hseen : Applied k b s₁ s₃ := (hcount s₂).after putPod
  exact ite (hseen.trans (halarm _)) hseen

theorem tripGraph {n p xb : Nat} {bs : List Nat} : Applied k b s (Machine.tripGraph n p xb bs s).2 := by
  induction bs generalizing s with
  | nil => exact refl s
  | cons c cs ih =>
    unfold Machine.tripGraph
    exact ih.after (axTripIf.after read32)

/-- The end of a law run moves no bit 0 but of its axis's trips, whatever the number of the axis. -/
theorem axEnd {n p xb flags : Nat} {native ill psn : Bool} : Applied k 0 s (Machine.axEnd n p xb flags native ill psn s) := by
  unfold Machine.axEnd
  extract_lets s₁ s₂
  have hflags : Applied k 0 s s₂ :=
    (setRf_above (by decide) (by decide) (by decide)).trans (setRf_above (by decide) (by decide) (by decide))
  cases native with
  | false => exact axTripIf.after (axTripIf.after hflags)
  | true =>
    have hgraph := hflags.trans (tripGraph (n := n) (p := p) (xb := xb) (bs := [0, 1, 2, 3, 4]))
    have hread := hgraph.trans (read32 (agent := 12) (chan := 0) (a := elemAddr p ((xb + 4) % 131072)))
    clear_value s₂
    exact axTripIf.after (axTripIf.after (hread.trans (setRf_above (by decide) (by decide) (by decide))))

theorem deliver {n : Nat} {c : Ctx} {ill : Bool} : Applied k 0 s (Machine.deliver n c ill true s) := by
  have hpgEnd (t : State) : pgEnd c.desc.axis c.desc.ob c.flags true t = Machine.pgMiss c.desc.axis t := rfl
  unfold Machine.deliver
  extract_lets bad s₁ s₂
  have hbad : Applied k 0 s s₁ := onlyIf putAx
  refine ite ((onlyIf ?_).after (axTripIf.after hbad)) (axEnd.after (putAx.after hbad))
  rw [hpgEnd]
  exact pgMiss

theorem putCtx {n : Nat} {c : Ctx} (hn : n < 64) : Applied k b s (Machine.putCtx n c s) := by
  have hstat : notDone (Reg.LE_CTX_STAT n) := by unfold notDone Reg.LE_CTX_STAT; omega
  have hpod : notDone (Reg.LE_POD_STAT (ctxPod n)) := by unfold notDone Reg.LE_POD_STAT ctxPod; omega
  have hshow (t : State) : Applied k b t (showCtx n t) := (setRf hpod).after (setReg hstat)
  exact (hshow _).after (of_regs rfl rfl)

theorem overrunGraph {n : Nat} (hn : n < 64) : Applied k 0 s (Machine.overrunGraph n s) := by
  have horphan (t : State) : Applied k 0 t (orphanFlags n t) := of_regs rfl rfl
  have hcut (m : Nat) (t : State) : Applied k 0 t (cutSlots n m t) := of_regs rfl rfl
  have hready : Applied k 0 s { s with le := { s.le with writes := s.le.writes.filterMap (unready (ctxPod n) (s.ctx n)) } } :=
    of_regs rfl rfl
  exact (onlyIf pgMiss).after (deliver.after ((putCtx hn).after ((hcut _ _).after ((horphan _).after hready))))

theorem noteIdle {p : Nat} : Applied k b s (Machine.noteIdle p s) := ite putPod (refl s)

theorem deadlineAt {p cyc : Nat} (hp : p < 4) : Applied k 0 s (Machine.deadlineAt p cyc s) := by
  have hsig : notDone (Reg.DS_SIG p) := by unfold notDone Reg.DS_SIG; omega
  have hstat : notDone (Reg.DS_STAT p) := by unfold notDone Reg.DS_STAT; omega
  have hctx (n : Nat) (hn : n ∈ podCtxs p) : n < 64 := by
    simp only [podCtxs, List.mem_map, List.mem_range] at hn
    obtain ⟨j, hj, rfl⟩ := hn
    omega
  unfold Machine.deadlineAt
  extract_lets svc hit was who s₁ s₂ v₂ s₃ s₄ due s₅ v₅ sig ref s₆ s₇ s₈
  have h₁ : Applied k 0 s s₁ := by
    cases hwho : who with
    | none => exact (congrArg (Applied k 0 s) (by simp only [s₁, hwho])).mpr (refl s)
    | some x => exact (congrArg (Applied k 0 s) (by simp only [s₁, hwho]; rfl)).mpr (setOvr (idx := x.1) (axis := x.2))
  have h₂ : Applied k 0 s₁ s₂ := forAllMem fun n hn t => overrunGraph (hctx n (List.mem_of_mem_filter hn))
  have h₄ : Applied k 0 s₂ s₄ := (forAll fun _ _ => pgMiss).after putPod
  have h₅ : Applied k 0 s₄ s₅ := forAll fun _ _ => pgMiss
  have h₈ : Applied k 0 s₅ s₈ := putPod.after ((setReg hstat).after (setReg hsig))
  exact (onlyIf noteIdle).after ((onlyIf dsFault).after (h₁.trans (h₂.trans (h₄.trans (h₅.trans h₈)))))

theorem closeCycle {p cyc : Nat} (hp : p < 4) : Applied k 0 s (Machine.closeCycle p cyc s) := by
  unfold Machine.closeCycle
  exact (forAll fun r t => (onlyIf pgMiss).after setOvr).after (putPod.after (deadlineAt hp))

theorem renumber : Applied k 0 s (Machine.renumber s) := by
  unfold Machine.renumber
  extract_lets s₁ s₂ s₃ s₄
  have h₁ : Applied k 0 s s₁ := forAllMem fun p hp t => forAll fun c t => closeCycle (List.mem_range.mp hp)
  have h₂ : Applied k 0 s₁ s₂ := forAll fun _ _ => putPod
  have h₃ : Applied k 0 s₂ s₃ := forAll fun _ _ => putAx
  have h₄ : Applied k 0 s₃ s₄ := forAll fun _ _ => putPg
  have h := h₁.trans (h₂.trans (h₃.trans h₄))
  clear_value s₄
  exact h.trans (of_regs rfl rfl)

/-! Feedback, network, cascade, acquisition. -/

theorem chanCommitted {c : Nat} {ctl cfg : Word} : Applied k b s (Machine.chanCommitted c ctl cfg s) := by
  have hput (t : State) (v : ChanSt) : Applied k b t (putChan c v t) := of_regs rfl rfl
  have h₁ (p : Prop) [Decidable p] (v : ChanSt) (t : State) : Applied k b t (if p then putChan c v t else t) :=
    ite (hput t v) (refl t)
  unfold Machine.chanCommitted
  exact (ite (hput _ _) (h₁ _ _ _)).after ((h₁ _ _ _).after (h₁ _ _ _))

theorem emuCommitted {e : Nat} {ctl : Word} : Applied k b s (Machine.emuCommitted e ctl s) := ite (refl s) (of_regs rfl rfl)

theorem showRing {r : Nat} : Applied k b s (Machine.showRing r s) := by
  have hstat : notDone (Reg.NET_RING_STAT r) := by unfold notDone Reg.NET_RING_STAT; omega
  have hdrop (t : State) : Applied k b t (dropEchoes r t) := ite (refl t) (of_regs rfl rfl)
  exact (hdrop _).after (setRf hstat)

theorem adaptPort {p : Nat} {freeze : Bool} : Applied k b s (Machine.adaptPort p freeze s) := by
  have hstat : notDone (Reg.NET_PORT_STAT p) := by unfold notDone Reg.NET_PORT_STAT; omega
  unfold Machine.adaptPort
  extract_lets t n v s₁ x s₂ ctle
  have hset (m : NetSt) (w : Nat) : Applied k b s (Machine.setRf (Reg.NET_PORT_STAT p) 31 24 w (useFree { s with net := m })) :=
    (setRf hstat).after (of_regs (s := s) rfl rfl)
  have hloss : Applied k b s s₂ := hset _ _
  exact ite (refl s) (ite hloss (hloss.trans ((setRf hstat).after (setRf hstat))))

theorem casErr {c inst : Nat} : Applied k b s (Machine.casErr c inst s) := flagEvent

theorem abandon {cause cid : Nat} : Applied k b s (Machine.abandon cause cid s) := by
  have hcause (t : State) : Applied k b t (mcCause cause cid t) := (setRf).after setRf
  have hport (t : State) (p : Nat) (v : CasPort) : Applied k b t (putCasPort p v t) := of_regs rfl rfl
  have hemit (t : State) (o : Out) : Applied k b t (emit o t) := of_regs rfl rfl
  unfold Machine.abandon
  extract_lets t₁ v t₂ t₃ t₄
  have h₁ : Applied k b s t₁ := forAll fun _ _ => onlyIf orReg
  have h₂ : Applied k b t₁ t₂ := of_regs rfl rfl
  have h₄ : Applied k b t₂ t₄ := casErr.after ((setRf).after (hcause _))
  exact ite (refl s) ((forAll fun _ _ => (onlyIf (hemit _ _)).after (hport _ _ _)).after (h₁.trans (h₂.trans h₄)))

theorem showPair {p : Nat} : Applied k b s (Machine.showPair p s) := by
  have hlink : Applied k b s (Machine.setRb Reg.CAS_PSTAT 0 (s.portTo s.partner).isSome s) := setRb
  have hlost (t : State) : Applied k b t (if (s.portTo s.partner).isSome then Machine.setRb Reg.CAS_PSTAT 1 false t else t) :=
    ite setRb (refl t)
  have hshown := hlink.trans (hlost _)
  exact ite setRf (ite (hshown.trans (casErr.after setRb)) hshown)

theorem leaveJoined {p : Nat} : Applied k b s (Machine.leaveJoined p s) := by
  have hstat : notDone (Reg.CAS_PORT_STAT p) := by unfold notDone Reg.CAS_PORT_STAT; omega
  have hport (t : State) (v : CasPort) : Applied k b t (putCasPort p v t) := of_regs rfl rfl
  unfold Machine.leaveJoined
  exact showPair.after ((onlyIf abandon).after ((setRb hstat).after (hport _ _)))

theorem areaCommitted {a : Nat} {geo : Word} : Applied k b s (Machine.areaCommitted a geo s) := by
  have hstat : notDone (Reg.ACQ_AREA_STAT a) := by unfold notDone Reg.ACQ_AREA_STAT; omega
  have hlen : notDone (Reg.ACQ_AREA_LEN a) := by unfold notDone Reg.ACQ_AREA_LEN; omega
  have hput (t : State) (v : AreaSt) : Applied k b t (putArea a v t) := of_regs rfl rfl
  have hshown (st len : Nat) : Applied k b s
      (Machine.setRf (Reg.ACQ_AREA_STAT a) 26 24 st (Machine.setRf (Reg.ACQ_AREA_LEN a) 15 0 len s)) :=
    (setRf hlen).trans (setRf hstat)
  unfold Machine.areaCommitted
  extract_lets len s₁ s₂ s₃
  have h₃ : Applied k b s s₃ := (hput _ _).trans ((setRb hstat).trans (setReg hlen))
  exact ite (hshown _ _) (ite (hshown _ _) (ite (setRf hlen) (ite (refl s)
    (ite (ite (h₃.trans ((hput _ _).trans (setRf hstat))) h₃) ((hput _ _).trans (setRb hstat))))))

theorem sqCommitted {ctl : Word} : Applied k b s (Machine.sqCommitted ctl s) := onlyIf (of_regs rfl rfl)

/-! Safety and field inputs. -/

theorem putGrp {g : Nat} {v : SafGrp} : Applied k b s (Machine.putGrp g v s) := (setRb).after (of_regs (s := s) rfl rfl)

theorem safErr {c inst : Nat} : Applied k b s (Machine.safErr c inst s) := by
  have hmask : Applied k b s (orMarrow Reg.SAF_ERR (2 ^ c) s) := ite orReg (of_regs rfl rfl)
  have hevent (t : State) : Applied k b t (marrowEvent 11 0x19 0 c clsFault inst Reg.SAF_ERR t) :=
    ite event (ite (of_regs rfl rfl) (refl t))
  exact ite flagEvent (hmask.trans (hevent _))

theorem huskAgree {g : Nat} : Applied k b s (Machine.huskAgree g s) := onlyIf (f := setAgr g true) setRb

theorem setSafState {st : Nat} : Applied k b s (Machine.setSafState st s) := by
  have hagr (g : Nat) (t : State) : Applied k b t (setAgr g false t) := setRb
  have hreq (t : State) : Applied k b t (clearReq t) := ite setRf (of_regs rfl rfl)
  unfold Machine.setSafState
  extract_lets s₁ v s₂
  have h₂ : Applied k b s s₂ := (setRf (a := Reg.SAF_STATE)).trans (of_regs rfl rfl)
  exact ite (h₂.trans ((hagr 0 _).trans ((hagr 1 _).trans (hreq _)))) h₂

theorem resetAccepted {task husk : Bool} : Applied k b s (Machine.resetAccepted task husk s) := by
  have hboth (t : State) : Applied k b t (Machine.huskAgree 1 (Machine.huskAgree 0 t)) := huskAgree.after huskAgree
  have hrun (t : State) : Applied k b t { t with saf := { t.saf with runreq := false } } := of_regs rfl rfl
  unfold Machine.resetAccepted
  extract_lets st s₁ v s₂
  have h₁ : Applied k b s s₁ := onlyIf (hboth s)
  have h₂ : Applied k b s₁ s₂ :=
    ite (ite ((hboth _).after (setSafState.after (hrun _))) (ite setSafState (refl _))) (refl _)
  exact h₁.trans (h₂.trans (onlyIf (forAll fun _ _ => onlyIf putGrp)))

theorem resetPulse {w hw : Option Nat} : Applied k b s (Machine.resetPulse w hw s) := by
  unfold Machine.resetPulse
  cases w with
  | none => exact resetAccepted
  | some w => exact resetAccepted.after (onlyIf (f := Machine.safErr 13 0) safErr)

theorem resetEdge {task husk lvl : Bool} : Applied k b s (Machine.resetEdge task husk lvl s) := by
  unfold Machine.resetEdge
  extract_lets w hw
  exact ite (of_regs rfl rfl) (resetPulse.after (of_regs rfl rfl))

theorem safLevel {i : Nat} {lvl : Bool} : Applied k b s (Machine.safLevel i lvl s) := by
  unfold Machine.safLevel
  extract_lets j a c now s₁ s₂ old diff disc v s₃ task husk
  have h₁ : Applied k b s s₁ := onlyIf (of_regs rfl rfl)
  have h₂ : Applied k b s₁ s₂ := forAll fun g t => onlyIf (f := fun s => Machine.putGrp g { s.grp g with arose := true } s) putGrp
  clear_value s₂
  have h₃ : Applied k b s₂ s₃ := of_regs rfl rfl
  exact h₁.trans (h₂.trans (h₃.trans (onlyIf resetEdge)))

theorem wakeBy {c : Nat} : Applied k b s (Machine.wakeBy c s) := by
  have habort (t : State) : Applied k b t (abortEntry t) := by
    unfold abortEntry
    split
    · exact ite (refl t) ((setRb).after ((setRf).after (of_regs rfl rfl)))
    · exact refl t
  have hwake : Applied k b s (wake c s) := by
    unfold wake
    extract_lets v s₁ code
    have h₁ : Applied k b s s₁ := (setRb).after (of_regs (s := s) rfl rfl)
    split
    · exact h₁.trans (habort _)
    · exact h₁.trans ((setRf).after (of_regs rfl rfl))
  exact ite hwake (ite setRb (ite (of_regs rfl rfl) (refl s)))

theorem setLevel {i : Nat} {lvl : Bool} : Applied k b s (Machine.setLevel i lvl s) := by
  have hwake (c : Bool) (t : State) : Applied k b t (Machine.onlyIf c (fun s => Machine.wakeBy 3 (Machine.irq .fieldInput s)) t) :=
    onlyIf (irq.trans wakeBy)
  unfold Machine.setLevel
  extract_lets c s₁
  have h₁ : Applied k b s s₁ := (setRb).trans orReg
  exact ite (refl s) (h₁.trans ((hwake _ _).trans safLevel))

theorem fioInCommitted {old : Nat → Word} : Applied k b s (Machine.fioInCommitted old s) := by
  have hinput (i : Nat) (t : State) : Applied k b t (inputCommitted i (old (Reg.FIO_IN_CFG i)) t) := by
    unfold inputCommitted
    exact (onlyIf setRb).after (onlyIf setLevel)
  have hcheck (t : State) : Applied k b t { t with saf := { t.saf with checkDue := true } } := of_regs rfl rfl
  have hrest (t : State) : Applied k b t (restThr t) := (setReg (a := Reg.FIO_IN_THR)).after (of_regs rfl rfl)
  exact (forAll hinput).trans ((hcheck _).trans (hrest _))

theorem safCommitted {old : Nat → Word} : Applied k b s (Machine.safCommitted old s) := by
  have hperiods (t : State) : Applied k b t (newPeriods t) := of_regs rfl rfl
  have hdemand (g : Nat) (t : State) : Applied k b t (commitDemand old g t) :=
    onlyIf (f := fun s => Machine.putGrp g { s.grp g with arose := true } s) putGrp
  have hrise (t : State) : Applied k b t { t with saf := { t.saf with riseAt := none } } := of_regs rfl rfl
  unfold Machine.safCommitted
  extract_lets rst v s₁ s₂ s₃ s₄ same
  have h₁ : Applied k b s s₁ := of_regs rfl rfl
  have h₂ : Applied k b s₁ s₂ := onlyIf (hperiods _)
  have h₃ : Applied k b s₂ s₃ := (hdemand 0 _).trans (hdemand 1 _)
  have h₄ : Applied k b s₃ s₄ := onlyIf (hrise _)
  have h := h₁.trans (h₂.trans (h₃.trans h₄))
  clear_value s₄
  exact ite (h.trans ((setReg).after (of_regs rfl rfl))) h

/-! The recorder. -/

theorem holdMaster : Applied k b s (Machine.holdMaster s) := onlyIf setRb

theorem beginErase : Applied k b s (Machine.beginErase s) := by
  unfold Machine.beginErase
  split
  · exact refl s
  · exact ite (refl s) (emitPins.after (holdMaster.after (of_regs rfl rfl)))

theorem nextOp : Applied k b s (Machine.nextOp s) := by
  have hstore (x : Option (Bool × ConfCopy)) (t : State) : Applied k b t (confStore x t) := by
    unfold confStore
    split
    · exact of_regs rfl (by split <;> rfl)
    · exact refl t
  have hstart (o : FlashOp) (t : State) : Applied k b t (flashStart o t) :=
    (onlyIf (hstore _ _)).after ((setRb).after (of_regs rfl rfl))
  unfold Machine.nextOp
  split
  · exact (hstart _ _).after (of_regs rfl rfl)
  · exact (hstart _ _).after (of_regs rfl rfl)
  · exact refl s

theorem evlCommitted {cfg : Word} : Applied k b s (Machine.evlCommitted cfg s) := by
  have hahead (t : State) : Applied k b t (eraseAhead t) := ite (refl t) (of_regs rfl rfl)
  have hrelease (t : State) : Applied k b t (releaseMaster t) := beginErase.trans (ite (refl _) (nextOp.after setRb))
  have hshow (t : State) : Applied k b t (showUnfl t) := (setRb).after setRf
  have hdrop (t : State) : Applied k b t
      { t with evl := { t.evl with forced := none, erasing := t.eraseRuns, eraseDue := [] } } := of_regs rfl rfl
  unfold Machine.evlCommitted
  extract_lets s₁ s₂
  have h₁ : Applied k b s s₁ := onlyIf ((hahead s).trans beginErase)
  have h₂ : Applied k b s₁ s₂ := onlyIf ((hrelease _).after ((setRf).after (hdrop _)))
  exact h₁.trans (h₂.trans (hshow _))

theorem avsCommitted : Applied k b s (Machine.avsCommitted s) := onlyIf (of_regs rfl rfl)

/-! The whole group. -/

/-- What a block does when one of its groups has become active leaves every active copy and the group's DONE. -/
theorem committed {g : Nat} {old : State} (hg : g < 32) : Applied k g s (Machine.committed k g old s) := by
  have haxes {n : Nat} (hn : n ∈ groupAxes g) : n < 16 * g + 16 := by
    simp only [groupAxes, List.mem_map, List.mem_range] at hn
    obtain ⟨j, hj, rfl⟩ := hn
    omega
  unfold Machine.committed
  split
  · refine ite (setRb ?_) (refl s)
    unfold Reg.LE_POD_STAT
    omega
  · exact ite takeMatch (refl s)
  · split
    · exact (forAllMem fun n hn t => axCommitted (by have := haxes hn; omega)).trans (forAll fun _ _ => showStep)
    · exact refl s
  · exact (forAllMem fun n hn t => pgCommitted (by have := haxes hn; omega)).trans (forAll fun _ _ => showStep)
  · exact ite chanCommitted (ite emuCommitted showStep)
  · cases g with
    | zero => exact onlyIf renumber
    | succ g => exact refl s
  · exact ite showRing adaptPort
  · exact ite showPair (ite leaveJoined (refl s))
  · exact ite sqCommitted (ite areaCommitted (refl s))
  · exact ite fioInCommitted (of_regs rfl rfl)
  · exact safCommitted
  · exact evlCommitted
  · exact ite avsCommitted (refl s)
  · exact refl s

end Applied

end Sys2Proof.Machine
end

section
/-! Requests, applications and refusals of commit groups (R35, R36, R41, R43, R512). -/

namespace Sys2Proof.Machine
variable {s t u : State} {k b : Nat}

/-! Requests (R36, R512). -/

theorem cmtReq_blk (k : Fin 17) : blkOf (Reg.CMT_REQ k) = k := by
  unfold blkOf Reg.CMT_REQ
  omega

theorem requestGroups_askClk {w : Nat} : (requestGroups k w (keepAsked s)).askClk = s.askClk := by
  have hdbg : (requestGroups k w (keepAsked s)).reg Reg.DBG_STAT = s.reg Reg.DBG_STAT := by
    refine reg_orReg_other (s := keepAsked s) ?_
    unfold Reg.DBG_STAT Reg.CMT_REQ
    omega
  have hfrozen : (requestGroups k w (keepAsked s)).frozen = s.frozen := by
    unfold State.frozen
    rw [rb_of_reg hdbg]
  unfold State.askClk
  rw [hfrozen]
  rfl

/-- A request of one block sets its bits of CMT_REQ. -/
theorem requestBatch_regs {w : Nat} : (requestBatch [(k, w)] s).regs = (requestGroups k w (keepAsked s)).regs := rfl

theorem requestBatch_asked {w : Nat} :
    (requestBatch [(k, w)] s).cmt.asked = askGroups s.askClk [(k, w)] (keepAsked s).cmt.asked := by
  have h : (requestBatch [(k, w)] s).cmt.asked =
      askGroups (requestGroups k w (keepAsked s)).askClk [(k, w)] (keepAsked s).cmt.asked := rfl
  rw [h, requestGroups_askClk]

theorem askClk_running (h : s.cpuOn = true) : s.askClk = some s.sclk :=
  if_neg (by rw [not_frozen_of_sysOn (sysOn_of_cpuOn h)]; decide)

/-- The requests of a sysclk stand in an entry of that sysclk. -/
theorem mem_askGroups {c : Option Nat} {r : Nat × Nat} {xs : List (Option Nat × List (Nat × Nat))} :
    ∃ e ∈ askGroups c [r] xs, e.1 = c ∧ r ∈ e.2 := by
  induction xs with
  | nil => exact ⟨(c, [r]), by simp [askGroups], rfl, by simp⟩
  | cons x xs ih =>
    cases xs with
    | nil =>
      unfold askGroups
      split
      · rename_i hjoin
        simp only [Bool.and_eq_true, decide_eq_true_eq] at hjoin
        exact ⟨(x.1, x.2 ++ [r]), by simp, hjoin.1, by simp⟩
      · exact ⟨(c, [r]), by simp, rfl, by simp⟩
    | cons y ys =>
      obtain ⟨e, he, hclk, hr⟩ := ih
      exact ⟨e, List.mem_cons_of_mem _ he, hclk, hr⟩

/-! Active copies (R35, R41). -/

/-- The active copies of a group's members take their staged bits. -/
def setMembers (vals : GroupVals) (s : State) : State :=
  vals.foldl (fun u (a, v, m) => setAct a ((u.act a &&& ~~~m) ||| (v &&& m)) u) s

theorem setMembers_other {vals : GroupVals} {a : Nat} (ha : a ∉ vals.map (·.1)) : (setMembers vals s).act a = s.act a := by
  induction vals generalizing s with
  | nil => rfl
  | cons x xs ih =>
    simp only [List.map_cons, List.mem_cons, not_or] at ha
    obtain ⟨hx, hxs⟩ := ha
    exact (ih hxs).trans (act_setAct_other hx)

theorem setMembers_member {vals : GroupVals} {a : Nat} {v m : Word} (hnd : (vals.map (·.1)).Nodup) (h : (a, v, m) ∈ vals) :
    (setMembers vals s).act a = (s.act a &&& ~~~m) ||| (v &&& m) := by
  induction vals generalizing s with
  | nil => cases h
  | cons x xs ih =>
    rw [List.map_cons, List.nodup_cons] at hnd
    obtain ⟨hx, hxs⟩ := hnd
    cases h with
    | head => exact (setMembers_other hx).trans act_setAct_self
    | tail _ h =>
      refine (ih hxs h).trans ?_
      rw [act_setAct_other]
      rintro rfl
      exact hx (List.mem_map.mpr ⟨_, h, rfl⟩)

/-- Applying a group sets its members and DONE, and what follows leaves both. -/
theorem applyGroup_applied {x : Staged} (hg : x.grp < 32) :
    Applied x.blk x.grp (orReg (Reg.CMT_DONE x.blk) (2 ^ x.grp) (setMembers x.vals s)) (applyGroup x s) := by
  have hcyc : notDone (Reg.CMT_CYCLE x.blk) := by
    unfold notDone Reg.CMT_CYCLE
    omega
  exact (Applied.committed hg).after (.onlyIf (.setReg hcyc))

theorem applyGroup_actv {x : Staged} (hg : x.grp < 32) : (applyGroup x s).actv = (setMembers x.vals s).actv :=
  (applyGroup_applied hg).actv

theorem applyGroup_done {x : Staged} (hg : x.grp < 32) : (applyGroup x s).rb (Reg.CMT_DONE x.blk) x.grp = true :=
  (applyGroup_applied hg).done (rb_orReg_self hg)

/-! Refusals (R41). -/

/-- The refusal of a group before its event. -/
def markRefused (x : Staged) (bad : Nat × Nat) (first : Bool) (s : State) : State :=
  onlyIf (s.domOn (blkDom x.blk) && first) (setReg (Reg.CMT_REASON x.blk) (BitVec.ofNat 32 (reasonWord x.grp bad)))
    (onlyIf (s.domOn (blkDom x.blk))
      (fun s => orReg (Reg.CMT_DIRTY x.blk) (2 ^ x.grp) (orReg (Reg.CMT_REFUSED x.blk) (2 ^ x.grp) s)) s)

theorem refuseGroup_reg {x : Staged} {bad : Nat × Nat} {first : Bool} {a : Nat} (ha : a ≠ Reg.EVL_LOST) :
    (refuseGroup x bad first s).reg a = (markRefused x bad first s).reg a := reg_event ha

theorem refuseGroup_actv {x : Staged} {bad : Nat × Nat} {first : Bool} : (refuseGroup x bad first s).actv = s.actv := by
  have hmark : (markRefused x bad first s).actv = s.actv := by
    unfold markRefused
    cases s.domOn (blkDom x.blk) <;> cases first <;> rfl
  have hevent : (refuseGroup x bad first s).actv = (markRefused x bad first s).actv :=
    (Applied.event (k := 0) (b := 0)).actv
  exact hevent.trans hmark

theorem refuseGroup_off {x : Staged} {bad : Nat × Nat} {first : Bool} (hd : s.domOn (blkDom x.blk) = false) :
    (refuseGroup x bad first s).SameRegs s [Reg.EVL_LOST] := by
  intro a ha
  rw [refuseGroup_reg (by simpa using ha)]
  unfold markRefused
  rw [hd]
  rfl

theorem refuseGroup_on {x : Staged} {bad : Nat × Nat} {first : Bool} (hg : x.grp < 32)
    (hd : s.domOn (blkDom x.blk) = true) :
    (refuseGroup x bad first s).rb (Reg.CMT_REFUSED x.blk) x.grp = true ∧
      (refuseGroup x bad first s).rb (Reg.CMT_DIRTY x.blk) x.grp = true ∧
      (first = true → (refuseGroup x bad first s).reg (Reg.CMT_REASON x.blk) = BitVec.ofNat 32 (reasonWord x.grp bad)) := by
  have hlost : Reg.CMT_REFUSED x.blk ≠ Reg.EVL_LOST ∧ Reg.CMT_DIRTY x.blk ≠ Reg.EVL_LOST ∧
      Reg.CMT_REASON x.blk ≠ Reg.EVL_LOST := by
    unfold Reg.CMT_REFUSED Reg.CMT_DIRTY Reg.CMT_REASON Reg.EVL_LOST
    omega
  have happart : Reg.CMT_REFUSED x.blk ≠ Reg.CMT_REASON x.blk ∧ Reg.CMT_DIRTY x.blk ≠ Reg.CMT_REASON x.blk := by
    unfold Reg.CMT_REFUSED Reg.CMT_DIRTY Reg.CMT_REASON
    omega
  obtain ⟨hlostR, hlostD, hlostQ⟩ := hlost
  obtain ⟨hR, hD⟩ := happart
  rw [rb_of_reg (refuseGroup_reg hlostR), rb_of_reg (refuseGroup_reg hlostD), refuseGroup_reg hlostQ]
  unfold markRefused
  rw [hd, Bool.true_and, onlyIf_true]
  have hrefused : (orReg (Reg.CMT_DIRTY x.blk) (2 ^ x.grp) (orReg (Reg.CMT_REFUSED x.blk) (2 ^ x.grp) s)).rb
      (Reg.CMT_REFUSED x.blk) x.grp = true := rb_orReg_of (rb_orReg_self hg)
  have hdirty : (orReg (Reg.CMT_DIRTY x.blk) (2 ^ x.grp) (orReg (Reg.CMT_REFUSED x.blk) (2 ^ x.grp) s)).rb
      (Reg.CMT_DIRTY x.blk) x.grp = true := rb_orReg_self hg
  cases first with
  | false => exact ⟨hrefused, hdirty, fun h => absurd h (by decide)⟩
  | true => exact ⟨(rb_of_reg (reg_setReg_other hR)).trans hrefused, (rb_of_reg (reg_setReg_other hD)).trans hdirty,
      fun _ => reg_setReg_self⟩

/-- Settles O26: applying sets the members first, and what the block then does leaves every active copy and DONE. -/
theorem groupsApplyWholeOrNotAtAll : Obligations.GroupsApplyWholeOrNotAtAll := by
  unfold Obligations.GroupsApplyWholeOrNotAtAll
  refine fun s => ⟨fun k w hc hd => ?_, fun x _ hg hnd => ⟨fun a v m h => ?_, fun a ha => ?_, applyGroup_done hg, fun bad first =>
    ⟨refuseGroup_actv, refuseGroup_on hg, refuseGroup_off⟩⟩⟩
  · have hwrite : regWrite (Reg.CMT_REQ k) (requestBatch [(k.val, w.toNat)]) s = requestBatch [(k.val, w.toNat)] s :=
      regWrite_on hc (by rw [cmtReq_blk]; exact hd)
    refine ⟨requestBatch [(k.val, w.toNat)] s, congrArg (fun u => Host.Outcome.next (settle u)) hwrite, ?_, fun a ha => ?_,
      rfl, rfl, requestBatch_asked, ?_⟩
    · exact (reg_congr requestBatch_regs _).trans reg_orReg_self
    · exact ((reg_congr requestBatch_regs a).trans (reg_orReg_other (by simpa using ha))).symm
    · rw [requestBatch_asked, askClk_running hc]
      exact mem_askGroups
  · exact (act_congr (applyGroup_actv hg) a).trans (setMembers_member hnd h)
  · exact (act_congr (applyGroup_actv hg) a).trans (setMembers_other ha)

end Sys2Proof.Machine
end

section
/-! Mirrored state, sending, the heads of relay records and their misses (R279, R283, R285, R286, R303). -/

namespace Sys2Proof.Machine

variable {s t u : State} {p : Nat}

/-! Mirrored state (R302, R303). -/

theorem rf_incRf_self {a hi lo : Nat} (h : lo ≤ hi) (hhi : hi < 32) :
    (incRf a hi lo s).rf a hi lo = satAdd (hi + 1 - lo) (s.rf a hi lo) 1 := by
  have hset : (incRf a hi lo s).reg a = setFld (s.reg a) hi lo (satAdd (hi + 1 - lo) (s.rf a hi lo) 1) := reg_setReg_self
  have hlt : satAdd (hi + 1 - lo) (s.rf a hi lo) 1 < 2 ^ (hi + 1 - lo) := by
    have hpos : 0 < 2 ^ (hi + 1 - lo) := Nat.two_pow_pos _
    unfold satAdd
    omega
  exact (congrArg (fun w => fld w hi lo) hset).trans ((fld_setFld_self _ _ _ _ h hhi).trans (Nat.mod_eq_of_lt hlt))

theorem mirrorLate_counts : (mirrorLate p s).mem = s.mem ∧
    (mirrorLate p s).rf Reg.CAS_MIRCNT 31 16 = satAdd 16 (s.rf Reg.CAS_MIRCNT 31 16) 1 := by
  have herr {t : State} : (casErr 5 p t).rf Reg.CAS_MIRCNT 31 16 = t.rf Reg.CAS_MIRCNT 31 16 :=
    rf_of_reg ((reg_event (by decide)).trans (reg_orReg_other (by decide)))
  exact ⟨flagEvent_mem, herr.trans (rf_incRf_self (by decide) (by decide))⟩

theorem mirrorApply_late {a : Nat} {clean : Bool} {vs : List Nat} (h : (s.rb Reg.CAS_PHEALTH 0 && s.rb Reg.CAS_PHEALTH 1 &&
    s.graphsEnded a && decide (s.time.ns + 1000 * 2 ^ 32 < s.time.nextNs)) = false) :
    mirrorApply p a clean vs s = mirrorLate p s := if_pos (by rw [h]; rfl)

namespace Logs

theorem mirAddrs {a : Nat} : Logs s (Machine.mirAddrs a s).2 := read32

/-- A fold over states that come with a value. -/
theorem foldl {α β : Type} {f : β × State → α → β × State} (h : ∀ acc x, Logs acc.2 (f acc x).2) (xs : List α)
    (acc : β × State) : Logs acc.2 (xs.foldl f acc).2 := by
  induction xs generalizing acc with
  | nil => exact .refl _
  | cons x xs ih => exact (h acc x).trans (ih _)

theorem readAddrs {as : List Nat} : Logs s (Machine.readAddrs as s).2 := by
  refine foldl (fun acc a => ?_) as (([], true), s)
  exact read32 (agent := 6) (chan := 0) (a := a)

theorem cleanSample {a : Nat} : Logs s (Machine.cleanSample a s).2 := by
  unfold Machine.cleanSample
  split
  · exact read32
  · exact .refl s

theorem mirrorAxis {a : Nat} : Logs s (Machine.mirrorAxis a s).2 := by
  unfold Machine.mirrorAxis
  split
  · exact .refl s
  · dsimp only
    refine (mirAddrs (a := a)).trans ?_
    split
    · exact readAddrs.trans cleanSample
    · exact cleanSample

theorem mirrorWords {g : Nat} : Logs s (Machine.mirrorWords g s).2 := by
  unfold Machine.mirrorWords
  dsimp only
  refine foldl (fun acc i => ?_) (List.range 8) ((0, 0, []), s)
  have h : Logs acc.2 (Machine.mirrorAxis (8 * g + i) acc.2).2 := mirrorAxis
  generalize Machine.mirrorAxis (8 * g + i) acc.2 = r at h ⊢
  exact h

end Logs

/-! Sending (R279, R283). -/

/-- Forming a record emits nothing. -/
theorem casForm_outs {k sd : Nat} : (casForm p k sd s).2.outs = s.outs := by
  have hwindow : (openWindow s).outs = s.outs := by
    unfold openWindow
    split <;> rfl
  have hmirror (g : Nat) : (mirrorWords g s).2.outs = s.outs := (congrArg State.outs (Logs.mirrorWords (s := s) (g := g)).rest :)
  unfold casForm
  split
  · rfl
  · exact hwindow
  · rfl
  · split <;> rfl
  · rfl
  · exact hmirror _
  · rfl

theorem casSend_sends {e k l start sd : Nat} (hready : earliest (s.casReady p) = some e) (hl : l = s.pairStart p (s.at16 e))
    (hstart : start = s.nsOfTb l) (hsd : sd = s.nsOfTb (l + 256) / 2 ^ 28 + s.freeBits 16 % 9 - 4)
    (htime : s.running = true → start < s.time.nextNs)
    (hat : readyAt ((start - (useFree (advanceNs start s)).cycStart) / 2 ^ 28) (s.casReady p) = some k) :
    casSend p s = emit (.record p sd { (casForm p k sd (useFree (advanceNs start s))).1 with
        lead := (casForm p k sd (useFree (advanceNs start s))).2.leadOf p })
      (putCasPort p { (casForm p k sd (useFree (advanceNs start s))).2.casPort p with
        busy := l + (16 + 4 * (casForm p k sd (useFree (advanceNs start s))).1.words.length) * 128 }
        (casForm p k sd (useFree (advanceNs start s))).2) := by
  have hin : (s.running && decide (s.time.nextNs ≤ start)) = false := by
    cases hr : s.running with
    | false => rfl
    | true => simpa using htime hr
  subst hl hstart hsd
  unfold casSend
  simp only [hready]
  rw [hin, if_neg (by decide), hat]

/-! Records of relays (R285). -/

theorem releaseAxis_lt {src arg a : Nat} (h : s.releaseAxis src arg = some a) : a < 256 := by
  obtain ⟨q, -, hq⟩ := List.exists_of_findSome?_eq_some h
  split at hq
  · dsimp only at hq
    split at hq
    · cases hq
      exact Nat.mod_lt _ (by decide)
    · cases hq
  · cases hq

/-- The words that the head of a record has at least, and the sample that it keeps or takes. -/
def headWords (w q : Nat) (ws : List Nat) (keep : Bool) (s : State) : State :=
  if keep then writeNet w ws s else writeNet (w + 3) [q] (writeNet w ws s)

/-- What the head of a record does to its axis. -/
def headMarks (cyc a q age dstat : Nat) (fresh valid : Bool) (s : State) : State :=
  onlyIf fresh (fun t => putAx a { t.ax a with dstat := some (cyc, dstat) } t)
    (onlyIf valid (keepValid a cyc q)
      (onlyIf (fresh && age = 0) (fun t => putAx a { t.ax a with fbPos := some (cyc, q) } t)
        (axTripIf (fresh && dstat.testBit 2) a 7 (axTripIf (s.ageLim cyc a < age && s.ageLim cyc a ≠ 255) a 5 s))))

section

variable {cyc w a age pos dstat : Nat} {fresh empty keep : Bool}

theorem feedbackHead_none : ∃ ws, ws.length = 3 ∧
    feedbackHead cyc w none age fresh empty keep pos dstat s = headWords w pos ws keep s := ⟨[_, _, _], rfl, rfl⟩

theorem feedbackHead_some : ∃ ws q valid, ws.length = 3 ∧
    feedbackHead cyc w (some a) age fresh empty keep pos dstat s =
      headMarks cyc a q age dstat fresh valid (headWords w q ws keep s) := ⟨[_, _, _], _, _, rfl, rfl⟩

theorem headMarks_mem {q : Nat} {valid : Bool} : (headMarks cyc a q age dstat fresh valid s).mem = s.mem := by
  have htrip {c : Bool} {b : Nat} {t : State} : (axTripIf c a b t).mem = t.mem := onlyIf_mem (f := axTrip a b) flagEvent_mem
  exact (onlyIf_mem rfl).trans ((onlyIf_mem rfl).trans ((onlyIf_mem rfl).trans (htrip.trans htrip)))

end

/-- The state without what the head of a record and a release may change. -/
def State.unmarked (s : State) : State := { s.calm with axes := [], pods := [], free := 0 }

/-- The head of a record and a release may lie between s and t. -/
abbrev Heads (s t : State) : Prop := Keeps State.unmarked s t

theorem Logs.heads (h : Logs s t) : Heads s t :=
  ⟨congrArg (fun x : State => ({ x with axes := [], pods := [], free := 0 } : State)) h.rest, h.missed⟩

namespace Heads

theorem cas (h : Heads s t) : t.cas = s.cas := (congrArg State.cas h.rest :)

theorem time (h : Heads s t) : t.time = s.time := (congrArg State.time h.rest :)

theorem axTripIf {c : Bool} {n b : Nat} (hn : n < 256) : Heads s (Machine.axTripIf c n b s) := by
  have hstat : notPortCnt (Reg.AX_STAT n) := fun p _ => by unfold Reg.CAS_PORT_CNT Reg.AX_STAT; omega
  have hfault : notPortCnt (Reg.AX_FAULT n) := fun p _ => by unfold Reg.CAS_PORT_CNT Reg.AX_FAULT; omega
  have htrip : Logs s (flagEvent 2 0 b clsFault n (Reg.AX_FAULT n) (orReg (Reg.AX_STAT n) (2 ^ (16 + b)) s)) :=
    (Logs.orReg hstat).trans (Logs.flagEvent hfault)
  exact .onlyIf (f := axTrip n b) (htrip.heads.trans (.of_regs rfl rfl))

theorem headMarks {cyc a q age dstat : Nat} {fresh valid : Bool} (ha : a < 256) :
    Heads s (Machine.headMarks cyc a q age dstat fresh valid s) := by
  have hput (v : AxSt) (t : State) : Heads t (putAx a v t) := .of_regs rfl rfl
  have hkeep (t : State) : Heads t (keepValid a cyc q t) := hput _ _
  unfold Machine.headMarks
  exact ((axTripIf ha).trans (axTripIf ha)).trans
    ((Keeps.onlyIf (hput _ _)).trans ((Keeps.onlyIf (hkeep _)).trans (.onlyIf (hput _ _))))

theorem headWords {w q : Nat} {ws : List Nat} {keep : Bool} : Heads s (Machine.headWords w q ws keep s) := by
  have hnet (w : Nat) (vs : List Nat) (t : State) : Heads t (Machine.writeNet w vs t) := (Logs.writeNet w vs t).heads
  exact (hnet _ _ _).trans (.ite (.refl _) (hnet _ _ _))

theorem feedbackHead {cyc w age pos dstat : Nat} {axis : Option Nat} {fresh empty keep : Bool}
    (h : ∀ a, axis = some a → a < 256) : Heads s (Machine.feedbackHead cyc w axis age fresh empty keep pos dstat s) := by
  cases axis with
  | none =>
    obtain ⟨ws, -, hhead⟩ := feedbackHead_none (s := s) (cyc := cyc) (w := w) (age := age) (pos := pos) (dstat := dstat)
      (fresh := fresh) (empty := empty) (keep := keep)
    rw [hhead]
    exact headWords
  | some a =>
    obtain ⟨ws, q, valid, -, hhead⟩ := feedbackHead_some (s := s) (cyc := cyc) (w := w) (a := a) (age := age) (pos := pos)
      (dstat := dstat) (fresh := fresh) (empty := empty) (keep := keep)
    rw [hhead]
    exact headWords.trans (headMarks (h a rfl))

theorem relayHead {cyc q idx age pos dstat : Nat} {fresh : Bool} :
    Heads s (Machine.relayHead cyc q idx age fresh pos dstat s) := by
  unfold Machine.relayHead
  exact (feedbackHead fun a ha => releaseAxis_lt ha).trans (.ite (Logs.writeNet _ _ _).heads (.refl _))

theorem releaseCascade {q idx : Nat} : Heads s (Machine.releaseCascade q idx s) := by
  have harrive (q : Nat) (r : RelReq) (t : State) : Heads t (arrive q r t) := .ite (.of_regs rfl rfl) (.refl t)
  exact .forAll (fun q t => .forAll (fun m u => harrive _ _ _) _) _

end Heads

/-! Misses (R286). -/

/-- Counting one miss after what leaves the port, and releasing its descriptors. -/
theorem missCounted {idx : Nat} (hp : p < 3) (hu : Heads s u) :
    (releaseCascade p idx (incRf (Reg.CAS_PORT_CNT p) 23 12 u)).cas = s.cas ∧
    (releaseCascade p idx (incRf (Reg.CAS_PORT_CNT p) 23 12 u)).time = s.time ∧
    (releaseCascade p idx (incRf (Reg.CAS_PORT_CNT p) 23 12 u)).rf (Reg.CAS_PORT_CNT p) 23 12 =
      satAdd 12 (s.rf (Reg.CAS_PORT_CNT p) 23 12) 1 := by
  have hrel := (Heads.releaseCascade (s := incRf (Reg.CAS_PORT_CNT p) 23 12 u) (q := p) (idx := idx))
  have hcas : (incRf (Reg.CAS_PORT_CNT p) 23 12 u).cas = u.cas := rfl
  have htime : (incRf (Reg.CAS_PORT_CNT p) 23 12 u).time = u.time := rfl
  refine ⟨hrel.cas.trans (hcas.trans hu.cas), hrel.time.trans (htime.trans hu.time), ?_⟩
  rw [hrel.missed p hp, rf_incRf_self (by decide) (by decide), hu.missed p hp]

theorem relayMissOne_counts {cyc idx : Nat} (hp : p < 3) : (relayMissOne p cyc idx s).cas = s.cas ∧
    (relayMissOne p cyc idx s).time = s.time ∧
    (relayMissOne p cyc idx s).rf (Reg.CAS_PORT_CNT p) 23 12 = satAdd 12 (s.rf (Reg.CAS_PORT_CNT p) 23 12) 1 := by
  have hread {ag a : Nat} {t : State} : Heads t (read32 ag 0 a t).2 := Logs.read32.heads
  have hfree (t : State) : Heads t (useFree t) := .of_regs rfl rfl
  have hstat {w : Nat} {t : State} : Heads t (keptStat w t).2 := hread
  unfold relayMissOne
  dsimp only
  refine missCounted hp (.trans ?_ Heads.relayHead)
  refine .trans (.trans ?_ hread) hstat
  split
  · exact hread
  · exact hread.trans (hfree _)

/-- One more, and then the rest, limited to 12 bits. -/
theorem satAdd_then (n k : Nat) : min (satAdd 12 n 1 + k) 4095 = min (n + (k + 1)) 4095 := by
  unfold satAdd
  omega

theorem relayMisses_count {cyc : Nat} {is : List Nat} (hp : p < 3) : (forAll is (relayMissOne p cyc) s).cas = s.cas ∧
    (forAll is (relayMissOne p cyc) s).time = s.time ∧
    (forAll is (relayMissOne p cyc) s).rf (Reg.CAS_PORT_CNT p) 23 12 =
      min (s.rf (Reg.CAS_PORT_CNT p) 23 12 + is.length) 4095 := by
  induction is generalizing s with
  | nil =>
    have hlt : s.rf (Reg.CAS_PORT_CNT p) 23 12 < 4096 := fld_lt _ 23 12
    exact ⟨rfl, rfl, (Nat.min_eq_left (Nat.le_of_lt_succ hlt)).symm⟩
  | cons i is ih =>
    obtain ⟨hcas, htime, hcnt⟩ := relayMissOne_counts (s := s) (cyc := cyc) (idx := i) hp
    obtain ⟨hcas', htime', hcnt'⟩ := ih (s := relayMissOne p cyc i s)
    rw [forAll_cons, hcas', hcas, htime', htime, hcnt', hcnt, satAdd_then, List.length_cons]
    exact ⟨rfl, rfl, rfl⟩

theorem casPort_cas (h : t.cas = s.cas) : t.casPort p = s.casPort p :=
  congrArg (fun c : CasSt => kvGet (fun _ => ({} : CasPort)) c.ports p) h

@[simp] theorem casPort_putCasPort {v : CasPort} : (putCasPort p v s).casPort p = v := kvGet_kvPut_self

theorem portCnt_settle (hp : p < 3) : (settle s).rf (Reg.CAS_PORT_CNT p) 23 12 = s.rf (Reg.CAS_PORT_CNT p) 23 12 := by
  refine rf_of_reg (settle_reg ?_)
  have hlow : ¬0x400A0000 ≤ Reg.CAS_PORT_CNT p := by
    unfold Reg.CAS_PORT_CNT
    omega
  rw [marrowReg, decide_eq_false hlow, Bool.false_and]

theorem Passes.cas (h : Passes s t) : t.cas = s.cas := (congrArg State.cas h.rest :)

/-- The miss tick of the present cycle: it is noted, and what the port has not accepted is missed. -/
theorem relayMiss_due (hp : p < 3) (hrun : s.csState = 5) (hdl : s.af (Reg.CAS_RXDL p) 23 0 ≠ 0)
    (hnew : (s.casPort p).missCyc ≠ some s.cyc) (hlate : (s.casPort p).late = none)
    (hin : s.inCycle (s.relayMissTick p) = true) :
    ((relayMiss p s).casPort p).missCyc = some (advanceTo (s.relayMissTick p) s).cyc ∧
    (relayMiss p s).rf (Reg.CAS_PORT_CNT p) 23 12 = min (s.rf (Reg.CAS_PORT_CNT p) 23 12 +
      ((s.casPort p).known.filter (fun i => !((s.casPort p).now.contains i))).length) 4095 := by
  have hpass : Passes s (advanceTo (s.relayMissTick p) s) := .advanceTo
  have hport : (advanceTo (s.relayMissTick p) s).casPort p = s.casPort p := casPort_cas hpass.cas
  have hcnt := hpass.missed p hp
  have hdue : s.relayMissDue p = true := by
    simp only [State.relayMissDue, hrun, hdl, hnew, ne_eq, not_false_eq_true, decide_true, Bool.and_self]
  unfold relayMiss
  simp only [hlate, hdue, hin, Bool.and_self, if_true]
  generalize advanceTo (s.relayMissTick p) s = u at hport hcnt ⊢
  obtain ⟨hcas, -, hcount⟩ := relayMisses_count (s := putCasPort p { u.casPort p with missCyc := some u.cyc } u)
    (is := (putCasPort p { u.casPort p with missCyc := some u.cyc } u).relayMissing p)
    (cyc := (putCasPort p { u.casPort p with missCyc := some u.cyc } u).cyc) hp
  refine ⟨?_, ?_⟩
  · rw [casPort_cas hcas, casPort_putCasPort]
  · rw [hcount, State.relayMissing, casPort_putCasPort, hport, ← hcnt]
    rfl

/-- The misses left by the cycle before. -/
theorem relayMiss_late {m : LateMiss} {is : List Nat} (hp : p < 3) (hlate : (s.casPort p).late = some (m, is)) :
    ((relayMiss p s).casPort p).late = none ∧ m.due ≤ (relayMiss p s).time.tick ∧
    (relayMiss p s).rf (Reg.CAS_PORT_CNT p) 23 12 = min (s.rf (Reg.CAS_PORT_CNT p) 23 12 + is.length) 4095 := by
  have hpass : Passes (putCasPort p { s.casPort p with late := none } s)
      (advanceTo m.due (putCasPort p { s.casPort p with late := none } s)) := .advanceTo
  have htick := advanceTo_tick (m := m.due) (s := putCasPort p { s.casPort p with late := none } s)
  have hmiss : relayMiss p s = forAll is (relayMissOne p m.cyc)
      (advanceTo m.due (putCasPort p { s.casPort p with late := none } s)) := by
    unfold relayMiss
    simp only [hlate]
  have hport := casPort_cas (p := p) hpass.cas
  have hcnt := hpass.missed p hp
  rw [hmiss]
  generalize advanceTo m.due (putCasPort p { s.casPort p with late := none } s) = u at hport hcnt htick ⊢
  obtain ⟨hcas, htime, hcount⟩ := relayMisses_count (s := u) (cyc := m.cyc) (is := is) hp
  refine ⟨?_, ?_, ?_⟩
  · rw [casPort_cas hcas, hport, casPort_putCasPort]
  · rw [htime]
    exact htick
  · rw [hcount, hcnt]
    rfl

end Sys2Proof.Machine
end

section
/-! Words of network buffer memory: what a 32-bit write stores and leaves (R390). -/

namespace Sys2Proof.Machine

variable {s t : State}

/-- The check symbols of the word at a are those of a stored word, clean or under the mark. -/
def State.sound (s : State) (a : Nat) : Prop := s.chkAt a = (0, 0) ∨ s.chkAt a = poisonMark

theorem sound_word {a b : Nat} (h : b / 8 = a / 8) : s.sound b ↔ s.sound a := by
  unfold State.sound State.chkAt
  rw [h]

/-- A stored word is read as it stands. -/
theorem decodeAt_sound {a : Nat} (h : s.sound a) : (s.decodeAt a).data = s.rawBytes (a / 8 * 8) 8 := by
  have hclean : decode (0 ^^^ 0) (0 ^^^ gfTwo 0) = .clean := by decide
  have hmark : decode (poisonMark.1 ^^^ poisonMark.2) (poisonMark.1 ^^^ gfTwo poisonMark.2) = .poisoned := by decide
  unfold State.decodeAt
  obtain h | h := h
  · simp only [h, hclean]
  · simp only [h, hmark]

section

variable {a v m r x : Nat} {k : Bool}

theorem storeWord_sound (hx : x / 8 = a / 8) : (storeWord a v k s).sound x := by
  have hchk : (storeWord a v k s).chkAt x = if k then poisonMark else (0, 0) := by
    unfold storeWord
    rw [chkAt_putChk, if_pos hx]
  unfold State.sound
  rw [hchk]
  cases k
  · exact .inl rfl
  · exact .inr rfl

theorem writeMasked_sound (hx : x / 8 = a / 8) : (writeMasked a v m k s).sound x := by
  unfold writeMasked
  split <;> exact storeWord_sound hx

/-- Bytes of a stored word outside the mask stay (R390). -/
theorem writeMasked_unmasked {i : Nat} (ha : 0x40000 ≤ a) (hm : memOf a = some r) (hs : s.sound a) (hi : i < 8)
    (hbit : m.testBit i = false) : (writeMasked a v m k s).byteAt (a / 8 * 8 + i) = s.byteAt (a / 8 * 8 + i) := by
  have hpart : m ≠ 255 := by
    rintro rfl
    rw [byteMask_bit hi] at hbit
    cases hbit
  have hmerge : writeMasked a v m k s = storeWord a (mergeBytes (readWord 11 0 a s).1.data v m)
      (k || !(readWord 11 0 a s).1.ok) (readWord 11 0 a s).2 := if_neg hpart
  rw [hmerge, byteAt_storeWord_in ha hi, mergeBytes_byte hi, if_neg (by simp [hbit]), readWord_of_mem hm, decodeAt_sound hs,
    rawBytes_byte hi]

/-- The halves of a word: the bytes that a 32-bit write at a enables, from the word's start. -/
theorem write32_masked : ∃ m w, write32 a v k s = writeMasked a w m k s ∧
    (∀ i, i < 4 → m.testBit (a / 4 % 2 * 4 + i) = true ∧ m.testBit ((1 - a / 4 % 2) * 4 + i) = false) ∧
    ∀ i, i < 4 → BitVec.ofNat 8 (w >>> (8 * (a / 4 % 2 * 4 + i))) = BitVec.ofNat 8 (v >>> (8 * i)) := by
  have hbyte {n n' : Nat} (h : n % 256 = n' % 256) : BitVec.ofNat 8 n = BitVec.ofNat 8 n' := BitVec.eq_of_toNat_eq (by simpa using h)
  have hmask : ∀ i < 4, Nat.testBit 0x0F i = true ∧ Nat.testBit 0x0F (4 + i) = false ∧
      Nat.testBit 0xF0 (4 + i) = true ∧ Nat.testBit 0xF0 i = false := by decide
  obtain hhalf | hhalf : a / 4 % 2 = 0 ∨ a / 4 % 2 = 1 := by omega
  · refine ⟨0x0F, v % 2 ^ 32, if_pos hhalf, fun i hi => ?_, fun i hi => hbyte ?_⟩ <;> rw [hhalf]
    · simpa using ⟨(hmask i hi).1, (hmask i hi).2.1⟩
    · simp only [Nat.shiftRight_eq_div_pow]
      interval_cases i <;> omega
  · refine ⟨0xF0, (v % 2 ^ 32) <<< 32, if_neg (by omega), fun i hi => ?_, fun i hi => hbyte ?_⟩ <;> rw [hhalf]
    · simpa using ⟨(hmask i hi).2.2.1, (hmask i hi).2.2.2⟩
    · simp only [Nat.shiftRight_eq_div_pow, Nat.shiftLeft_eq]
      interval_cases i <;> omega

end

/-! Words of network buffer memory. -/

theorem netAddr_ge {w : Nat} : 0x40000 ≤ netAddr w := by
  have h : memBase 5 = 0x24000000 := rfl
  unfold netAddr
  omega

theorem memOf_netAddr {w : Nat} (hw : w < 131072) : memOf (netAddr w) = some 5 := by
  have hin : (decide (memBase 5 ≤ netAddr w) && decide (netAddr w < memBase 5 + 8 * memWords 5)) = true := by
    have hwords : memWords 5 = 65536 := rfl
    rw [Bool.and_eq_true, decide_eq_true_eq, decide_eq_true_eq, hwords]
    unfold netAddr
    omega
  have hsome : (memOf (netAddr w)).isSome = true := List.find?_isSome.mpr ⟨5, by decide, hin⟩
  obtain ⟨m, hm⟩ := Option.isSome_iff_exists.mp hsome
  obtain ⟨hlt, hlo, hhi⟩ := memOf_range hm
  have h5 : netAddr w = 0x24000000 + 4 * w := rfl
  have h : m = 5 := by
    interval_cases m <;> simp only [memBase, memWords] at hlo hhi <;> omega
  exact h ▸ hm

/-- Word w of network buffer memory stands with value v. -/
structure NetWord (w v : Nat) (s : State) : Prop where
  bytes : ∀ i, i < 4 → s.byteAt (netAddr w + i) = BitVec.ofNat 8 (v >>> (8 * i))
  sound : s.sound (netAddr w)

theorem NetWord.of_mem {w v : Nat} (h : NetWord w v s) (hmem : t.mem = s.mem) : NetWord w v t := by
  have hchk : t.chkAt (netAddr w) = s.chkAt (netAddr w) := by
    unfold State.chkAt
    rw [hmem]
  exact ⟨fun i hi => (byteAt_congr hmem _).trans (h.bytes i hi), by unfold State.sound; rw [hchk]; exact h.sound⟩

/-- The word reads as its value. -/
theorem NetWord.raw {w v : Nat} (h : NetWord w v s) : s.rawBytes (netAddr w) 4 = v % 2 ^ 32 := by
  have hbyte (i : Nat) (hi : i < 4) : (s.byteAt (netAddr w + i)).toNat = v / 2 ^ (8 * i) % 256 := by
    rw [h.bytes i hi, BitVec.toNat_ofNat, Nat.shiftRight_eq_div_pow]
  have h0 := hbyte 0 (by decide)
  have h1 := hbyte 1 (by decide)
  have h2 := hbyte 2 (by decide)
  have h3 := hbyte 3 (by decide)
  simp only [State.rawBytes, Nat.add_assoc, Nat.reduceAdd, Nat.add_zero] at h0 h1 h2 h3 ⊢
  omega

theorem put32_word {w v : Nat} (hw : w < 131072) : NetWord w v (put32 (netAddr w) v false s) := by
  obtain ⟨m, x, hput, hmask, hval⟩ := write32_masked (s := noteWord s.time.tick (netAddr w) s) (a := netAddr w) (v := v) (k := false)
  have hb := writeMasked_bytes (s := noteWord s.time.tick (netAddr w) s) (v := x) (m := m) (k := false) netAddr_ge (memOf_netAddr hw)
  have hat : netAddr w = netAddr w / 8 * 8 + netAddr w / 4 % 2 * 4 := by
    have h5 : netAddr w = 0x24000000 + 4 * w := rfl
    omega
  unfold put32
  rw [hput]
  refine ⟨fun i hi => ?_, writeMasked_sound rfl⟩
  have hin : netAddr w + i = netAddr w / 8 * 8 + (netAddr w / 4 % 2 * 4 + i) := by omega
  rw [hin, hb.written _ (by omega) (hmask i hi).1]
  exact hval i hi

/-- A write of another word leaves one that stands. -/
theorem put32_keeps {w v w' v' : Nat} (hw' : w' < 131072) (hne : w ≠ w') (h : NetWord w v s) :
    NetWord w v (put32 (netAddr w') v' false s) := by
  obtain ⟨m, x, hput, hmask, -⟩ := write32_masked (s := noteWord s.time.tick (netAddr w') s) (a := netAddr w') (v := v') (k := false)
  have hw5 : netAddr w = 0x24000000 + 4 * w := rfl
  have hw5' : netAddr w' = 0x24000000 + 4 * w' := rfl
  unfold put32
  rw [hput]
  by_cases hsame : netAddr w / 8 = netAddr w' / 8
  · refine ⟨fun i hi => ?_, writeMasked_sound hsame⟩
    have hin : netAddr w + i = netAddr w' / 8 * 8 + ((1 - netAddr w' / 4 % 2) * 4 + i) := by omega
    have hsound : s.sound (netAddr w') := (sound_word hsame.symm).mpr h.sound
    rw [hin, writeMasked_unmasked (s := noteWord s.time.tick (netAddr w') s) netAddr_ge (memOf_netAddr hw') hsound
      (by omega) (hmask i hi).2, ← hin]
    exact h.bytes i hi
  · have hb := writeMasked_bytes (s := noteWord s.time.tick (netAddr w') s) (v := x) (m := m) (k := false) netAddr_ge (memOf_netAddr hw')
    have hchk := (hb.outside (netAddr w) hsame).2
    refine ⟨fun i hi => (hb.outside _ (by omega)).1.trans (h.bytes i hi), ?_⟩
    unfold State.sound
    rw [hchk]
    exact h.sound

theorem writeNet_keeps {w v j : Nat} {vs : List Nat} (hne : ∀ i, i < vs.length → w ≠ (j + i) % 131072) (h : NetWord w v s) :
    NetWord w v (writeNet j vs s) := by
  induction vs generalizing j s with
  | nil => exact h
  | cons x xs ih =>
    refine ih (j := j + 1) (fun i hi => ?_) (put32_keeps (Nat.mod_lt _ (by decide)) (hne 0 (by simp)) h)
    have := hne (i + 1) (by simpa using hi)
    rwa [show j + 1 + i = j + (i + 1) by omega]

theorem writeNet_word {j i : Nat} {vs : List Nat} (hlen : vs.length ≤ 131072) (hi : i < vs.length) :
    NetWord ((j + i) % 131072) (vs.getD i 0) (writeNet j vs s) := by
  induction vs generalizing j i s with
  | nil => cases hi
  | cons x xs ih =>
    cases i with
    | zero =>
      refine writeNet_keeps (j := j + 1) (vs := xs) (fun k hk => ?_) (put32_word (w := (j + 0) % 131072) (Nat.mod_lt _ (by decide)))
      have hk' : k < 131071 := by simp only [List.length_cons] at hlen; omega
      omega
    | succ i =>
      have := ih (j := j + 1) (i := i) (s := put32 (netAddr (j % 131072)) x false s) (by simp only [List.length_cons] at hlen; omega)
        (by simpa using hi)
      rwa [show j + 1 + i = j + (i + 1) by omega] at this

end Sys2Proof.Machine
end

section
/-! Time that passes by itself does not depend on the cascade (R53, R96, R211). -/

namespace Sys2Proof.Machine

variable {s s' t t' : State} {c : CasSt}

/-- The state with another cascade. -/
def State.withCas (c : CasSt) (s : State) : State := { s with cas := c }

/-- s' is s but for its cascade, which is c. -/
def Swap (c : CasSt) (s s' : State) : Prop := s' = s.withCas c

namespace Swap

theorem of_eq (s : State) : Swap c s (s.withCas c) := rfl

/-- What commutes with the exchange of the cascade keeps two states alike. -/
theorem lift {f : State → State} (hs : Swap c s s') (h : f (s.withCas c) = (f s).withCas c) : Swap c (f s) (f s') := by
  subst hs
  exact h

theorem onlyIf {b : Bool} {f f' : State → State} (hs : Swap c s s') (h : Swap c (f s) (f' s')) :
    Swap c (Machine.onlyIf b f s) (Machine.onlyIf b f' s') := by
  cases b
  · exact hs
  · exact h

theorem ite {b : Prop} [Decidable b] (hs : Swap c s s') (ht : Swap c t t') : Swap c (if b then s else t) (if b then s' else t') := by
  split
  · exact hs
  · exact ht

theorem forAll {α : Type} {f : α → State → State} (hs : Swap c s s') (h : ∀ x t, Swap c (f x t) (f x (t.withCas c)))
    (xs : List α) : Swap c (Machine.forAll xs f s) (Machine.forAll xs f s') := by
  induction xs generalizing s s' with
  | nil => exact hs
  | cons x xs ih =>
    subst hs
    exact ih (h x s)

/-! Events. -/

theorem queueEv {e : Ev} (hs : Swap c s s') : Swap c (Machine.queueEv e s) (Machine.queueEv e s') := by
  subst hs
  unfold Machine.queueEv
  exact onlyIf rfl rfl

theorem event {k cls inst x y : Nat} (hs : Swap c s s') : Swap c (Machine.event k cls inst x y s) (Machine.event k cls inst x y s') := by
  subst hs
  unfold Machine.event pushEv
  exact ite rfl (queueEv rfl)

theorem orReg {a m : Nat} (hs : Swap c s s') : Swap c (Machine.orReg a m s) (Machine.orReg a m s') := hs.lift rfl

theorem incRf {a hi lo : Nat} (hs : Swap c s s') : Swap c (Machine.incRf a hi lo s) (Machine.incRf a hi lo s') := hs.lift rfl

theorem setReg {a : Nat} {v : Word} (hs : Swap c s s') : Swap c (Machine.setReg a v s) (Machine.setReg a v s') := hs.lift rfl

theorem setRf {a hi lo v : Nat} (hs : Swap c s s') : Swap c (Machine.setRf a hi lo v s) (Machine.setRf a hi lo v s') := hs.lift rfl

theorem regEvent {src reg b cls inst a : Nat} (hs : Swap c s s') :
    Swap c (Machine.regEvent src reg b cls inst a s) (Machine.regEvent src reg b cls inst a s') := by
  subst hs
  exact event rfl

theorem flagEvent {src reg b cls inst a : Nat} (hs : Swap c s s') :
    Swap c (Machine.flagEvent src reg b cls inst a s) (Machine.flagEvent src reg b cls inst a s') := regEvent hs.orReg

theorem irq {i : FwIrq} (hs : Swap c s s') : Swap c (Machine.irq i s) (Machine.irq i s') := by
  subst hs
  exact ite rfl rfl

/-! Memory. -/

theorem memErr {b inst : Nat} (hs : Swap c s s') : Swap c (Machine.memErr b inst s) (Machine.memErr b inst s') := by
  subst hs
  exact onlyIf (flagEvent rfl) (irq (flagEvent rfl))

theorem memElog {m agent chan a : Nat} {r : RdOut} (hs : Swap c s s') :
    Swap c (Machine.memElog m agent chan a r s) (Machine.memElog m agent chan a r s') := by
  subst hs
  exact onlyIf rfl rfl

theorem logRead {m agent chan a : Nat} {r : RdOut} (hs : Swap c s s') :
    Swap c (Machine.logRead m agent chan a r s) (Machine.logRead m agent chan a r s') := by
  subst hs
  unfold Machine.logRead
  dsimp only
  split
  · rfl
  · exact ite (memErr rfl) (memErr (ite rfl rfl))
  · exact ite (memErr (memElog rfl).incRf) (memErr (memElog rfl).incRf)
  · exact ite (memErr (memElog rfl).incRf) (memErr (memElog rfl).incRf)

theorem readWord {agent chan a : Nat} (hs : Swap c s s') :
    Swap c (Machine.readWord agent chan a s).2 (Machine.readWord agent chan a s').2 := by
  subst hs
  unfold Machine.readWord
  split
  · exact logRead rfl
  · rfl

theorem readWord_value {agent chan a : Nat} (hs : Swap c s s') :
    (Machine.readWord agent chan a s').1 = (Machine.readWord agent chan a s).1 := by
  subst hs
  unfold Machine.readWord
  split <;> rfl

theorem putBytes {a v n : Nat} (hs : Swap c s s') : Swap c (Machine.putBytes a v n s) (Machine.putBytes a v n s') := by
  induction n generalizing a v s s' with
  | zero => exact hs
  | succ n ih =>
    subst hs
    exact ih rfl

theorem storeWord {a v : Nat} {k : Bool} (hs : Swap c s s') : Swap c (Machine.storeWord a v k s) (Machine.storeWord a v k s') :=
  hs.putBytes.lift (f := putChk a (if k then poisonMark else (0, 0))) rfl

theorem writeMasked {a v m : Nat} {k : Bool} (hs : Swap c s s') :
    Swap c (Machine.writeMasked a v m k s) (Machine.writeMasked a v m k s') := by
  unfold Machine.writeMasked
  dsimp only
  rw [hs.readWord_value]
  exact ite hs.storeWord hs.readWord.storeWord

theorem write32 {a v : Nat} {k : Bool} (hs : Swap c s s') : Swap c (Machine.write32 a v k s) (Machine.write32 a v k s') :=
  ite hs.writeMasked hs.writeMasked

theorem put32 {a v : Nat} {k : Bool} (hs : Swap c s s') : Swap c (Machine.put32 a v k s) (Machine.put32 a v k s') := by
  subst hs
  exact write32 rfl

theorem writeNet {w : Nat} {vs : List Nat} (hs : Swap c s s') : Swap c (Machine.writeNet w vs s) (Machine.writeNet w vs s') := by
  induction vs generalizing w s s' with
  | nil => exact hs
  | cons v vs ih => exact ih hs.put32

theorem mergeSecond {a v : Nat} {k : Bool} (hs : Swap c s s') : Swap c (Machine.mergeSecond a v k s) (Machine.mergeSecond a v k s') := by
  subst hs
  exact storeWord rfl

/-! Time that passes by itself. -/

theorem commandReady {n ob cyc tick : Nat} (hs : Swap c s s') :
    Swap c (Machine.commandReady n ob cyc tick s) (Machine.commandReady n ob cyc tick s') := by
  have hput {s s' : State} (hs : Swap c s s') : Swap c (putAx n { s.ax n with ready := some (cyc, tick), ob := some ob } s)
      (putAx n { s'.ax n with ready := some (cyc, tick), ob := some ob } s') := by
    subst hs
    rfl
  subst hs
  exact hput (ite (put32 rfl).writeNet (put32 rfl))

theorem landAt {w : PendWr} {a : Nat} {k : Bool} (hs : Swap c s s') : Swap c (Machine.landAt w a k s) (Machine.landAt w a k s') := by
  subst hs
  exact ite (mergeSecond rfl) (write32 rfl)

theorem podFlags {p f : Nat} (hs : Swap c s s') : Swap c (Machine.podFlags p f s) (Machine.podFlags p f s') := by
  have hflag (b : Nat) (t : State) : Swap c (Machine.irq (.loopEngine p b) (Machine.regEvent 0 0 b clsWarn p (Reg.LE_FLAGS p) t))
      (Machine.irq (.loopEngine p b) (Machine.regEvent 0 0 b clsWarn p (Reg.LE_FLAGS p) (t.withCas c))) := irq (regEvent rfl)
  subst hs
  refine forAll (of_eq s).orReg (fun b t => ?_) _
  exact onlyIf (f := fun t => Machine.irq (.loopEngine p b) (Machine.regEvent 0 0 b clsWarn p (Reg.LE_FLAGS p) t))
    (f' := fun t => Machine.irq (.loopEngine p b) (Machine.regEvent 0 0 b clsWarn p (Reg.LE_FLAGS p) t)) rfl (hflag b t)

theorem showCtx {n : Nat} (hs : Swap c s s') : Swap c (Machine.showCtx n s) (Machine.showCtx n s') := by
  have hctx (m : Nat) : s'.ctx m = s.ctx m := by
    subst hs
    rfl
  have hset (a : Nat) (v : Word) (t : State) (m : Nat) : (Machine.setReg a v t).ctx m = t.ctx m := rfl
  unfold Machine.showCtx
  simp only [hset, hctx]
  exact hs.setReg.setRf

theorem putCtx {n : Nat} {x : Ctx} (hs : Swap c s s') : Swap c (Machine.putCtx n x s) (Machine.putCtx n x s') := by
  subst hs
  exact showCtx rfl

theorem ctxFlags {n p f : Nat} (hs : Swap c s s') : Swap c (Machine.ctxFlags n p f s) (Machine.ctxFlags n p f s') := by
  have hflags {s s' : State} (hs : Swap c s s') : Swap c (Machine.putCtx n { s.ctx n with flags := (s.ctx n).flags ||| f % 256 } s)
      (Machine.putCtx n { s'.ctx n with flags := (s'.ctx n).flags ||| f % 256 } s') := by
    subst hs
    exact putCtx rfl
  exact podFlags (onlyIf hs (hflags hs))

theorem addWrite {w : PendWr} (hs : Swap c s s') : Swap c (Machine.addWrite w s) (Machine.addWrite w s') := hs.lift rfl

theorem landWrite {w : PendWr} (hs : Swap c s s') : Swap c (Machine.landWrite w s) (Machine.landWrite w s') := by
  unfold Machine.landWrite
  split
  · exact hs.landAt
  · exact onlyIf hs.landAt hs.landAt.addWrite
  · exact hs.ctxFlags
  · exact hs.commandReady

theorem toTick {n : Nat} (hs : Swap c s s') : Swap c (Machine.toTick n s) (Machine.toTick n s') := hs.lift rfl

theorem landFirst {m n : Nat} (hs : Swap c s s') : Swap c (Machine.landFirst m n s) (Machine.landFirst m n s') := by
  induction n generalizing s s' with
  | zero => exact hs
  | succ n ih =>
    have hwrites : s'.le.writes = s.le.writes := by
      subst hs
      rfl
    unfold Machine.landFirst
    rw [hwrites]
    split
    · exact hs
    · rename_i w ws _
      have htake {s s' : State} (hs : Swap c s s') : Swap c { s with le := { s.le with writes := ws } }
          { s' with le := { s'.le with writes := ws } } := by
        subst hs
        rfl
      exact ite (ih (ite (htake hs).toTick.podFlags (htake hs).toTick.landWrite)) hs

theorem landUpTo {m : Nat} (hs : Swap c s s') : Swap c (Machine.landUpTo m s) (Machine.landUpTo m s') := by
  subst hs
  exact landFirst rfl

theorem lateEntry {p : Nat} {e : QEnt} (hs : Swap c s s') : Swap c (Machine.lateEntry p e s) (Machine.lateEntry p e s') := by
  have hmark {s s' : State} (hs : Swap c s s') : Swap c (dsMark p 0 e.idx e.desc.axis s) (dsMark p 0 e.idx e.desc.axis s') := by
    have hbad {s s' : State} (hs : Swap c s s') : Swap c { s with dsBad := true } { s' with dsBad := true } := by
      subst hs
      rfl
    unfold dsMark
    exact onlyIf hs.setReg.orReg (hbad hs.setReg.orReg)
  have hcount {s s' : State} (hs : Swap c s s') : Swap c
      (Machine.incRf (Reg.DS_CNT p) 15 0
        (Machine.event (evCode 1 0 0) clsFault p ((s.reg (Reg.DS_ERR p)).toNat + e.desc.axis % 256 * 2 ^ 16) (s.cyc % 2 ^ 32) s))
      (Machine.incRf (Reg.DS_CNT p) 15 0
        (Machine.event (evCode 1 0 0) clsFault p ((s'.reg (Reg.DS_ERR p)).toNat + e.desc.axis % 256 * 2 ^ 16) (s'.cyc % 2 ^ 32) s')) := by
    subst hs
    exact incRf (event rfl)
  subst hs
  exact hcount (hmark rfl)

theorem latesUpTo {m n : Nat} (hs : Swap c s s') : Swap c (Machine.latesUpTo m n s) (Machine.latesUpTo m n s') := by
  induction n generalizing s s' with
  | zero => exact hs
  | succ n ih =>
    have hnext : s'.nextLate [0, 1, 2, 3] = s.nextLate [0, 1, 2, 3] := by
      subst hs
      rfl
    unfold Machine.latesUpTo
    rw [hnext]
    split
    · exact ite (ih hs.landUpTo.toTick.lateEntry) hs
    · exact hs

theorem missedEcho {r : Nat} (hs : Swap c s s') : Swap c (netErr r 5 s) (netErr r 5 s') := hs.flagEvent.incRf

theorem runTo {m : Nat} (hs : Swap c s s') : Swap c (Machine.runTo m s) (Machine.runTo m s') := hs.latesUpTo.landUpTo.toTick

theorem echoesUpTo {m n : Nat} (hs : Swap c s s') : Swap c (Machine.echoesUpTo m n s) (Machine.echoesUpTo m n s') := by
  induction n generalizing s s' with
  | zero => exact hs
  | succ n ih =>
    subst hs
    unfold Machine.echoesUpTo
    rw [show (s.withCas c).net = s.net from rfl]
    split
    · rename_i e _
      have htake {s s' : State} (hs : Swap c s s') : Swap c
          { s with net := { s.net with echoes := s.net.echoes.filter (fun y => y ≠ e) } }
          { s' with net := { s'.net with echoes := s'.net.echoes.filter (fun y => y ≠ e) } } := by
        subst hs
        rfl
      exact ite (ih (htake (runTo rfl)).missedEcho) rfl
    · rfl

theorem advanceTo {m : Nat} (hs : Swap c s s') : Swap c (Machine.advanceTo m s) (Machine.advanceTo m s') := by
  subst hs
  exact ite rfl (echoesUpTo rfl).runTo

end Swap

end Sys2Proof.Machine
end

section
/-! Relay records: acceptance, and the obligation (R26, R285, R286). -/

namespace Sys2Proof.Machine

variable {s t u : State} {p : Nat}

/-! Acceptance (R285). -/

/-- The record leaves the waiting ones, and its index is known. -/
def relayTaken (p idx : Nat) (a : AccPend) (s : State) : State :=
  putCasPort p { s.casPort p with
    accepts := (s.casPort p).accepts.filter (fun b => b ≠ a)
    now := if a.cyc = s.cyc then idx :: (s.casPort p).now else (s.casPort p).now
    late := if a.cyc = s.cyc then (s.casPort p).late else (s.casPort p).late.map fun (m, is) => (m, is.filter (· ≠ idx))
    known := if (s.casPort p).known.contains idx then (s.casPort p).known else (s.casPort p).known ++ [idx] } s

/-- The record at the tick of its acceptance: word 5 at w is kept, then come its payload, its head, its release. -/
def relayStored (w p idx : Nat) (a : AccPend) (s : State) : State :=
  let s := keepUq w a.cyc s
  let s := writeNet (s.relayWord a.cyc p idx + 3) a.words s
  releaseCascade p idx (relayHead a.cyc p idx a.age true (a.words.getD 0 0) (a.words.getD 1 0) s)

theorem relayAccept_found {idx : Nat} {a : AccPend}
    (h : (s.casPort p).accepts.find? (fun a => a.n = idx && s.inCycle a.due) = some a) :
    relayAccept p idx s =
      relayStored ((relayTaken p idx a s).relayWord a.cyc p idx) p idx a (advanceTo a.due (relayTaken p idx a s)) := by
  unfold relayAccept relayStored relayTaken
  dsimp only
  rw [h]

theorem relayTaken_port {idx : Nat} {a : AccPend} :
    ((relayTaken p idx a s).casPort p).accepts = (s.casPort p).accepts.filter (fun b => b ≠ a) ∧
    (a.cyc = s.cyc → idx ∈ ((relayTaken p idx a s).casPort p).now) ∧ idx ∈ ((relayTaken p idx a s).casPort p).known := by
  unfold relayTaken
  rw [casPort_putCasPort]
  refine ⟨rfl, fun hcyc => ?_, ?_⟩
  · dsimp only
    rw [if_pos hcyc]
    exact List.mem_cons_self
  · dsimp only
    split
    · rename_i hknown
      exact List.contains_iff_mem.mp hknown
    · simp

/-- Nothing of the cascade bears on what passes until the record's tick, nor on its place. -/
theorem relayWord_taken {idx m cyc : Nat} {a : AccPend} :
    (advanceTo m (relayTaken p idx a s)).relayWord cyc p idx = (advanceTo m s).relayWord cyc p idx := by
  have hswap : Swap (relayTaken p idx a s).cas (advanceTo m s) (advanceTo m (relayTaken p idx a s)) := .advanceTo rfl
  have hword {c : CasSt} {s s' : State} (h : Swap c s s') : s'.relayWord cyc p idx = s.relayWord cyc p idx := by
    subst h
    rfl
  exact hword hswap

theorem relayWord_logs {idx cyc : Nat} (h : Logs s t) : t.relayWord cyc p idx = s.relayWord cyc p idx :=
  (congrArg (fun x : State => x.relayWord cyc p idx) h.rest :)

theorem keepUq_relayWord {idx cyc w c : Nat} : (keepUq w c s).relayWord cyc p idx = s.relayWord cyc p idx := rfl

theorem releaseCascade_mem {idx : Nat} : (releaseCascade p idx s).mem = s.mem := by
  have harrive (q : Nat) (r : RelReq) (t : State) : (arrive q r t).mem = t.mem := by
    unfold arrive
    split <;> rfl
  exact forAll_keeps (P := fun t => t.mem = s.mem)
    (fun q t ht => forAll_keeps (P := fun u => u.mem = s.mem) (fun m u hu => (harrive _ _ _).trans hu) _ ht) _ rfl

/-- The head of a record leaves the words after its first four. -/
theorem relayHead_keeps {cyc idx age pos dstat w v i : Nat} (hw : w = s.relayWord cyc p idx) (hi : 1 ≤ i) (hi7 : i < 7)
    (h : NetWord ((w + 3 + i) % 131072) v s) : NetWord ((w + 3 + i) % 131072) v (relayHead cyc p idx age true pos dstat s) := by
  have hapart (k : Nat) (hk : k < 4) : (w + 3 + i) % 131072 ≠ (w + k) % 131072 := by omega
  have hwords {q : Nat} {ws : List Nat} (hlen : ws.length = 3) : NetWord ((w + 3 + i) % 131072) v (headWords w q ws false s) :=
    writeNet_keeps (fun k hk => by have := hapart 3; simp only [List.length_singleton] at hk; omega)
      (writeNet_keeps (fun k hk => hapart k (by omega)) h)
  unfold relayHead
  rw [← hw]
  dsimp only
  cases haxis : s.releaseAxis 2 (p + idx * 4) with
  | none =>
    obtain ⟨ws, hlen, hhead⟩ := feedbackHead_none (s := s) (cyc := cyc) (w := w) (age := age) (pos := pos) (dstat := dstat)
      (fresh := true) (empty := false) (keep := false)
    rw [Bool.not_true, hhead]
    exact writeNet_keeps (vs := [0, 0]) (fun k hk => hapart k (by simp only [List.length_cons, List.length_nil] at hk; omega)) (hwords hlen)
  | some a =>
    obtain ⟨ws, q, valid, hlen, hhead⟩ := feedbackHead_some (s := s) (cyc := cyc) (w := w) (a := a) (age := age) (pos := pos)
      (dstat := dstat) (fresh := true) (empty := false) (keep := false)
    rw [Bool.not_true, hhead]
    exact (hwords hlen).of_mem headMarks_mem

theorem relayStored_words {w idx i : Nat} {a : AccPend} (hlen : a.words.length = 7) (hi : 1 ≤ i) (hi7 : i < 7) :
    NetWord ((s.relayWord a.cyc p idx + 3 + i) % 131072) (a.words.getD i 0) (relayStored w p idx a s) := by
  unfold relayStored
  extract_lets k n
  have hword : n.relayWord a.cyc p idx = s.relayWord a.cyc p idx :=
    (relayWord_logs (Logs.writeNet _ _ k)).trans (keepUq_relayWord (w := w) (c := a.cyc))
  have hput : NetWord ((s.relayWord a.cyc p idx + 3 + i) % 131072) (a.words.getD i 0) n :=
    writeNet_word (by omega) (by omega)
  clear_value n
  exact (relayHead_keeps hword.symm hi hi7 hput).of_mem releaseCascade_mem

theorem relayStored_rest {w idx : Nat} {a : AccPend} :
    (relayStored w p idx a s).cas = s.cas ∧ (relayStored w p idx a s).time = s.time := by
  unfold relayStored
  extract_lets k n
  have hcas : k.cas = s.cas := rfl
  have htime : k.time = s.time := rfl
  have hput : Heads k n := (Logs.writeNet _ _ k).heads
  clear_value n k
  have hhead : Heads n (relayHead a.cyc p idx a.age true (a.words.getD 0 0) (a.words.getD 1 0) n) := .relayHead
  have h := (hput.trans hhead).trans (Heads.releaseCascade (q := p) (idx := idx))
  exact ⟨(Heads.cas h).trans hcas, (Heads.time h).trans htime⟩

theorem rawBytes_of_mem {a n : Nat} (h : t.mem = s.mem) : t.rawBytes a n = s.rawBytes a n := by
  induction n generalizing a with
  | zero => rfl
  | succ n ih => rw [State.rawBytes, State.rawBytes, ih, byteAt_congr h]

/-- What acceptance leaves: the port, the time, and payload words 1 to 6 of the record at its place. -/
theorem relayAccept_stores {idx : Nat} {a : AccPend}
    (h : (s.casPort p).accepts.find? (fun a => a.n = idx && s.inCycle a.due) = some a) (hlen : a.words.length = 7) :
    (relayAccept p idx s).casPort p = (relayTaken p idx a s).casPort p ∧ a.due ≤ (relayAccept p idx s).time.tick ∧
    ∀ i, 1 ≤ i → i < 7 → (relayAccept p idx s).rawBytes
      (netAddr (((advanceTo a.due s).relayWord a.cyc p idx + 3 + i) % 131072)) 4 = a.words.getD i 0 % 2 ^ 32 := by
  have hpass : Passes (relayTaken p idx a s) (advanceTo a.due (relayTaken p idx a s)) := .advanceTo
  have htick := advanceTo_tick (m := a.due) (s := relayTaken p idx a s)
  have hplace := relayWord_taken (s := s) (p := p) (idx := idx) (m := a.due) (cyc := a.cyc) (a := a)
  rw [relayAccept_found h, ← hplace]
  obtain ⟨hcas, htime⟩ := relayStored_rest (s := advanceTo a.due (relayTaken p idx a s)) (p := p) (idx := idx) (a := a)
    (w := (relayTaken p idx a s).relayWord a.cyc p idx)
  refine ⟨casPort_cas (hcas.trans hpass.cas), ?_, fun i hi hi7 => (relayStored_words hlen hi hi7).raw⟩
  rw [htime]
  exact htick

/-- Settles O38: what passes until a record's tick neither depends on the cascade nor changes it, and the head of a record
leaves the words behind its first four. -/
theorem relaysMirrorsAndSending : Obligations.RelaysMirrorsAndSending := by
  unfold Obligations.RelaysMirrorsAndSending
  refine fun p s hcas => ⟨fun idx a hnet hfound hlen => ?_, fun hnet hrun hdl hnew hlate hin => ?_, fun m is hnet hlate => ?_,
    fun a clean vs h => ?_, ?_⟩
  · refine answers_done ?_
    rw [hcas, hnet, Bool.and_self, onlyIf_true]
    obtain ⟨hport, htick, hwords⟩ := relayAccept_stores hfound hlen
    obtain ⟨haccepts, hnow, hknown⟩ := relayTaken_port (s := s) (p := p) (idx := idx) (a := a)
    rw [casPort_cas (settle_cas _), hport, settle_time]
    exact ⟨haccepts, hnow, hknown, htick, fun i hi hi7 => (rawBytes_of_mem (settle_mem _)).trans (hwords i hi hi7)⟩
  · refine answers_done ?_
    rw [hcas, hnet, Bool.and_self, onlyIf_true, casPort_cas (settle_cas _), portCnt_settle p.isLt]
    exact relayMiss_due p.isLt hrun hdl hnew hlate hin
  · refine answers_done ?_
    rw [hcas, hnet, Bool.and_self, onlyIf_true, casPort_cas (settle_cas _), settle_time, portCnt_settle p.isLt]
    exact relayMiss_late p.isLt hlate
  · rw [mirrorApply_late h]
    exact mirrorLate_counts
  · intro e k hmem hup hready l start sd htime u r f hat
    refine answers_done ?_
    rw [hcas, hmem, hup, Bool.and_self, Bool.and_self, onlyIf_true, casPort_cas (settle_cas _), settle_outs,
      casSend_sends hready rfl rfl rfl htime hat]
    have hpass : (advanceNs start s).outs = s.outs := (congrArg State.outs (Passes.advanceNs (s := s) (n := start)).rest :)
    have hform : r.2.outs = s.outs := casForm_outs.trans hpass
    exact ⟨congrArg (fun o => o ++ [Out.record p sd f]) hform, congrArg CasPort.busy casPort_putCasPort⟩

end Sys2Proof.Machine
end

section
/-! Integers of 32 bits, and their conversion to binary32 and back (R61, R66, R67, R69). -/

namespace Sys2Proof.Machine

/-! Integers of 32 bits. -/

theorem ofSigned_lt {v : Int} : ofSigned 32 v < 2 ^ 32 := by unfold ofSigned; omega

/-- The integer of the signed range that a number is the pattern of. -/
theorem toSigned_ofSigned {v : Int} (hlo : -(2 ^ 31) ≤ v) (hhi : v < 2 ^ 31) : toSigned 32 (ofSigned 32 v) = v := by
  unfold toSigned ofSigned
  dsimp only
  split <;> omega

/-- A pattern and the integer that it stands for agree modulo 2^32. -/
theorem toSigned_emod (x : Nat) : toSigned 32 x % 2 ^ 32 = (x % 2 ^ 32 : Nat) := by
  unfold toSigned
  dsimp only
  split <;> omega

/-! IADD and ISUB (R66). -/

/-- The exact sum or difference of two patterns. -/
def intExact (sub : Bool) (x z : Nat) : Int := if sub then toSigned 32 x - toSigned 32 z else toSigned 32 x + toSigned 32 z

theorem intOp_wrap (sub : Bool) (x z : Nat) : intOp sub false x z = (ofSigned 32 (intExact sub x z), 0) := rfl

theorem intOp_within {sub : Bool} {x z : Nat} (h : clampInt (-(2 ^ 31)) (2 ^ 31 - 1) (intExact sub x z) = intExact sub x z) :
    intOp sub true x z = (ofSigned 32 (intExact sub x z), 0) := by
  simpa [intOp, intExact] using fun hne => absurd h hne

theorem intOp_limited {sub : Bool} {x z : Nat} (h : clampInt (-(2 ^ 31)) (2 ^ 31 - 1) (intExact sub x z) ≠ intExact sub x z) :
    intOp sub true x z = (ofSigned 32 (clampInt (-(2 ^ 31)) (2 ^ 31 - 1) (intExact sub x z)), flST) := by
  simpa [intOp, intExact] using fun heq => absurd heq h

/-- The pattern of the exact value, modulo 2^32. -/
theorem ofSigned_intExact {sub : Bool} {x z : Nat} (hz : z < 2 ^ 32) :
    ofSigned 32 (intExact sub x z) = if sub then (x + 2 ^ 32 - z) % 2 ^ 32 else (x + z) % 2 ^ 32 := by
  have hx := toSigned_emod x
  have hz' := toSigned_emod z
  unfold ofSigned intExact
  cases sub
  · simp only [Bool.false_eq_true, if_false]
    omega
  · simp only [if_true]
    omega

/-- Settles O15: the two forms of the result, and with SAT whether the exact value lies within the signed range. -/
theorem integerOpsWrapOrSaturate : Obligations.IntegerOpsWrapOrSaturate := by
  unfold Obligations.IntegerOpsWrapOrSaturate
  intro sub x z _ hz
  refine ⟨by rw [intOp_wrap, ofSigned_intExact hz], ?_⟩
  change toSigned 32 (intOp sub true x z).1 = max (-(2 ^ 31)) (min (2 ^ 31 - 1) (intExact sub x z)) ∧
    ((intOp sub true x z).2 = flST ↔ intExact sub x z < -(2 ^ 31) ∨ 2 ^ 31 ≤ intExact sub x z)
  generalize hv : intExact sub x z = v
  by_cases h : clampInt (-(2 ^ 31)) (2 ^ 31 - 1) v = v
  · rw [intOp_within (hv ▸ h), hv]
    unfold clampInt at h
    refine ⟨by rw [toSigned_ofSigned] <;> omega, ?_⟩
    simp only [flST]
    omega
  · rw [intOp_limited (hv ▸ h), hv]
    unfold clampInt at h ⊢
    exact ⟨toSigned_ofSigned (by omega) (by omega), by omega⟩

/-! Normal binary32 patterns (R64). -/

/-- The pattern of a normal number: sign, biased exponent, fraction. -/
def fpNormal (neg : Bool) (ex fr : Nat) : Nat := (if neg then 2 ^ 31 else 0) + ex * 2 ^ 23 + fr

theorem unpack_fpNormal {neg : Bool} {ex fr : Nat} (hex : 0 < ex) (hex' : ex < 255) (hfr : fr < 2 ^ 23) :
    unpack (fpNormal neg ex fr) = (⟨.fin, neg, fr + 2 ^ 23, (ex : Int) - 150⟩, 0) := by
  have hsign : fpSign (fpNormal neg ex fr) = neg := by
    unfold fpSign fpNormal
    rw [Nat.testBit_eq_decide_div_mod_eq]
    cases neg <;> simp <;> omega
  have hexp : bitsOf (fpNormal neg ex fr) 30 23 = ex := by
    unfold bitsOf fpNormal
    rw [Nat.shiftRight_eq_div_pow]
    cases neg <;> simp <;> omega
  have hfrac : bitsOf (fpNormal neg ex fr) 22 0 = fr := by
    unfold bitsOf fpNormal
    rw [Nat.shiftRight_eq_div_pow]
    cases neg <;> simp <;> omega
  have h255 : ex ≠ 255 := by omega
  have h0 : ex ≠ 0 := by omega
  simp only [unpack, hsign, hexp, hfrac, h255, h0, if_false]

/-- The significand of an integer at 24 bits. -/
theorem two_pow_le_scaled {m : Nat} (h0 : m ≠ 0) (h : m < 2 ^ 24) :
    2 ^ 23 ≤ m * 2 ^ (23 - m.log2) ∧ m * 2 ^ (23 - m.log2) < 2 ^ 24 := by
  have hlog : m.log2 < 24 := (Nat.log2_lt h0).2 h
  constructor
  · calc 2 ^ 23 = 2 ^ m.log2 * 2 ^ (23 - m.log2) := by rw [← Nat.pow_add]; congr 1; omega
      _ ≤ m * 2 ^ (23 - m.log2) := Nat.mul_le_mul_right _ (Nat.log2_self_le h0)
  · calc m * 2 ^ (23 - m.log2) < 2 ^ (m.log2 + 1) * 2 ^ (23 - m.log2) :=
          Nat.mul_lt_mul_of_pos_right Nat.lt_log2_self (Nat.two_pow_pos _)
      _ = 2 ^ 24 := by rw [← Nat.pow_add]; congr 1; omega

/-- An integer of at most 24 bits is a binary32 number, and needs no rounding. -/
theorem roundNum_integer {neg : Bool} {m : Nat} (h0 : m ≠ 0) (h : m < 2 ^ 24) :
    roundNum neg m 0 false = (fpNormal neg (m.log2 + 127) (m * 2 ^ (23 - m.log2) - 2 ^ 23), 0) := by
  have hlen : m.log2 + 1 ≤ 24 := (Nat.log2_lt h0).2 h
  have hsub : 24 - (m.log2 + 1) = 23 - m.log2 := by omega
  have hq : m * 2 ^ (23 - m.log2) ≠ 2 ^ 24 := Nat.ne_of_lt (two_pow_le_scaled h0 h).2
  have hbig : ¬ ((0 : Int) + (((m.log2 + 1 : Nat) : Int) - 24) + 23 > 127) := by omega
  have hsmall : ¬ ((0 : Int) + (((m.log2 + 1 : Nat) : Int) - 24) + 23 < -126) := by omega
  have hexp : ((0 : Int) + (((m.log2 + 1 : Nat) : Int) - 24) + 23 + 127).toNat = m.log2 + 127 := by omega
  simp only [roundNum, h0, hlen, if_true, if_false, hsub, Nat.shiftLeft_eq, hq, hbig, hsmall, hexp, fpNormal]

/-! CVTQF and CVTFQ (R67, R69). -/

theorem fixedToFp_ofSigned {v : Int} (hlo : -(2 ^ 31) ≤ v) (hhi : v < 2 ^ 31) :
    fixedToFp 0 32 false (ofSigned 32 v) = roundNum (v < 0) v.natAbs 0 false := by
  simp only [fixedToFp, Bool.false_eq_true, if_false, toSigned_ofSigned hlo hhi, neg_zero]

/-- A number e places from the point whose integer part n the width holds is converted to n with its sign. -/
theorem fpToFixed_within {shift e : Int} {width x q n : Nat} {neg sat : Bool} (hunpack : unpack x = (⟨.fin, neg, q, e⟩, 0))
    (hn : (if 0 ≤ e + shift then q <<< (e + shift).toNat else q >>> (-(e + shift)).toNat) = n)
    (hlo : -(2 ^ (width - 1)) ≤ (if neg then -(n : Int) else n))
    (hhi : (if neg then -(n : Int) else n) ≤ 2 ^ (width - 1) - 1) :
    fpToFixed shift width false sat x = (ofSigned 32 (if neg then -(n : Int) else n), 0) := by
  simp only [fpToFixed, hunpack, hn, Bool.false_eq_true, if_false, hlo, hhi, decide_true, Bool.and_self, if_true]

/-- A normal number whose significand is m at 24 bits, k + 1 of them before the point, is converted to m. -/
theorem fpToFixed_scaled {neg sat : Bool} {m k q : Nat} (hk : k ≤ 23) (hq : q = m * 2 ^ (23 - k)) (hlow : 2 ^ 23 ≤ q)
    (hhigh : q < 2 ^ 24) (hm : m < 2 ^ 24) :
    fpToFixed 0 32 false sat (fpNormal neg (k + 127) (q - 2 ^ 23)) = (ofSigned 32 (if neg then -(m : Int) else m), 0) := by
  have hunpack := unpack_fpNormal (neg := neg) (ex := k + 127) (fr := q - 2 ^ 23) (by omega) (by omega) (by omega)
  rw [Nat.sub_add_cancel hlow] at hunpack
  refine fpToFixed_within hunpack ?_ (by split <;> omega) (by split <;> omega)
  rw [Nat.shiftRight_eq_div_pow, Nat.shiftLeft_eq]
  split
  · have h23 : k = 23 := by omega
    simp [hq, h23]
  · have hneg : (-(((k + 127 : Nat) : Int) - 150 + 0)).toNat = 23 - k := by omega
    rw [hneg, hq, Nat.mul_div_cancel _ (Nat.two_pow_pos _)]

/-- Settles O14: zero apart, the integer stands unrounded in the significand, and the shift back gives it again. -/
theorem conversionRoundTrip : Obligations.ConversionRoundTrip := by
  unfold Obligations.ConversionRoundTrip
  intro v sat hv
  rw [fixedToFp_ofSigned (by omega) (by omega)]
  by_cases h0 : v = 0
  · subst h0
    rfl
  · have hm : v.natAbs ≠ 0 := by omega
    have hlog : v.natAbs.log2 < 24 := (Nat.log2_lt hm).2 hv
    obtain ⟨hlow, hhigh⟩ := two_pow_le_scaled hm hv
    rw [roundNum_integer hm hv, fpToFixed_scaled (by omega) rfl hlow hhigh hv]
    congr 2
    simp only [decide_eq_true_eq]
    split <;> omega

end Sys2Proof.Machine
end

section
/-! Contexts and writes on their way: a read after a write, and what the issue of a word reads (R53, R56, R65, R73). -/

namespace Sys2Proof.Machine

variable {s t u v : State}

/-! Contexts. -/

theorem ctx_congr (h : t.le = s.le) (m : Nat) : t.ctx m = s.ctx m := by rw [State.ctx, State.ctx, h]

@[simp] theorem ctx_settle {m : Nat} : (settle s).ctx m = s.ctx m := ctx_congr (settle_le s) m

theorem putCtx_le {n : Nat} {c : Ctx} : (putCtx n c s).le = { s.le with ctxs := kvPut (fun _ => {}) s.le.ctxs n c } := by
  unfold putCtx showCtx
  dsimp only
  rw [setRf_le, setReg_le]

theorem ctx_putCtx {n m : Nat} {c : Ctx} : (putCtx n c s).ctx m = if m = n then c else s.ctx m := by
  rw [State.ctx, putCtx_le]
  exact kvGet_kvPut

@[simp] theorem ctx_putCtx_self {n : Nat} {c : Ctx} : (putCtx n c s).ctx n = c := by rw [ctx_putCtx, if_pos rfl]

theorem ctx_putCtx_other {n m : Nat} {c : Ctx} (h : m ≠ n) : (putCtx n c s).ctx m = s.ctx m := by rw [ctx_putCtx, if_neg h]

@[simp] theorem writes_putCtx {n : Nat} {c : Ctx} : (putCtx n c s).le.writes = s.le.writes := by rw [putCtx_le]

@[simp] theorem putCtx_mem {n : Nat} {c : Ctx} : (putCtx n c s).mem = s.mem := by
  unfold putCtx showCtx
  dsimp only
  rw [setRf_mem, setReg_mem]

@[simp] theorem putCtx_free {n : Nat} {c : Ctx} : (putCtx n c s).free = s.free := by
  unfold putCtx showCtx
  dsimp only
  rw [setRf_free, setReg_free]

@[simp] theorem ctx_countSlots {p k m : Nat} : (countSlots p k s).ctx m = s.ctx m := rfl

@[simp] theorem slotTicks_countSlots {p k q : Nat} : (countSlots p k s).slotTicks q = s.slotTicks q := rfl

@[simp] theorem countSlots_mem {p k : Nat} : (countSlots p k s).mem = s.mem := rfl

/-- A local register after one is set. -/
theorem localOf_setLocal {r i x : Nat} {p : Bool} {c : Ctx} :
    localOf (setLocal r x p c) i = if i = r then (x % 2 ^ 32, p) else localOf c i := kvGet_kvPut

/-! Writes on their way (R53). -/

theorem mem_insertWrite {w x : PendWr} {ws : List PendWr} : x ∈ insertWrite w ws ↔ x = w ∨ x ∈ ws := by
  induction ws with
  | nil => simp [insertWrite]
  | cons y ys ih =>
    unfold insertWrite
    split
    · simp
    · simp only [List.mem_cons, ih]
      tauto

theorem mem_addWrite {w x : PendWr} : x ∈ (addWrite w s).le.writes ↔ x = w ∨ x ∈ s.le.writes := mem_insertWrite

@[simp] theorem ctx_addWrite {w : PendWr} {m : Nat} : (addWrite w s).ctx m = s.ctx m := rfl

@[simp] theorem addWrite_mem {w : PendWr} : (addWrite w s).mem = s.mem := rfl

@[simp] theorem ctx_raiseFlags {n due f m : Nat} : (raiseFlags n due f s).ctx m = s.ctx m := by
  unfold raiseFlags
  split <;> rfl

@[simp] theorem raiseFlags_mem {n due f : Nat} : (raiseFlags n due f s).mem = s.mem := by
  unfold raiseFlags
  split <;> rfl

/-- A write on its way stays so when flags join it. -/
theorem mem_writes_raiseFlags {n due f : Nat} {x : PendWr} (h : x ∈ s.le.writes) : x ∈ (raiseFlags n due f s).le.writes := by
  unfold raiseFlags
  split
  · exact h
  · exact mem_addWrite.2 (.inr h)

/-- Flags are on their way once raised. -/
theorem flags_mem_raiseFlags {n due f : Nat} (hf : f ≠ 0) :
    (⟨due, ctxPod n, n / 4 % 4, .flags n, f, false⟩ : PendWr) ∈ (raiseFlags n due f s).le.writes := by
  rw [raiseFlags, if_neg hf]
  exact mem_addWrite.2 (.inl rfl)

/-! Operands (R57, R73): a read is logged, and changes neither contexts nor memory. -/

/-- From s to t the loop engine and the memories stay. -/
structure SameEngine (s t : State) : Prop where
  le : t.le = s.le
  mem : t.mem = s.mem

namespace SameEngine

theorem refl (s : State) : SameEngine s s := ⟨rfl, rfl⟩

theorem trans (h : SameEngine s t) (k : SameEngine t u) : SameEngine s u := ⟨k.le.trans h.le, k.mem.trans h.mem⟩

theorem ctx (h : SameEngine s t) (m : Nat) : t.ctx m = s.ctx m := ctx_congr h.le m

theorem read32 {agent chan a : Nat} : SameEngine s (Machine.read32 agent chan a s).2 :=
  ⟨(congrArg State.le (Logs.read32 (s := s) (agent := agent) (chan := chan) (a := a)).rest :), read32_mem⟩

theorem psnInfo {p axis e : Nat} {net fetch : Bool} : SameEngine s (Machine.psnInfo p axis net fetch e s) :=
  ⟨setReg_le, setReg_mem⟩

theorem peaElem {p axis e : Nat} : SameEngine s (Machine.peaElem p axis e s).2 := by
  have hread := read32 (s := s) (agent := 3) (chan := p) (a := elemAddr p e)
  unfold Machine.peaElem
  dsimp only
  split
  · exact hread
  · exact hread.trans psnInfo

theorem peaNet {p axis a : Nat} : SameEngine s (Machine.peaNet p axis a s).2 := by
  have hread := read32 (s := s) (agent := 3) (chan := p) (a := netAddr a)
  unfold Machine.peaNet
  dsimp only
  split
  · exact hread
  · exact hread.trans psnInfo

theorem readX {p : Nat} {c : Ctx} {w : PeaWord} : SameEngine s (Machine.readX p c w s).2 := by
  unfold Machine.readX
  split
  · exact refl s
  · exact peaNet
  · exact peaElem

theorem readY {p : Nat} {c : Ctx} {w : PeaWord} : SameEngine s (Machine.readY p c w s).2 := by
  unfold Machine.readY
  split
  · exact refl s
  · exact peaElem

theorem readIf {b : Bool} {f : State → (Nat × Bool) × State} (h : ∀ s, SameEngine s (f s).2) :
    SameEngine s (Machine.readIf b f s).2 := by
  cases b
  · exact refl s
  · exact h s

theorem readOperands {n : Nat} {c : Ctx} {w : PeaWord} : SameEngine s (Machine.readOperands n c w s).2 :=
  (readIf fun _ => readX).trans (readIf fun _ => readY)

theorem readEvx {p : Nat} {c : Ctx} {a : Option (BitVec 17)} : SameEngine s (Machine.readEvx p c a s).2 := by
  unfold Machine.readEvx
  split
  · exact peaElem
  · exact refl s

end SameEngine

end Sys2Proof.Machine
end

section
/-! Native words: their issue, and where their results go (R48, R53, R56 to R66, R70, R73). -/

namespace Sys2Proof.Machine

variable {s u v x : State} {n op t word : Nat}

/-! Issue (R48, R56). -/

theorem issueNative_before (h : s.before n op t word u) : issueNative n op s = runWord n t (peaFields word) word u := by
  obtain ⟨hissues, hslot, -, hfin⟩ := h
  simp only [issueNative, hissues, if_true, hslot, hfin, Bool.false_eq_true, if_false]

theorem op_of_before (h : s.before n op t word u) : (peaFields word).op = op := by
  obtain ⟨-, -, hop, -⟩ := h
  exact hop

section StepLoop

variable {c : Ctx}

theorem stepLoop_live : (stepLoop c word).live = c.live := by
  unfold stepLoop
  simp only [apply_ite Ctx.live, ite_self]

theorem stepLoop_locals : (stepLoop c word).locals = c.locals := by
  unfold stepLoop
  simp only [apply_ite Ctx.locals, ite_self]

theorem stepLoop_desc : (stepLoop c word).desc = c.desc := by
  unfold stepLoop
  simp only [apply_ite Ctx.desc, ite_self]

/-- Outside a loop the next word follows (R71). -/
theorem stepLoop_pc (h : c.loop.n = 0) : (stepLoop c word).pc = (c.pc + 1) % 2 ^ 15 := by rw [stepLoop, if_pos h]

end StepLoop

/-- The context after a word: c issued it, and d holds what the word has written of the context. -/
def issued (k op word t : Nat) (c d : Ctx) : Ctx :=
  { afterIssue k op word t c with
    locals := d.locals, c := d.c, cPsn := d.cPsn, flags := d.flags, fin := d.fin, psnOut := d.psnOut }

section Issued

variable {k : Nat} {c d : Ctx}

@[simp] theorem issued_slot : (issued k op word t c d).slot = c.slot + opSlots op := rfl

@[simp] theorem issued_next : (issued k op word t c d).next = t + k * opSlots op := rfl

@[simp] theorem issued_live : (issued k op word t c d).live = c.live := stepLoop_live

@[simp] theorem issued_c : (issued k op word t c d).c = d.c := rfl

@[simp] theorem issued_cPsn : (issued k op word t c d).cPsn = d.cPsn := rfl

@[simp] theorem localOf_issued {r : Nat} : localOf (issued k op word t c d) r = localOf d r := rfl

theorem issued_pc (h : c.loop.n = 0) : (issued k op word t c d).pc = (c.pc + 1) % 2 ^ 15 := stepLoop_pc h

end Issued

/-- The state after a word of context n that is none of END and LOOP: u is the one at issue, x the one in which its results
are written. -/
def afterWord (n t word : Nat) (u x : State) : State :=
  putCtx n (issued (u.slotTicks (ctxPod n)) (peaFields word).op word t (u.ctx n) (x.ctx n)) x

theorem runWord_nop (hop : (peaFields word).op = 0) :
    runWord n t (peaFields word) word u = afterWord n t word u (countSlots (ctxPod n) 1 u) := by
  simp only [runWord, afterWord, issued, hop, opSlots, if_false, if_true, Nat.reduceEqDiff]

theorem runWord_out (hop : (peaFields word).op = 0x19) :
    runWord n t (peaFields word) word u =
      afterWord n t word u (runOut n t (peaFields word) (countSlots (ctxPod n) 1 u)) := by
  simp only [runWord, afterWord, issued, hop, opSlots, if_false, if_true, Nat.reduceEqDiff]

/-- Opcodes with an arithmetic, copy, search, compare or conversion meaning. -/
def arithOp (op : Nat) : Bool := 1 ≤ op && op ≤ 0x17

theorem runWord_arith (hop : arithOp (peaFields word).op = true) :
    runWord n t (peaFields word) word u =
      afterWord n t word u (runArith n t (peaFields word) (countSlots (ctxPod n) (opSlots (peaFields word).op) u)) := by
  simp only [arithOp, Bool.and_eq_true, decide_eq_true_eq] at hop
  have hend : (peaFields word).op ≠ 0x3F := by omega
  have hloop : (peaFields word).op ≠ 0x18 := by omega
  have hout : (peaFields word).op ≠ 0x19 := by omega
  have hnop : (peaFields word).op ≠ 0 := by omega
  simp only [runWord, afterWord, issued, hend, hloop, hout, hnop, if_false]

/-! Results. -/

/-- The tick in which a word of context n issued in tick t writes its result (R60). -/
def resultTick (n t op : Nat) (u : State) : Nat := t + u.slotTicks (ctxPod n) / 4 * opReady op - 1

/-- What an operation gives on its operands, with C, LC and the pair of the context. -/
def wordResult (c : Ctx) (w : PeaWord) (x y z : Nat) : PeaRes :=
  peaCompute w x y z c.c c.lc (localOf c w.dst).1 (localOf c (w.dst + 1)).1

/-- The state after an arithmetic, copy, search, compare or conversion word issued in u, whose operands have been read in v. -/
def afterArith (n t word : Nat) (u v : State) (r : PeaRes) (psn : Bool) : State :=
  let w := peaFields word
  let due := resultTick n t w.op u
  afterWord n t word u (raiseFlags n due (if psn then flPSN else r.flags) (writeResult n due (u.ctx n) w r psn v))

/-- The commands of these words. -/
theorem exec_arith {a b k : Fin 4} {i : Instr} (h : (i, op) ∈ peaLocal a b k ++ peaPair a b k ++ peaCompare a b k) :
    exec i s = done (issueNative (ctxNo a b k) op s) ∧ arithOp op = true := by
  revert h
  generalize he : (i, op) = e
  intro h
  fin_cases h <;> cases he <;> exact ⟨rfl, rfl⟩

/-- A command of these words answers the state after its word. -/
theorem answers_arith {a b k : Fin 4} {i : Instr} {x y z : Nat} {psn : Bool} {P : State → Prop}
    (hi : (i, op) ∈ peaLocal a b k ++ peaPair a b k ++ peaCompare a b k) (h : s.before (ctxNo a b k) op t word u)
    (hread : readOperands (ctxNo a b k) (u.ctx (ctxNo a b k)) (peaFields word)
      (countSlots (ctxPod (ctxNo a b k)) (opSlots op) u) = (((x, y, z), psn), v))
    (hP : P (settle (afterArith (ctxNo a b k) t word u v
      (wordResult (u.ctx (ctxNo a b k)) (peaFields word) x y z) psn))) : Answers (exec i s) P := by
  obtain ⟨hexec, harith⟩ := exec_arith (s := s) hi
  have hop := op_of_before h
  subst hop
  rw [hexec, issueNative_before h, runWord_arith harith]
  refine answers_done ?_
  simp only [runArith, ctx_countSlots, hread]
  exact hP

theorem readOperands_keeps {c : Ctx} {w : PeaWord} {r : (Nat × Nat × Nat) × Bool} {p k : Nat}
    (hread : readOperands n c w (countSlots p k u) = (r, v)) : (∀ m, v.ctx m = u.ctx m) ∧ v.mem = u.mem := by
  have hsame := SameEngine.readOperands (s := countSlots p k u) (n := n) (c := c) (w := w)
  rw [hread] at hsame
  exact ⟨hsame.ctx, hsame.mem⟩

/-! What the issue itself leaves. -/

theorem ctx_afterWord_self : (afterWord n t word u x).ctx n =
    issued (u.slotTicks (ctxPod n)) (peaFields word).op word t (u.ctx n) (x.ctx n) := ctx_putCtx_self

theorem ctx_afterWord_other {m : Nat} (h : m ≠ n) : (afterWord n t word u x).ctx m = x.ctx m := ctx_putCtx_other h

theorem localOf_afterWord {r : Nat} : localOf ((afterWord n t word u x).ctx n) r = localOf (x.ctx n) r := by
  rw [ctx_afterWord_self, localOf_issued]

@[simp] theorem writes_afterWord : (afterWord n t word u x).le.writes = x.le.writes := writes_putCtx

@[simp] theorem afterWord_mem : (afterWord n t word u x).mem = x.mem := putCtx_mem

/-! Destinations. -/

section Destinations

variable {due : Nat} {c : Ctx} {w : PeaWord} {r : PeaRes} {psn : Bool}

theorem writeResult_local (huses : usesDst w.op = true) (hdst : w.dst < 16) :
    writeResult n due c w r psn v = putCtx n (setLocal w.dst (if psn then qNaN else r.val) psn (v.ctx n)) v := by
  have h16 : w.dst ≠ 16 := by omega
  simp only [writeResult, huses, if_true, writeDst, h16, if_false]

theorem writeResult_element (huses : usesDst w.op = true) (hdst : w.dst = 16) :
    writeResult n due c w r psn v =
      addWrite ⟨due, ctxPod n, n / 4 % 4, .elem (xElem c w), if psn then qNaN else r.val, psn⟩ v := by
  simp only [writeResult, huses, if_true, writeDst, hdst]

theorem writeResult_pair (hdst : usesDst w.op = false) (huses : usesPair w.op = true) :
    writeResult n due c w r false v = putCtx n (setLocal (w.dst + 1) r.val2 false (setLocal w.dst r.val false (v.ctx n))) v := by
  simp only [writeResult, hdst, huses, Bool.false_eq_true, if_false, if_true]

theorem writeResult_compare (hlo : 0x0C ≤ w.op) (hhi : w.op ≤ 0x0E) :
    writeResult n due c w r false v = putCtx n { v.ctx n with c := r.c, cPsn := false } v := by
  have hdst : usesDst w.op = false := by
    simp only [usesDst, Bool.or_eq_false_iff, Bool.and_eq_false_iff, decide_eq_false_iff_not]
    omega
  have hpair : usesPair w.op = false := by
    simp only [usesPair, Bool.or_eq_false_iff, decide_eq_false_iff_not]
    omega
  simp [writeResult, hdst, hpair, hlo, hhi]

end Destinations

/-! The obligations. -/

section Commands

variable {a b k : Fin 4} {i : Instr}

theorem usesDst_of_peaLocal (h : (i, op) ∈ peaLocal a b k) : usesDst op = true := by
  have hall : ∀ e ∈ peaLocal a b k, usesDst e.2 = true := by simp only [peaLocal, List.forall_mem_cons]; decide
  exact hall _ h

theorem usesPair_of_peaPair (h : (i, op) ∈ peaPair a b k) : usesDst op = false ∧ usesPair op = true := by
  have hall : ∀ e ∈ peaPair a b k, usesDst e.2 = false ∧ usesPair e.2 = true := by
    simp only [peaPair, List.forall_mem_cons]; decide
  exact hall _ h

theorem op_of_peaCompare (h : (i, op) ∈ peaCompare a b k) : 0x0C ≤ op ∧ op ≤ 0x0E := by
  have hall : ∀ e ∈ peaCompare a b k, 0x0C ≤ e.2 ∧ e.2 ≤ 0x0E := by simp only [peaCompare, List.forall_mem_cons]; decide
  exact hall _ h

end Commands

/-- The result of a word with a local destination is written in its context at once (R53). -/
theorem afterArith_local {r : PeaRes} {psn : Bool} (huses : usesDst (peaFields word).op = true)
    (hdst : (peaFields word).dst < 16) :
    afterArith n t word u v r psn = afterWord n t word u
      (raiseFlags n (resultTick n t (peaFields word).op u) (if psn then flPSN else r.flags)
        (putCtx n (setLocal (peaFields word).dst (if psn then qNaN else r.val) psn (v.ctx n)) v)) := by
  rw [afterArith, writeResult_local huses hdst]

/-- Settles O8: the word writes its destination in the context as its operands were read, and issues. -/
theorem peaResultReachesLocal : Obligations.PeaResultReachesLocal := by
  unfold Obligations.PeaResultReachesLocal
  intro a b k i op hi s u v t word x y z n w c h hdst hread
  have hop := op_of_before h
  obtain ⟨hctx, hmem⟩ := readOperands_keeps hread
  refine answers_arith (List.mem_append_left _ (List.mem_append_left _ hi)) h hread ?_
  rw [afterArith_local (hop ▸ usesDst_of_peaLocal hi) hdst]
  refine ⟨fun r => ?_, ?_, ?_, ?_, ?_, fun m hm => ?_, ?_⟩
  · rw [ctx_settle, localOf_afterWord, ctx_raiseFlags, ctx_putCtx_self, localOf_setLocal, hctx]
    rfl
  · rw [ctx_settle, ctx_afterWord_self, issued_slot, hop]
  · rw [ctx_settle, ctx_afterWord_self, issued_next, hop]
  · rw [ctx_settle, ctx_afterWord_self, issued_c, ctx_raiseFlags, ctx_putCtx_self, hctx]
    rfl
  · rw [ctx_settle, ctx_afterWord_self, issued_live]
  · rw [ctx_settle, ctx_afterWord_other hm, ctx_raiseFlags, ctx_putCtx_other hm, hctx]
  · rw [settle_mem, afterWord_mem, raiseFlags_mem, putCtx_mem, hmem]

/-- Settles O9: with DST 16 the result is a write on its way, and the context is written by the issue alone. -/
theorem peaResultReachesElement : Obligations.PeaResultReachesElement := by
  unfold Obligations.PeaResultReachesElement
  intro a b k i op hi s u v t word x y z n w c h hdst hread
  have hop := op_of_before h
  obtain ⟨hctx, hmem⟩ := readOperands_keeps hread
  refine answers_arith (List.mem_append_left _ (List.mem_append_left _ hi)) h hread ?_
  rw [afterArith, writeResult_element (hop ▸ usesDst_of_peaLocal hi) hdst, hop]
  refine ⟨?_, fun r => ?_, fun m hm => ?_, ?_⟩
  · rw [settle_le, writes_afterWord]
    exact mem_writes_raiseFlags (mem_addWrite.2 (.inl rfl))
  · rw [ctx_settle, localOf_afterWord, ctx_raiseFlags, ctx_addWrite, hctx]
  · rw [ctx_settle, ctx_afterWord_other hm, ctx_raiseFlags, ctx_addWrite, hctx]
  · rw [settle_mem, afterWord_mem, raiseFlags_mem, addWrite_mem, hmem]

/-- Settles O10: a poisoned operand puts the NaN in the place of the result and PSN in that of its flags. -/
theorem poisonedOperandGivesNaN : Obligations.PoisonedOperandGivesNaN := by
  unfold Obligations.PoisonedOperandGivesNaN
  intro a b k i op hi s u v t word x y z n w c h hdst hread
  have hop := op_of_before h
  refine answers_arith (List.mem_append_left _ (List.mem_append_left _ hi)) h hread ?_
  rw [afterArith_local (hop ▸ usesDst_of_peaLocal hi) hdst, hop]
  refine ⟨?_, ?_⟩
  · rw [ctx_settle, localOf_afterWord, ctx_raiseFlags, ctx_putCtx_self, localOf_setLocal, if_pos rfl]
    rfl
  · rw [settle_le, writes_afterWord]
    exact flags_mem_raiseFlags (f := flPSN) (by decide)

/-- Settles O11: the pair is written one register after the other, the upper one last. -/
theorem searchAndSineWriteAPair : Obligations.SearchAndSineWriteAPair := by
  unfold Obligations.SearchAndSineWriteAPair
  intro a b k i op hi s u v t word x y z n w c h hread
  have hop := op_of_before h
  obtain ⟨hdst, hpair⟩ := usesPair_of_peaPair hi
  obtain ⟨hctx, -⟩ := readOperands_keeps hread
  refine answers_arith (List.mem_append_left _ (List.mem_append_right _ hi)) h hread fun r => ?_
  rw [afterArith, writeResult_pair (hop ▸ hdst) (hop ▸ hpair), ctx_settle, localOf_afterWord, ctx_raiseFlags, ctx_putCtx_self,
    localOf_setLocal, localOf_setLocal, hctx]
  rfl

/-- Settles O12: a compare writes C of the context as its operands were read. -/
theorem comparesWriteC : Obligations.ComparesWriteC := by
  unfold Obligations.ComparesWriteC
  intro a b k i op hi s u v t word x y z n w c h hread
  have hop := op_of_before h
  obtain ⟨hlo, hhi⟩ := op_of_peaCompare hi
  obtain ⟨hctx, -⟩ := readOperands_keeps hread
  refine answers_arith (List.mem_append_right _ hi) h hread ?_
  rw [afterArith, writeResult_compare (hop ▸ hlo) (hop ▸ hhi)]
  refine ⟨?_, ?_, fun r => ?_⟩
  · rw [ctx_settle, ctx_afterWord_self, issued_c, ctx_raiseFlags, ctx_putCtx_self]
    rfl
  · rw [ctx_settle, ctx_afterWord_self, issued_cPsn, ctx_raiseFlags, ctx_putCtx_self]
  · rw [ctx_settle, localOf_afterWord, ctx_raiseFlags, ctx_putCtx_self, hctx]
    rfl

end Sys2Proof.Machine
end

section
/-! The end of a graph: its context leaves service, and nothing else of the loop engine or the memories changes (R92, R101). -/

namespace Sys2Proof.Machine

variable {s t u : State}

namespace SameEngine

theorem after (k : SameEngine t u) (h : SameEngine s t) : SameEngine s u := h.trans k

theorem onlyIf {c : Bool} {f : State → State} (h : SameEngine s (f s)) : SameEngine s (Machine.onlyIf c f s) := by
  cases c
  · exact refl s
  · exact h

theorem ite {c : Prop} [Decidable c] (h : SameEngine s t) (k : SameEngine s u) : SameEngine s (if c then t else u) := by
  split
  · exact h
  · exact k

theorem forAll {α : Type} {f : α → State → State} (h : ∀ x t, SameEngine t (f x t)) (xs : List α) :
    SameEngine s (Machine.forAll xs f s) := forAll_keeps (fun x t ht => ht.trans (h x t)) xs (refl s)

/-! Registers and events. -/

theorem setReg {a : Nat} {v : Word} : SameEngine s (Machine.setReg a v s) := ⟨setReg_le, setReg_mem⟩

theorem setRf {a hi lo v : Nat} : SameEngine s (Machine.setRf a hi lo v s) := ⟨setRf_le, setRf_mem⟩

theorem setRb {a b : Nat} {v : Bool} : SameEngine s (Machine.setRb a b v s) := setRf

theorem orReg {a m : Nat} : SameEngine s (Machine.orReg a m s) := ⟨orReg_le, orReg_mem⟩

theorem event {code cls inst x y : Nat} : SameEngine s (Machine.event code cls inst x y s) :=
  ⟨(congrArg State.le (Logs.event (s := s) (code := code) (cls := cls) (inst := inst) (x := x) (y := y)).rest :), event_mem⟩

theorem irq {i : FwIrq} : SameEngine s (Machine.irq i s) :=
  ⟨(congrArg State.le (Logs.irq (s := s) (i := i)).rest :), irq_mem⟩

theorem flagEvent {src reg b cls inst a : Nat} : SameEngine s (Machine.flagEvent src reg b cls inst a s) := orReg.trans event

theorem podFlags {p f : Nat} : SameEngine s (Machine.podFlags p f s) :=
  orReg.trans (forAll (fun _ _ => onlyIf (event.trans irq)) _)

theorem dsFault {p b idx axis : Nat} : SameEngine s (Machine.dsFault p b idx axis s) := by
  have hbad (t : State) : SameEngine t { t with dsBad := true } := ⟨rfl, rfl⟩
  have hmark : SameEngine s (dsMark p b idx axis s) := by
    unfold dsMark
    exact (setReg.trans orReg).trans (onlyIf (hbad _))
  exact hmark.trans event

/-! Axes and generators. -/

theorem putAx {n : Nat} {v : AxSt} : SameEngine s (Machine.putAx n v s) := ⟨rfl, rfl⟩

theorem putPg {n : Nat} {v : PgSt} : SameEngine s (Machine.putPg n v s) := ⟨rfl, rfl⟩

theorem putPod {p : Nat} {v : PodSt} : SameEngine s (Machine.putPod p v s) := ⟨rfl, rfl⟩

theorem axTripIf {c : Bool} {n b : Nat} : SameEngine s (Machine.axTripIf c n b s) :=
  onlyIf (f := axTrip n b) (putAx.after (flagEvent.after orReg))

theorem tripGraph {n p xb : Nat} {bs : List Nat} : SameEngine s (Machine.tripGraph n p xb bs s).2 := by
  induction bs generalizing s with
  | nil => exact refl s
  | cons b bs ih =>
    unfold Machine.tripGraph
    exact ih.after (axTripIf.after read32)

theorem axEnd {n p xb flags : Nat} {native ill psn : Bool} :
    SameEngine s (Machine.axEnd n p xb flags native ill psn s) := by
  unfold Machine.axEnd
  extract_lets s₁ s₂
  have hflags : SameEngine s s₂ := setRf.trans setRb
  clear_value s₂
  cases native with
  | false => exact axTripIf.after (axTripIf.after hflags)
  | true =>
    have hgraph := hflags.trans (tripGraph (n := n) (p := p) (xb := xb) (bs := [0, 1, 2, 3, 4]))
    have hread := hgraph.trans (read32 (agent := 12) (chan := 0) (a := elemAddr p ((xb + 4) % 131072)))
    exact axTripIf.after (axTripIf.after (hread.trans setRb))

theorem pgMiss {n : Nat} : SameEngine s (Machine.pgMiss n s) := flagEvent

theorem keepGeometry {n cyc : Nat} : SameEngine s (Machine.keepGeometry n cyc s) := putPg

theorem pgWrap {n : Nat} : SameEngine s (Machine.pgWrap n s) :=
  ite (setRb.after (setReg.after (putPg.after keepGeometry))) (refl s)

theorem pgTake {n rp st lr : Nat} : SameEngine s (Machine.pgTake n rp st lr s) := by
  have hflag (b : Nat) (t : State) : SameEngine t (pgFlag n b t) := ite orReg flagEvent
  unfold Machine.pgTake
  extract_lets old s₁ s₂ s₃ s₄
  have h₂ : SameEngine s s₂ := setRf.trans (ite pgWrap (refl _))
  exact (h₂.trans (setReg.trans setRf)).trans (forAll (fun b t => onlyIf (hflag b t)) _)

theorem pgAppend {n count : Nat} : SameEngine s (Machine.pgAppend n count s) := by
  unfold Machine.pgAppend
  exact ite ((onlyIf flagEvent).trans (onlyIf flagEvent)) setRf

theorem pgSkip {n count : Nat} : SameEngine s (Machine.pgSkip n count s) := by
  unfold Machine.pgSkip
  exact ite ((onlyIf flagEvent).trans (onlyIf flagEvent)) (keepGeometry.trans (setRf.trans setRf))

theorem pgTapp {n count : Nat} {skip : Bool} : SameEngine s (Machine.pgTapp n count skip s) := by
  unfold Machine.pgTapp
  exact putPg.after (ite pgSkip pgAppend)

theorem unappend {n : Nat} {a : PgApp} : SameEngine s (Machine.unappend n a s) := by
  have hqueue (q : List Ev) (t : State) : SameEngine t { t with evl := { t.evl with queue := q } } := ⟨rfl, rfl⟩
  have hunflag (b : Nat) (t : State) : SameEngine t (unflag n b t) := (hqueue _ _).trans setRb
  unfold Machine.unappend
  exact (onlyIf (hunflag _ _)).after ((onlyIf (hunflag _ _)).after (setRf.trans setRf))

theorem beforeAppends {n : Nat} {f : State → State} (h : ∀ t, SameEngine t (f t)) :
    SameEngine s (Machine.beforeAppends n f s) := by
  unfold Machine.beforeAppends
  exact (forAll (fun _ _ => pgTapp) _).after ((h _).after (putPg.after (forAll (fun _ _ => unappend) _)))

theorem pgEnd {n ob flags : Nat} {cut : Bool} : SameEngine s (Machine.pgEnd n ob flags cut s) := by
  unfold Machine.pgEnd
  refine ite pgMiss ?_
  have hread := ((read32 (s := s) (agent := 12) (chan := 0) (a := netAddr (ob % 131072))).trans
    (read32 (agent := 12) (chan := 0) (a := netAddr ((ob + 1) % 131072)))).trans
      (read32 (agent := 12) (chan := 0) (a := netAddr ((ob + 2) % 131072)))
  exact hread.trans (ite (beforeAppends fun _ => pgTake) pgMiss)

/-! What the end of a graph brings. -/

theorem deliver {n : Nat} {c : Ctx} {ill cut : Bool} : SameEngine s (Machine.deliver n c ill cut s) := by
  unfold Machine.deliver
  extract_lets bad s₁ s₂
  have hbad : SameEngine s s₁ := onlyIf putAx
  exact hbad.trans (ite ((onlyIf pgEnd).after axTripIf) (axEnd.after putAx))

theorem chainRelease {p cyc nx ib axis : Nat} {gen : Bool} : SameEngine s (Machine.chainRelease p cyc nx ib axis gen s) :=
  ite (refl s) (ite putPod (refl s))

theorem noteIdle {p : Nat} : SameEngine s (Machine.noteIdle p s) := ite putPod (refl s)

end SameEngine

/-- From s to t the graph in context n ends: the context leaves service, and every other context stays. -/
structure Ended (n : Nat) (s t : State) : Prop where
  self : ∃ k, t.ctx n = { s.ctx n with live := false, next := k }
  others : ∀ m, m ≠ n → t.ctx m = s.ctx m

namespace Ended

variable {n : Nat}

theorem live (h : Ended n s t) : (t.ctx n).live = false := by
  obtain ⟨k, hk⟩ := h.self
  rw [hk]

theorem flags (h : Ended n s t) : (t.ctx n).flags = (s.ctx n).flags := by
  obtain ⟨k, hk⟩ := h.self
  rw [hk]

theorem after (h : Ended n t u) (k : SameEngine s t) : Ended n s u :=
  ⟨by rw [← k.ctx n]; exact h.self, fun m hm => (h.others m hm).trans (k.ctx m)⟩

theorem endGraph {ill cut : Bool} : Ended n s (Machine.endGraph n ill cut s) := by
  unfold Machine.endGraph
  extract_lets c s₁ s₂ s₃ s₄
  have hrest : SameEngine s₂ (Machine.noteIdle (ctxPod n)
      (Machine.chainRelease (ctxPod n) c.cyc c.desc.next1 c.desc.ib c.desc.axis false s₄)) :=
    SameEngine.deliver.trans (SameEngine.chainRelease.trans (SameEngine.chainRelease.trans SameEngine.noteIdle))
  exact ⟨⟨_, (hrest.ctx n).trans ctx_putCtx_self⟩, fun m hm => (hrest.ctx m).trans (ctx_putCtx_other hm)⟩

theorem boundGraph : Ended n s (Machine.boundGraph n s) := endGraph.after SameEngine.dsFault

theorem runEnd : Ended n s (Machine.runEnd n s) := by
  unfold Machine.runEnd
  dsimp only
  split
  · exact boundGraph
  · exact endGraph

end Ended

/-- R75: an illegal word leaves its context out of service with ILL set. -/
theorem illegalEnd_ctx {n : Nat} {psn : Bool} :
    ((illegalEnd n psn s).ctx n).live = false ∧ ((illegalEnd n psn s).ctx n).flags.testBit 7 = true := by
  unfold illegalEnd
  extract_lets c p f s₁ s₂ s₃
  have hended := Ended.endGraph (n := n) (s := putCtx n { c with flags := c.flags ||| f } s₃) (ill := true) (cut := false)
  have hill : f.testBit 7 = true := by
    simp only [f]
    cases psn <;> decide
  refine ⟨hended.live, ?_⟩
  rw [hended.flags, ctx_putCtx_self, Nat.testBit_or, hill, Bool.or_true]

end Sys2Proof.Machine
end

section
/-! Words that steer a context: NOP, LOOP, OUT, END, illegal words, the slot bound, and EVX0640 words (R63, R71 to R78, R101). -/

namespace Sys2Proof.Machine

variable {s t' u v : State} {n t word : Nat}

/-! LOOP, OUT and END. -/

/-- The context after LOOP: N and M from the word, the body at the next one. -/
def loopBegun (w : PeaWord) (c : Ctx) : Ctx :=
  { c with lc := 0, loop := { start := c.pc, n := w.dst % 16 + 1, m := w.zfield + 1, pos := 0, words := [] } }

theorem ctx_runWord_loop (hop : (peaFields word).op = 0x18) : (runWord n t (peaFields word) word u).ctx n =
    loopBegun (peaFields word) (afterIssue (u.slotTicks (ctxPod n)) 0x18 word t (u.ctx n)) := by
  simp only [runWord, hop, if_true, if_false, Nat.reduceEqDiff, runLoop, ctx_putCtx_self, loopBegun]

theorem runWord_end (hop : (peaFields word).op = 0x3F) : Ended n
    (putCtx n { afterIssue (u.slotTicks (ctxPod n)) 0x3F word t (u.ctx n) with pc := (u.ctx n).pc } (countSlots (ctxPod n) 1 u))
    (runWord n t (peaFields word) word u) := by
  simp only [runWord, hop, if_true, opSlots]
  exact Ended.runEnd

/-- The write of an OUT that is not poisoned, to word OB plus an offset. -/
def outWrite (n due ofs x : Nat) (fin : Bool) (c : Ctx) : PendWr :=
  ⟨due, ctxPod n, n / 4 % 4, .net ((c.desc.ob + ofs) % 131072) c.desc.axis c.cyc c.desc.ob (fin && !c.gen), x, false⟩

theorem putOut_sends {due ofs x : Nat} {fin : Bool} :
    outWrite n due ofs x fin (s.ctx n) ∈ (putOut n due ofs x false fin s).le.writes ∧
      (putOut n due ofs x false fin s).mem = s.mem := by
  simp only [putOut, Bool.false_eq_true, if_false, writes_putCtx, putCtx_mem, addWrite_mem, and_true]
  exact mem_addWrite.2 (.inl rfl)

theorem runOut_sends {w : PeaWord} {x : Nat} (hread : readX (ctxPod n) (s.ctx n) w s = ((x, false), v)) :
    outWrite n (t + s.slotTicks (ctxPod n) / 4 * 8 - 1) (effOff w.yoff w.ystr (s.ctx n).lc 10) x w.np (s.ctx n) ∈
      (runOut n t w s).le.writes ∧ (runOut n t w s).mem = s.mem := by
  have hsame := SameEngine.readX (s := s) (p := ctxPod n) (c := s.ctx n) (w := w)
  rw [hread] at hsame
  simp only [runOut, hread]
  obtain ⟨hwrite, hmem⟩ := putOut_sends (n := n) (due := t + s.slotTicks (ctxPod n) / 4 * 8 - 1)
    (ofs := effOff w.yoff w.ystr (s.ctx n).lc 10) (x := x) (fin := w.np)
    (s := raiseFlags n (t + s.slotTicks (ctxPod n) / 4 * 8 - 1) (if false = true then flPSN else 0) v)
  rw [ctx_raiseFlags, hsame.ctx] at hwrite
  exact ⟨hwrite, hmem.trans (raiseFlags_mem.trans hsame.mem)⟩

/-! EVX0640 words (R76 to R78). -/

/-- FIN of the OUT that an EVX0640 word names, false for one that names none. -/
def evxFin (d : EvxDst) : Bool := match d with | .out _ fin => fin | _ => false

/-- The context once it has issued an EVX0640 word. -/
def evxIssued (word t : Nat) (f : EvxForm) (c : Ctx) : Ctx :=
  { stepLoop c word with slot := c.slot + (f.slots1.val + 1), next := t + 8 * (f.slots1.val + 1) }

/-- The state in which an EVX0640 word has used its slots, and its result is still to come. -/
def evxStart (n t word : Nat) (f : EvxForm) (u : State) : State :=
  putCtx n (evxIssued word t f (u.ctx n)) (countSlots (ctxPod n) (f.slots1.val + 1) (useFree u))

/-- The guards of an EVX0640 word. -/
def State.evxIssues (s : State) (n : Nat) : Prop :=
  s.canIssue n = true ∧ s.nativeCtx n = false ∧ s.atBound n = false ∧ s.nextIllegal n = false

section Evx

variable {f : EvxForm}

theorem issueEvx_illegal (h : s.evxIssues n) (hslot : toSlot n s = ((t, word), u)) (hf : f = Config.evxForm word u.free)
    (hdst : f.dst = .illegal) : issueEvx n s = illegalEnd n false (useFree u) := by
  obtain ⟨hcan, hnative, hbound, hlegal⟩ := h
  subst hf
  simp only [issueEvx, hcan, hnative, hbound, hlegal, hslot, hdst, Bool.not_false, Bool.and_self, if_true]

theorem issueEvx_graphEnd (h : s.evxIssues n) (hslot : toSlot n s = ((t, word), u)) (hf : f = Config.evxForm word u.free)
    (hfin : finMissing (u.ctx n) (f.slots1.val + 1) (evxFin f.dst) = false) (hdst : f.dst = .graphEnd) :
    Ended n (putCtx n { (evxStart n t word f u).ctx n with pc := (u.ctx n).pc } (evxStart n t word f u)) (issueEvx n s) := by
  obtain ⟨hcan, hnative, hbound, hlegal⟩ := h
  subst hf
  rw [hdst] at hfin
  simp only [issueEvx, hcan, hnative, hbound, hlegal, hslot, hdst, Bool.not_false, Bool.and_self, if_true]
  exact (congrArg (Ended n _) (if_neg (by simpa [evxFin] using hfin))).mpr Ended.runEnd

theorem issueEvx_runs (h : s.evxIssues n) (hslot : toSlot n s = ((t, word), u)) (hf : f = Config.evxForm word u.free)
    (hfin : finMissing (u.ctx n) (f.slots1.val + 1) (evxFin f.dst) = false) (hill : f.dst ≠ .illegal)
    (hend : f.dst ≠ .graphEnd) : issueEvx n s = runEvx n t word f (evxStart n t word f u) := by
  obtain ⟨hcan, hnative, hbound, hlegal⟩ := h
  subst hf
  simp only [issueEvx, hcan, hnative, hbound, hlegal, hslot, Bool.not_false, Bool.and_self, if_true]
  cases hdst : (Config.evxForm word u.free).dst with
  | illegal => exact absurd hdst hill
  | graphEnd => exact absurd hdst hend
  | quiet | acc r | data d | out w fin =>
    rw [hdst] at hfin
    exact if_neg (by simpa [evxFin] using hfin)

/-- From s to t a word of context n writes its result: the context stays in service with the slots that it has used, and
every other context stays. -/
structure Written (n : Nat) (s t : State) : Prop where
  slot : (t.ctx n).slot = (s.ctx n).slot
  live : (t.ctx n).live = (s.ctx n).live
  others : ∀ m, m ≠ n → t.ctx m = s.ctx m

namespace Written

theorem of_ctx (h : ∀ m, t'.ctx m = s.ctx m) : Written n s t' := ⟨by rw [h], by rw [h], fun m _ => h m⟩

theorem trans (h : Written n s u) (k : Written n u v) : Written n s v :=
  ⟨k.slot.trans h.slot, k.live.trans h.live, fun m hm => (k.others m hm).trans (h.others m hm)⟩

theorem putCtx {c : Ctx} (hslot : c.slot = (s.ctx n).slot) (hlive : c.live = (s.ctx n).live) :
    Written n s (Machine.putCtx n c s) :=
  ⟨by rw [ctx_putCtx_self, hslot], by rw [ctx_putCtx_self, hlive], fun _ hm => ctx_putCtx_other hm⟩

theorem putOut {due ofs x : Nat} {psn fin : Bool} : Written n s (Machine.putOut n due ofs x psn fin s) := by
  cases psn with
  | false => exact (of_ctx fun _ => ctx_addWrite).trans (putCtx rfl rfl)
  | true => exact (putCtx (c := { s.ctx n with psnOut := true }) rfl rfl).trans (of_ctx SameEngine.putAx.ctx)

/-- Whatever an EVX0640 word names. -/
theorem runEvx : Written n s (Machine.runEvx n t word f s) := by
  have hread := (SameEngine.readEvx (s := s) (p := ctxPod n) (c := s.ctx n) (a := f.x)).trans
    (SameEngine.readEvx (p := ctxPod n) (c := s.ctx n) (a := f.y))
  have hflags (due fl : Nat) : Written n s (raiseFlags n due fl (useFree
      (Machine.readEvx (ctxPod n) (s.ctx n) f.y (Machine.readEvx (ctxPod n) (s.ctx n) f.x s).2).2)) :=
    of_ctx fun m => ctx_raiseFlags.trans (hread.ctx m)
  unfold Machine.runEvx
  dsimp only
  split
  · exact (hflags _ _).trans (putCtx rfl rfl)
  · exact (hflags _ _).trans (of_ctx fun _ => ctx_addWrite)
  · exact (hflags _ _).trans putOut
  · exact hflags _ _

end Written

/-- The value of an EVX0640 word that reads no element, at a value of the model's counter. -/
def evxValue (word : Nat) (f : EvxForm) (c : Ctx) (free : Nat) : Nat :=
  (Config.evxResult word 0 0 ((f.accs.map fun r => localOf c r.val).map (·.1)) free).1.toNat

section Unpoisoned

variable (hx : f.x = none) (hy : f.y = none) (hpsn : (f.accs.map fun r => localOf (s.ctx n) r.val).any (·.2) = false)

include hx hy hpsn

theorem runEvx_acc {r : Fin 8} (hdst : f.dst = .acc r) :
    localOf ((runEvx n t word f s).ctx n) r.val = (evxValue word f (s.ctx n) s.free, false) := by
  have hlt : evxValue word f (s.ctx n) s.free < 2 ^ 32 := BitVec.isLt _
  simp only [runEvx, hx, hy, readEvx, hpsn, hdst, Bool.or_self, Bool.false_eq_true, if_false, ctx_putCtx_self, localOf_setLocal,
    if_true]
  exact congrArg (·, false) (Nat.mod_eq_of_lt hlt)

theorem runEvx_data {d : BitVec 17} (hdst : f.dst = .data d) :
    (⟨t + 8 * (f.slots1.val + 1) - 1, ctxPod n, n / 4 % 4, .elem (((s.ctx n).desc.xb + d.toNat) % 131072),
      evxValue word f (s.ctx n) s.free, false⟩ : PendWr) ∈ (runEvx n t word f s).le.writes := by
  simp only [runEvx, hx, hy, readEvx, hpsn, hdst, Bool.or_self, Bool.false_eq_true, if_false]
  exact mem_addWrite.2 (.inl rfl)

end Unpoisoned

end Evx

section Start

variable {f : EvxForm} {c : Ctx}

theorem localOf_evxIssued {r : Nat} : localOf (evxIssued word t f c) r = localOf c r :=
  congrArg (fun l => kvGet (fun _ => (0, false)) l r) stepLoop_locals

theorem evxValue_evxIssued {free : Nat} : evxValue word f (evxIssued word t f c) free = evxValue word f c free := by
  simp only [evxValue, localOf_evxIssued]

theorem ctx_evxStart_self : (evxStart n t word f u).ctx n = evxIssued word t f (u.ctx n) := ctx_putCtx_self

theorem ctx_evxStart_other {m : Nat} (h : m ≠ n) : (evxStart n t word f u).ctx m = u.ctx m := ctx_putCtx_other h

theorem evxStart_free : (evxStart n t word f u).free = u.free + 1 := putCtx_free

end Start

/-- An EVX0640 word that neither ends its graph nor is illegal uses its slots in its context alone. -/
theorem runEvx_evxStart_ctx {f : EvxForm} :
    ((runEvx n t word f (evxStart n t word f u)).ctx n).slot = (u.ctx n).slot + f.slots1.val + 1 ∧
      ((runEvx n t word f (evxStart n t word f u)).ctx n).live = (u.ctx n).live ∧
      ∀ m, m ≠ n → (runEvx n t word f (evxStart n t word f u)).ctx m = u.ctx m := by
  have hwritten := Written.runEvx (s := evxStart n t word f u) (n := n) (t := t) (word := word) (f := f)
  refine ⟨?_, ?_, fun m hm => (hwritten.others m hm).trans (ctx_evxStart_other hm)⟩
  · rw [hwritten.slot, ctx_evxStart_self]
    rfl
  · rw [hwritten.live, ctx_evxStart_self]
    exact stepLoop_live

/-! The commands. -/

theorem issueNative_nop (h : s.before n 0x00 t word u) (hloop : (u.ctx n).loop.n = 0) :
    ((issueNative n 0x00 s).ctx n).pc = ((u.ctx n).pc + 1) % 2 ^ 15 ∧
      ((issueNative n 0x00 s).ctx n).slot = (u.ctx n).slot + 1 ∧
      ∀ r, localOf ((issueNative n 0x00 s).ctx n) r = localOf (u.ctx n) r := by
  have hop := op_of_before h
  rw [issueNative_before h, runWord_nop hop, ctx_afterWord_self, issued_slot, issued_pc hloop, hop]
  exact ⟨rfl, rfl, fun _ => rfl⟩

theorem issueNative_loop (h : s.before n 0x18 t word u) : (issueNative n 0x18 s).ctx n =
    loopBegun (peaFields word) (afterIssue (u.slotTicks (ctxPod n)) 0x18 word t (u.ctx n)) := by
  rw [issueNative_before h, ctx_runWord_loop (op_of_before h)]

theorem issueNative_out {x : Nat} (h : s.before n 0x19 t word u)
    (hread : readX (ctxPod n) (u.ctx n) (peaFields word) (countSlots (ctxPod n) 1 u) = ((x, false), v)) :
    outWrite n (t + u.slotTicks (ctxPod n) / 4 * 8 - 1) (effOff (peaFields word).yoff (peaFields word).ystr (u.ctx n).lc 10) x
        (peaFields word).np (u.ctx n) ∈ (issueNative n 0x19 s).le.writes ∧ (issueNative n 0x19 s).mem = u.mem := by
  rw [issueNative_before h, runWord_out (op_of_before h), writes_afterWord, afterWord_mem]
  exact runOut_sends (s := countSlots (ctxPod n) 1 u) hread

theorem issueNative_end (h : s.before n 0x3F t word u) :
    ((issueNative n 0x3F s).ctx n).live = false ∧ ∀ m, m ≠ n → (issueNative n 0x3F s).ctx m = u.ctx m := by
  have hended := runWord_end (n := n) (t := t) (u := u) (op_of_before h)
  rw [issueNative_before h]
  exact ⟨hended.live, fun m hm => by rw [hended.others m hm, ctx_putCtx_other hm, ctx_countSlots]⟩

theorem issueIllegal_eq (hcan : s.canIssue n = true) (hbound : s.atBound n = false) (hill : s.nextIllegal n = true) :
    issueIllegal n s = illegalEnd n (!(s.nextWord n).2) (toSlot n s).2 := by
  simp only [issueIllegal, hcan, hbound, hill, Bool.not_false, Bool.and_self, if_true]

theorem issueBound_live (hcan : s.canIssue n = true) (hbound : s.atBound n = true) :
    ((issueBound n s).ctx n).live = false := by
  simp only [issueBound, hcan, hbound, Bool.and_self, if_true]
  exact Ended.boundGraph.live

/-- The result of an EVX0640 word that reads no element and no poisoned accumulator. -/
theorem runEvx_evxStart_result {f : EvxForm} (hx : f.x = none) (hy : f.y = none)
    (hpsn : (f.accs.map fun r => localOf (u.ctx n) r.val).any (·.2) = false) :
    (∀ r, f.dst = .acc r → localOf ((runEvx n t word f (evxStart n t word f u)).ctx n) r.val =
      (evxValue word f (u.ctx n) (u.free + 1), false)) ∧
    (∀ d, f.dst = .data d → (⟨t + 8 * (f.slots1.val + 1) - 1, ctxPod n, n / 4 % 4,
      .elem (((u.ctx n).desc.xb + d.toNat) % 131072), evxValue word f (u.ctx n) (u.free + 1), false⟩ : PendWr) ∈
        (runEvx n t word f (evxStart n t word f u)).le.writes) := by
  have haccs : (f.accs.map fun r => localOf ((evxStart n t word f u).ctx n) r.val).any (·.2) = false := by
    simp only [ctx_evxStart_self, localOf_evxIssued]
    exact hpsn
  have hvalue : evxValue word f ((evxStart n t word f u).ctx n) (evxStart n t word f u).free =
      evxValue word f (u.ctx n) (u.free + 1) := by rw [ctx_evxStart_self, evxStart_free, evxValue_evxIssued]
  have hdesc : ((evxStart n t word f u).ctx n).desc = (u.ctx n).desc := by rw [ctx_evxStart_self]; exact stepLoop_desc
  refine ⟨fun r hdst => ?_, fun d hdst => ?_⟩
  · rw [runEvx_acc hx hy haccs hdst, hvalue]
  · rw [← hvalue, ← hdesc]
    exact runEvx_data hx hy haccs hdst

/-- Settles O13: each word by the state that its issue leaves; the graphs that end do so by `Ended`. -/
theorem controlWordsOfAPea : Obligations.ControlWordsOfAPea := by
  unfold Obligations.ControlWordsOfAPea
  intro a b k s u t word
  dsimp only
  refine ⟨fun h hloop => answers_done ?_, fun h hloop => answers_done ?_, fun x v h hread => answers_done ?_,
    fun h => answers_done ?_, fun hcan hbound hill => answers_done ?_, fun hcan hbound => answers_done ?_,
    fun f hcan hnative hbound hlegal hslot hf hfin => answers_done ?_⟩
  · rw [ctx_settle]
    exact issueNative_nop h hloop
  · rw [ctx_settle, issueNative_loop h]
    have hpc := stepLoop_pc (word := word) hloop
    exact ⟨rfl, hpc, hpc, rfl, rfl, rfl⟩
  · rw [settle_le, settle_mem]
    exact issueNative_out h hread
  · simp only [ctx_settle]
    exact issueNative_end h
  · rw [ctx_settle, issueIllegal_eq hcan hbound hill]
    exact illegalEnd_ctx
  · rw [ctx_settle]
    exact issueBound_live hcan hbound
  · have hissues : s.evxIssues (ctxNo a b k) := ⟨hcan, hnative, hbound, hlegal⟩
    have hfin' : finMissing (u.ctx (ctxNo a b k)) (f.slots1.val + 1) (evxFin f.dst) = false := by
      cases hdst : f.dst <;> rw [hdst] at hfin <;> exact hfin
    simp only [ctx_settle, settle_le]
    refine ⟨fun hdst => ?_, fun hdst => (issueEvx_graphEnd hissues hslot hf hfin' hdst).live, fun hill hend => ?_,
      fun hx hy hpsn => ?_⟩
    · rw [issueEvx_illegal hissues hslot hf hdst]
      exact illegalEnd_ctx
    · rw [issueEvx_runs hissues hslot hf hfin' hill hend]
      exact runEvx_evxStart_ctx
    · have hruns {d : EvxDst} (hdst : f.dst = d) (hill : d ≠ .illegal) (hend : d ≠ .graphEnd) :=
        issueEvx_runs hissues hslot hf hfin' (hdst ▸ hill) (hdst ▸ hend)
      obtain ⟨hacc, hdata⟩ := runEvx_evxStart_result (t := t) (word := word) hx hy hpsn
      refine ⟨fun r hdst => ?_, fun d hdst => ?_⟩
      · rw [hruns hdst nofun nofun]
        exact hacc r hdst
      · rw [hruns hdst nofun nofun]
        exact hdata d hdst

end Sys2Proof.Machine
end

section
/-! The scheduler of a pod: what reports, accesses and the ends of graphs leave of it, and of what it reads (R26, R92, R101, R102). -/

namespace Sys2Proof.Machine

variable {s t u : State} {p : Nat}

/-! Pods. -/

theorem pod_congr (h : t.pods = s.pods) (q : Nat) : t.pod q = s.pod q := congrArg (kvGet _ · q) h

@[simp] theorem pod_settle {q : Nat} : (settle s).pod q = s.pod q := pod_congr (settle_pods s) q

theorem pod_putPod {q : Nat} {v : PodSt} : (putPod q v s).pod p = if p = q then v else s.pod p := kvGet_kvPut

@[simp] theorem pod_putPod_self {v : PodSt} : (putPod p v s).pod p = v := kvGet_kvPut_self

@[simp] theorem pod_setRb {a b : Nat} {v : Bool} : (setRb a b v s).pod p = s.pod p := rfl

theorem putCtx_pods {n : Nat} {c : Ctx} : (putCtx n c s).pods = s.pods := by
  unfold putCtx showCtx
  dsimp only
  rw [setRf_pods, setReg_pods]

@[simp] theorem pod_putCtx {n : Nat} {c : Ctx} : (putCtx n c s).pod p = s.pod p := pod_congr putCtx_pods p

/-! Active copies in a cycle (R26). -/

theorem cyc_congr (htime : t.time = s.time) (hactv : t.actv = s.actv) : t.cyc = s.cyc := by
  unfold State.cyc State.clen State.nsNow State.af State.act
  rw [htime, hactv]

/-- From s to t the time and the active copies stay. -/
structure SameCopies (s t : State) : Prop where
  time : t.time = s.time
  actv : t.actv = s.actv
  prev : t.prev = s.prev
  cmt : t.cmt = s.cmt

namespace SameCopies

theorem refl (s : State) : SameCopies s s := ⟨rfl, rfl, rfl, rfl⟩

theorem trans (h : SameCopies s t) (k : SameCopies t u) : SameCopies s u :=
  ⟨k.time.trans h.time, k.actv.trans h.actv, k.prev.trans h.prev, k.cmt.trans h.cmt⟩

theorem cyc (h : SameCopies s t) : t.cyc = s.cyc := cyc_congr h.time h.actv

theorem actAt (h : SameCopies s t) (c a : Nat) : t.actAt c a = s.actAt c a := by
  unfold State.actAt State.act State.actPrev
  rw [h.cyc, h.actv, h.prev, h.cmt]

theorem compat (h : SameCopies s t) : t.compat p = s.compat p := congrArg (bit · 0) (act_congr h.actv _)

theorem graphTable (h : SameCopies s t) (c : Nat) : t.graphTable c p = s.graphTable c p := by
  unfold State.graphTable State.afAt
  simp only [h.actAt]

end SameCopies

/-! The work of a pod. -/

/-- The state without what a report, an access or the end of a graph may change, and without the pods. -/
def State.offWork (s : State) : State :=
  { s.calm with le := {}, pods := [], ovrAlarm := [], dsBad := false, axes := [], pg := [], net := {}, hif := {}, outs := [], free := 0 }

/-- A pod without its cycles of overruns, its generators missed and the beginning of its idle time. -/
def PodSt.work (v : PodSt) : PodSt := { v with ovrCycs := [], pgDue := [], idleSince := 0 }

/-- From s to t faults may be reported, memory accessed and graphs ended: the time, the active copies and the work of pod p
stay. -/
structure SameWork (p : Nat) (s t : State) : Prop where
  rest : t.offWork = s.offWork
  pod : (t.pod p).work = (s.pod p).work

theorem Logs.offWork (h : Logs s t) : t.offWork = s.offWork :=
  congrArg (fun x : State => ({ x with
    le := {}, pods := [], ovrAlarm := [], dsBad := false, axes := [], pg := [], net := {}, hif := {}, outs := [], free := 0 } : State)) h.rest

theorem Logs.pods (h : Logs s t) : t.pods = s.pods := (congrArg State.pods h.rest :)

theorem SameCopies.of_offWork (h : t.offWork = s.offWork) : SameCopies s t :=
  ⟨(congrArg State.time h :), (congrArg State.actv h :), (congrArg State.prev h :), (congrArg State.cmt h :)⟩

namespace SameWork

theorem refl (s : State) : SameWork p s s := ⟨rfl, rfl⟩

theorem trans (h : SameWork p s t) (k : SameWork p t u) : SameWork p s u := ⟨k.rest.trans h.rest, k.pod.trans h.pod⟩

theorem after (k : SameWork p t u) (h : SameWork p s t) : SameWork p s u := h.trans k

theorem of_pods (hpods : t.pods = s.pods) (hrest : t.offWork = s.offWork) : SameWork p s t :=
  ⟨hrest, congrArg PodSt.work (pod_congr hpods p)⟩

theorem of_logs (h : Logs s t) : SameWork p s t := of_pods h.pods h.offWork

theorem onlyIf {c : Bool} {f : State → State} (h : SameWork p s (f s)) : SameWork p s (Machine.onlyIf c f s) := by
  cases c
  · exact refl s
  · exact h

theorem ite {c : Prop} [Decidable c] (h : SameWork p s t) (k : SameWork p s u) : SameWork p s (if c then t else u) := by
  split
  · exact h
  · exact k

theorem forAll {α : Type} {f : α → State → State} (h : ∀ x t, SameWork p t (f x t)) (xs : List α) :
    SameWork p s (Machine.forAll xs f s) := forAll_keeps (fun x t ht => ht.trans (h x t)) xs (refl s)

/-! What stays. -/

theorem copies (h : SameWork p s t) : SameCopies s t := .of_offWork h.rest

theorem queue (h : SameWork p s t) : (t.pod p).queue = (s.pod p).queue := (congrArg PodSt.queue h.pod :)

theorem carry (h : SameWork p s t) : (t.pod p).carry = (s.pod p).carry := (congrArg PodSt.carry h.pod :)

theorem crc (h : SameWork p s t) : (t.pod p).crc = (s.pod p).crc := (congrArg PodSt.crc h.pod :)

theorem closed (h : SameWork p s t) : (t.pod p).closed = (s.pod p).closed := (congrArg PodSt.closed h.pod :)

theorem asleep (h : SameWork p s t) : (t.pod p).asleep = (s.pod p).asleep := (congrArg PodSt.asleep h.pod :)

theorem waking (h : SameWork p s t) : (t.pod p).waking = (s.pod p).waking := (congrArg PodSt.waking h.pod :)

/-! Registers, events and the host. -/

theorem setReg {a : Nat} {v : Word} : SameWork p s (Machine.setReg a v s) := ⟨rfl, rfl⟩

theorem setRf {a hi lo v : Nat} : SameWork p s (Machine.setRf a hi lo v s) := ⟨rfl, rfl⟩

theorem setRb {a b : Nat} {v : Bool} : SameWork p s (Machine.setRb a b v s) := ⟨rfl, rfl⟩

theorem incRf {a hi lo : Nat} : SameWork p s (Machine.incRf a hi lo s) := ⟨rfl, rfl⟩

theorem orReg {a m : Nat} : SameWork p s (Machine.orReg a m s) := ⟨rfl, rfl⟩

theorem event {code cls inst x y : Nat} : SameWork p s (Machine.event code cls inst x y s) := of_logs Logs.event

theorem flagEvent {src reg b cls inst a : Nat} : SameWork p s (Machine.flagEvent src reg b cls inst a s) := orReg.trans event

theorem signalVector {v : Nat} : SameWork p s (Machine.signalVector v s) := by
  have hmsix : SameWork p s (msixSend v s) := ite ⟨rfl, rfl⟩ ⟨rfl, rfl⟩
  have hmsi (v : Nat) : SameWork p s (msiSend v s) := ite ⟨rfl, rfl⟩ ⟨rfl, rfl⟩
  exact ite (refl s) (ite hmsix (ite (hmsi _) (refl s)))

theorem observed : SameWork p s (Machine.observed s) := by
  have hmark : SameWork p s (markSet 0 (2 ^ 0) { s with hif := { s.hif with hnote := natSet s.hif.hnote 0 true } }) := ⟨rfl, rfl⟩
  have hnote : SameWork p s (setNote 0 s) := ite ⟨rfl, rfl⟩ (hmark.trans signalVector)
  have hfree (t : State) : SameWork p t (useFree t) := ⟨rfl, rfl⟩
  have hevent (t : State) : SameWork p t (gliporEvent t) := event.after (hfree t)
  exact onlyIf (hnote.trans (hevent _))

/-! Axes, generators and contexts. -/

theorem putAx {n : Nat} {v : AxSt} : SameWork p s (Machine.putAx n v s) := ⟨rfl, rfl⟩

theorem putPg {n : Nat} {v : PgSt} : SameWork p s (Machine.putPg n v s) := ⟨rfl, rfl⟩

theorem putPod {v : PodSt} (h : v.work = (s.pod p).work) : SameWork p s (Machine.putPod p v s) :=
  ⟨rfl, (congrArg PodSt.work pod_putPod_self).trans h⟩

theorem putCtx {n : Nat} {c : Ctx} : SameWork p s (Machine.putCtx n c s) := by
  have hput : SameWork p s { s with le := { s.le with ctxs := kvPut (fun _ => {}) s.le.ctxs n c } } := ⟨rfl, rfl⟩
  exact hput.trans (setReg.trans setRf)

theorem axTripIf {c : Bool} {n b : Nat} : SameWork p s (Machine.axTripIf c n b s) :=
  onlyIf (f := axTrip n b) (putAx.after (flagEvent.after orReg))

theorem read32 {agent chan a : Nat} : SameWork p s (Machine.read32 agent chan a s).2 := of_logs Logs.read32

theorem tripGraph {n q xb : Nat} {bs : List Nat} : SameWork p s (Machine.tripGraph n q xb bs s).2 := by
  induction bs generalizing s with
  | nil => exact refl s
  | cons b bs ih =>
    unfold Machine.tripGraph
    exact ih.after (axTripIf.after read32)

theorem axEnd {n q xb flags : Nat} {native ill psn : Bool} : SameWork p s (Machine.axEnd n q xb flags native ill psn s) := by
  unfold Machine.axEnd
  extract_lets s₁ s₂
  have hflags : SameWork p s s₂ := setRf.trans setRb
  clear_value s₂
  cases native with
  | false => exact axTripIf.after (axTripIf.after hflags)
  | true =>
    have hgraph := hflags.trans (tripGraph (n := n) (q := q) (xb := xb) (bs := [0, 1, 2, 3, 4]))
    have hread := hgraph.trans (read32 (agent := 12) (chan := 0) (a := elemAddr q ((xb + 4) % 131072)))
    exact axTripIf.after (axTripIf.after (hread.trans setRb))

theorem pgMiss {n : Nat} : SameWork p s (Machine.pgMiss n s) := flagEvent

theorem genMissed {axis cyc : Nat} {gen : Bool} : SameWork p s (Machine.genMissed p axis cyc gen s) := ite (putPod rfl) (refl s)

theorem noteIdle : SameWork p s (Machine.noteIdle p s) := ite (putPod rfl) (refl s)

/-! Faults and graphs that are cut off. -/

theorem dsMark {q b idx axis : Nat} : SameWork p s (Machine.dsMark q b idx axis s) := by
  have hbad (t : State) : SameWork p t { t with dsBad := true } := ⟨rfl, rfl⟩
  unfold Machine.dsMark
  exact (setReg.trans orReg).trans (onlyIf (hbad _))

theorem dsFault {b idx axis : Nat} : SameWork p s (Machine.dsFault p b idx axis s) := dsMark.trans event

theorem setOvr {cyc idx axis : Nat} : SameWork p s (Machine.setOvr p cyc idx axis s) := by
  have halarm (t : State) : SameWork p t { t with ovrAlarm := t.ovrAlarm ++ [p] } := ⟨rfl, rfl⟩
  unfold Machine.setOvr
  extract_lets s₁ cs v s₂ s₃
  have hfault : SameWork p s s₁ := dsFault
  have hseen : SameWork p s₁ s₂ := putPod rfl
  have hcount : SameWork p s₁ s₃ := (observed.after incRf).after hseen
  exact hfault.trans (ite (refl _) (hcount.trans (ite (halarm _) (refl _))))

theorem deliver {n : Nat} {c : Ctx} {ill : Bool} : SameWork p s (Machine.deliver n c ill true s) := by
  have hpgEnd (t : State) : pgEnd c.desc.axis c.desc.ob c.flags true t = Machine.pgMiss c.desc.axis t := rfl
  unfold Machine.deliver
  extract_lets bad s₁ s₂
  have hbad : SameWork p s s₁ := onlyIf putAx
  refine hbad.trans (ite ((onlyIf ?_).after axTripIf) (axEnd.after putAx))
  rw [hpgEnd]
  exact pgMiss

theorem overrunGraph {n : Nat} : SameWork p s (Machine.overrunGraph n s) := by
  have hcut (m : Nat) (t : State) : SameWork p t (cutSlots n m t) := ⟨rfl, rfl⟩
  have hready : SameWork p s (orphanFlags n { s with le := { s.le with writes := s.le.writes.filterMap (unready (ctxPod n) (s.ctx n)) } }) :=
    ⟨rfl, rfl⟩
  exact (onlyIf pgMiss).after (deliver.after (putCtx.after ((hcut _ _).after hready)))

/-! The input record of a generator (R138). -/

theorem writeRec (w : Nat) (vs : List (Nat × Bool)) (s : State) : SameWork p s (Machine.writeRec w vs s) := by
  induction vs generalizing w s with
  | nil => exact refl s
  | cons v vs ih => exact (of_logs Logs.put32).trans (ih _ _)

theorem pgUq {n cyc lawIb : Nat} : SameWork p s (Machine.pgUq n cyc lawIb s).2 := by
  have huq (c w : Nat) : SameWork p s (uqOf c w s).2 := by
    unfold uqOf
    split
    · exact refl s
    · exact read32
  unfold Machine.pgUq
  split
  · exact huq _ _
  · exact huq _ _
  · exact refl s

theorem pgInput {n cyc ib lawIb : Nat} : SameWork p s (Machine.pgInput n cyc ib lawIb s) :=
  (pgUq.trans putPg).trans (writeRec _ _ _)

/-! Writes that land (R53, R63, R65). -/

theorem landAt {w : PendWr} {a : Nat} {k : Bool} : SameWork p s (Machine.landAt w a k s) := by
  have hnote : SameWork p s (noteWord w.due a (noteHit w.due a s)) := ⟨rfl, rfl⟩
  unfold Machine.landAt
  exact ite (hnote.trans (of_logs Logs.mergeSecond)) (hnote.trans (of_logs Logs.write32))

theorem podFlags {q f : Nat} : SameWork p s (Machine.podFlags q f s) :=
  orReg.trans (forAll (fun _ _ => onlyIf (event.trans (of_logs Logs.irq))) _)

theorem commandReady {n ob cyc tick : Nat} : SameWork p s (Machine.commandReady n ob cyc tick s) := by
  unfold Machine.commandReady
  extract_lets rs en s₁ s₂
  have hctrl : SameWork p s s₁ := of_logs Logs.put32
  exact putAx.after (hctrl.trans (ite (of_logs (Logs.writeNet _ _ _)) (refl _)))

theorem ctxFlags {n q f : Nat} : SameWork p s (Machine.ctxFlags n q f s) := by
  refine .trans ?_ podFlags
  exact onlyIf putCtx

theorem landWrite {w : PendWr} : SameWork p s (Machine.landWrite w s) := by
  have hadd (t : State) (w : PendWr) : SameWork p t (addWrite w t) := ⟨rfl, rfl⟩
  unfold Machine.landWrite
  split
  · exact landAt
  · exact landAt.trans (onlyIf (hadd _ _))
  · exact ctxFlags
  · exact commandReady

end SameWork

end Sys2Proof.Machine
end


section
/-! Time that passes by itself: the tick in which it ends, and the sleep of a pod meanwhile (R48, R53, R96, R211, R451). -/

namespace Sys2Proof.Machine

variable {s t u : State} {p k : Nat}

/-- From s to t time passes by itself, to tick k at most; pod p stays asleep or awake, and its wake stays begun or not. -/
structure Waits (p k : Nat) (s t : State) : Prop where
  tick : s.time.tick ≤ k → t.time.tick ≤ k
  asleep : (t.pod p).asleep = (s.pod p).asleep
  waking : (t.pod p).waking = (s.pod p).waking

theorem SameWork.waits (h : SameWork p s t) : Waits p k s t := ⟨fun hs => by rw [h.copies.time]; exact hs, h.asleep, h.waking⟩

namespace Waits

theorem refl (s : State) : Waits p k s s := ⟨id, rfl, rfl⟩

theorem trans (h : Waits p k s t) (g : Waits p k t u) : Waits p k s u :=
  ⟨fun hs => g.tick (h.tick hs), g.asleep.trans h.asleep, g.waking.trans h.waking⟩

/-- What comes next may use that tick k has not passed. -/
theorem andThen (h : Waits p k s t) (hs : s.time.tick ≤ k) (g : t.time.tick ≤ k → Waits p k t u) : Waits p k s u :=
  h.trans (g (h.tick hs))

theorem toTick {n : Nat} (h : s.time.tick ≤ k → n ≤ k) : Waits p k s (Machine.toTick n s) :=
  ⟨fun hs => by rw [toTick_tick]; exact max_le hs (h hs), rfl, rfl⟩

theorem landFirst (m n : Nat) (hm : m ≤ k) (s : State) : Waits p k s (Machine.landFirst m n s) := by
  induction n generalizing s with
  | zero => exact refl s
  | succ n ih =>
    unfold Machine.landFirst
    split
    · exact refl s
    · rename_i w ws _
      split
      · rename_i hdue
        have htake : Waits p k s { s with le := { s.le with writes := ws } } := ⟨id, rfl, rfl⟩
        have htaken := htake.trans (toTick (n := w.due) fun _ => hdue.trans hm)
        have hlands (t : State) : Waits p k t (if ws.any (collides w) then podFlags w.pod 256 t else landWrite w t) := by
          split
          · exact SameWork.podFlags.waits
          · exact SameWork.landWrite.waits
        exact htaken.trans ((hlands _).trans (ih _))
      · exact refl s

theorem landUpTo {m : Nat} (hm : m ≤ k) : Waits p k s (Machine.landUpTo m s) := landFirst _ _ hm s

theorem lateEntry {q : Nat} {e : QEnt} : Waits p k s (Machine.lateEntry q e s) := by
  have hput (f : QEnt → QEnt) : Waits p k s (putPod q { s.pod q with queue := (s.pod q).queue.map f } s) := by
    refine ⟨id, ?_, ?_⟩ <;>
    · rw [pod_putPod]
      split
      · subst p; rfl
      · rfl
  unfold Machine.lateEntry
  exact (hput _).trans (SameWork.dsMark.trans (SameWork.event.trans SameWork.incRf)).waits

theorem latesUpTo (m n : Nat) (hm : m ≤ k) (s : State) : Waits p k s (Machine.latesUpTo m n s) := by
  induction n generalizing s with
  | zero => exact refl s
  | succ n ih =>
    unfold Machine.latesUpTo
    split
    · split
      · rename_i hdec
        have hnext : _ + 1 ≤ k := hdec.trans_le hm
        exact (((landUpTo hnext).trans (toTick fun _ => hnext)).trans lateEntry).trans (ih _)
      · exact refl s
    · exact refl s

theorem runTo {n : Nat} (h : n ≤ k) : Waits p k s (Machine.runTo n s) :=
  (latesUpTo _ _ h s).trans ((landUpTo h).trans (toTick fun _ => h))

theorem echoesUpTo (n : Nat) (s : State) (hs : s.time.tick ≤ k) : Waits p k s (Machine.echoesUpTo k n s) := by
  have htake (t : State) (es : List EchoPend) : Waits p k t { t with net := { t.net with echoes := es } } := ⟨id, rfl, rfl⟩
  have hmiss (r : Nat) (t : State) (es : List EchoPend) :
      Waits p k t (netErr r 5 { t with net := { t.net with echoes := es } }) :=
    (htake t es).trans (SameWork.flagEvent.trans SameWork.incRf).waits
  induction n generalizing s with
  | zero => exact refl s
  | succ n ih =>
    unfold Machine.echoesUpTo
    split
    · split
      · rename_i hdue
        refine andThen ?_ hs (ih _)
        exact (runTo (max_le hs hdue)).trans (hmiss _ _ _)
      · exact refl s
    · exact refl s

theorem advanceTo : Waits p (max s.time.tick k) s (Machine.advanceTo k s) := by
  unfold Machine.advanceTo
  split
  · exact refl s
  · rename_i hlt
    rw [max_eq_right (Nat.le_of_not_le hlt)]
    exact (echoesUpTo _ s (Nat.le_of_not_le hlt)).trans (runTo le_rfl)

end Waits

/-- An advance ends in the tick it goes to, unless that is past. -/
theorem tick_advanceTo : (advanceTo k s).time.tick = max s.time.tick k := by
  refine Nat.le_antisymm ((Waits.advanceTo (p := 0)).tick (le_max_left _ _)) (max_le ?_ advanceTo_tick)
  unfold advanceTo
  split
  · exact le_rfl
  · rename_i hlt
    unfold runTo
    dsimp only
    rw [toTick_tick]
    exact (Nat.le_of_not_le hlt).trans (le_max_right _ _)

end Sys2Proof.Machine
end


section
/-! The deadline of a cycle: its graphs and entries end, and its signature is latched (R92, R100 to R102). -/

namespace Sys2Proof.Machine

variable {s t u v : State} {p cyc : Nat}

/-! What a fault shows (R101). -/

theorem DS_ERR_ne_EVL_LOST (hp : p < 4) : Reg.DS_ERR p ≠ Reg.EVL_LOST := by
  unfold Reg.DS_ERR Reg.EVL_LOST
  omega

/-- A mark of a fault stands in DS_ERR and DS_FLT_INFO. -/
theorem dsMark_regs {b idx axis : Nat} : ∃ v, (dsMark p b idx axis s).regs =
    (orReg (Reg.DS_ERR p) (2 ^ b) (setReg (Reg.DS_FLT_INFO p) v s)).regs := by
  unfold dsMark onlyIf
  split <;> exact ⟨_, rfl⟩

theorem reg_dsMark_other {b idx axis a : Nat} (hinfo : a ≠ Reg.DS_FLT_INFO p) (herr : a ≠ Reg.DS_ERR p) :
    (dsMark p b idx axis s).reg a = s.reg a := by
  obtain ⟨v, hregs⟩ := dsMark_regs (s := s) (p := p) (b := b) (idx := idx) (axis := axis)
  exact (reg_congr hregs a).trans ((reg_orReg_other herr).trans (reg_setReg_other hinfo))

theorem rb_dsMark {b idx axis : Nat} (hb : b < 32) : (dsMark p b idx axis s).rb (Reg.DS_ERR p) b = true := by
  obtain ⟨v, hregs⟩ := dsMark_regs (s := s) (p := p) (b := b) (idx := idx) (axis := axis)
  exact (rb_of_reg (reg_congr hregs _)).trans (rb_orReg_self hb)

theorem rb_dsFault {b idx axis : Nat} (hp : p < 4) (hb : b < 32) : (dsFault p b idx axis s).rb (Reg.DS_ERR p) b = true :=
  (rb_of_reg (reg_event (DS_ERR_ne_EVL_LOST hp))).trans (rb_dsMark hb)

theorem reg_dsFault_other {b idx axis a : Nat} (hinfo : a ≠ Reg.DS_FLT_INFO p) (herr : a ≠ Reg.DS_ERR p)
    (hlost : a ≠ Reg.EVL_LOST) : (dsFault p b idx axis s).reg a = s.reg a :=
  (reg_event hlost).trans (reg_dsMark_other hinfo herr)

/-- A flag that is set clears no bit of another register, nor of its own. -/
theorem rb_flagEvent_of {src reg c cls inst a b i : Nat} (hb : b ≠ Reg.EVL_LOST) (h : s.rb b i = true) :
    (flagEvent src reg c cls inst a s).rb b i = true := (rb_of_reg (reg_event hb)).trans (rb_orReg_of h)

theorem observed_touches {ex : List Nat} (hl : Reg.EVL_LOST ∈ ex) : Touches ex s (observed s) := by
  obtain ⟨-, -, -, hregs⟩ := setNote_bit (s := s) (j := 0)
  have hnote : Touches ex s (setNote 0 s) := .of_regs hl (fun _ _ => reg_congr hregs _) setNote_fio
  have hfree (t : State) : Touches ex t (useFree t) := .of_regs hl (fun _ _ => rfl) rfl
  have hevent (t : State) : Touches ex t (gliporEvent t) := (event_touches hl).after (hfree t)
  exact .onlyIf (hnote.trans (hevent _))

/-- Once OVR is set, counting it touches the count and the recorder alone. -/
theorem setOvr_touches {idx axis : Nat} : Touches [Reg.DS_CNT p, Reg.EVL_LOST] (dsFault p 1 idx axis s) (setOvr p cyc idx axis s) := by
  have hcnt (t : State) : Touches [Reg.DS_CNT p, Reg.EVL_LOST] t (incRf (Reg.DS_CNT p) 31 16 t) :=
    .of_regs (.head _) (fun _ hb => reg_setReg_other hb) rfl
  have hput (v : PodSt) (t : State) : Touches [Reg.DS_CNT p, Reg.EVL_LOST] t (putPod p v t) := ⟨fun _ _ => rfl, fun _ _ => rfl, rfl⟩
  have halarm (t : State) : Touches [Reg.DS_CNT p, Reg.EVL_LOST] t { t with ovrAlarm := t.ovrAlarm ++ [p] } :=
    ⟨fun _ _ => rfl, fun _ _ => rfl, rfl⟩
  have hcount (t : State) := (hcnt t).trans (observed_touches (.tail _ (.head _)))
  unfold setOvr
  exact .ite (.refl _) (((hput _ _).trans (hcount _)).trans (.ite (halarm _) (.refl _)))

theorem rb_setOvr {idx axis : Nat} (hp : p < 4) : (setOvr p cyc idx axis s).rb (Reg.DS_ERR p) 1 = true := by
  have hcnt : Reg.DS_ERR p ≠ Reg.DS_CNT p := by unfold Reg.DS_ERR Reg.DS_CNT; omega
  rw [setOvr_touches.rb (by simp [hcnt, DS_ERR_ne_EVL_LOST hp]), rb_dsFault hp (by decide)]

/-! Contexts at a deadline. -/

namespace SameEngine

theorem observed : SameEngine s (Machine.observed s) := by
  have hmsix (v : Nat) (t : State) : SameEngine t (msixSend v t) := ite ⟨rfl, rfl⟩ ⟨rfl, rfl⟩
  have hmsi (v : Nat) (t : State) : SameEngine t (msiSend v t) := ite ⟨rfl, rfl⟩ ⟨rfl, rfl⟩
  have hsignal (v : Nat) (t : State) : SameEngine t (signalVector v t) :=
    ite (refl t) (ite (hmsix _ _) (ite (hmsi _ _) (refl t)))
  have hmark : SameEngine s (markSet 0 (2 ^ 0) { s with hif := { s.hif with hnote := natSet s.hif.hnote 0 true } }) := ⟨rfl, rfl⟩
  have hnote : SameEngine s (setNote 0 s) := ite ⟨rfl, rfl⟩ (hmark.trans (hsignal _ _))
  have hfree (t : State) : SameEngine t (useFree t) := ⟨rfl, rfl⟩
  have hevent (t : State) : SameEngine t (gliporEvent t) := event.after (hfree t)
  exact onlyIf (hnote.trans (hevent _))

theorem setOvr {idx axis : Nat} : SameEngine s (Machine.setOvr p cyc idx axis s) := by
  have halarm (t : State) : SameEngine t { t with ovrAlarm := t.ovrAlarm ++ [p] } := ⟨rfl, rfl⟩
  have hcnt (t : State) : SameEngine t (incRf (Reg.DS_CNT p) 31 16 t) := ⟨rfl, rfl⟩
  unfold Machine.setOvr
  extract_lets s₁ cs v s₂ s₃
  have hfault : SameEngine s s₁ := dsFault
  have hcount : SameEngine s₁ s₃ := observed.after ((hcnt _).after putPod)
  exact hfault.trans (ite (refl _) (hcount.trans (ite (halarm _) (refl _))))

end SameEngine

namespace Ended

variable {n : Nat}

theorem andThen (h : Ended n s t) (k : SameEngine t u) : Ended n s u :=
  ⟨by rw [k.ctx n]; exact h.self, fun m hm => (k.ctx m).trans (h.others m hm)⟩

theorem overrunGraph : Ended n s (Machine.overrunGraph n s) := by
  unfold Machine.overrunGraph
  extract_lets c le₀ s₁ s₂ s₃
  have hfreed : Ended n s s₂ := ⟨⟨_, ctx_putCtx_self⟩, fun m hm => ctx_putCtx_other hm⟩
  have hended : Ended n s s₃ := hfreed.andThen SameEngine.deliver
  exact hended.andThen (SameEngine.onlyIf SameEngine.pgMiss)

/-- Graphs that end one after the other: a context that is still in service is none of theirs, and stays. -/
theorem forAll_live {f : Nat → State → State} (h : ∀ n t, Ended n t (f n t)) {xs : List Nat} {m : Nat}
    (hlive : ((forAll xs f s).ctx m).live = true) : m ∉ xs ∧ (forAll xs f s).ctx m = s.ctx m := by
  induction xs generalizing s with
  | nil => exact ⟨List.not_mem_nil, rfl⟩
  | cons x xs ih =>
    obtain ⟨hxs, hctx⟩ := ih (s := f x s) hlive
    have hx : m ≠ x := by
      rintro rfl
      rw [forAll_cons, hctx, (h m s).live] at hlive
      cases hlive
    exact ⟨List.not_mem_cons_of_ne_of_not_mem hx hxs, hctx.trans ((h x s).others m hx)⟩

end Ended

/-! The stages of a deadline. -/

/-- From s to u the graphs of a cycle in pod p end at its deadline. -/
structure CutOff (p cyc : Nat) (s u : State) : Prop where
  work : SameWork p s u
  ctx : ∀ n ∈ podCtxs p, (u.ctx n).live = true → (u.ctx n).cyc ≠ cyc

theorem CutOff.overrunGraphs (hwork : SameWork p s t) (heng : SameEngine s t) : CutOff p cyc s
    (forAll ((podCtxs p).filter fun n => (s.ctx n).live && (s.ctx n).cyc = cyc) overrunGraph t) := by
  refine ⟨hwork.trans (.forAll (fun _ _ => .overrunGraph) _), fun n hn hlive hcyc => ?_⟩
  obtain ⟨hnot, hctx⟩ := Ended.forAll_live (fun _ _ => Ended.overrunGraph) hlive
  rw [hctx, heng.ctx] at hlive hcyc
  exact hnot (List.mem_filter.2 ⟨hn, by rw [hlive, hcyc]; simp⟩)

/-- A pod whose entries and releases of a cycle its deadline has ended. -/
def PodSt.closeOff (cyc : Nat) (v : PodSt) : PodSt :=
  { v with queue := v.queue.filter fun e => e.cyc ≠ cyc,
           closed := cyc :: v.closed.filter (fun c => cyc ≤ c + 4),
           seen := v.seen.filter (fun x => x.2.2 ≠ cyc) }

/-- The signature of a cycle as its deadline latches it (R100). -/
def PodSt.signature (cyc : Nat) (v : PodSt) : Nat := kvGet (fun _ => 0xFFFFFFFF) v.crc cyc ^^^ 0xFFFFFFFF

/-- The signature reference of a cycle. -/
def State.sigRef (s : State) (p cyc : Nat) : Nat := (s.actAt cyc (Reg.DS_SIG_REF p)).toNat

/-- The state with the signature of a cycle latched and its counts shown. -/
def signed (p cyc : Nat) (s : State) : State :=
  let v := s.pod p
  putPod p { v with pgDue := v.pgDue.filter (fun d => d.2 ≠ cyc), waitMax := 0, qMax := v.queue.length,
                    sigLog := (cyc, v.signature cyc) :: v.sigLog.take 7,
                    crc := kvPut (fun _ => 0xFFFFFFFF) v.crc cyc 0xFFFFFFFF }
    (setReg (Reg.DS_STAT p) (BitVec.ofNat 32 (min v.waitMax 32767 * 2 ^ 16 + min v.qMax 64))
      (setReg (Reg.DS_SIG p) (BitVec.ofNat 32 (v.signature cyc)) s))

/-- The last stage: SIGX where the reference differs, and the beginning of idle time. -/
def judged (p cyc : Nat) (was : Bool) (s : State) : State :=
  onlyIf (!was) (noteIdle p)
    (onlyIf (s.sigRef p cyc ≠ 0 && s.sigRef p cyc ≠ (s.pod p).signature cyc) (dsFault p 6 0 0) (signed p cyc s))

theorem deadlineAt_stages : ∃ u v, CutOff p cyc s u ∧ SameWork p (putPod p ((u.pod p).closeOff cyc) u) v ∧ SameEngine u v ∧
    deadlineAt p cyc s = judged p cyc (s.podIdle p) v := by
  unfold deadlineAt
  extract_lets svc hit was who s₁ s₂ v₂ s₃ s₄ due s₅ v₅ sig ref s₆ s₇ s₈
  have hovr : SameWork p s s₁ ∧ SameEngine s s₁ := by
    cases hwho : who with
    | none =>
      have h₁ : s₁ = s := by simp only [s₁, hwho]
      rw [h₁]
      exact ⟨.refl s, .refl s⟩
    | some x =>
      have h₁ : s₁ = setOvr p cyc x.1 x.2 s := by simp only [s₁, hwho]
      rw [h₁]
      exact ⟨.setOvr, .setOvr⟩
  refine ⟨s₂, s₅, .overrunGraphs hovr.1 hovr.2, ?_, ?_, rfl⟩
  · exact (SameWork.forAll (fun _ _ => .pgMiss) _).trans (.forAll (fun _ _ => .pgMiss) _)
  · exact SameEngine.putPod.trans
      ((SameEngine.forAll (fun _ _ => SameEngine.pgMiss) _).trans (.forAll (fun _ _ => SameEngine.pgMiss) _))

/-! What the last stages leave. -/

theorem judged_work {was : Bool} : SameWork p (signed p cyc s) (judged p cyc was s) :=
  (SameWork.onlyIf .dsFault).trans (.onlyIf .noteIdle)

theorem judged_engine {was : Bool} : SameEngine s (judged p cyc was s) := by
  have hsigned : SameEngine s (signed p cyc s) := SameEngine.putPod.after (SameEngine.setReg.after SameEngine.setReg)
  exact hsigned.trans ((SameEngine.onlyIf .dsFault).trans (.onlyIf .noteIdle))

theorem noteIdle_reg {a : Nat} : (noteIdle p s).reg a = s.reg a := by
  unfold noteIdle
  split <;> rfl

theorem onlyIf_reg {c : Bool} {f : State → State} {a : Nat} (h : (f s).reg a = s.reg a) : (onlyIf c f s).reg a = s.reg a := by
  cases c
  · rfl
  · exact h

theorem judged_sig {was : Bool} (hp : p < 4) :
    (judged p cyc was s).reg (Reg.DS_SIG p) = BitVec.ofNat 32 ((s.pod p).signature cyc) := by
  have hinfo : Reg.DS_SIG p ≠ Reg.DS_FLT_INFO p := by unfold Reg.DS_SIG Reg.DS_FLT_INFO; omega
  have herr : Reg.DS_SIG p ≠ Reg.DS_ERR p := by unfold Reg.DS_SIG Reg.DS_ERR; omega
  have hlost : Reg.DS_SIG p ≠ Reg.EVL_LOST := by unfold Reg.DS_SIG Reg.EVL_LOST; omega
  have hstat : Reg.DS_SIG p ≠ Reg.DS_STAT p := by unfold Reg.DS_SIG Reg.DS_STAT; omega
  have hsigned : (signed p cyc s).reg (Reg.DS_SIG p) = BitVec.ofNat 32 ((s.pod p).signature cyc) :=
    (reg_setReg_other hstat).trans reg_setReg_self
  exact (onlyIf_reg noteIdle_reg).trans ((onlyIf_reg (reg_dsFault_other hinfo herr hlost)).trans hsigned)

theorem judged_sigx {was : Bool} (hp : p < 4) (h0 : s.sigRef p cyc ≠ 0) (hdiff : s.sigRef p cyc ≠ (s.pod p).signature cyc) :
    (judged p cyc was s).rb (Reg.DS_ERR p) 6 = true := by
  unfold judged
  rw [rb_of_reg (onlyIf_reg noteIdle_reg), onlyIf_pos (by simp [h0, hdiff]), rb_dsFault hp (by decide)]

/-! The deadline. -/

/-- What a deadline of a cycle leaves, for the reference and the signature that stood before it. -/
structure Closed (p cyc : Nat) (s t : State) : Prop where
  closed : (t.pod p).closed.contains cyc = true
  queue : ∀ e ∈ (t.pod p).queue, e.cyc ≠ cyc
  ctx : ∀ n ∈ podCtxs p, (t.ctx n).live = true → (t.ctx n).cyc ≠ cyc
  sig : t.reg (Reg.DS_SIG p) = BitVec.ofNat 32 ((s.pod p).signature cyc)
  sigx : s.sigRef p cyc ≠ 0 → s.sigRef p cyc ≠ (s.pod p).signature cyc → t.rb (Reg.DS_ERR p) 6 = true

theorem deadlineAt_closed (hp : p < 4) : Closed p cyc s (deadlineAt p cyc s) := by
  obtain ⟨u, v, hcut, hwork, heng, hstages⟩ := deadlineAt_stages (s := s) (p := p) (cyc := cyc)
  have hsig : (v.pod p).signature cyc = (s.pod p).signature cyc := by
    unfold PodSt.signature
    rw [hwork.crc, pod_putPod_self, ← hcut.work.crc]
    rfl
  have hclose : SameCopies u (putPod p ((u.pod p).closeOff cyc) u) := ⟨rfl, rfl, rfl, rfl⟩
  have hcopies : SameCopies s v := hcut.work.copies.trans (hclose.trans hwork.copies)
  have href : v.sigRef p cyc = s.sigRef p cyc := congrArg BitVec.toNat (hcopies.actAt _ _)
  have hsigned : ((signed p cyc v).pod p).closed = (v.pod p).closed ∧ ((signed p cyc v).pod p).queue = (v.pod p).queue := by
    unfold signed
    rw [pod_putPod_self]
    exact ⟨rfl, rfl⟩
  rw [hstages]
  refine ⟨?_, fun e he => ?_, fun n hn => ?_, ?_, fun h0 hdiff => ?_⟩
  · rw [judged_work.closed, hsigned.1, hwork.closed, pod_putPod_self]
    exact List.contains_iff_mem.2 (.head _)
  · rw [judged_work.queue, hsigned.2, hwork.queue, pod_putPod_self] at he
    exact of_decide_eq_true (List.mem_filter.1 he).2
  · rw [judged_engine.ctx, heng.ctx]
    exact hcut.ctx n hn
  · rw [judged_sig hp, hsig]
  · exact judged_sigx hp (href ▸ h0) (by rw [href, hsig]; exact hdiff)

end Sys2Proof.Machine
end


section
/-! Registration: the first release of the stage becomes an entry, or is discarded with its fault (R84 to R88, R95, R101). -/

namespace Sys2Proof.Machine

variable {s t u : State} {p : Nat} {r : RelReq}

/-! Descriptors, as registration reads them (R83, R84). -/

theorem decodeAt_of_mem {a : Nat} (h : t.mem = s.mem) : t.decodeAt a = s.decodeAt a := by
  have hchk : t.chkAt a = s.chkAt a := by unfold State.chkAt; rw [h]
  unfold State.decodeAt
  rw [hchk, rawBytes_of_mem h]

theorem memOf_yWordAddr {w : Nat} (hp : p < 4) : memOf (yWordAddr p w) = some (1 + p) := by
  have hbase : memBase (1 + p) = 0x20000000 + 0xC0000 * p := by interval_cases p <;> rfl
  have hwords : memWords (1 + p) = 98304 := by interval_cases p <;> rfl
  have hin : (decide (memBase (1 + p) ≤ yWordAddr p w) && decide (yWordAddr p w < memBase (1 + p) + 8 * memWords (1 + p))) = true := by
    rw [Bool.and_eq_true, decide_eq_true_eq, decide_eq_true_eq, hwords]
    unfold yWordAddr
    omega
  have hsome : (memOf (yWordAddr p w)).isSome = true := List.find?_isSome.mpr ⟨1 + p, List.mem_range.2 (by omega), hin⟩
  obtain ⟨m, hm⟩ := Option.isSome_iff_exists.mp hsome
  obtain ⟨hlt, hlo, hhi⟩ := memOf_range hm
  unfold yWordAddr at hlo hhi
  rw [hbase] at hlo hhi
  have h : m = 1 + p := by
    interval_cases m <;> simp only [memBase, memWords] at hlo hhi <;> omega
  exact h ▸ hm

/-- The state after the word at a in the memory of pod p has been read by the scheduler. -/
def wordRead (p a : Nat) (s : State) : State := logRead (1 + p) 4 p (a / 8 * 8) (s.decodeAt a) s

theorem readWord_eq_wordRead {a : Nat} (h : memOf a = some (1 + p)) : readWord 4 p a s = (s.decodeAt a, wordRead p a s) := by
  simp only [readWord, h, wordRead]

theorem wordRead_logs {a : Nat} (hp : p < 4) : Logs s (wordRead p a s) := Logs.logRead (by omega)

theorem decodeAt_wordRead {a b : Nat} : (wordRead p b s).decodeAt a = s.decodeAt a := decodeAt_of_mem logRead_mem

theorem readDescWord_eq {base i k : Nat} (hp : p < 4) : readDescWord p base i k s =
    (s.decodeAt (yWordAddr p (base + 4 * i + k)), wordRead p (yWordAddr p (base + 4 * i + k)) s) := by
  rw [readDescWord, readWord_eq_wordRead (memOf_yWordAddr hp)]

/-- The state after descriptor i of a table has been read. -/
def descRead (p base i : Nat) (s : State) : State :=
  wordRead p (yWordAddr p (base + 4 * i + 3)) (wordRead p (yWordAddr p (base + 4 * i + 2))
    (wordRead p (yWordAddr p (base + 4 * i + 1)) (wordRead p (yWordAddr p (base + 4 * i + 0)) s)))

theorem descRead_logs {base i : Nat} (hp : p < 4) : Logs s (descRead p base i s) :=
  ((wordRead_logs hp).trans (wordRead_logs hp)).trans ((wordRead_logs hp).trans (wordRead_logs hp))

/-- The descriptor that a release names reads alike where memory and copies stay. -/
theorem descWord_congr {c i k : Nat} (hmem : t.mem = s.mem) (h : SameCopies s t) : t.descWord c p i k = s.descWord c p i k := by
  unfold State.descWord
  rw [h.graphTable, decodeAt_of_mem hmem]

theorem descOf_congr {c i : Nat} (hmem : t.mem = s.mem) (h : SameCopies s t) : t.descOf c p i = s.descOf c p i := by
  simp only [State.descOf, descWord_congr hmem h]

theorem descGood_congr {c i src : Nat} (hmem : t.mem = s.mem) (h : SameCopies s t) :
    t.descGood c p i src = s.descGood c p i src := by
  simp only [State.descGood, descWord_congr hmem h, descOf_congr hmem h, h.compat, h.graphTable]

/-! What registration does with a release. -/

/-- The state once the descriptor of a release has been read and the release noted (R88). -/
def releaseSeen (p : Nat) (r : RelReq) (s : State) : State :=
  putPod p { s.pod p with seen := (r.idx, r.src, r.cyc) :: (s.pod p).seen } (descRead p (s.graphTable r.cyc p).1 r.idx s)

theorem releaseSeen_copies (hp : p < 4) : SameCopies s (releaseSeen p r s) :=
  (SameCopies.of_offWork (descRead_logs hp).offWork).trans ⟨rfl, rfl, rfl, rfl⟩

/-- A release is registered: its entry joins the queue (R87), and that of a generator has its input record written (R138). -/
def entered (p t : Nat) (r : RelReq) (d : Desc) (s : State) : State :=
  let v := s.pod p
  let q := v.queue ++ [mkEntry (s.compat p) r d t]
  onlyIf r.gen (pgInput d.axis r.cyc d.ib r.ib) (putPod p { v with queue := q, qMax := max v.qMax q.length } s)

section RegisterRel

variable {k : Nat}

/-- The words of a descriptor that is not good: not all of them read well, or what they say is faulty. -/
theorem descGood_eq {c i src : Nat} : s.descGood c p i src =
    (((s.descWord c p i 0).ok && (s.descWord c p i 1).ok && (s.descWord c p i 2).ok && (s.descWord c p i 3).ok) &&
      !(descReserved (s.descWord c p i 0).data (s.descWord c p i 1).data (s.descWord c p i 2).data (s.descWord c p i 3).data ||
        descBad (s.compat p) (s.graphTable c p).2 (s.descOf c p i) || (src = 4 && (s.descOf c p i).src ≠ 4))) := by
  simp only [State.descGood, Bool.not_or, Bool.and_assoc]

/-- Registration as a choice between the outcomes of Table 3-6 (R88, R95, R101), with the words that it reads. -/
theorem registerRel_eq (hp : p < 4) : registerRel p k r s =
    let w := s.descWord r.cyc p r.idx
    let d := s.descOf r.cyc p r.idx
    let x := releaseSeen p r s
    let whole := (w 0).ok && (w 1).ok && (w 2).ok && (w 3).ok
    let axis := if whole then d.axis else r.axis
    let shown := if (w 0).ok then d.axis else 0
    if (s.pod p).closed.contains r.cyc then onlyIf r.gen (pgMiss axis) (setOvr p r.cyc r.idx shown x)
    else if (s.pod p).seen.contains (r.idx, r.src, r.cyc) then genMissed p axis r.cyc r.gen (dsFault p 5 r.idx shown x)
    else if !(s.descGood r.cyc p r.idx r.src) then
      genMissed p axis r.cyc r.gen (dsFault p 4 r.idx (if whole then d.axis else 0) x)
    else if 64 ≤ (s.pod p).queue.length then genMissed p axis r.cyc r.gen (dsFault p 2 r.idx d.axis x)
    else entered p k r d x := by
  have hcompat : (releaseSeen p r s).compat p = s.compat p := (releaseSeen_copies hp).compat
  rcases htable : s.graphTable r.cyc p with ⟨base, count⟩
  have hpod : (descRead p base r.idx s).pod p = s.pod p := pod_congr (descRead_logs hp).pods p
  have hword (i : Nat) : s.descWord r.cyc p r.idx i = s.decodeAt (yWordAddr p (base + 4 * r.idx + i)) := by
    simp only [State.descWord, htable]
  have hseen : releaseSeen p r s =
      putPod p { s.pod p with seen := (r.idx, r.src, r.cyc) :: (s.pod p).seen } (descRead p base r.idx s) := by
    simp only [releaseSeen, htable]
  -- The reads are named apart before registration is unfolded, so that the kernel need not compute their addresses.
  obtain ⟨read, hread⟩ : ∃ read, readDescWord = read := ⟨_, rfl⟩
  obtain ⟨reg, hreg⟩ : ∃ reg, reg = registerRel := ⟨_, rfl⟩
  have hreads (i : Nat) (u : State) := hread ▸ readDescWord_eq (s := u) (base := base) (i := r.idx) (k := i) hp
  rw [← hreg]
  delta registerRel at hreg
  rw [hread] at hreg
  rw [hreg]
  simp only [htable, hreads, decodeAt_wordRead, ← hword]
  simp only [← descRead.eq_1, hpod, ← hseen, ← State.descOf.eq_1, descGood_eq, htable, entered, hcompat, onlyIf]
  generalize ((s.descWord r.cyc p r.idx 0).ok && _ && _ && _) = whole
  generalize (descReserved _ _ _ _ || _ || _) = faulty
  cases whole <;> cases faulty <;>
    simp only [Bool.not_true, Bool.not_false, Bool.and_true, Bool.and_false, Bool.false_eq_true, if_true, if_false]

/-! The outcomes. -/

/-- From s to t a release is discarded with fault b: the queue stays, and the fault shows (R101). -/
abbrev Discarded (p b : Nat) (s t : State) : Prop := (t.pod p).queue = (s.pod p).queue ∧ t.rb (Reg.DS_ERR p) b = true

theorem releaseSeen_pod : (releaseSeen p r s).pod p = { s.pod p with seen := (r.idx, r.src, r.cyc) :: (s.pod p).seen } :=
  pod_putPod_self

theorem SameWork.discarded {b : Nat} (h : SameWork p (releaseSeen p r s) t) (hb : t.rb (Reg.DS_ERR p) b = true) :
    Discarded p b s t := ⟨by rw [h.queue, releaseSeen_pod], hb⟩

/-- A fault of a release that may have been a generator's. -/
theorem genMissed_discarded {b axis idx ax : Nat} (hp : p < 4) (hb : b < 32) :
    Discarded p b s (genMissed p axis r.cyc r.gen (dsFault p b idx ax (releaseSeen p r s))) := by
  have hreg (u : State) : (genMissed p axis r.cyc r.gen u).rb (Reg.DS_ERR p) b = u.rb (Reg.DS_ERR p) b := by
    unfold genMissed
    split <;> rfl
  exact (SameWork.dsFault.trans .genMissed).discarded ((hreg _).trans (rb_dsFault hp hb))

/-- The entry joins the queue, and the releases that wait stay. -/
theorem entered_pod {d : Desc} : ((entered p k r d s).pod p).queue = (s.pod p).queue ++ [mkEntry (s.compat p) r d k] ∧
    ((entered p k r d s).pod p).carry = (s.pod p).carry := by
  have hinput (u : State) : SameWork p u (onlyIf r.gen (pgInput d.axis r.cyc d.ib r.ib) u) := .onlyIf .pgInput
  unfold entered
  extract_lets v q
  rw [(hinput _).queue, (hinput _).carry, pod_putPod_self]
  exact ⟨rfl, rfl⟩

/-- What the registration of release r in tick k does from s to t, where the releases rs go on waiting (R84 to R88). -/
structure Registers (p k : Nat) (r : RelReq) (rs : List RelReq) (s t : State) : Prop where
  carry : (t.pod p).carry = rs
  late : (s.pod p).closed.contains r.cyc = true → Discarded p 1 s t
  dup : (s.pod p).closed.contains r.cyc = false → (s.pod p).seen.contains (r.idx, r.src, r.cyc) = true → Discarded p 5 s t
  bad : (s.pod p).seen.contains (r.idx, r.src, r.cyc) = false → (s.pod p).closed.contains r.cyc = false →
    s.descGood r.cyc p r.idx r.src = false → Discarded p 4 s t
  full : (s.pod p).seen.contains (r.idx, r.src, r.cyc) = false → (s.pod p).closed.contains r.cyc = false →
    s.descGood r.cyc p r.idx r.src = true → 64 ≤ (s.pod p).queue.length → Discarded p 2 s t
  enters : (s.pod p).seen.contains (r.idx, r.src, r.cyc) = false → (s.pod p).closed.contains r.cyc = false →
    s.descGood r.cyc p r.idx r.src = true → (s.pod p).queue.length < 64 →
    (t.pod p).queue = (s.pod p).queue ++ [mkEntry (s.compat p) r (s.descOf r.cyc p r.idx) k]

/-- Whatever the outcome, the other releases go on waiting. -/
theorem registerRel_carry (hp : p < 4) : ((registerRel p k r s).pod p).carry = (s.pod p).carry := by
  have hseen : ((releaseSeen p r s).pod p).carry = (s.pod p).carry := by rw [releaseSeen_pod]
  have hfault (b ax axis : Nat) :
      ((genMissed p axis r.cyc r.gen (dsFault p b r.idx ax (releaseSeen p r s))).pod p).carry = (s.pod p).carry :=
    (SameWork.dsFault.trans .genMissed).carry.trans hseen
  rw [registerRel_eq hp]
  dsimp only
  split
  · exact (SameWork.setOvr.trans (.onlyIf .pgMiss)).carry.trans hseen
  · split
    · exact hfault _ _ _
    · split
      · exact hfault _ _ _
      · split
        · exact hfault _ _ _
        · exact entered_pod.2.trans hseen

theorem registerRel_registers (hp : p < 4) : Registers p k r (s.pod p).carry s (registerRel p k r s) := by
  refine ⟨registerRel_carry hp, fun hlate => ?_, fun hlate hdup => ?_, fun hdup hlate hgood => ?_,
    fun hdup hlate hgood hfull => ?_, fun hdup hlate hgood hroom => ?_⟩ <;> rw [registerRel_eq hp]
  · simp only [hlate, if_true]
    refine (SameWork.setOvr.trans (.onlyIf .pgMiss)).discarded ?_
    cases r.gen
    · exact rb_setOvr hp
    · exact rb_flagEvent_of (DS_ERR_ne_EVL_LOST hp) (rb_setOvr hp)
  · simp only [hlate, hdup, Bool.false_eq_true, if_true, if_false]
    exact genMissed_discarded hp (by decide)
  · simp only [hlate, hdup, hgood, Bool.not_false, Bool.false_eq_true, if_true, if_false]
    exact genMissed_discarded hp (by decide)
  · simp only [hlate, hdup, hgood, hfull, Bool.not_true, Bool.false_eq_true, if_true, if_false]
    exact genMissed_discarded hp (by decide)
  · simp only [hlate, hdup, hgood, Nat.not_le.2 hroom, Bool.not_true, Bool.false_eq_true, if_false]
    rw [entered_pod.1, releaseSeen_pod, (releaseSeen_copies hp).compat]

end RegisterRel

/-! The release stage (R86). -/

theorem podWake_pod : ∃ w, (podWake p s).pod p = { s.pod p with waking := w } := by
  unfold podWake
  dsimp only
  split
  · exact ⟨_, pod_putPod_self⟩
  · exact ⟨_, rfl⟩

theorem podWake_copies {q : Nat} : SameCopies s (podWake q s) ∧ (podWake q s).mem = s.mem := by
  unfold podWake
  dsimp only
  split <;> exact ⟨⟨rfl, rfl, rfl, rfl⟩, rfl⟩

/-- The state once the stage of pod p has taken its first release in tick k, and rs still wait. -/
def stageTaken (p k : Nat) (rs : List RelReq) (s : State) : State :=
  let v := s.pod p
  podWake p (putPod p { v with carry := rs, stageTick := k, stageCnt := if k = v.stageTick then v.stageCnt + 1 else 1 } s)

section StageTaken

variable {k : Nat} {rs : List RelReq}

theorem stageTaken_pod : ((stageTaken p k rs s).pod p).carry = rs ∧
    ((stageTaken p k rs s).pod p).queue = (s.pod p).queue ∧ ((stageTaken p k rs s).pod p).closed = (s.pod p).closed ∧
    ((stageTaken p k rs s).pod p).seen = (s.pod p).seen := by
  unfold stageTaken
  extract_lets v
  obtain ⟨w, hw⟩ := podWake_pod (p := p)
    (s := putPod p { v with carry := rs, stageTick := k, stageCnt := if k = v.stageTick then v.stageCnt + 1 else 1 } s)
  rw [hw, pod_putPod_self]
  exact ⟨rfl, rfl, rfl, rfl⟩

theorem stageTaken_copies : SameCopies s (stageTaken p k rs s) := by
  have hput (v : PodSt) : SameCopies s (putPod p v s) := ⟨rfl, rfl, rfl, rfl⟩
  exact (hput _).trans podWake_copies.1

theorem stageTaken_mem : (stageTaken p k rs s).mem = s.mem := podWake_copies.2

theorem registerNext_cons (h : (s.pod p).carry = r :: rs) : registerNext p s =
    registerRel p (stageTick (s.pod p) r.at_)
      { r with cyc := if r.src = 4 then r.cyc else (advanceTo (stageTick (s.pod p) r.at_) s).cyc }
      (stageTaken p (stageTick (s.pod p) r.at_) rs (advanceTo (stageTick (s.pod p) r.at_) s)) := by
  unfold registerNext
  rw [h]
  dsimp only
  rw [← stageTaken.eq_1, stageTaken_copies.cyc]

/-- The registration of the first release of the stage, as the pod stood before the stage took it. -/
theorem stageTaken_registers (hp : p < 4) : Registers p k r rs s (registerRel p k r (stageTaken p k rs s)) := by
  obtain ⟨hrs, hqueue, hclosed, hseen⟩ := stageTaken_pod (p := p) (k := k) (rs := rs) (s := s)
  have hcopies : SameCopies s (stageTaken p k rs s) := stageTaken_copies
  have hgood (c i src : Nat) : (stageTaken p k rs s).descGood c p i src = s.descGood c p i src :=
    descGood_congr stageTaken_mem hcopies
  have hdesc (c i : Nat) : (stageTaken p k rs s).descOf c p i = s.descOf c p i := descOf_congr stageTaken_mem hcopies
  obtain ⟨hcarry, hlate, hdup, hbad, hfull, henters⟩ := registerRel_registers (s := stageTaken p k rs s) (k := k) (r := r) hp
  simp only [Discarded, hqueue, hclosed, hseen, hgood, hdesc, hcopies.compat] at hlate hdup hbad hfull henters
  exact ⟨hcarry.trans hrs, hlate, hdup, hbad, hfull, henters⟩

end StageTaken

end Sys2Proof.Machine
end

section
/-! The commands of the dataflow scheduler: registration, CYCLE releases, dispatch, the deadline, sleep and wake (R84 to R92, R100
to R102, R451). -/

namespace Sys2Proof.Machine

variable {s t u : State} (p : Fin 4)

/-! Registers that a command leaves to the pod. -/

theorem reg_settle_pod {a : Nat} (h : a < 0x400A0000) : (settle s).reg a = s.reg a :=
  settle_reg (by unfold marrowReg; simp [Nat.not_le.2 h])

theorem rb_settle_DS_ERR {b : Nat} : (settle s).rb (Reg.DS_ERR p) b = s.rb (Reg.DS_ERR p) b :=
  rb_of_reg (reg_settle_pod (by unfold Reg.DS_ERR; omega))

theorem rb_settle_LE_POD_STAT {b : Nat} : (settle s).rb (Reg.LE_POD_STAT p) b = s.rb (Reg.LE_POD_STAT p) b :=
  rb_of_reg (reg_settle_pod (by unfold Reg.LE_POD_STAT; omega))

/-- The bit written. -/
theorem rb_setRb_self {a b : Nat} {v : Bool} (hb : b < 32) : (setRb a b v s).rb a b = v := by
  unfold State.rb
  rw [reg_setRb_self, bit_setFld_bit _ _ _ _ hb, if_pos rfl]

/-! The commands while the scheduler of the pod runs. -/

section Exec

variable (hon : s.schedOn p = true)

include hon

theorem exec_releaseRegistration : exec (.releaseRegistration p) s = done (registerNext p s) := congrArg done (onlyIf_pos hon)

theorem exec_cycleRelease {x : Fin 256} (hrun : s.running = true) : exec (.cycleRelease p x) s = done (cycleRelease p x s) :=
  congrArg done (onlyIf_pos (by rw [hon, hrun]; rfl))

theorem exec_dispatch (hawake : (s.pod p).asleep = false) : exec (.dispatch p) s = done (dispatchNext p s) :=
  congrArg done (onlyIf_pos (by rw [hon, hawake]; rfl))

theorem exec_deadline {back : Fin 3} : exec (.deadline p back) s = done (deadlineCmd p back s) := congrArg done (onlyIf_pos hon)

theorem exec_podSleep : exec (.podSleep p) s = done (podSleep p s) := congrArg done (onlyIf_pos hon)

theorem exec_podWake (hasleep : (s.pod p).asleep = true) : exec (.podWake p) s = done (podTrigger p s) :=
  congrArg done (onlyIf_pos (by rw [hon, hasleep]; rfl))

theorem exec_podWakeComplete : exec (.podWakeComplete p) s = done (podAwake p s) := congrArg done (onlyIf_pos hon)

end Exec

/-! Releases (R84 to R88). -/

theorem mem_insertRel {r x : RelReq} {xs : List RelReq} : x ∈ insertRel r xs ↔ x = r ∨ x ∈ xs := by
  induction xs with
  | nil => simp [insertRel]
  | cons y ys ih =>
    unfold insertRel
    split
    · simp
    · simp only [List.mem_cons, ih]
      tauto

/-- A release that arrives at an open pod waits for its stage. -/
theorem arrive_waits {q : Nat} {r : RelReq} (hopen : s.podOpen r.cyc q = true) : r ∈ ((arrive q r s).pod q).carry := by
  rw [arrive, if_pos hopen, pod_putPod_self]
  exact mem_insertRel.2 (.inl rfl)

theorem cycleRelease_arrives {x : Fin 256} {off k : Nat} (hon : s.schedOn p = true) (hrun : s.running = true)
    (hmtch : (s.pod p).mtch.find? (fun m => m.1 = x.val && m.2.1 = 5) = some (x.val, 5, off)) (hoff : s.offsetTick off = some k)
    (hopen : (advanceTo k s).podOpen (advanceTo k s).cyc p = true) :
    Answers (exec (.cycleRelease p x) s) fun t => ∃ r ∈ (t.pod p).carry, r.idx = x.val ∧ r.src = 5 ∧
      r.cyc = (advanceTo k s).cyc ∧ r.at_ = max s.time.tick k := by
  have hrel : cycleRelease p x s =
      arrive p ⟨x, 5, 2000, (advanceTo k s).cyc, (advanceTo k s).time.tick, false, 0, 0⟩ (advanceTo k s) := by
    simp only [cycleRelease, hmtch, hoff]
  rw [exec_cycleRelease p hon hrun, hrel]
  refine answers_done ?_
  rw [pod_settle]
  exact ⟨_, arrive_waits hopen, rfl, rfl, rfl, tick_advanceTo⟩

theorem releaseRegistration_registers {r : RelReq} {rs : List RelReq} {cyc : Nat} (hon : s.schedOn p = true)
    (hcarry : (s.pod p).carry = r :: rs) (hu : u = advanceTo (stageTick (s.pod p) r.at_) s)
    (hcyc : cyc = if r.src = 4 then r.cyc else u.cyc) : Answers (exec (.releaseRegistration p) s)
      (Registers p (stageTick (s.pod p) r.at_) { r with cyc := cyc } rs u) := by
  subst hcyc hu
  rw [exec_releaseRegistration p hon, registerNext_cons hcarry]
  obtain ⟨hrs, hlate, hdup, hbad, hfull, henters⟩ := stageTaken_registers (k := stageTick (s.pod p) r.at_) (rs := rs)
    (r := { r with cyc := if r.src = 4 then r.cyc else (advanceTo (stageTick (s.pod p) r.at_) s).cyc })
    (s := advanceTo (stageTick (s.pod p) r.at_) s) p.isLt
  refine answers_done ⟨?_, ?_, ?_, ?_, ?_, ?_⟩ <;> simp only [Discarded, pod_settle, rb_settle_DS_ERR]
  · exact hrs
  · exact hlate
  · exact hdup
  · exact hbad
  · exact hfull
  · exact henters

/-! Dispatch (R89 to R91). -/

/-- The first tick in which pod q may dispatch, an entry being eligible from tick f on. -/
def State.dispatchFrom (s : State) (q f : Nat) : Nat :=
  match (s.pod q).lastDisp with
  | some l => max (max f s.time.tick) (l + 1)
  | none => max f s.time.tick

theorem dispatchNext_eq {q f k : Nat} (hfirst : firstElig (s.pod q).queue = some f)
    (htick : s.dispatchTick q (s.dispatchFrom q f) 16 = some k) : dispatchNext q s = dispatchAt q k (advanceTo k s) := by
  unfold dispatchNext
  cases hlast : (s.pod q).lastDisp with
  | none =>
    simp only [State.dispatchFrom, hlast] at htick
    simp only [hfirst, htick]
  | some l =>
    simp only [State.dispatchFrom, hlast] at htick
    simp only [hfirst, htick]

/-- From s to t pod q dispatches entry e into context n in tick k, with its first issue slot. -/
structure Dispatched (q k first n : Nat) (e : QEnt) (s t : State) : Prop where
  queue : (t.pod q).queue = (s.pod q).queue.erase e
  live : (t.ctx n).live = true
  idx : (t.ctx n).idx = e.idx
  next : (t.ctx n).next = first
  cyc : (t.ctx n).cyc = e.cyc
  lastDisp : (t.pod q).lastDisp = some k

theorem signDispatch_pod {q cyc idx : Nat} : ((signDispatch q cyc idx s).pod q).queue = (s.pod q).queue ∧
    ((signDispatch q cyc idx s).pod q).lastDisp = (s.pod q).lastDisp := by
  unfold signDispatch
  rw [pod_putPod_self]
  exact ⟨rfl, rfl⟩

theorem dispatchAt_dispatches {q k first n : Nat} {e : QEnt}
    (hbest : bestEntry (s.admissible q k [] (s.pod q).queue) = some e) (hctx : bestCtx (s.suitable q e k) = some (first, n)) :
    Dispatched q k first n e s (dispatchAt q k s) := by
  unfold dispatchAt
  split
  · rename_i hnone
    cases hbest.symm.trans hnone
  · rename_i e' hsome
    cases hbest.symm.trans hsome
    split
    · rename_i hnone
      cases hctx.symm.trans hnone
    · rename_i first' n' hsome
      cases hctx.symm.trans hsome
      extract_lets v s₁ s₂ a s₃ c
      have hqueue : (s₁.pod q).queue = v.queue.erase e := congrArg PodSt.queue pod_putPod_self
      have hlast : (s₁.pod q).lastDisp = some k := congrArg PodSt.lastDisp pod_putPod_self
      obtain ⟨hsignedQueue, hsignedLast⟩ := signDispatch_pod (s := s₁) (q := q) (cyc := e.cyc) (idx := e.idx)
      have hlaw : s₃.pod q = s₂.pod q := by
        simp only [s₃]
        split <;> rfl
      have hctxs := ctx_putCtx_self (s := s₃) (n := n) (c := { c with loop := {}, fin := false, gen := e.gen })
      exact ⟨by rw [pod_putCtx, hlaw, hsignedQueue, hqueue], by rw [hctxs]; rfl, by rw [hctxs]; rfl, by rw [hctxs]; rfl,
        by rw [hctxs]; rfl, by rw [pod_putCtx, hlaw, hsignedLast, hlast]⟩

theorem dispatch_dispatches {f k first n : Nat} {e : QEnt} (hon : s.schedOn p = true) (hawake : (s.pod p).asleep = false)
    (hfirst : firstElig (s.pod p).queue = some f) (htick : s.dispatchTick p (s.dispatchFrom p f) 16 = some k)
    (hu : u = advanceTo k s) (hbest : bestEntry (u.admissible p k [] (u.pod p).queue) = some e)
    (hctx : bestCtx (u.suitable p e k) = some (first, n)) :
    Answers (exec (.dispatch p) s) (Dispatched p k first n e u) := by
  subst hu
  rw [exec_dispatch p hon hawake, dispatchNext_eq hfirst htick]
  obtain ⟨hqueue, hlive, hidx, hnext, hcyc, hlast⟩ := dispatchAt_dispatches hbest hctx
  refine answers_done ⟨?_, ?_, ?_, ?_, ?_, ?_⟩ <;> simp only [pod_settle, ctx_settle]
  · exact hqueue
  · exact hlive
  · exact hidx
  · exact hnext
  · exact hcyc
  · exact hlast

/-! The deadline (R100 to R102). -/

theorem deadline_closes (back : Fin 3) {u : State} (hon : s.schedOn p = true) (hnear : s.deadlineNear p back = true)
    (hopen : (s.pod p).closed.contains (s.cyc - back) = false)
    (hu : u = advanceNs (if s.running then min (s.deadlineNsAt p back) (s.time.nextNs - 1) else s.deadlineNsAt p back) s) :
    Answers (exec (.deadline p back) s) (Closed p (s.cyc - back) u) := by
  have hp : p.val < 4 := p.isLt
  have hcmd : deadlineCmd p back s = deadlineAt p (s.cyc - back) u := by
    rw [deadlineCmd, hnear, hopen, hu]
    rfl
  obtain ⟨hclosed, hqueue, hctx, hsig, hsigx⟩ := deadlineAt_closed (p := p) (cyc := s.cyc - back) (s := u) hp
  rw [exec_deadline p hon, hcmd]
  refine answers_done ⟨?_, ?_, ?_, ?_, fun h0 hdiff => ?_⟩
  · rw [pod_settle, hclosed]
  · rw [pod_settle]
    exact hqueue
  · simp only [ctx_settle]
    exact hctx
  · rw [reg_settle_pod (by unfold Reg.DS_SIG; omega), hsig]
  · rw [rb_settle_DS_ERR, hsigx h0 hdiff]

/-! Sleep and wake (R451). -/

theorem podSleep_sleeps (hon : s.schedOn p = true) (hen : s.ab (Reg.PCR_PODSLP p) 31 = true) (hawake : (s.pod p).asleep = false)
    (hqueue : (s.pod p).queue = []) (hctx : ∀ n ∈ podCtxs p, (s.ctx n).live = false) :
    Answers (exec (.podSleep p) s) fun t =>
      (t.pod p).asleep = true ∧ (t.pod p).waking = none ∧ t.rb (Reg.LE_POD_STAT p) 9 = true := by
  have hidle : (s.ab (Reg.PCR_PODSLP p) 31 && !(s.pod p).asleep && (s.pod p).queue.isEmpty &&
      (podCtxs p).all fun n => !(s.ctx n).live) = true := by
    rw [hen, hawake, hqueue]
    simpa using hctx
  rw [exec_podSleep p hon]
  refine answers_done ?_
  rw [pod_settle, rb_settle_LE_POD_STAT, podSleep, if_pos hidle, pod_setRb, pod_putPod_self]
  exact ⟨rfl, rfl, rb_setRb_self (by decide)⟩

theorem podWake_begins {k : Nat} (hon : s.schedOn p = true) (hasleep : (s.pod p).asleep = true) (hwaking : (s.pod p).waking = none)
    (htick : s.wakeTick p = some k) : Answers (exec (.podWake p) s) fun t => ∀ u, u = advanceTo k s →
      t.pod p = { u.pod p with waking := some (max s.time.tick k + 64) } := by
  have htrigger : podTrigger p s = podWake p (advanceTo k s) := by simp only [podTrigger, htick]
  have hwaits : Waits p (max s.time.tick k) s (advanceTo k s) := .advanceTo
  rw [exec_podWake p hon hasleep, htrigger]
  refine answers_done fun u hu => ?_
  subst hu
  rw [pod_settle, podWake, if_pos (by rw [hwaits.asleep, hwaits.waking, hasleep, hwaking]; rfl), pod_putPod_self, tick_advanceTo]

theorem podWakeComplete_wakes (hon : s.schedOn p = true) (hasleep : (s.pod p).asleep = true) (hwaking : (s.pod p).waking.isSome = true) :
    Answers (exec (.podWakeComplete p) s) fun t =>
      (t.pod p).asleep = false ∧ (t.pod p).waking = none ∧ t.rb (Reg.LE_POD_STAT p) 9 = false := by
  have herr : Reg.LE_POD_STAT p ≠ Reg.PCR_PODERR := by unfold Reg.LE_POD_STAT Reg.PCR_PODERR; omega
  have hlate (c : Bool) (v : State) : (onlyIf c (orReg Reg.PCR_PODERR (2 ^ p.val)) v).pod p = v.pod p ∧
      (onlyIf c (orReg Reg.PCR_PODERR (2 ^ p.val)) v).rb (Reg.LE_POD_STAT p) 9 = v.rb (Reg.LE_POD_STAT p) 9 := by
    cases c
    · exact ⟨rfl, rfl⟩
    · exact ⟨rfl, rb_of_reg (reg_orReg_other herr)⟩
  rw [exec_podWakeComplete p hon]
  refine answers_done ?_
  rw [pod_settle, rb_settle_LE_POD_STAT, podAwake, if_pos (by rw [hasleep, hwaking]; rfl), (hlate _ _).1, (hlate _ _).2,
    pod_setRb, pod_putPod_self]
  exact ⟨rfl, rfl, rb_setRb_self (by decide)⟩

/-- Settles O16: each command by the rule of its operation; time that passes, reports and ends of graphs leave the pod's
work. -/
theorem schedulerCommands : Obligations.SchedulerCommands := by
  unfold Obligations.SchedulerCommands
  intro p s hon
  refine ⟨fun r rs u cyc hcarry hu hcyc => ?_, fun x off k => cycleRelease_arrives p hon,
    fun f k u e first n hawake hfirst htick hu hbest hctx => ?_, fun back u hnear hopen hu => ?_, podSleep_sleeps p hon,
    fun k => podWake_begins p hon, podWakeComplete_wakes p hon⟩
  · obtain ⟨t, ht, hrs, hlate, hdup, hbad, hfull, henters⟩ := releaseRegistration_registers p hon hcarry hu hcyc
    exact ⟨t, ht, hrs, hlate, hdup, hbad, hfull, henters⟩
  · obtain ⟨t, ht, hqueue, hlive, hidx, hnext, hcyc, hlast⟩ := dispatch_dispatches p hon hawake hfirst htick hu hbest hctx
    exact ⟨t, ht, hqueue, hlive, hidx, hnext, hcyc, hlast⟩
  · obtain ⟨t, ht, hclosed, hqueue, hctx, hsig, hsigx⟩ := deadline_closes p back hon hnear hopen hu
    exact ⟨t, ht, hclosed, hqueue, hctx, hsig, hsigx⟩

end Sys2Proof.Machine
end

section
/-! Time that passes by itself: of the rings it takes expected echoes alone (R53, R96, R211). -/

namespace Sys2Proof.Machine

variable {s t : State}

/-- The rings without the echoes expected. -/
def State.offEchoes (s : State) : NetSt := { s.net with echoes := [] }

theorem offEchoes_of_net (h : t.net = s.net) : t.offEchoes = s.offEchoes := by
  unfold State.offEchoes
  rw [h]

theorem Logs.offEchoes (h : Logs s t) : t.offEchoes = s.offEchoes := offEchoes_of_net (congrArg State.net h.rest :)

theorem offEchoes_onlyIf {c : Bool} {f : State → State} (h : (f s).offEchoes = s.offEchoes) :
    (onlyIf c f s).offEchoes = s.offEchoes := by
  cases c
  · rfl
  · exact h

theorem offEchoes_ite {c : Prop} [Decidable c] {u : State} (h : t.offEchoes = s.offEchoes) (k : u.offEchoes = s.offEchoes) :
    (if c then t else u).offEchoes = s.offEchoes := by
  split
  · exact h
  · exact k

theorem commandReady_offEchoes {n ob cyc tick : Nat} : (commandReady n ob cyc tick s).offEchoes = s.offEchoes := by
  have hput (t : State) (v : AxSt) : (putAx n v t).offEchoes = t.offEchoes := offEchoes_of_net rfl
  unfold commandReady
  exact (hput _ _).trans (Logs.offEchoes (.ite (Logs.put32.trans (Logs.writeNet _ _ _)) Logs.put32))

theorem landAt_offEchoes {w : PendWr} {a : Nat} {k : Bool} : (landAt w a k s).offEchoes = s.offEchoes := by
  have hnote : (noteWord w.due a (noteHit w.due a s)).offEchoes = s.offEchoes := offEchoes_of_net rfl
  unfold landAt
  exact offEchoes_ite ((Logs.offEchoes Logs.mergeSecond).trans hnote) ((Logs.offEchoes Logs.write32).trans hnote)

theorem podFlags_offEchoes {p f : Nat} : (podFlags p f s).offEchoes = s.offEchoes :=
  forAll_keeps (P := fun t => t.offEchoes = s.offEchoes)
    (fun _ _ ht => (offEchoes_onlyIf (Logs.offEchoes (Logs.event.trans Logs.irq))).trans ht) _ (offEchoes_of_net rfl)

theorem ctxFlags_offEchoes {n p f : Nat} : (ctxFlags n p f s).offEchoes = s.offEchoes := by
  have hput (c : Ctx) : (putCtx n c s).offEchoes = s.offEchoes := offEchoes_of_net (by
    unfold putCtx showCtx
    rw [setRf_net, setReg_net])
  exact podFlags_offEchoes.trans (offEchoes_onlyIf (hput _))

theorem landWrite_offEchoes {w : PendWr} : (landWrite w s).offEchoes = s.offEchoes := by
  unfold landWrite
  split
  · exact landAt_offEchoes
  · exact (offEchoes_onlyIf (offEchoes_of_net rfl)).trans landAt_offEchoes
  · exact ctxFlags_offEchoes
  · exact commandReady_offEchoes

theorem landFirst_offEchoes (m n : Nat) (s : State) : (landFirst m n s).offEchoes = s.offEchoes := by
  induction n generalizing s with
  | zero => rfl
  | succ n ih =>
    unfold landFirst
    split
    · rfl
    · rename_i w ws _
      have htaken : (toTick w.due { s with le := { s.le with writes := ws } }).offEchoes = s.offEchoes := offEchoes_of_net rfl
      split
      · refine (ih _).trans ?_
        split
        · exact podFlags_offEchoes.trans htaken
        · exact landWrite_offEchoes.trans htaken
      · rfl

theorem lateEntry_offEchoes {p : Nat} {e : QEnt} : (lateEntry p e s).offEchoes = s.offEchoes := by
  have hmark (t : State) : (dsMark p 0 e.idx e.desc.axis t).offEchoes = t.offEchoes := offEchoes_onlyIf (offEchoes_of_net rfl)
  unfold lateEntry
  exact (offEchoes_of_net rfl).trans ((Logs.offEchoes Logs.event).trans ((hmark _).trans (offEchoes_of_net rfl)))

theorem latesUpTo_offEchoes (m n : Nat) (s : State) : (latesUpTo m n s).offEchoes = s.offEchoes := by
  induction n generalizing s with
  | zero => rfl
  | succ n ih =>
    unfold latesUpTo
    split
    · split
      · exact (ih _).trans (lateEntry_offEchoes.trans ((offEchoes_of_net rfl).trans (landFirst_offEchoes _ _ s)))
      · rfl
    · rfl

theorem runTo_offEchoes {m : Nat} : (runTo m s).offEchoes = s.offEchoes :=
  (offEchoes_of_net rfl).trans ((landFirst_offEchoes _ _ _).trans (latesUpTo_offEchoes _ _ s))

theorem missedEcho_offEchoes {r : Nat} : (netErr r 5 s).offEchoes = s.offEchoes :=
  (offEchoes_of_net rfl).trans ((Logs.offEchoes Logs.event).trans (offEchoes_of_net rfl))

theorem echoesUpTo_offEchoes (m n : Nat) (s : State) : (echoesUpTo m n s).offEchoes = s.offEchoes := by
  have htake (t : State) (es : List EchoPend) :
      ({ t with net := { t.net with echoes := es } } : State).offEchoes = t.offEchoes := rfl
  induction n generalizing s with
  | zero => rfl
  | succ n ih =>
    unfold echoesUpTo
    split
    · split
      · exact (ih _).trans (missedEcho_offEchoes.trans ((htake _ _).trans runTo_offEchoes))
      · rfl
    · rfl

theorem advanceTo_offEchoes {m : Nat} : (advanceTo m s).offEchoes = s.offEchoes := by
  unfold advanceTo
  split
  · rfl
  · exact runTo_offEchoes.trans (echoesUpTo_offEchoes _ _ s)

theorem advanceNs_offEchoes {n : Nat} : (advanceNs n s).offEchoes = s.offEchoes := by
  unfold advanceNs
  split
  · rfl
  · exact (offEchoes_of_net rfl).trans advanceTo_offEchoes

end Sys2Proof.Machine
end

section
/-! Downlinks that leave and echoes that return (R110, R206, R211, R247, R298). -/

namespace Sys2Proof.Machine

variable {s t u : State} {n p d age : Nat} {ws : List Nat} {axis : Option Nat}

/-! What forming and sending a downlink leaves. -/

/-- The state without what forming a payload, sending its frame and expecting its echo may change besides what leaves the
device. -/
def State.offDown (s : State) : State := { s.calm with axes := [], free := 0, net := { s.net with lastSent := [], echoes := [] } }

theorem Logs.offDown (h : Logs s t) : t.offDown = s.offDown :=
  (congrArg (fun x : State => ({ x with axes := [], free := 0, net := { x.net with lastSent := [], echoes := [] } } : State)) h.rest :)

section Down

variable (h : t.offDown = s.offDown)

include h

theorem offDown_outs : t.outs = s.outs := (congrArg State.outs h :)

theorem offDown_departed : t.net.departed = s.net.departed := (congrArg (fun x : State => x.net.departed) h :)

theorem offDown_cyc : t.cyc = s.cyc := cyc_congr (congrArg State.time h :) (congrArg State.actv h :)

theorem offDown_owner (r : Nat) : t.owner r = s.owner r := by
  have hact (a hi lo : Nat) : t.af a hi lo = s.af a hi lo := congrArg (fld · hi lo) (act_congr (congrArg State.actv h :) a)
  have hpcr : t.pcr = s.pcr := (congrArg State.pcr h :)
  unfold State.owner State.role State.ownId
  rw [hact, hact, hact, hpcr]

theorem offDown_leadSent (p : Nat) : t.leadSent p = s.leadSent p := by
  have hrings : t.net.rings = s.net.rings := (congrArg (fun x : State => x.net.rings) h :)
  unfold State.leadSent State.ring
  rw [hrings, offDown_cyc h]

end Down

theorem readCommand_offDown {w : Nat} : (readCommand w s).2.offDown = s.offDown := by
  refine Logs.offDown (Logs.foldl (fun acc i => ?_) (List.range 5) (([], true), s))
  exact Logs.read32 (agent := 5) (chan := 0) (a := netAddr (w + i))

theorem axTrip_offDown {b : Nat} : (axTrip n b s).offDown = s.offDown := by
  have hset (a m : Nat) (t : State) : (orReg a m t).offDown = t.offDown := rfl
  have hput (v : AxSt) (t : State) : (putAx n v t).offDown = t.offDown := rfl
  unfold axTrip
  exact (hput _ _).trans ((Logs.offDown Logs.event).trans ((hset _ _ _).trans (hset _ _ _)))

theorem offDown_ite {α : Type} {c : Prop} [Decidable c] {x y : α × State} (hx : x.2.offDown = s.offDown)
    (hy : y.2.offDown = s.offDown) : (if c then x else y).2.offDown = s.offDown := by
  split
  · exact hx
  · exact hy

theorem downPayload_offDown : (downPayload n axis s).2.offDown = s.offDown := by
  have hread : (readCommand (0x1400 + 8 * n) s).2.offDown = s.offDown := readCommand_offDown
  have hinc (t : State) : (incRf (Reg.SLT_MCNT n) 31 16 t).offDown = t.offDown := rfl
  unfold downPayload
  dsimp only
  refine offDown_ite hread (offDown_ite hread ?_)
  cases axis with
  | none =>
    dsimp only
    split
    · exact offDown_ite ((hinc _).trans hread) ((hinc _).trans hread)
    · exact (hinc _).trans hread
  | some a =>
    have htrip := (axTrip_offDown (n := a) (b := 6)).trans ((hinc _).trans hread)
    dsimp only
    split
    · exact offDown_ite htrip htrip
    · exact htrip

theorem sendSd_offDown : (sendSd p d s).2.offDown = s.offDown := by
  have hfree (t : State) : (useFree t).offDown = t.offDown := rfl
  unfold sendSd
  dsimp only
  split
  · exact (hfree _).trans (hfree _)
  · exact hfree _

theorem expectEcho_offDown {r slot sd : Nat} : (expectEcho r slot sd p s).offDown = s.offDown := by
  unfold expectEcho
  split
  · dsimp only
    split <;> rfl
  · rfl

/-! Departure. -/

/-- The state in which the downlink of slot n has departed. -/
def markDeparted (n : Nat) (s : State) : State := { s with net := { s.net with departed := s.net.departed ++ [n] } }

/-- R206, R247: the DATA-DN frame of a payload of slot n, without its lead pair. -/
def State.downFrame (s : State) (n : Nat) (ws : List Nat) (age : Nat) : Frame :=
  mkFrame (headOf 2 1 (n % 80) (n / 80) (s.owner (n / 80)) s.cyc age 0) ws

theorem downFrame_congr (h : t.offDown = s.offDown) : t.downFrame n ws age = s.downFrame n ws age := by
  unfold State.downFrame
  rw [offDown_owner h, offDown_cyc h]

/-- R110, R247: what is retained of a payload that slot n sends. -/
def retainSent (n : Nat) (axis : Option Nat) (ws : List Nat) (age : Nat) (s : State) : State :=
  let t := match axis with
    | some a => retainCopy a (ws.getD 1 0, ws.getD 2 0, ws.getD 3 0, ws.getD 4 0) s
    | none => s
  { t with net := { t.net with lastSent := kvPut (fun _ => ([], 256)) t.net.lastSent n (ws, age) } }

theorem retainSent_offDown : (retainSent n axis ws age s).offDown = s.offDown := by
  have hcopy (a : Nat) (w : Nat × Nat × Nat × Nat) : (retainCopy a w s).offDown = s.offDown := by
    unfold retainCopy
    split <;> rfl
  have hlast (t : State) (v : KV (List Nat × Nat)) :
      ({ t with net := { t.net with lastSent := v } } : State).offDown = t.offDown := rfl
  cases axis with
  | none => exact hlast _ _
  | some a => exact (hlast _ _).trans (hcopy a _)

/-- The frame of a downlink of slot n leaves port p, and its echo is expected. -/
def sendDown (n p d : Nat) (f : Frame) (s : State) : State :=
  expectEcho (n / 80) (n % 80) (sendFrame p d f s).1 p (sendFrame p d f s).2

theorem sendDown_departed {f : Frame} : (sendDown n p d f s).net.departed = s.net.departed :=
  (offDown_departed expectEcho_offDown).trans (offDown_departed (s := s) (t := (sendSd p d s).2) sendSd_offDown)

theorem sendDown_cyc {f : Frame} : (sendDown n p d f s).cyc = s.cyc :=
  (offDown_cyc expectEcho_offDown).trans (offDown_cyc (s := s) (t := (sendSd p d s).2) sendSd_offDown)

theorem sendDown_outs {f : Frame} :
    ∃ sd, (sendDown n p d f s).outs = s.outs ++ [.frame p sd { f with lead := s.leadSent p }] := by
  have hsd : (sendSd p d s).2.offDown = s.offDown := sendSd_offDown
  have hsent : (sendFrame p d f s).2.outs =
      (sendSd p d s).2.outs ++ [.frame p (sendSd p d s).1 { f with lead := (sendSd p d s).2.leadSent p }] := rfl
  rw [offDown_outs hsd, offDown_leadSent hsd] at hsent
  exact ⟨_, (offDown_outs expectEcho_offDown).trans hsent⟩

/-- What becomes of a payload, with the state in which it was formed. -/
def sendPaid (n p d : Nat) (axis : Option Nat) (paid : Option (List Nat × Nat) × State) : State :=
  match paid.1 with
  | none => paid.2
  | some (ws, age) =>
    if paid.2.silenced (n / 80) then paid.2
    else sendDown n p d ((retainSent n axis ws age paid.2).downFrame n ws age) (retainSent n axis ws age paid.2)

theorem slotAxis_markDeparted : (markDeparted n s).slotAxis n = s.slotAxis n := rfl

/-- R247: the payload is read once time has come to the departure. (The definition is opened as a function: opened at its
arguments, the kernel would run the reads of the record to compare the two sides.) -/
theorem downDepart_eq (hu : u = advanceNs (min (s.at16 d) (s.time.nextNs - 1)) s) :
    downDepart n p d s = sendPaid n p d (u.slotAxis n) (downPayload n (u.slotAxis n) (markDeparted n u)) := by
  generalize hdef : downDepart = depart
  delta downDepart at hdef
  subst hdef
  beta_reduce
  rw [← hu]
  extract_lets _ _ w axis r
  have hw : markDeparted n u = w := rfl
  have haxis : u.slotAxis n = axis := slotAxis_markDeparted.symm
  have hr : r = n / 80 := rfl
  clear_value w axis r
  rw [haxis, hw, hr]
  generalize downPayload n axis w = paid
  obtain ⟨_ | ⟨ws, age⟩, v⟩ := paid
  · rfl
  · unfold sendPaid retainSent sendDown State.downFrame
    cases axis <;> rfl

theorem exec_downlinkDeparture {r : Fin 4} {k : Fin 80} (hon : s.netOn = true) (hdue : s.downDue (80 * r.val + k) = some (p, d)) :
    exec (.downlinkDeparture r k) s = done (downDepart (80 * r.val + k) p d s) := by
  have hexec : exec (.downlinkDeparture r k) s = execDownlinkDeparture r k s := rfl
  rw [hexec]
  unfold execDownlinkDeparture
  rw [hdue]
  exact congrArg done (onlyIf_pos hon)

theorem Passes.owner (h : Passes s t) (r : Nat) : t.owner r = s.owner r := by
  unfold State.owner State.role State.ownId
  rw [h.af, h.af, h.af, h.pcr]

theorem advanceNs_departed : (advanceNs d s).net.departed = s.net.departed :=
  (congrArg NetSt.departed advanceNs_offEchoes :)

section Paid

variable {pay : Option (List Nat × Nat)} {v : State}

theorem sendPaid_departed : (sendPaid n p d axis (pay, v)).net.departed = v.net.departed := by
  obtain _ | ⟨ws, age⟩ := pay
  · rfl
  · change (if v.silenced (n / 80) then v else sendDown n p d _ (retainSent n axis ws age v)).net.departed = _
    split
    · rfl
    · exact sendDown_departed.trans (offDown_departed retainSent_offDown)

theorem sendPaid_outs (hloud : v.silenced (n / 80) = false) : ∃ sd, (sendPaid n p d axis (some (ws, age), v)).outs =
    v.outs ++ [.frame p sd { v.downFrame n ws age with lead := v.leadSent p }] := by
  have hretain : (retainSent n axis ws age v).offDown = v.offDown := retainSent_offDown
  have hsend : sendPaid n p d axis (some (ws, age), v) =
      sendDown n p d ((retainSent n axis ws age v).downFrame n ws age) (retainSent n axis ws age v) := if_neg (by simp [hloud])
  obtain ⟨sd, houts⟩ := sendDown_outs (n := n) (p := p) (d := d) (f := (retainSent n axis ws age v).downFrame n ws age)
    (s := retainSent n axis ws age v)
  rw [downFrame_congr hretain, offDown_outs hretain, offDown_leadSent hretain] at houts
  rw [hsend, downFrame_congr hretain]
  exact ⟨sd, houts⟩

theorem sendPaid_cyc : (sendPaid n p d axis (pay, v)).cyc = v.cyc := by
  obtain _ | ⟨ws, age⟩ := pay
  · rfl
  · change (if v.silenced (n / 80) then v else sendDown n p d _ (retainSent n axis ws age v)).cyc = _
    split
    · rfl
    · exact sendDown_cyc.trans (offDown_cyc retainSent_offDown)

end Paid

theorem downlinkDeparture_departs {r : Fin 4} {k : Fin 80} {pay : Option (List Nat × Nat)} {v : State} (hn : n = 80 * r.val + k)
    (hon : s.netOn = true) (hdue : s.downDue n = some (p, d)) (hu : u = advanceNs (min (s.at16 d) (s.time.nextNs - 1)) s)
    (hpay : downPayload n (u.slotAxis n) (markDeparted n u) = (pay, v)) :
    Answers (exec (.downlinkDeparture r k) s) fun t => t.net.departed = s.net.departed ++ [n] ∧
      (∀ ws age, pay = some (ws, age) → v.silenced r = false → ∃ sd, t.outs = s.outs ++
        [.frame p sd { mkFrame (headOf 2 1 k r (s.owner r) t.cyc age 0) ws with lead := u.leadSent p }]) ∧
      (pay = none → t.outs = s.outs) := by
  have hring : n / 80 = r := by omega
  have hslot : n % 80 = k := by omega
  have hpass : Passes s u := hu ▸ .advanceNs
  have hdep : u.net.departed = s.net.departed := hu ▸ advanceNs_departed
  have hv : v.offDown = (markDeparted n u).offDown := by
    have h := downPayload_offDown (n := n) (axis := u.slotAxis n) (s := markDeparted n u)
    rwa [hpay] at h
  have houts : v.outs = s.outs := (offDown_outs hv).trans (congrArg State.outs hpass.rest :)
  have howner : v.owner r = s.owner r := (offDown_owner hv r).trans (hpass.owner r)
  have hlead : v.leadSent p = u.leadSent p := offDown_leadSent hv p
  subst hn
  rw [exec_downlinkDeparture hon hdue, downDepart_eq hu, hpay]
  refine answers_done ⟨?_, ?_, ?_⟩
  · rw [settle_net, sendPaid_departed, offDown_departed hv, ← hdep]
    rfl
  · rintro ws age rfl hloud
    rw [← hring] at hloud
    obtain ⟨sd, hsent⟩ := sendPaid_outs (p := p) (d := d) (axis := u.slotAxis _) (ws := ws) (age := age) hloud
    refine ⟨sd, ?_⟩
    rw [settle_outs, hsent, cyc_congr (settle_time _) (settle_actv _), sendPaid_cyc, houts, hlead]
    unfold State.downFrame
    rw [hring, hslot, howner]
  · rintro rfl
    rw [settle_outs]
    exact houts

/-! Echoes. -/

/-- R211: an echo expected that a frame of ring r matches. -/
def echoHit (r : Nat) (f : Frame) (e : EchoPend) : Bool := e.ring = r && e.slot = fSlot f && e.seq = fSeq f

/-- R211: the frame is whole and comes within the window of its echo, with its SD at x. -/
def State.echoGood (s : State) (r x : Nat) (f : Frame) (e : EchoPend) : Bool :=
  fHcsOk f && fClean f && fCrcOk f && Machine.dist x e.sd ≤ s.tol80 r && x + wire80 (f.edAt - 1) ≤ e.fin

/-- The state in which no echo is expected any more that a frame of ring r matches. -/
def takeEcho (r : Nat) (f : Frame) (s : State) : State :=
  { s with net := { s.net with echoes := s.net.echoes.filter (fun y => !(echoHit r f y)) } }

theorem echoFrame_hit {r sd : Nat} {f : Frame} {e : EchoPend}
    (hu : u = portFrame (2 * r + 1) f (advanceNs (min (s.at16 sd) (s.time.nextNs - 1)) s))
    (hhit : u.net.echoes.find? (echoHit r f) = some e) : echoFrame r sd f s =
      if u.echoGood r ((u.cycStart / 2 ^ 28 + sd) * 5) f e then takeEcho r f u else netErr r 5 (takeEcho r f u) := by
  generalize hdef : echoFrame = frame
  delta echoFrame at hdef
  subst hdef
  beta_reduce
  rw [← hu]
  extract_lets w x hit
  have hw : w = u := rfl
  have hx : (u.cycStart / 2 ^ 28 + sd) * 5 = x := rfl
  have hmatch : hit = echoHit r f := rfl
  clear_value w x hit
  subst hw hmatch
  rw [hx, hhit]
  rfl

theorem exec_netEcho {r : Fin 4} {sd : Nat} {f : Frame} (hon : s.netOn = true) (hen : s.ringEn r = true) :
    exec (.netEcho r sd f) s = done (echoFrame r sd f s) := congrArg done (onlyIf_pos (by rw [hon, hen]; rfl))

theorem reg_settle_NET_ERR (r : Fin 4) : (settle s).reg (Reg.NET_ERR r) = s.reg (Reg.NET_ERR r) :=
  settle_reg (by unfold marrowReg Reg.NET_ERR; simp; omega)

theorem missedEcho_sets (r : Fin 4) : (netErr r 5 s).rb (Reg.NET_ERR r) 5 = true := by
  have hseq : Reg.NET_ERR r ≠ Reg.NET_CNT_SEQ r := by unfold Reg.NET_ERR Reg.NET_CNT_SEQ; omega
  have hlost : Reg.NET_ERR r ≠ Reg.EVL_LOST := by unfold Reg.NET_ERR Reg.EVL_LOST; omega
  exact (rb_of_reg (reg_setReg_other hseq)).trans (flagEvent_sets (by decide) hlost)

theorem missedEcho_echoes {r : Nat} : (netErr r 5 s).net.echoes = s.net.echoes :=
  (congrArg (fun x : State => x.net.echoes) (Logs.event (s := orReg (Reg.NET_ERR r) (2 ^ 5) s)).rest :)

theorem netEcho_taken {r : Fin 4} {sd : Nat} {f : Frame} {e : EchoPend}
    (hu : u = portFrame (2 * r + 1) f (advanceNs (min (s.at16 sd) (s.time.nextNs - 1)) s)) (hon : s.netOn = true)
    (hen : s.ringEn r = true) (hhit : u.net.echoes.find? (echoHit r f) = some e) :
    Answers (exec (.netEcho r sd f) s) fun t => t.net.echoes = u.net.echoes.filter (fun y => !(echoHit r f y)) ∧
      if u.echoGood r ((u.cycStart / 2 ^ 28 + sd) * 5) f e then t.reg (Reg.NET_ERR r) = u.reg (Reg.NET_ERR r)
      else t.rb (Reg.NET_ERR r) 5 = true := by
  rw [exec_netEcho hon hen, echoFrame_hit hu hhit]
  refine answers_done ?_
  rw [settle_net, reg_settle_NET_ERR, rb_of_reg (reg_settle_NET_ERR r)]
  split
  · exact ⟨rfl, rfl⟩
  · exact ⟨missedEcho_echoes, missedEcho_sets r⟩

/-- Settles O30: the departure by what its payload and its sending leave, the echo by the two outcomes of its frame. -/
theorem echoesAndDownlinks : Obligations.EchoesAndDownlinks := by
  unfold Obligations.EchoesAndDownlinks
  intro r k s hon
  exact ⟨fun p d u pay v hdue hu hpay => downlinkDeparture_departs rfl hon hdue hu hpay,
    fun sd f e hen hhit => netEcho_taken rfl hon hen hhit⟩

end Sys2Proof.Machine
end

section
/-! The lines of a local channel: levels that stand, and the sample that makes them the filtered ones (R174 to R178, R181). -/

namespace Sys2Proof.Machine

variable {s t u : State} {c : Nat}

/-! Filtered levels (R174). -/

@[simp] theorem chan_putChan_self {v : ChanSt} : (putChan c v s).chan c = v := kvGet_kvPut_self

theorem chan_putChan_other {v : ChanSt} {j : Nat} (h : j ≠ c) : (putChan c v s).chan j = s.chan j := kvGet_kvPut_other h

theorem chan_settle : (settle s).chan c = s.chan c := congrArg (kvGet _ · c) (settle_chans s)

/-- For how many samples line i has stood. -/
def ChanSt.run (v : ChanSt) (i : Nat) : Nat := match i with | 0 => v.runs.1 | 1 => v.runs.2.1 | _ => v.runs.2.2

/-- For how many samples line i will have stood, given x as the next one. -/
def ChanSt.runWith (v : ChanSt) (x i : Nat) : Nat := lineRun (v.raw.testBit i == x.testBit i) (v.run i)

/-- A number below 8 by its three bits. -/
theorem three_bits {y : Nat} (h : y < 8) : b2n (y.testBit 0) + 2 * b2n (y.testBit 1) + 4 * b2n (y.testBit 2) = y := by
  interval_cases y <;> rfl

/-- The filtered levels, line by line: each by its own run. -/
theorem filterLines_eq {need x y : Nat} {v : ChanSt} (hy : y < 8)
    (h : ∀ i, i < 3 → (if need ≤ v.runWith x i then x.testBit i else v.lines.testBit i) = y.testBit i) :
    (filterLines need v x).2 = y := by
  have h0 := h 0 (by decide)
  have h1 := h 1 (by decide)
  have h2 := h 2 (by decide)
  rw [← three_bits hy, ← h0, ← h1, ← h2]
  rfl

theorem filterLines_run {need x : Nat} {v : ChanSt} {i : Nat} (hi : i < 3) :
    ({ v with runs := (filterLines need v x).1 } : ChanSt).run i = v.runWith x i := by
  interval_cases i <;> rfl

/-- Levels that have not stood long enough leave the filtered ones. -/
theorem filterLines_short {need x : Nat} {v : ChanSt} (hv : v.lines < 8)
    (h : ∀ i, i < 3 → x.testBit i ≠ v.lines.testBit i → v.runWith x i < need) : (filterLines need v x).2 = v.lines := by
  refine filterLines_eq hv fun i hi => ?_
  by_cases hsame : x.testBit i = v.lines.testBit i
  · rw [hsame, ite_self]
  · rw [if_neg (by have := h i hi hsame; omega)]

/-- Levels that have stood long enough become the filtered ones. -/
theorem filterLines_long {need x : Nat} {v : ChanSt} (hx : x < 8)
    (h : ∀ i, i < 3 → x.testBit i ≠ v.lines.testBit i → need ≤ v.runWith x i) : (filterLines need v x).2 = x := by
  refine filterLines_eq hx fun i hi => ?_
  by_cases hsame : x.testBit i = v.lines.testBit i
  · rw [hsame, ite_self]
  · rw [if_pos (h i hi hsame)]

/-! What one sample does to a channel. -/

/-- The channel v with the samples of w, and with what of w's latched lines they reach in the sysclk of a sampling instant. -/
def ChanSt.sampledAs (v w : ChanSt) : ChanSt :=
  { v with raw := w.raw, runs := w.runs, sampled := w.sampled,
           smp := { v.smp with count := w.smp.count, lines := w.smp.lines, zpos := w.smp.zpos } }

theorem sampledAs_trans {v w x : ChanSt} (h : w = v.sampledAs w) (k : x = w.sampledAs x) : x = v.sampledAs x :=
  k.trans (congrArg (fun y : ChanSt => y.sampledAs x) h :)

/-- The next sample falls in the sysclk of a sampling instant whose record is due (R176). -/
def ChanSt.atInstant (v : ChanSt) (k : Nat) : Bool := v.smp.due && v.smp.sclk = k

/-- Flags of CSTAT that the next record will hold, of those collected since the instant, or with it (R176). -/
def ChanSt.statAt (v : ChanSt) (now : Bool) : Nat := if now then v.smp.stat else v.stat

/-- R174 to R176: what a sample x makes of a channel, and the flags it sets. -/
def lineStep (need mode : Nat) (inv : Bool) (v : ChanSt) (x : Nat) : Nat × ChanSt :=
  let (runs, n) := filterLines need v x
  let (st, w) := if n = v.lines then (0, v) else lineDecode mode inv v n
  let w := { w with raw := x, runs := runs, sampled := v.sampled + 1 }
  (st, if v.atInstant v.sampled then
      { w with smp := { v.smp with count := w.count, lines := n, zpos := w.zpos, stat := v.smp.stat ||| st } }
    else { w with stat := v.stat ||| st })

/-- INV of channel c (R175). -/
def State.chInv (s : State) (c : Nat) : Bool := s.ab (Reg.FB_CH_CTL c) 5

theorem sampleLines_eq {x : Nat} : sampleLines c x s =
    onlyIf ((lineStep (s.filt c) (s.chMode c) (s.chInv c) (s.chan c) x).1.testBit 2) (incRf (Reg.FB_CH_CNT c) 15 0)
      (putChan c (lineStep (s.filt c) (s.chMode c) (s.chInv c) (s.chan c) x).2 s) := rfl

section Step

variable {need mode x : Nat} {inv : Bool} {v : ChanSt}

theorem lineStep_raw : (lineStep need mode inv v x).2.raw = x ∧ (lineStep need mode inv v x).2.sampled = v.sampled + 1 ∧
    (lineStep need mode inv v x).2.runs = (filterLines need v x).1 := by
  unfold lineStep
  dsimp only
  split <;> exact ⟨rfl, rfl, rfl⟩

theorem lineStep_run {i : Nat} (hi : i < 3) : (lineStep need mode inv v x).2.run i = v.runWith x i := by
  have hruns : (lineStep need mode inv v x).2.run i = ({ v with runs := (filterLines need v x).1 } : ChanSt).run i := by
    unfold ChanSt.run
    rw [lineStep_raw.2.2]
  exact hruns.trans (filterLines_run hi)

/-- A sample that leaves the filtered levels leaves everything but the samples. -/
theorem lineStep_short (h : (filterLines need v x).2 = v.lines) :
    (lineStep need mode inv v x).2 = v.sampledAs (lineStep need mode inv v x).2 := by
  unfold lineStep
  dsimp only
  rw [if_pos h]
  dsimp only
  rw [Nat.or_zero, Nat.or_zero]
  split <;> rfl

/-- A change of the filtered levels looks at none of the samples. -/
theorem lineDecode_sampledAs {w : ChanSt} {n : Nat} : lineDecode mode inv (v.sampledAs w) n =
    ((lineDecode mode inv v n).1, (lineDecode mode inv v n).2.sampledAs w) := by
  have hhall : hallDecode inv (v.sampledAs w) n = ((hallDecode inv v n).1, (hallDecode inv v n).2.sampledAs w) := by
    unfold hallDecode
    split
    · rfl
    · by_cases h : v.hall = 0
      · have h' : (v.sampledAs w).hall = 0 := h
        rw [if_pos h, if_pos h']
        rfl
      · have h' : ¬ (v.sampledAs w).hall = 0 := h
        rw [if_neg h, if_neg h']
        rfl
  match mode with
  | 0 => rfl
  | 1 => rfl
  | 2 => exact hhall
  | _ + 3 => rfl

/-- The filtered levels of a channel are those that a change brings. -/
theorem lineDecode_lines {n : Nat} : (lineDecode mode inv v n).2.lines = n := by
  have hhall : (hallDecode inv v n).2.lines = n := by
    unfold hallDecode
    split
    · rfl
    · split <;> rfl
  match mode with
  | 0 => rfl
  | 1 => rfl
  | 2 => exact hhall
  | _ + 3 => rfl

/-- The parts of a channel that a change of the filtered levels may move. -/
def ChanSt.place (v : ChanSt) : Nat × Nat × Nat × Nat := (v.lines, v.count, v.zpos, v.hall)

/-- A sample that changes the filtered levels acts as their change does, and its flags join those of the instant that its
sysclk contains, or the ones collected (R176). -/
theorem lineStep_long (h : (filterLines need v x).2 = x) (hx : x ≠ v.lines) :
    (lineStep need mode inv v x).2.place = (lineDecode mode inv v x).2.place ∧
    (lineStep need mode inv v x).2.statAt (v.atInstant v.sampled) =
      v.statAt (v.atInstant v.sampled) ||| (lineDecode mode inv v x).1 := by
  unfold lineStep
  dsimp only
  rw [h, if_neg hx]
  cases v.atInstant v.sampled <;> exact ⟨rfl, rfl⟩

end Step

/-! Levels that stand for some samples. -/

/-- The state without its channels, without the registers that an illegal edge is counted in, and without free values. -/
def State.offChan (s : State) : State := { s with chans := [], regs := [], clk := {}, free := 0 }

/-- Samples of channel c, of its lines or for its record, may lie between s and t. -/
structure Sampled (c : Nat) (s t : State) : Prop where
  rest : t.offChan = s.offChan
  other : ∀ j, j ≠ c → t.chan j = s.chan j

namespace Sampled

theorem trans (h : Sampled c s t) (k : Sampled c t u) : Sampled c s u :=
  ⟨k.rest.trans h.rest, fun j hj => (k.other j hj).trans (h.other j hj)⟩

theorem putChan {v : ChanSt} : Sampled c s (Machine.putChan c v s) := ⟨rfl, fun _ hj => chan_putChan_other hj⟩

theorem sampleLines {x : Nat} : Sampled c s (Machine.sampleLines c x s) := by
  rw [sampleLines_eq]
  unfold onlyIf
  split
  · exact putChan.trans ⟨rfl, fun _ _ => rfl⟩
  · exact putChan

theorem mem (h : Sampled c s t) : t.mem = s.mem := (congrArg State.mem h.rest :)
theorem actv (h : Sampled c s t) : t.actv = s.actv := (congrArg State.actv h.rest :)
theorem filt (h : Sampled c s t) : t.filt c = s.filt c := (congrArg (fun x : State => x.filt c) h.rest :)
theorem chMode (h : Sampled c s t) : t.chMode c = s.chMode c := (congrArg (fun x : State => x.chMode c) h.rest :)
theorem chInv (h : Sampled c s t) : t.chInv c = s.chInv c := (congrArg (fun x : State => x.chInv c) h.rest :)

end Sampled

theorem sampleLines_chan {x : Nat} : (sampleLines c x s).chan c =
    (lineStep (s.filt c) (s.chMode c) (s.chInv c) (s.chan c) x).2 := by
  rw [sampleLines_eq]
  unfold onlyIf
  split
  · exact chan_putChan_self (s := s)
  · exact chan_putChan_self

/-- From s to t the levels x of channel c have stood for k samples, too few for its filter. -/
structure Standing (c x k : Nat) (s t : State) : Prop where
  frame : Sampled c s t
  chan : t.chan c = (s.chan c).sampledAs (t.chan c)
  run : ∀ i, i < 3 → x.testBit i ≠ (s.chan c).lines.testBit i → (t.chan c).runWith x i = k + 1

namespace Standing

variable {x k : Nat}

theorem lines (h : Standing c x k s t) : (t.chan c).lines = (s.chan c).lines :=
  (congrArg ChanSt.lines h.chan :)

/-- One more sample, still too few for the filter. -/
theorem next (h : Standing c x k s t) (hv : (s.chan c).lines < 8) (hk : k + 1 < s.filt c) (hf : s.filt c ≤ 256) :
    Standing c x (k + 1) s (sampleLines c x t) := by
  have hshort : (filterLines (t.filt c) (t.chan c) x).2 = (t.chan c).lines := by
    rw [h.frame.filt]
    refine filterLines_short (by rw [h.lines]; exact hv) fun i hi hne => ?_
    rw [h.run i hi (by rwa [← h.lines])]
    exact hk
  refine ⟨h.frame.trans .sampleLines, ?_, fun i hi hne => ?_⟩
  · rw [sampleLines_chan]
    exact sampledAs_trans h.chan (lineStep_short hshort)
  · rw [sampleLines_chan]
    have hrun : (lineStep (t.filt c) (t.chMode c) (t.chInv c) (t.chan c) x).2.run i = k + 1 :=
      (lineStep_run hi).trans (h.run i hi hne)
    have hraw := (lineStep_raw (need := t.filt c) (mode := t.chMode c) (inv := t.chInv c) (v := t.chan c) (x := x)).1
    rw [ChanSt.runWith, hraw, hrun, beq_self_eq_true, lineRun, if_pos rfl]
    omega

theorem nexts (h : Standing c x k s t) (hv : (s.chan c).lines < 8) (hf : s.filt c ≤ 256) {m : Nat} (hm : k + m < s.filt c) :
    Standing c x (k + m) s ((List.replicate m x).foldl (fun t y => sampleLines c y t) t) := by
  induction m generalizing k t with
  | zero => exact h
  | succ m ih =>
    have := ih (h.next hv (by omega) hf) (by omega)
    rwa [show k + 1 + m = k + (m + 1) by omega] at this

end Standing

theorem filt_le : s.filt c ≤ 256 := by
  have h : s.af (Reg.FB_CH_CTL c) 15 8 < 2 ^ 8 := Nat.mod_lt _ (by decide)
  unfold State.filt
  omega

theorem foldl_sampled {xs : List Nat} : ((xs.foldl (fun t y => sampleLines c y t) s).chan c).sampled = (s.chan c).sampled + xs.length := by
  induction xs generalizing s with
  | nil => rfl
  | cons x xs ih =>
    rw [List.foldl_cons, ih, sampleLines_chan, lineStep_raw.2.1, List.length_cons]
    omega

/-- Levels that stood as the filtered ones only count their runs up to a sysclk. -/
theorem catchUp_settled {k x : Nat} (h : (s.chan c).raw = (s.chan c).lines) : Standing c x 0 s (catchUp c k s) ∧
    ((catchUp c k s).chan c).sampled = max (s.chan c).sampled k := by
  have hput : ∃ r, catchUp c k s = putChan c { s.chan c with runs := r, sampled := max (s.chan c).sampled k } s := by
    unfold catchUp
    dsimp only
    rw [if_pos h]
    exact ⟨_, rfl⟩
  obtain ⟨r, heq⟩ := hput
  rw [heq]
  refine ⟨⟨.putChan, ?_, fun i _ hne => ?_⟩, by rw [chan_putChan_self]⟩
  · rw [chan_putChan_self]
    rfl
  · rw [chan_putChan_self]
    have hraw : ((s.chan c).raw.testBit i == x.testBit i) = false := by
      rw [h]
      simpa using Ne.symm hne
    rw [ChanSt.runWith, lineRun]
    simp only [hraw]
    rfl

/-- The lines of a channel at levels x for m samples. -/
theorem lineLevels_held {x : BitVec 3} {m : Nat} :
    lineLevels (List.replicate m (x.getLsbD 2)) (List.replicate m (x.getLsbD 1)) (List.replicate m (x.getLsbD 0)) =
      List.replicate m x := by
  have hlevel : ∀ x : BitVec 3,
      BitVec.ofNat 3 ((x.getLsbD 2).toNat * 4 + (x.getLsbD 1).toNat * 2 + (x.getLsbD 0).toNat) = x := by decide
  rw [lineLevels, List.zip_replicate', List.zipWith_replicate', hlevel]

theorem feedLines_held {x : BitVec 3} {m : Nat} (hroom : (s.chan c).sampled + m ≤ s.sclk + 1) :
    feedLines c (List.replicate m x) s =
      (List.replicate m x.toNat).foldl (fun t y => sampleLines c y t) (catchUp c (s.sclk + 1 - m) s) := by
  have hall : m - (s.sclk + 1 - (s.chan c).sampled) = 0 := by omega
  unfold feedLines
  dsimp only
  rw [List.length_replicate, hall, List.drop_zero, List.length_replicate, ← List.map_replicate (f := BitVec.toNat), List.foldl_map]

/-- R174: levels that stand for FILT sysclk or less change nothing. -/
theorem feedLines_short {x : BitVec 3} {m : Nat} (hraw : (s.chan c).raw = (s.chan c).lines) (hv : (s.chan c).lines < 8)
    (hroom : (s.chan c).sampled + m ≤ s.sclk + 1) (hm : m < s.filt c) :
    Standing c x.toNat m s (feedLines c (List.replicate m x) s) := by
  rw [feedLines_held hroom]
  have h := (catchUp_settled (k := s.sclk + 1 - m) (x := x.toNat) hraw).1.nexts hv filt_le (m := m) (by omega)
  rwa [Nat.zero_add] at h

/-- What the levels n, accepted in the last sysclk, leave of channel c. -/
structure Accepted (c n : Nat) (s t : State) : Prop where
  frame : Sampled c s t
  place : (t.chan c).place = (lineDecode (s.chMode c) (s.chInv c) (s.chan c) n).2.place
  stat : (t.chan c).statAt ((s.chan c).atInstant s.sclk) =
    (s.chan c).statAt ((s.chan c).atInstant s.sclk) ||| (lineDecode (s.chMode c) (s.chInv c) (s.chan c) n).1

/-- R174: levels that stand for FILT + 1 sysclk become the filtered ones with the last of them. -/
theorem feedLines_long {x : BitVec 3} (hraw : (s.chan c).raw = (s.chan c).lines) (hv : (s.chan c).lines < 8)
    (hroom : (s.chan c).sampled + s.filt c ≤ s.sclk + 1) (hne : x.toNat ≠ (s.chan c).lines) :
    Accepted c x.toNat s (feedLines c (List.replicate (s.filt c) x) s) := by
  obtain ⟨m, hm⟩ : ∃ m, s.filt c = m + 1 := ⟨_, rfl⟩
  obtain ⟨hstart, hsampled⟩ := catchUp_settled (k := s.sclk + 1 - s.filt c) (x := x.toNat) hraw
  have hstand := hstart.nexts hv filt_le (m := m) (by omega)
  have hclock := foldl_sampled (c := c) (s := catchUp c (s.sclk + 1 - s.filt c) s) (xs := List.replicate m x.toNat)
  rw [hsampled, List.length_replicate] at hclock
  have hlast : feedLines c (List.replicate (s.filt c) x) s = sampleLines c x.toNat
      ((List.replicate m x.toNat).foldl (fun t y => sampleLines c y t) (catchUp c (s.sclk + 1 - s.filt c) s)) := by
    rw [feedLines_held hroom, hm, List.replicate_succ', List.foldl_append]
    rfl
  rw [hlast]
  generalize (List.replicate m x.toNat).foldl (fun t y => sampleLines c y t) (catchUp c (s.sclk + 1 - s.filt c) s) = t at hstand hclock
  have hnow : (t.chan c).sampled = s.sclk := by omega
  have hlong : (filterLines (t.filt c) (t.chan c) x.toNat).2 = x.toNat := by
    refine filterLines_long x.isLt fun i hi hdiff => ?_
    rw [hstand.run i hi (by rwa [← hstand.lines]), hstand.frame.filt]
    omega
  obtain ⟨hplace, hstat⟩ := lineStep_long (mode := t.chMode c) (inv := t.chInv c) hlong (by rw [hstand.lines]; exact hne)
  have hinstant : (t.chan c).atInstant s.sclk = (s.chan c).atInstant s.sclk :=
    (congrArg (fun v : ChanSt => v.atInstant s.sclk) hstand.chan :)
  have hflags (now : Bool) : (t.chan c).statAt now = (s.chan c).statAt now :=
    (congrArg (fun v : ChanSt => v.statAt now) hstand.chan :)
  have hdecode : lineDecode (t.chMode c) (t.chInv c) (t.chan c) x.toNat =
      ((lineDecode (s.chMode c) (s.chInv c) (s.chan c) x.toNat).1,
        (lineDecode (s.chMode c) (s.chInv c) (s.chan c) x.toNat).2.sampledAs (t.chan c)) := by
    rw [hstand.frame.chMode, hstand.frame.chInv]
    exact (congrArg (lineDecode (s.chMode c) (s.chInv c) · x.toNat) hstand.chan).trans lineDecode_sampledAs
  rw [hdecode] at hplace hstat
  rw [hnow, hinstant, hflags] at hstat
  refine ⟨hstand.frame.trans .sampleLines, ?_, ?_⟩
  · rw [sampleLines_chan]
    exact hplace
  · rw [sampleLines_chan]
    exact hstat

end Sys2Proof.Machine
end

section
/-! Events of an enabled local channel: edges, marks, comparators, conversions, losses and SSI clock edges (R169, R174 to R183). -/

namespace Sys2Proof.Machine

variable {s t u : State}

/-! The commands. -/

theorem chanCmd_acts {c : Nat} {modes : List Nat} {f : State → State} (hl : s.live 1 = true) (he : s.chEn c = true)
    (hm : s.chMode c ∈ modes) : chanCmd c modes f s = f s := by
  have hcond : (s.live 1 && s.chEn c && modes.contains (s.chMode c)) = true := by
    rw [hl, he, List.contains_iff_mem.2 hm]
    rfl
  exact if_pos hcond

section Commands

variable {c : Fin 8} (hl : s.live 1 = true) (he : s.chEn c = true)
include hl he

theorem exec_quadratureEdge {a b z : List Bool} (hm : s.chMode c = 0) :
    exec (.quadratureEdge c a b z) s = done (feedLines c (lineLevels a b z) s) :=
  congrArg done (chanCmd_acts hl he (by simp [hm]))

theorem exec_indexLatch {a b z : List Bool} (hm : s.chMode c = 0 ∨ s.chMode c = 1) :
    exec (.indexLatch ⟨c, a, b, z⟩) s = done (feedLines c (lineLevels a b z) s) :=
  congrArg done (chanCmd_acts hl he (by simpa using hm))

theorem exec_magneticSwitchEdge {a b z : List Bool} (hm : s.chMode c = 2) :
    exec (.magneticSwitchEdge c a b z) s = done (feedLines c (lineLevels a b z) s) :=
  congrArg done (chanCmd_acts hl he (by simp [hm]))

theorem exec_quarterCount {q : Fin 4} (hm : s.chMode c = 1) : exec (.quarterCount c q) s = done (quarterCount c q s) :=
  congrArg done (chanCmd_acts hl he (by simp [hm]))

theorem exec_freeConversion {rs rc : BitVec 14} (hm : s.chMode c = 1) :
    exec (.freeConversion c rs rc) s = done (freeConversion c rs.toInt rc.toInt s) :=
  congrArg done (chanCmd_acts hl he (by simp [hm]))

theorem exec_losEdge (hm : s.chMode c ≤ 3) : exec (.losEdge c) s = done (chFlag c 3 s) :=
  congrArg done (chanCmd_acts hl he (by simp only [List.mem_cons, List.not_mem_nil]; omega))

theorem exec_ssiClockEdge {data : Bool} {delay : Option (Fin 65536)} (hon : s.loopOn = true) (hm : s.chMode c = 3) :
    exec (.ssiClockEdge c data delay) s = done (ssiEdge c data (delay.map (·.val)) s) :=
  congrArg done ((onlyIf_pos hon).trans (chanCmd_acts hl he (by simp [hm])))

end Commands

/-! Edges and marks (R174 to R176, R178, R181). -/

/-- Steps of the sequence A, B from the filtered levels of v to n (R175). -/
def quadSteps (v : ChanSt) (n : Nat) : Nat :=
  (quadPlace (n.testBit 2) (n.testBit 1) + 4 - quadPlace (v.lines.testBit 2) (v.lines.testBit 1)) % 4

/-- A change by two places is illegal. -/
theorem quadDecode_illegal {inv : Bool} {v : ChanSt} {n : Nat} (h : quadSteps v n = 2) :
    (quadDecode inv v n).1.testBit 2 = true := by
  have hst : (quadDecode inv v n).1 = b2n (decide (quadSteps v n = 2)) * 4 + b2n (n.testBit 0 && !(v.lines.testBit 0)) * 1024 := rfl
  rw [hst, h]
  cases n.testBit 0 && !(v.lines.testBit 0) <;> rfl

/-- A rising index mark latches the count. -/
theorem quadDecode_mark {inv : Bool} {v : ChanSt} {n : Nat} (hn : n.testBit 0 = true) (hv : v.lines.testBit 0 = false) :
    (quadDecode inv v n).1.testBit 10 = true ∧ (quadDecode inv v n).2.zpos = countPlace inv 3 (quadSteps v n) v.count := by
  have hst : (quadDecode inv v n).1 = b2n (decide (quadSteps v n = 2)) * 4 + b2n (n.testBit 0 && !(v.lines.testBit 0)) * 1024 := rfl
  have hz : (quadDecode inv v n).2.zpos =
      if n.testBit 0 && !(v.lines.testBit 0) then countPlace inv 3 (quadSteps v n) v.count else v.zpos := rfl
  rw [hst, hz, hn, hv]
  refine ⟨?_, rfl⟩
  cases decide (quadSteps v n = 2) <;> rfl

/-- A rising reference mark latches POS. -/
theorem markDecode_mark {v : ChanSt} {n : Nat} (hn : n.testBit 0 = true) (hv : v.lines.testBit 0 = false) :
    (markDecode v n).1.testBit 10 = true ∧ (markDecode v n).2.zpos = v.pos := by
  have hst : (markDecode v n).1 = b2n (n.testBit 0 && !(v.lines.testBit 0)) * 1024 := rfl
  have hz : (markDecode v n).2.zpos = if n.testBit 0 && !(v.lines.testBit 0) then v.pos else v.zpos := rfl
  rw [hst, hz, hn, hv]
  exact ⟨rfl, rfl⟩

/-- All lines at one level count no place and are flagged. -/
theorem hallDecode_void {inv : Bool} {v : ChanSt} {n : Nat} (h : n = 0 ∨ n = 7) :
    (hallDecode inv v n).2.count = v.count ∧ (hallDecode inv v n).1.testBit 4 = true := by
  have hvoid : hallDecode inv v n = (16 + b2n (twoLines v.lines n) * 4, { v with lines := n }) := by
    unfold hallDecode
    exact if_pos (by simpa using h)
  have hflag : ∀ two, (16 + b2n two * 4).testBit 4 = true := by decide
  rw [hvoid]
  exact ⟨rfl, hflag _⟩

/-- A change between valid states counts by its places. -/
theorem hallDecode_valid {inv : Bool} {v : ChanSt} {n : Nat} (h0 : n ≠ 0) (h7 : n ≠ 7) (hv : v.hall ≠ 0) :
    (hallDecode inv v n).2.hall = n ∧
    (hallDecode inv v n).2.count = countPlace inv 5 ((hallPlace n + 6 - hallPlace v.hall) % 6) v.count := by
  have hvalid : (hallDecode inv v n).2 =
      { v with lines := n, hall := n, count := countPlace inv 5 ((hallPlace n + 6 - hallPlace v.hall) % 6) v.count } := by
    unfold hallDecode
    rw [if_neg (by simpa using And.intro h0 h7), if_neg hv]
  rw [hvalid]
  exact ⟨rfl, rfl⟩

namespace Accepted

variable {c n mode : Nat}

/-- The parts that the change moves, in a channel of a known mode. -/
theorem parts (h : Accepted c n s t) (hm : s.chMode c = mode) :
    (t.chan c).lines = n ∧ (t.chan c).count = (lineDecode mode (s.chInv c) (s.chan c) n).2.count ∧
    (t.chan c).zpos = (lineDecode mode (s.chInv c) (s.chan c) n).2.zpos ∧
    (t.chan c).hall = (lineDecode mode (s.chInv c) (s.chan c) n).2.hall := by
  obtain ⟨hlines, hcount, hzpos, hhall⟩ : (t.chan c).lines = (lineDecode mode (s.chInv c) (s.chan c) n).2.lines ∧
      (t.chan c).count = (lineDecode mode (s.chInv c) (s.chan c) n).2.count ∧
      (t.chan c).zpos = (lineDecode mode (s.chInv c) (s.chan c) n).2.zpos ∧
      (t.chan c).hall = (lineDecode mode (s.chInv c) (s.chan c) n).2.hall := by
    simpa [ChanSt.place, hm] using h.place
  exact ⟨hlines.trans lineDecode_lines, hcount, hzpos, hhall⟩

/-- A flag that the change sets stands with the flags of its sysclk. -/
theorem flag (h : Accepted c n s t) (hm : s.chMode c = mode) {b : Nat}
    (hb : (lineDecode mode (s.chInv c) (s.chan c) n).1.testBit b = true) :
    ((t.chan c).statAt ((s.chan c).atInstant s.sclk)).testBit b = true := by
  rw [h.stat, Nat.testBit_or, hm, hb, Bool.or_true]

end Accepted

theorem statAt_instant {c : Nat} : (t.chan c).statAt ((s.chan c).atInstant s.sclk) =
    if (s.chan c).smp.due = true ∧ (s.chan c).smp.sclk = s.sclk then (t.chan c).smp.stat else (t.chan c).stat := by
  unfold ChanSt.statAt ChanSt.atInstant
  simp only [Bool.and_eq_true, decide_eq_true_eq]

/-! Comparators, conversions and losses (R177, R180, R181). -/

theorem quarterCount_chan {c q : Nat} : (quarterCount c q s).chan c =
    if (q + 4 - (s.chan c).cmp) % 4 = 2 then
      { s.chan c with cmp := q, stat := (s.chan c).stat ||| 2 ^ 2 }
    else { s.chan c with cmp := q, q := if (q + 4 - (s.chan c).cmp) % 4 = 1 then (s.chan c).q + 1
                                        else if (q + 4 - (s.chan c).cmp) % 4 = 3 then (s.chan c).q - 1 else (s.chan c).q } := by
  unfold quarterCount
  dsimp only
  split
  · next h =>
    have hflag (u : State) : (illegalEdge c u).chan c = { u.chan c with stat := (u.chan c).stat ||| 2 ^ 2 } :=
      chan_putChan_self (s := u)
    rw [hflag, chan_putChan_self, h]
    rfl
  · exact chan_putChan_self

/-- A value that does not fit is a free value, and the state changes in nothing else. -/
theorem hold16_free {x : Int} : ∃ n, (hold16 x s).2 = { s with free := n } := by
  unfold hold16
  split
  · exact ⟨s.free, rfl⟩
  · exact ⟨s.free + 1, rfl⟩

theorem correctPair_free {c : Nat} {a b : Int} : ∃ n, (correctPair c a b s).2 = { s with free := n } := by
  obtain ⟨m, hfirst⟩ := hold16_free (x := a - s.sf (Reg.FB_SC_OFS c) 15 0) (s := s)
  obtain ⟨n, hsecond⟩ := hold16_free (s := { s with free := m })
    (x := ((b - s.sf (Reg.FB_SC_OFS c) 31 16) * (32768 + s.sf (Reg.FB_SC_GAIN c) 15 0)).tdiv 32768)
  refine ⟨n, ?_⟩
  unfold correctPair
  dsimp only
  rw [hfirst]
  exact hsecond

theorem freeConversion_stat {c : Nat} {a b x y : Int} (h : correctPair c a b s = ((x, y), u)) :
    ((freeConversion c a b s).chan c).stat = if ampBad c x y u then (s.chan c).stat ||| 1 else (s.chan c).stat := by
  have hchan : u.chan c = s.chan c := by
    obtain ⟨n, hfree⟩ := correctPair_free (c := c) (a := a) (b := b) (s := s)
    rw [h] at hfree
    exact (congrArg (fun x : State => x.chan c) hfree :)
  unfold freeConversion
  rw [h]
  dsimp only
  unfold onlyIf
  split
  · rw [chFlag, chan_putChan_self, hchan]
    rfl
  · rw [hchan]

/-! SSI (R182, R183). -/

/-- R182, R183: a rising edge brings its data level. -/
theorem ssiEdge_rising {c : Nat} {data : Bool} {delay : Option Nat} (hodd : (s.chan c).edge % 2 = 1)
    (hlen : (s.chan c).edge < 2 * s.ssiLen c) :
    ((ssiEdge c data delay s).chan c).edge = (s.chan c).edge + 1 ∧
    ((ssiEdge c data delay s).chan c).rise = some ((s.chan c).edge0 + (s.chan c).edge * s.ssiHalf c) ∧
    ((ssiEdge c data delay s).chan c).data =
      lineTakes ((s.chan c).edge0 + (s.chan c).edge * s.ssiHalf c) data delay (s.chan c).data := by
  have hpass : Passes s (advanceTo ((s.chan c).edge0 + (s.chan c).edge * s.ssiHalf c) s) := .advanceTo
  have hchan : (advanceTo ((s.chan c).edge0 + (s.chan c).edge * s.ssiHalf c) s).chan c = s.chan c :=
    (congrArg (fun x : State => x.chan c) hpass.rest :)
  unfold ssiEdge
  dsimp only
  rw [if_neg (by omega), if_neg (by omega), hchan, if_neg (by omega), chan_putChan_self]
  exact ⟨rfl, rfl, rfl⟩

/-- An edge with a delay, or the first one of a frame, brings a transition. -/
theorem lineTakes_transition {k : Nat} {level : Bool} {delay : Option Nat} {data : List (Nat × Bool)}
    (h : delay.isSome = true ∨ data = []) : lineTakes k level delay data = (k + delay.getD 0, level) :: data := by
  refine if_neg ?_
  obtain h | rfl := h
  · obtain ⟨d, rfl⟩ := Option.isSome_iff_exists.1 h
    simp
  · simp

/-! The obligation's parts. -/

section Settled

variable {c : Fin 8} (hl : s.live 1 = true) (he : s.chEn c = true)
include hl he

theorem quadratureEdge_short {x : BitVec 3} {m : Nat} (hraw : (s.chan c).raw = (s.chan c).lines) (hv : (s.chan c).lines < 8)
    (hroom : (s.chan c).sampled + m ≤ s.sclk + 1) (hm : m < s.filt c) (h0 : s.chMode c = 0) :
    Answers (exec (.quadratureEdge c (List.replicate m (x.getLsbD 2)) (List.replicate m (x.getLsbD 1))
      (List.replicate m (x.getLsbD 0))) s) fun t => (t.chan c).lines = (s.chan c).lines ∧ (t.chan c).count = (s.chan c).count := by
  have hstand := feedLines_short (x := x) hraw hv hroom hm
  rw [exec_quadratureEdge hl he h0, lineLevels_held]
  refine answers_done ?_
  rw [chan_settle]
  exact ⟨hstand.lines, (congrArg ChanSt.count hstand.chan :)⟩

variable {x : BitVec 3} (hraw : (s.chan c).raw = (s.chan c).lines) (hv : (s.chan c).lines < 8)
  (hroom : (s.chan c).sampled + s.filt c ≤ s.sclk + 1) (hne : x.toNat ≠ (s.chan c).lines)
include hraw hv hroom hne

theorem quadratureEdge_counts (h0 : s.chMode c = 0) :
    Answers (exec (.quadratureEdge c (List.replicate (s.filt c) (x.getLsbD 2)) (List.replicate (s.filt c) (x.getLsbD 1))
      (List.replicate (s.filt c) (x.getLsbD 0))) s) fun t => (t.chan c).lines = x.toNat ∧
        (t.chan c).count = countPlace (s.chInv c) 3 (quadSteps (s.chan c) x.toNat) (s.chan c).count ∧
        (quadSteps (s.chan c) x.toNat = 2 →
          ((t.chan c).statAt ((s.chan c).atInstant s.sclk)).testBit 2 = true) ∧
        (∀ k, k ≠ c.val → t.chan k = s.chan k) ∧ t.mem = s.mem := by
  have htaken := feedLines_long hraw hv hroom hne
  obtain ⟨hlines, hcount, -, -⟩ := htaken.parts h0
  rw [exec_quadratureEdge hl he h0, lineLevels_held]
  refine answers_done ?_
  rw [chan_settle, settle_mem]
  exact ⟨hlines, hcount, fun hd => htaken.flag h0 (quadDecode_illegal hd),
    fun k hk => chan_settle.trans (htaken.frame.other k hk), htaken.frame.mem⟩

theorem indexLatch_latches (hm : s.chMode c = 0 ∨ s.chMode c = 1) (hx : x.getLsbD 0 = true) (hlow : (s.chan c).lines % 2 = 0) :
    Answers (exec (.indexLatch ⟨c, List.replicate (s.filt c) (x.getLsbD 2), List.replicate (s.filt c) (x.getLsbD 1),
      List.replicate (s.filt c) (x.getLsbD 0)⟩) s) fun t =>
        ((t.chan c).statAt ((s.chan c).atInstant s.sclk)).testBit 10 = true ∧
        (t.chan c).zpos = (if s.chMode c = 1 then (s.chan c).pos
          else countPlace (s.chInv c) 3 (quadSteps (s.chan c) x.toNat) (s.chan c).count) ∧
        (t.chan c).count = if s.chMode c = 1 then (s.chan c).count
          else countPlace (s.chInv c) 3 (quadSteps (s.chan c) x.toNat) (s.chan c).count := by
  have htaken := feedLines_long hraw hv hroom hne
  have hzero : (s.chan c).lines.testBit 0 = false := by simp [Nat.testBit_zero, hlow]
  rw [exec_indexLatch hl he hm, lineLevels_held]
  refine answers_done ?_
  rw [chan_settle]
  obtain h0 | h1 := hm
  · obtain ⟨-, hcount, hzpos, -⟩ := htaken.parts h0
    obtain ⟨hflag, hmark⟩ := quadDecode_mark (inv := s.chInv c) hx hzero
    rw [h0, if_neg (by decide), if_neg (by decide)]
    exact ⟨htaken.flag h0 hflag, hzpos.trans hmark, hcount⟩
  · obtain ⟨-, hcount, hzpos, -⟩ := htaken.parts h1
    obtain ⟨hflag, hmark⟩ := markDecode_mark hx hzero
    rw [if_pos h1, if_pos h1]
    exact ⟨htaken.flag h1 hflag, hzpos.trans hmark, hcount⟩

theorem magneticSwitchEdge_counts (h2 : s.chMode c = 2) :
    Answers (exec (.magneticSwitchEdge c (List.replicate (s.filt c) (x.getLsbD 2)) (List.replicate (s.filt c) (x.getLsbD 1))
      (List.replicate (s.filt c) (x.getLsbD 0))) s) fun t =>
        (x.toNat = 0 ∨ x.toNat = 7 → (t.chan c).count = (s.chan c).count ∧
          ((t.chan c).statAt ((s.chan c).atInstant s.sclk)).testBit 4 = true) ∧
        (x.toNat ≠ 0 → x.toNat ≠ 7 → (s.chan c).hall ≠ 0 → (t.chan c).hall = x.toNat ∧ (t.chan c).count =
          countPlace (s.chInv c) 5 ((hallPlace x.toNat + 6 - hallPlace (s.chan c).hall) % 6) (s.chan c).count) := by
  have htaken := feedLines_long hraw hv hroom hne
  obtain ⟨-, hcount, -, hhall⟩ := htaken.parts h2
  rw [exec_magneticSwitchEdge hl he h2, lineLevels_held]
  refine answers_done ?_
  rw [chan_settle]
  refine ⟨fun h => ?_, fun h0 h7 hvalid => ?_⟩
  · obtain ⟨hsame, hflag⟩ := hallDecode_void (inv := s.chInv c) (v := s.chan c) h
    exact ⟨hcount.trans hsame, htaken.flag h2 hflag⟩
  · obtain ⟨hplace, hmoved⟩ := hallDecode_valid (inv := s.chInv c) h0 h7 hvalid
    exact ⟨hhall.trans hplace, hcount.trans hmoved⟩

end Settled

section Others

variable {c : Fin 8} (hl : s.live 1 = true) (he : s.chEn c = true)
include hl he

theorem quarterCount_moves (q : Fin 4) (h1 : s.chMode c = 1) : Answers (exec (.quarterCount c q) s) fun t =>
    (t.chan c).cmp = q ∧ (t.chan c).q = (if (q.val + 4 - (s.chan c).cmp) % 4 = 1 then (s.chan c).q + 1
      else if (q.val + 4 - (s.chan c).cmp) % 4 = 3 then (s.chan c).q - 1 else (s.chan c).q) := by
  rw [exec_quarterCount hl he h1]
  refine answers_done ?_
  rw [chan_settle, quarterCount_chan]
  split
  · next h =>
    rw [h]
    exact ⟨rfl, rfl⟩
  · exact ⟨rfl, rfl⟩

theorem freeConversion_flags {rs rc : BitVec 14} {x y : Int} (h1 : s.chMode c = 1)
    (h : correctPair c rs.toInt rc.toInt s = ((x, y), u)) : Answers (exec (.freeConversion c rs rc) s) fun t =>
      (t.chan c).stat = if ampBad c x y u then (s.chan c).stat ||| 1 else (s.chan c).stat := by
  rw [exec_freeConversion hl he h1]
  refine answers_done ?_
  rw [chan_settle]
  exact freeConversion_stat h

theorem losEdge_flags (hm : s.chMode c ≤ 3) : Answers (exec (.losEdge c) s) fun t =>
    (t.chan c).stat.testBit 3 = true ∧ (t.chan c).count = (s.chan c).count := by
  have hbit : ((s.chan c).stat ||| 2 ^ 3).testBit 3 = true := by rw [Nat.testBit_or, Nat.testBit_two_pow_self, Bool.or_true]
  rw [exec_losEdge hl he hm]
  refine answers_done ?_
  rw [chan_settle, chFlag, chan_putChan_self]
  exact ⟨hbit, rfl⟩

theorem ssiClockEdge_rising {data : Bool} {delay : Option (Fin 65536)} (hon : s.loopOn = true) (h3 : s.chMode c = 3)
    (hodd : (s.chan c).edge % 2 = 1) (hlen : (s.chan c).edge < 2 * s.ssiLen c) :
    Answers (exec (.ssiClockEdge c data delay) s) fun t =>
      let k := (s.chan c).edge0 + (s.chan c).edge * s.ssiHalf c
      (t.chan c).edge = (s.chan c).edge + 1 ∧ (t.chan c).rise = some k ∧
      (t.chan c).data = lineTakes k data (delay.map (·.val)) (s.chan c).data ∧
      (delay.isSome = true ∨ (s.chan c).data = [] →
        (t.chan c).data = (k + (delay.map (·.val)).getD 0, data) :: (s.chan c).data) := by
  obtain ⟨hedge, hrise, hdata⟩ := ssiEdge_rising (data := data) (delay := delay.map (·.val)) hodd hlen
  rw [exec_ssiClockEdge hl he hon h3]
  refine answers_done ?_
  rw [chan_settle]
  refine ⟨hedge, hrise, hdata, fun h => hdata.trans (lineTakes_transition ?_)⟩
  rwa [Option.isSome_map]

end Others

/-- Settles O19: levels too short for the filter leave the channel, the last sample of long ones acts as the change of the
filtered levels does, and each other event by the rule of its operation. -/
theorem localChannelEvents : Obligations.LocalChannelEvents := by
  unfold Obligations.LocalChannelEvents
  intro c s hl he
  dsimp only
  simp only [← statAt_instant]
  refine ⟨fun x m hraw hv hroom hm h0 => quadratureEdge_short hl he hraw hv hroom hm h0,
    fun x hraw hv hroom hne => ⟨quadratureEdge_counts hl he hraw hv hroom hne, indexLatch_latches hl he hraw hv hroom hne,
      magneticSwitchEdge_counts hl he hraw hv hroom hne⟩,
    quarterCount_moves hl he, fun rs rc x y u h1 h => freeConversion_flags hl he h1 h, losEdge_flags hl he,
    fun data delay hon h3 hodd hlen => ssiClockEdge_rising hl he hon h3 hodd hlen⟩

end Sys2Proof.Machine
end

section
/-! The record of a local channel: its sample, what it writes, and what it shows (R170, R171, R176). -/

namespace Sys2Proof.Machine

variable {s t u w : State} {c : Nat}

/-! The sample. -/

namespace Sampled

theorem free {n : Nat} : Sampled c s { s with free := n } := ⟨rfl, fun _ _ => rfl⟩

theorem holdLines {n : Nat} : Sampled c s (Machine.holdLines c n s) := by
  induction n generalizing s with
  | zero => exact ⟨rfl, fun _ _ => rfl⟩
  | succ n ih => exact sampleLines.trans ih

theorem catchUp {k : Nat} : Sampled c s (Machine.catchUp c k s) := by
  have hheld : Sampled c s (if (s.chan c).raw = (s.chan c).lines then s
      else Machine.holdLines c (min (k - (s.chan c).sampled) (s.filt c)) s) := by
    split
    · exact ⟨rfl, fun _ _ => rfl⟩
    · exact holdLines
  exact hheld.trans putChan

theorem time (h : Sampled c s t) : t.time = s.time := (congrArg State.time h.rest :)

end Sampled

theorem sincosSample_sampled {a b : Int} : Sampled c s (sincosSample c a b s).2 := by
  obtain ⟨n, hpair⟩ := correctPair_free (c := c) (a := a) (b := b) (s := s)
  have hcorrect : Sampled c s (correctPair c a b s).2 := by
    rw [hpair]
    exact .free
  unfold sincosSample
  dsimp only
  split
  · exact hcorrect.trans .putChan
  · exact hcorrect.trans (.trans .free .putChan)

theorem ssiAdapt_sampled : Sampled c s (ssiAdapt c s).2 := by
  unfold ssiAdapt
  dsimp only
  split
  · exact .putChan
  · split <;> exact .putChan

theorem ssiSample_sampled : Sampled c s (ssiSample c s).2 := ssiAdapt_sampled.trans .putChan

theorem chanSample_sampled {a b : Int} : Sampled c s (chanSample c a b s).2 := by
  unfold chanSample
  dsimp only
  split
  · exact sincosSample_sampled
  · exact ssiSample_sampled
  · exact .putChan
  · exact .putChan

/-- R175, R178: POS of a counting channel is the count latched. -/
theorem chanSample_count {a b : Int} (h : s.chMode c = 0 ∨ s.chMode c = 2) : (chanSample c a b s).1.1 = (s.chan c).smp.count := by
  unfold chanSample
  obtain h | h := h <;> (rw [h]; rfl)

/-- R188: POS of a winding-voltage channel is 0. -/
theorem chanSample_winding {a b : Int} (h : s.chMode c = 4) : (chanSample c a b s).1.1 = 0 := by
  unfold chanSample
  rw [h]
  rfl

/-! Memory: what a write leaves there depends on what stands there alone (R390). -/

theorem putBytes_mem_congr {a v n : Nat} (h : t.mem = s.mem) : (putBytes a v n t).mem = (putBytes a v n s).mem := by
  induction n generalizing a v s t with
  | zero => exact h
  | succ n ih => exact ih (by rw [putByte_mem, putByte_mem, h])

theorem storeWord_mem_congr {a v : Nat} {k : Bool} (h : t.mem = s.mem) : (storeWord a v k t).mem = (storeWord a v k s).mem := by
  unfold storeWord
  rw [putChk_mem, putChk_mem, putBytes_mem_congr h]

theorem readWord_congr {g x a : Nat} (h : t.mem = s.mem) : (readWord g x a t).1 = (readWord g x a s).1 := by
  unfold readWord
  split
  · exact decodeAt_of_mem h
  · rfl

theorem writeMasked_mem_congr {a v m : Nat} {k : Bool} (h : t.mem = s.mem) :
    (writeMasked a v m k t).mem = (writeMasked a v m k s).mem := by
  unfold writeMasked
  dsimp only
  rw [readWord_congr h]
  split
  · exact storeWord_mem_congr h
  · exact storeWord_mem_congr (by rw [readWord_mem, readWord_mem, h])

theorem put32_mem_congr {a v : Nat} {k : Bool} (h : t.mem = s.mem) : (put32 a v k t).mem = (put32 a v k s).mem := by
  unfold put32 write32
  split <;> exact writeMasked_mem_congr h

theorem writeNet_mem_congr {j : Nat} {vs : List Nat} (h : t.mem = s.mem) : (writeNet j vs t).mem = (writeNet j vs s).mem := by
  induction vs generalizing j s t with
  | nil => exact h
  | cons v vs ih => exact ih (put32_mem_congr h)

/-! What follows the words of a record. -/

/-- From s to t the memories, the channels, the clocks and FB_CH_POS of channel c stay. -/
structure Shown (c : Nat) (s t : State) : Prop where
  mem : t.mem = s.mem
  chans : t.chans = s.chans
  time : t.time = s.time
  pos : t.reg (Reg.FB_CH_POS c) = s.reg (Reg.FB_CH_POS c)

namespace Shown

theorem refl (s : State) : Shown c s s := ⟨rfl, rfl, rfl, rfl⟩

theorem trans (h : Shown c s t) (k : Shown c t u) : Shown c s u :=
  ⟨k.mem.trans h.mem, k.chans.trans h.chans, k.time.trans h.time, k.pos.trans h.pos⟩

theorem onlyIf {b : Bool} {f : State → State} (h : Shown c s (f s)) : Shown c s (Machine.onlyIf b f s) := by
  cases b
  · exact refl s
  · exact h

theorem forAll {α : Type} {f : α → State → State} (h : ∀ x t, Shown c t (f x t)) (xs : List α) :
    Shown c s (Machine.forAll xs f s) := forAll_keeps (fun x t ht => ht.trans (h x t)) xs (refl s)

theorem setRf {a hi lo v : Nat} (h : Reg.FB_CH_POS c ≠ a) : Shown c s (Machine.setRf a hi lo v s) :=
  ⟨rfl, rfl, rfl, reg_setRf_other h⟩

theorem incRf {a hi lo : Nat} (h : Reg.FB_CH_POS c ≠ a) : Shown c s (Machine.incRf a hi lo s) :=
  ⟨rfl, rfl, rfl, reg_setReg_other h⟩

theorem orReg {a m : Nat} (h : Reg.FB_CH_POS c ≠ a) : Shown c s (Machine.orReg a m s) :=
  ⟨rfl, rfl, rfl, reg_orReg_other h⟩

variable (hc : c < 8)
include hc

theorem event {code cls inst x y : Nat} : Shown c s (Machine.event code cls inst x y s) where
  mem := event_mem
  chans := (congrArg State.chans (Logs.event (s := s)).rest :)
  time := (congrArg State.time (Logs.event (s := s)).rest :)
  pos := reg_event (by unfold Reg.FB_CH_POS Reg.EVL_LOST; omega)

theorem stickyEvent {src reg b cls inst a : Nat} (h : Reg.FB_CH_POS c ≠ a) :
    Shown c s (Machine.stickyEvent src reg b cls inst a s) := by
  unfold Machine.stickyEvent
  split
  · exact orReg h
  · exact (orReg h).trans (event hc)

theorem chanStat {st : Nat} : Shown c s (Machine.chanStat c st s) :=
  forAll (fun _ _ => onlyIf (stickyEvent hc (by unfold Reg.FB_CH_POS Reg.FB_CH_STAT; omega))) _

omit hc

theorem stepFeedback {pos n : Nat} {bad : Bool} : Shown c s (Machine.stepFeedback pos bad n s) := by
  have hput (t : State) (v : AxSt) : Shown c t (putAx n v t) := ⟨rfl, rfl, rfl, rfl⟩
  exact (hput _ _).trans (onlyIf (hput _ _))

theorem arrive {p : Nat} {r : RelReq} : Shown c s (Machine.arrive p r s) := by
  unfold Machine.arrive
  split <;> exact ⟨rfl, rfl, rfl, rfl⟩

theorem releaseLocal {k : Nat} : Shown c s (Machine.releaseLocal k s) :=
  forAll (fun _ _ => forAll (fun _ _ => arrive) _) _

end Shown

/-! The record. -/

/-- The state in which the sample of channel c is taken (R171). -/
def chanArrives (c : Nat) (s : State) : State :=
  let s := advanceTo (s.time.startTick + s.chDone c) s
  onlyIf (decide (s.chMode c ≤ 2)) (catchUp c s.sclk) s

/-- Channel c holds the sample POS, CSTAT as that of its last record (R170, R189). -/
def chanHolds (c pos st : Nat) (s : State) : State :=
  putChan c { s.chan c with pos := pos, fbinv := decide (st % 1024 ≠ 0), recCyc := some s.cyc, recd := true,
                            smp := { (s.chan c).smp with due := false } } s

/-- The registers, STEP axes and releases that follow the words of a record (R85, R107, R176). -/
def chanShows (c pos st : Nat) (s : State) : State :=
  let s := setReg (Reg.FB_CH_POS c) (BitVec.ofNat 32 pos) s
  let s := forAll (s.chanSteps c) (stepFeedback pos (decide (st % 1024 ≠ 0))) s
  let s := onlyIf (decide (st % 1024 ≠ 0)) (incRf (Reg.FB_CH_CNT c) 31 16) s
  let s := onlyIf (s.chMode c = 3) (setRf (Reg.FB_CH_STAT c) 31 16 (s.chan c).sph) s
  releaseLocal c (chanStat c st s)

theorem chanRecord_eq {a b : Int} {pos st md aux : Nat} (h : chanSample c a b (chanArrives c s) = ((pos, st, md, aux), w)) :
    ∃ rst, chanRecord c a b s = chanShows c pos st (writeNet (w.af (Reg.FB_CH_REC c) 16 0)
      [if st % 1024 ≠ 0 then 0 else 0x3F800000, rst, 256 + b2n (decide (st % 1024 ≠ 0)) * 1024, pos, st, md,
        (w.chan c).smp.zpos, aux, 0, 0] (keepUq (w.af (Reg.FB_CH_REC c) 16 0) w.cyc (chanHolds c pos st w))) := by
  unfold chanArrives at h
  dsimp only at h
  unfold chanRecord
  dsimp only
  rw [h]
  exact ⟨_, rfl⟩

theorem chanShows_shown {pos st : Nat} (hc : c < 8) :
    Shown c (setReg (Reg.FB_CH_POS c) (BitVec.ofNat 32 pos) s) (chanShows c pos st s) := by
  have hcnt : Reg.FB_CH_POS c ≠ Reg.FB_CH_CNT c := by unfold Reg.FB_CH_POS Reg.FB_CH_CNT; omega
  have hstat : Reg.FB_CH_POS c ≠ Reg.FB_CH_STAT c := by unfold Reg.FB_CH_POS Reg.FB_CH_STAT; omega
  exact ((((Shown.forAll (fun _ _ => .stepFeedback) _).trans (.onlyIf (.incRf hcnt))).trans (.onlyIf (.setRf hstat))).trans
    (.chanStat hc)).trans .releaseLocal

/-- What a record leaves: the words, the channel, the register. -/
theorem chanShows_record {pos st j : Nat} {vs : List Nat} (hc : c < 8) :
    let t := chanShows c pos st (writeNet j vs (keepUq j w.cyc (chanHolds c pos st w)))
    t.mem = (writeNet j vs w).mem ∧ t.chan c = (chanHolds c pos st w).chan c ∧ t.time = w.time ∧
      t.reg (Reg.FB_CH_POS c) = BitVec.ofNat 32 pos := by
  have hshown := chanShows_shown (pos := pos) (st := st) (s := writeNet j vs (keepUq j w.cyc (chanHolds c pos st w))) hc
  have hlogs := (Logs.writeNet j vs (keepUq j w.cyc (chanHolds c pos st w))).rest
  refine ⟨?_, ?_, ?_, ?_⟩
  · exact hshown.mem.trans (writeNet_mem_congr rfl)
  · exact congrArg (kvGet _ · c) (hshown.chans.trans (congrArg State.chans hlogs :))
  · exact hshown.time.trans (congrArg State.time hlogs :)
  · exact hshown.pos.trans reg_setReg_self

/-! The obligation. -/

theorem exec_localRecordComplete {c : Fin 8} {rs rc : BitVec 14} (hon : s.loopOn = true) (hl : s.live 1 = true)
    (he : s.chEn c = true) (hm : s.chMode c ≤ 4) (hready : s.chanReady c = true) :
    exec (.localRecordComplete c rs rc) s = done (chanRecord c rs.toInt rc.toInt s) :=
  congrArg done ((onlyIf_pos (by rw [hon, hready]; rfl)).trans
    (chanCmd_acts hl he (by simp only [List.mem_cons, List.not_mem_nil]; omega)))

theorem reg_settle_FB_CH_POS (hc : c < 8) : (settle s).reg (Reg.FB_CH_POS c) = s.reg (Reg.FB_CH_POS c) := by
  have hbelow : ¬ 0x400A0000 ≤ Reg.FB_CH_POS c := by unfold Reg.FB_CH_POS; omega
  exact settle_reg (by rw [marrowReg, decide_eq_false hbelow, Bool.false_and])

theorem Passes.chMode (h : Passes s t) : t.chMode c = s.chMode c := h.af _ _ _

theorem chanArrives_sampled : Sampled c (advanceTo (s.time.startTick + s.chDone c) s) (chanArrives c s) := by
  unfold chanArrives onlyIf
  dsimp only
  split
  · exact .catchUp
  · exact ⟨rfl, fun _ _ => rfl⟩

theorem chanArrives_eq : chanArrives c s = (let v := advanceTo (s.time.startTick + s.chDone c) s
    if s.chMode c ≤ 2 then catchUp c v.sclk v else v) := by
  have hmode : (advanceTo (s.time.startTick + s.chDone c) s).chMode c = s.chMode c := Passes.advanceTo.chMode
  unfold chanArrives onlyIf
  dsimp only
  rw [hmode]
  simp only [decide_eq_true_eq]

/-- Settles O20: the sample is taken in the state that time and the lines' samples lead to, its words are written, and what
follows them leaves memory, channels and FB_CH_POS. -/
theorem localRecordIsWritten : Obligations.LocalRecordIsWritten := by
  unfold Obligations.LocalRecordIsWritten
  intro c rs rc s hon hl he hm hready u w pos st md aux hu hsample
  rw [← chanArrives_eq] at hu
  subst hu
  have hpass : Passes s (advanceTo (s.time.startTick + s.chDone c) s) := .advanceTo
  have hmode : (chanArrives c s).chMode c = s.chMode c := chanArrives_sampled.chMode.trans hpass.chMode
  have hpos : pos = (chanSample c rs.toInt rc.toInt (chanArrives c s)).1.1 := by rw [hsample]
  have hw : Sampled c (advanceTo (s.time.startTick + s.chDone c) s) w := by
    have h := chanSample_sampled (c := c) (a := rs.toInt) (b := rc.toInt) (s := chanArrives c s)
    rw [hsample] at h
    exact chanArrives_sampled.trans h
  have hrec : w.af (Reg.FB_CH_REC c) 16 0 = s.af (Reg.FB_CH_REC c) 16 0 :=
    congrArg (fld · 16 0) (act_congr (hw.actv.trans hpass.actv) _)
  obtain ⟨rst, hrecord⟩ := chanRecord_eq hsample
  rw [hrec] at hrecord
  refine ⟨fun h => hpos.trans (chanSample_count (by rwa [hmode])), fun h => hpos.trans (chanSample_winding (hmode.trans h)), ?_⟩
  rw [exec_localRecordComplete hon hl he hm hready, hrecord]
  obtain ⟨hmem, hchan, htime, hshown⟩ := chanShows_record (c := c) (pos := pos) (st := st) (w := w)
    (j := s.af (Reg.FB_CH_REC c) 16 0) (vs := [if st % 1024 ≠ 0 then 0 else 0x3F800000, rst,
      256 + b2n (decide (st % 1024 ≠ 0)) * 1024, pos, st, md, (w.chan c).smp.zpos, aux, 0, 0]) c.isLt
  refine answers_done ⟨?_, (reg_settle_FB_CH_POS c.isLt).trans hshown, ?_⟩
  · rw [settle_time, htime, hw.time]
    exact advanceTo_tick
  · rw [chan_settle, hchan, chanHolds, chan_putChan_self, settle_mem]
    exact ⟨rfl, rfl, rfl, rfl, rst, hmem⟩

end Sys2Proof.Machine
end

section
/-! Registers that time, passing by itself, leaves as they are (R53, R96, R211, R399, R432). -/

namespace Sys2Proof.Machine

variable {s t : State} {a : Nat}

/-- The register at a lies between the windows of the loop engine and of memory integrity, at no offset of a report that
names a pod or a ring, whatever its number. -/
abbrev quietReg (a : Nat) : Prop :=
  0x40050000 ≤ a ∧ a < 0x400C0000 ∧ a % 256 ≠ 0x0C ∧ a % 256 ≠ 0x10 ∧ a % 256 ≠ 0x18 ∧ a % 256 ≠ 0x1C ∧ a % 256 ≠ 0x20

theorem reg_incRf_other {b hi lo : Nat} (h : a ≠ b) : (incRf b hi lo s).reg a = s.reg a := reg_setReg_other h

theorem reg_onlyIf {c : Bool} {f : State → State} (h : (f s).reg a = s.reg a) : (onlyIf c f s).reg a = s.reg a := by
  cases c
  · rfl
  · exact h

theorem reg_ite {c : Prop} [Decidable c] {u : State} (h : t.reg a = s.reg a) (k : u.reg a = s.reg a) :
    (if c then t else u).reg a = s.reg a := by
  split
  · exact h
  · exact k

theorem reg_irq {i : FwIrq} : (irq i s).reg a = s.reg a := by
  unfold irq
  split <;> rfl

theorem reg_flagEvent_other {src reg b cls inst c : Nat} (hc : a ≠ c) (hl : a ≠ Reg.EVL_LOST) :
    (flagEvent src reg b cls inst c s).reg a = s.reg a := (reg_event hl).trans (reg_orReg_other hc)

theorem reg_putBytes {w v n : Nat} : (putBytes w v n s).reg a = s.reg a := by
  induction n generalizing w v s with
  | zero => rfl
  | succ n ih => exact ih.trans rfl

theorem reg_storeWord {w v : Nat} {k : Bool} : (storeWord w v k s).reg a = s.reg a := reg_putBytes

section Quiet

variable (hq : quietReg a)
include hq

theorem quietReg_lost : a ≠ Reg.EVL_LOST := by
  unfold Reg.EVL_LOST
  omega

/-! Memory. -/

theorem reg_memErr {b inst : Nat} : (memErr b inst s).reg a = s.reg a := by
  have hne : a ≠ Reg.MEM_ERR := by unfold Reg.MEM_ERR; omega
  exact (reg_onlyIf reg_irq).trans (reg_flagEvent_other hne (quietReg_lost hq))

theorem reg_memElog {m agent chan w : Nat} {r : RdOut} : (memElog m agent chan w r s).reg a = s.reg a := by
  have hlog : a ≠ Reg.MEM_ELOG := by unfold Reg.MEM_ELOG; omega
  have hsyn : a ≠ Reg.MEM_ELOG_SYN := by unfold Reg.MEM_ELOG_SYN; omega
  exact reg_onlyIf ((reg_setReg_other hlog).trans (reg_setReg_other hsyn))

theorem reg_logRead {m agent chan w : Nat} {r : RdOut} : (logRead m agent chan w r s).reg a = s.reg a := by
  have hce : a ≠ Reg.MEM_CE_CNT m := by unfold Reg.MEM_CE_CNT; omega
  have hue : a ≠ Reg.MEM_UE_CNT m := by unfold Reg.MEM_UE_CNT; omega
  have hrom : a ≠ Reg.MEM_ROM_CNT := by unfold Reg.MEM_ROM_CNT; omega
  have hclog : a ≠ Reg.MEM_CLOG := by unfold Reg.MEM_CLOG; omega
  have hmem {t : State} {b inst : Nat} (h : t.reg a = s.reg a) : (memErr b inst t).reg a = s.reg a := (reg_memErr hq).trans h
  have hcnt {t : State} {b hi lo : Nat} (hb : a ≠ b) (h : t.reg a = s.reg a) : (incRf b hi lo t).reg a = s.reg a :=
    (reg_incRf_other hb).trans h
  unfold logRead
  dsimp only
  split
  · rfl
  · have hset (v : Word) : (setReg Reg.MEM_CLOG v s).reg a = s.reg a := reg_setReg_other hclog
    exact reg_ite (hmem (hcnt hrom (hset _))) (hmem (reg_ite (hcnt hce (hset _)) (hcnt hce (hset _))))
  · exact reg_ite (hmem (hcnt hrom (reg_memElog hq))) (hmem (hcnt hue (reg_memElog hq)))
  · have hlog (t : State) (h : t.reg a = s.reg a) : (memElog m agent chan w r t).reg a = s.reg a := (reg_memElog hq).trans h
    exact reg_ite (hmem (hcnt hrom (hlog _ rfl))) (hmem (hcnt hue (hlog _ rfl)))

theorem reg_readWord {agent chan w : Nat} : (readWord agent chan w s).2.reg a = s.reg a := by
  unfold readWord
  split
  · exact reg_logRead hq
  · rfl

theorem reg_write32 {w v : Nat} {k : Bool} : (write32 w v k s).reg a = s.reg a := by
  have hmask (v m : Nat) : (writeMasked w v m k s).reg a = s.reg a := by
    unfold writeMasked
    exact reg_ite reg_storeWord (reg_storeWord.trans (reg_readWord hq))
  unfold write32
  exact reg_ite (hmask _ _) (hmask _ _)

theorem reg_put32 {w v : Nat} {k : Bool} : (put32 w v k s).reg a = s.reg a := (reg_write32 hq).trans rfl

theorem reg_writeNet {w : Nat} {vs : List Nat} : (writeNet w vs s).reg a = s.reg a := by
  induction vs generalizing w s with
  | nil => rfl
  | cons v vs ih => exact ih.trans (reg_put32 hq)

/-! Writes of the peas. -/

theorem reg_commandReady {n ob cyc tick : Nat} : (commandReady n ob cyc tick s).reg a = s.reg a := by
  have hput (t : State) (v : AxSt) : (putAx n v t).reg a = t.reg a := rfl
  unfold commandReady
  exact (hput _ _).trans (reg_ite ((reg_writeNet hq).trans (reg_put32 hq)) (reg_put32 hq))

theorem reg_landAt {w : PendWr} {b : Nat} {k : Bool} : (landAt w b k s).reg a = s.reg a := by
  have hnote : (noteWord w.due b (noteHit w.due b s)).reg a = s.reg a := rfl
  have hmerge (t : State) : (mergeSecond b w.val k t).reg a = t.reg a := reg_storeWord
  unfold landAt
  exact reg_ite ((hmerge _).trans hnote) ((reg_write32 hq).trans hnote)

theorem reg_podFlags {p f : Nat} : (podFlags p f s).reg a = s.reg a := by
  have hflags : a ≠ Reg.LE_FLAGS p := by unfold Reg.LE_FLAGS; omega
  refine forAll_keeps (P := fun t => t.reg a = s.reg a) (fun b t ht => (reg_onlyIf ?_).trans ht) _ (reg_orReg_other hflags)
  exact reg_irq.trans (reg_event (quietReg_lost hq))

theorem reg_putCtx {n : Nat} {c : Ctx} (hn : n < 64) : (putCtx n c s).reg a = s.reg a := by
  have hstat : a ≠ Reg.LE_CTX_STAT n := by unfold Reg.LE_CTX_STAT; omega
  have hpod : a ≠ Reg.LE_POD_STAT (ctxPod n) := by unfold Reg.LE_POD_STAT ctxPod; omega
  exact (reg_setRf_other hpod).trans ((reg_setReg_other hstat).trans rfl)

theorem reg_ctxFlags {n p f : Nat} : (ctxFlags n p f s).reg a = s.reg a := by
  refine (reg_podFlags hq).trans ?_
  by_cases hn : n < 64
  · exact reg_onlyIf (reg_putCtx hq hn)
  · rw [onlyIf_neg (decide_eq_false hn)]

theorem reg_landWrite {w : PendWr} : (landWrite w s).reg a = s.reg a := by
  have hadd (t : State) (x : PendWr) : (addWrite x t).reg a = t.reg a := rfl
  unfold landWrite
  split
  · exact reg_landAt hq
  · exact (reg_onlyIf (hadd _ _)).trans (reg_landAt hq)
  · exact reg_ctxFlags hq
  · exact reg_commandReady hq

theorem reg_landFirst (m n : Nat) (s : State) : (landFirst m n s).reg a = s.reg a := by
  induction n generalizing s with
  | zero => rfl
  | succ n ih =>
    unfold landFirst
    split
    · rfl
    · rename_i w ws _
      have htaken : (toTick w.due { s with le := { s.le with writes := ws } }).reg a = s.reg a := rfl
      split
      · refine (ih _).trans ?_
        split
        · exact (reg_podFlags hq).trans htaken
        · exact (reg_landWrite hq).trans htaken
      · rfl

/-! Entries that turn LATE, and missing echoes. -/

theorem reg_lateEntry {p : Nat} {e : QEnt} : (lateEntry p e s).reg a = s.reg a := by
  have hinfo : a ≠ Reg.DS_FLT_INFO p := by unfold Reg.DS_FLT_INFO; omega
  have herr : a ≠ Reg.DS_ERR p := by unfold Reg.DS_ERR; omega
  have hcnt : a ≠ Reg.DS_CNT p := by unfold Reg.DS_CNT; omega
  unfold lateEntry
  exact (reg_incRf_other hcnt).trans ((reg_event (quietReg_lost hq)).trans ((reg_dsMark_other hinfo herr).trans rfl))

theorem reg_latesUpTo (m n : Nat) (s : State) : (latesUpTo m n s).reg a = s.reg a := by
  have htick (k : Nat) (t : State) : (toTick k t).reg a = t.reg a := rfl
  induction n generalizing s with
  | zero => rfl
  | succ n ih =>
    unfold latesUpTo
    split
    · split
      · exact (ih _).trans ((reg_lateEntry hq).trans ((htick _ _).trans (reg_landFirst hq _ _ s)))
      · rfl
    · rfl

theorem reg_runTo {m : Nat} : (runTo m s).reg a = s.reg a := by
  have htick (k : Nat) (t : State) : (toTick k t).reg a = t.reg a := rfl
  exact (htick _ _).trans ((reg_landFirst hq _ _ _).trans (reg_latesUpTo hq _ _ s))

theorem reg_missedEcho {r : Nat} : (netErr r 5 s).reg a = s.reg a := by
  have herr : a ≠ Reg.NET_ERR r := by unfold Reg.NET_ERR; omega
  have hseq : a ≠ Reg.NET_CNT_SEQ r := by unfold Reg.NET_CNT_SEQ; omega
  exact (reg_incRf_other hseq).trans (reg_flagEvent_other herr (quietReg_lost hq))

theorem reg_echoesUpTo (m n : Nat) (s : State) : (echoesUpTo m n s).reg a = s.reg a := by
  have htake (t : State) (es : List EchoPend) : ({ t with net := { t.net with echoes := es } } : State).reg a = t.reg a := rfl
  induction n generalizing s with
  | zero => rfl
  | succ n ih =>
    unfold echoesUpTo
    split
    · split
      · exact (ih _).trans ((reg_missedEcho hq).trans ((htake _ _).trans (reg_runTo hq)))
      · rfl
    · rfl

theorem reg_advanceTo {m : Nat} : (advanceTo m s).reg a = s.reg a := by
  unfold advanceTo
  exact reg_ite rfl ((reg_runTo hq).trans (reg_echoesUpTo hq _ _ s))

theorem reg_advanceNs {n : Nat} : (advanceNs n s).reg a = s.reg a := by
  unfold advanceNs
  exact reg_ite rfl (Eq.trans rfl (reg_advanceTo hq))

end Quiet

end Sys2Proof.Machine
end

section
/-! Beacons and SYNC frames: the frame that leaves, its instant, and the coldstart window (R206, R217, R234, R236, R257 to R259). -/

namespace Sys2Proof.Machine

variable {s t u : State} {p d r : Nat}

/-! Sending. -/

/-- The timestamp of an SD takes free values and nothing else. -/
theorem sendSd_only : ∃ k, (sendSd p d s).2 = { s with free := k } := by
  unfold sendSd
  dsimp only
  split <;> exact ⟨_, rfl⟩

theorem openWindow_only : ∃ x, openWindow s = { s with slt := x } := by
  unfold openWindow
  split <;> exact ⟨_, rfl⟩

/-- The SD depends on the time base, the role and the free values. -/
theorem sendSd_openWindow : (sendSd p d (openWindow s)).1 = (sendSd p d s).1 := by
  obtain ⟨x, hx⟩ := openWindow_only (s := s)
  have hrole : ({ s with slt := x } : State).role (p / 2) = s.role (p / 2) := rfl
  rw [hx]
  unfold sendSd
  dsimp only
  rw [hrole]
  split <;> rfl

/-- R234: in COLD the first beacon opens the window. -/
theorem openWindow_opens (hcs : s.csState = 3) (hw : s.slt.window = none) : (openWindow s).slt.window = some s.time.ns := by
  unfold openWindow
  rw [hcs, hw]
  rfl

theorem leadSent_congr (hnet : t.net = s.net) (htime : t.time = s.time) (hactv : t.actv = s.actv) :
    t.leadSent p = s.leadSent p := by
  unfold State.leadSent State.ring
  rw [hnet, cyc_congr htime hactv]

theorem af_congr {a hi lo : Nat} (hactv : t.actv = s.actv) : t.af a hi lo = s.af a hi lo :=
  congrArg (fld · hi lo) (act_congr hactv a)

theorem owner_congr (hactv : t.actv = s.actv) (hpcr : t.pcr = s.pcr) : t.owner r = s.owner r := by
  unfold State.owner State.role State.ownId
  simp only [af_congr hactv, hpcr]

/-! Beacons (R236, Table 8-4). -/

/-- The beacon of ring r, without its lead pair. -/
def State.beaconFrame (s : State) (r : Nat) : Frame :=
  mkFrame (headOf 4 1 0x70 r (s.owner r) s.cyc 0 0)
    (s.beaconWords (s.beaconAnswer r) (s.beaconRef r (s.beaconAnswer r).1))

theorem beaconFrame_congr (htime : t.time = s.time) (hactv : t.actv = s.actv) (hpcr : t.pcr = s.pcr) (hslt : t.slt = s.slt)
    (hnet : t.net = s.net) (hcs : t.csState = s.csState) : t.beaconFrame r = s.beaconFrame r := by
  have hcyc : t.cyc = s.cyc := cyc_congr htime hactv
  have hans : t.beaconAnswer r = s.beaconAnswer r := by
    unfold State.beaconAnswer State.claim
    rw [hslt, hcyc]
  have href (g : Nat) : t.beaconRef r g = s.beaconRef r g := by
    unfold State.beaconRef State.ring
    simp only [af_congr hactv, hnet]
  have hwords (ans : Nat × Nat × Nat) (ref : Nat) : t.beaconWords ans ref = s.beaconWords ans ref := by
    unfold State.beaconWords State.ownId
    simp only [af_congr hactv, act_congr hactv, hpcr, hcyc, hcs]
  unfold State.beaconFrame
  rw [hcyc, hans, owner_congr hactv hpcr, href, hwords]

/-- The state in which the beacon of ring r leaves. -/
def beaconInstant (r : Nat) (s : State) : State :=
  advanceNs (min (s.at16 (s.af (Reg.SLT_BCN r) 23 0)) (s.time.nextNs - 1)) s

theorem beaconSend_eq : beaconSend r s =
    (sendFrame (2 * r) (s.af (Reg.SLT_BCN r) 23 0) ((openWindow (beaconInstant r s)).beaconFrame r)
      (openWindow (beaconInstant r s))).2 := rfl

/-- A frame that leaves is all that leaves, and takes free values besides. -/
theorem sendFrame_only {f : Frame} : ∃ k, (sendFrame p d f s).2 =
    { s with free := k, outs := s.outs ++ [.frame p (sendSd p d s).1 { f with lead := s.leadSent p }] } := by
  obtain ⟨k, hk⟩ := sendSd_only (s := s) (p := p) (d := d)
  have h : (sendFrame p d f s).2 = emitFrame p (sendSd p d s).1 f (sendSd p d s).2 := rfl
  rw [h, hk]
  exact ⟨k, rfl⟩

theorem settle_csState : (settle s).csState = s.csState := rf_of_reg (settle_reg rfl)

theorem exec_beaconSend {r : Fin 4} (hon : s.netOn = true) (hb : s.beaconing = true) (he : s.ringEn r = true)
    (hr : s.role r ≠ 2) (ha : s.ab (Reg.SLT_BCN r) 31 = true) : exec (.beaconSend r) s = done (beaconSend r s) :=
  congrArg done (onlyIf_pos (by rw [hon, hb, he, ha, decide_eq_true hr]; rfl))

theorem beaconSend_leaves {r : Fin 4} (hon : s.netOn = true) (hb : s.beaconing = true) (he : s.ringEn r = true)
    (hr : s.role r ≠ 2) (ha : s.ab (Reg.SLT_BCN r) 31 = true) (hu : u = beaconInstant r s) :
    Answers (exec (.beaconSend r) s) fun t => t.time = u.time ∧
      t.outs = s.outs ++ [.frame (2 * r) (sendSd (2 * r) (s.af (Reg.SLT_BCN r) 23 0) u).1
        { mkFrame (headOf 4 1 0x70 r (s.owner r) t.cyc 0 0)
          (t.beaconWords (t.beaconAnswer r) (t.beaconRef r (t.beaconAnswer r).1)) with lead := t.leadSent (2 * r) }] ∧
      (s.csState = 3 → s.slt.window = none → t.slt.window = some u.time.ns) := by
  have hpass : Passes s u := hu ▸ .advanceNs
  have hcs : u.csState = s.csState := hu ▸ rf_of_reg (reg_advanceNs (by decide))
  have houts : u.outs = s.outs := (congrArg State.outs hpass.rest :)
  have hslt : u.slt = s.slt := (congrArg State.slt hpass.rest :)
  obtain ⟨x, hx⟩ := openWindow_only (s := u)
  have htime : (openWindow u).time = u.time := by rw [hx]
  have hactv : (openWindow u).actv = s.actv := by rw [hx, ← hpass.actv]
  have hpcr : (openWindow u).pcr = s.pcr := by rw [hx, ← hpass.pcr]
  have hsame : (openWindow u).outs = s.outs := by rw [hx, ← houts]
  obtain ⟨k, hk⟩ := sendFrame_only (s := openWindow u) (p := 2 * r) (d := s.af (Reg.SLT_BCN r) 23 0)
    (f := (openWindow u).beaconFrame r)
  rw [exec_beaconSend hon hb he hr ha, beaconSend_eq, ← hu, hk, sendSd_openWindow]
  refine answers_done ⟨(settle_time _).trans htime, ?_, fun hcold hnone => ?_⟩
  · generalize hv : ({ openWindow u with free := k, outs := _ } : State) = v
    have hbeacon : (settle v).beaconFrame r = (openWindow u).beaconFrame r := by
      rw [← hv]
      exact beaconFrame_congr (settle_time _) (settle_actv _) (settle_pcr _) (settle_slt _) (settle_net _) settle_csState
    have hlead : (settle v).leadSent (2 * r) = (openWindow u).leadSent (2 * r) := by
      rw [← hv]
      exact leadSent_congr (settle_net _) (settle_time _) (settle_actv _)
    have howner : (settle v).owner r = s.owner r := by
      rw [← hv]
      exact owner_congr ((settle_actv _).trans hactv) ((settle_pcr _).trans hpcr)
    unfold State.beaconFrame at hbeacon
    rw [howner] at hbeacon
    rw [settle_outs, hbeacon, hlead, ← hv, hsame]
    rfl
  · rw [settle_slt]
    exact openWindow_opens (hcs.trans hcold) (hslt ▸ hnone)

end Sys2Proof.Machine
end

section
/-! Frames that are made whole: the fields and the checks that a receiver finds in them (R204 to R206, Tables 7-6, 9-2). -/

namespace Sys2Proof.Machine

/-! The header check and the CRC-32C keep their width. -/

theorem hcsBit_lt {c : Nat} (h : c < 256) : hcsBit c < 256 := by
  unfold hcsBit
  split
  · exact Nat.mod_lt _ (by decide)
  · omega

/-- The header check over one more byte. -/
def hcsByte (c b : Nat) : Nat := hcsBit (hcsBit (hcsBit (hcsBit (hcsBit (hcsBit (hcsBit (hcsBit (c ^^^ b))))))))

/-- (The bit step is made opaque: each unfolds to three of its argument, and eight of them stand in one another.) -/
theorem hcsBytes_cons {c b : Nat} {bs : List Nat} : hcsBytes c (b :: bs) = hcsBytes (hcsByte c b) bs := by
  delta hcsByte hcsBytes hcsBytes._f
  generalize hcsBit = g
  rfl

theorem hcsByte_lt {c b : Nat} (hc : c < 256) (hb : b < 256) : hcsByte c b < 256 := by
  have hx : c ^^^ b < 256 := Nat.xor_lt_two_pow (n := 8) hc hb
  unfold hcsByte
  iterate 8 apply hcsBit_lt
  exact hx

theorem hcsBytes_lt {bs : List Nat} {c : Nat} (hc : c < 256) (hbs : ∀ b ∈ bs, b < 256) : hcsBytes c bs < 256 := by
  induction bs generalizing c with
  | nil => exact hc
  | cons b bs ih =>
    rw [hcsBytes_cons]
    exact ih (hcsByte_lt hc (hbs b (.head _))) fun x hx => hbs x (.tail _ hx)

theorem bytesOf_lt {v n : Nat} : ∀ b ∈ bytesOf v n, b < 256 := by
  induction n generalizing v with
  | zero => simp [bytesOf]
  | succ n ih =>
    simp only [bytesOf, List.mem_cons, forall_eq_or_imp]
    exact ⟨Nat.mod_lt _ (by decide), ih⟩

theorem hcsOf_lt {head : Nat} : hcsOf head < 256 := hcsBytes_lt (by decide) bytesOf_lt

/-- The low bytes of a number depend on its low bits alone. -/
theorem bytesOf_mod {v n : Nat} : bytesOf (v % 256 ^ n) n = bytesOf v n := by
  induction n generalizing v with
  | zero => rfl
  | succ n ih =>
    have hlow : v % 256 ^ (n + 1) % 256 = v % 256 := Nat.mod_mod_of_dvd _ (Dvd.intro_left _ (Nat.pow_succ ..).symm)
    have hhigh : v % 256 ^ (n + 1) / 256 = v / 256 % 256 ^ n := by
      rw [Nat.pow_succ, Nat.mul_comm, Nat.mod_mul_right_div_self]
    rw [bytesOf, bytesOf, hlow, hhigh, ih]

/-- The header check covers h0 to h6. -/
theorem hcsOf_mod {head : Nat} : hcsOf (head % 2 ^ 56) = hcsOf head := congrArg (hcsBytes 0) (bytesOf_mod (n := 7))

theorem crcBit_lt {c : Nat} (h : c < 2 ^ 32) : crcBit c < 2 ^ 32 := by
  unfold crcBit
  split
  · exact Nat.xor_lt_two_pow (by omega) (by decide)
  · omega

theorem crcByte_lt {c b : Nat} (h : c < 2 ^ 32) : crcByte c b < 2 ^ 32 := by
  unfold crcByte
  iterate 8 apply crcBit_lt
  exact Nat.xor_lt_two_pow h (by omega)

theorem crcBytes_lt {bs : List Nat} {c : Nat} (h : c < 2 ^ 32) : crcBytes c bs < 2 ^ 32 := by
  induction bs generalizing c with
  | nil => exact h
  | cons b bs ih => exact ih (crcByte_lt h)

theorem frameCrc_lt {head : Nat} {ws : List Nat} : frameCrc head ws < 2 ^ 32 :=
  Nat.xor_lt_two_pow (crcBytes_lt (by decide)) (by decide)

/-! A whole frame (R206). -/

section Whole

variable {head : Nat} {ws : List Nat} {l : Option Byte} (hh : head < 2 ^ 56)
include hh

theorem mkFrame_head : (mkFrame head ws).head.toNat = head + hcsOf head * 2 ^ 56 := by
  have hlt := hcsOf_lt (head := head)
  exact (BitVec.toNat_ofNat ..).trans (Nat.mod_eq_of_lt (by omega))

theorem mkFrame_hcsOk : fHcsOk { mkFrame head ws with lead := l } = true := by
  have hlt := hcsOf_lt (head := head)
  have hhead := mkFrame_head (ws := ws) hh
  have hlow : hcsOf (head + hcsOf head * 2 ^ 56) = hcsOf head := by
    rw [← hcsOf_mod, Nat.add_mul_mod_self_right, hcsOf_mod]
  unfold fHcsOk
  dsimp only
  rw [hhead, hlow, decide_eq_true_eq]
  unfold bitsOf
  rw [Nat.shiftRight_eq_div_pow]
  omega

theorem mkFrame_crcOk : fCrcOk { mkFrame head ws with lead := l } = true := by
  have hlt := hcsOf_lt (head := head)
  have hhead := mkFrame_head (ws := ws) hh
  have hcrc : (mkFrame head ws).crc.toNat = frameCrc (head + hcsOf head * 2 ^ 56) ws :=
    (BitVec.toNat_ofNat ..).trans (Nat.mod_eq_of_lt frameCrc_lt)
  have hws : (mkFrame head ws).words.map (·.toNat) = ws.map (· % 2 ^ 32) := by
    unfold mkFrame
    simp only [List.map_map]
    exact List.map_congr_left fun w _ => BitVec.toNat_ofNat w 32
  have hwords : frameCrc (head + hcsOf head * 2 ^ 56) (ws.map (· % 2 ^ 32)) = frameCrc (head + hcsOf head * 2 ^ 56) ws := by
    have hbytes (w : Nat) : bytesOf (w % 2 ^ 32) 4 = bytesOf w 4 := bytesOf_mod (n := 4)
    unfold frameCrc
    simp only [List.flatMap_map, hbytes]
  unfold fCrcOk
  dsimp only
  rw [hhead, hcrc, hws, hwords, decide_eq_true_eq]

/-- A field of the header below its check. -/
theorem mkFrame_bits {hi lo : Nat} (hhi : hi < 56) (h : lo ≤ hi) : bitsOf (mkFrame head ws).head.toNat hi lo = bitsOf head hi lo := by
  have hsplit : 2 ^ 56 = 2 ^ lo * (2 ^ (hi + 1 - lo) * 2 ^ (55 - hi)) := by
    rw [← Nat.pow_add, ← Nat.pow_add]
    congr 1
    omega
  rw [mkFrame_head hh]
  unfold bitsOf
  rw [Nat.shiftRight_eq_div_pow, Nat.shiftRight_eq_div_pow, hsplit, Nat.mul_left_comm,
    Nat.add_mul_div_left _ _ (Nat.two_pow_pos lo), Nat.mul_left_comm, Nat.add_mul_mod_self_left]

end Whole
end Sys2Proof.Machine
end

section
/-! SYNC frames: when they leave, and what they say (R217, R257 to R259, Table 9-2). -/

namespace Sys2Proof.Machine

variable {s t u : State} {p d r : Nat}

/-! Headers (Table 7-6). -/

section Header

variable {type dir slot ring cid seq age tref : Nat} {ws : List Nat} {l : Option Byte}

theorem headOf_lt : headOf type dir slot ring cid seq age tref < 2 ^ 56 := by
  unfold headOf
  omega

theorem mkFrame_type : fType { mkFrame (headOf type dir slot ring cid seq age tref) ws with lead := l } = type % 16 := by
  refine (mkFrame_bits (ws := ws) headOf_lt (by decide) (by decide)).trans ?_
  unfold bitsOf headOf
  rw [Nat.shiftRight_zero]
  omega

theorem mkFrame_seq : fSeq { mkFrame (headOf type dir slot ring cid seq age tref) ws with lead := l } = seq % 65536 := by
  refine (mkFrame_bits (ws := ws) headOf_lt (by decide) (by decide)).trans ?_
  unfold bitsOf headOf
  rw [Nat.shiftRight_eq_div_pow]
  omega

theorem mkFrame_dir : fDir { mkFrame (headOf type dir slot ring cid seq age tref) ws with lead := l } = decide (dir % 2 = 1) := by
  have hbit : bitsOf (mkFrame (headOf type dir slot ring cid seq age tref) ws).head.toNat 6 6 = dir % 2 := by
    refine (mkFrame_bits (ws := ws) headOf_lt (by decide) (by decide)).trans ?_
    unfold bitsOf headOf
    rw [Nat.shiftRight_eq_div_pow]
    omega
  have hdir : fDir { mkFrame (headOf type dir slot ring cid seq age tref) ws with lead := l } =
      (mkFrame (headOf type dir slot ring cid seq age tref) ws).head.toNat.testBit 6 := rfl
  rw [hdir, Nat.testBit_eq_decide_div_mod_eq, ← hbit]
  unfold bitsOf
  rw [Nat.shiftRight_eq_div_pow]
  rfl

end Header

/-- The time that a payload begins with. -/
theorem mkFrame_time {head t16 hi16 : Nat} {ws : List Nat} {l : Option Byte} :
    fTime { mkFrame head (timeWords t16 hi16 ++ ws) with lead := l } = t16 * 4096 % 2 ^ 80 := by
  have h0 : fWord { mkFrame head (timeWords t16 hi16 ++ ws) with lead := l } 0 = t16 / 16 % 2 ^ 32 % 2 ^ 32 := BitVec.toNat_ofNat ..
  have h1 : fWord { mkFrame head (timeWords t16 hi16 ++ ws) with lead := l } 1 = t16 / 16 / 2 ^ 32 % 2 ^ 32 % 2 ^ 32 :=
    BitVec.toNat_ofNat ..
  have h2 : fWord { mkFrame head (timeWords t16 hi16 ++ ws) with lead := l } 2 =
      (t16 % 16 * 4096 + hi16 % 65536 * 65536) % 2 ^ 32 := BitVec.toNat_ofNat ..
  unfold fTime
  rw [h0, h1, h2]
  omega

/-! SYNC (R259). -/

/-- The state in which the SYNC of port p leaves. -/
def syncInstant (p : Nat) (s : State) : State :=
  advanceNs (min (s.at16 (s.af (Reg.SYN_SS (8 * (p / 2) + p % 2)) 23 0)) (s.time.nextNs - 1)) s

/-- A SYNC frame of port p, whose slot, CID and last words depend on the state, without its lead pair. -/
def syncFrame (p slot cid cyc sd hi16 : Nat) (ws : List Nat) : Frame :=
  mkFrame (headOf 3 1 slot (p / 2) cid cyc 0 0) (timeWords sd hi16 ++ ws)

theorem syncSend_eq (hu : u = syncInstant p s) {sd : Nat} {w : State}
    (hsd : sendSd p (s.af (Reg.SYN_SS (8 * (p / 2) + p % 2)) 23 0) u = (sd, w)) :
    ∃ slot cid hi16 ws, syncSend p s = emitFrame p sd (syncFrame p slot cid w.cyc sd hi16 ws) w := by
  generalize hdef : syncSend = send
  delta syncSend at hdef
  subst hdef
  beta_reduce
  extract_lets r inst v
  have hv : v = u := hu.symm
  have hinst : sendSd p inst v = (sd, w) := hv ▸ hsd
  clear_value v inst
  rw [hinst]
  dsimp only
  split <;> exact ⟨_, _, _, _, rfl⟩

theorem syncFrame_says {slot cid cyc sd hi16 : Nat} {ws : List Nat} {l : Option Byte} :
    let f := { syncFrame p slot cid cyc sd hi16 ws with lead := l }
    fType f = 3 ∧ fDir f = true ∧ fSeq f = cyc % 65536 ∧ fTime f = sd * 4096 % 2 ^ 80 ∧ fHcsOk f = true ∧ fCrcOk f = true :=
  ⟨mkFrame_type, mkFrame_dir, mkFrame_seq, mkFrame_time, mkFrame_hcsOk headOf_lt, mkFrame_crcOk headOf_lt⟩

theorem exec_syncSend {p : Fin 8} (hon : s.netOn = true) (hdue : s.syncDue p = true) :
    exec (.syncSend p) s = done (syncSend p s) := congrArg done (onlyIf_pos (by rw [hon, hdue]; rfl))

theorem syncSend_leaves {p : Fin 8} (hon : s.netOn = true) (hdue : s.syncDue p = true) (hu : u = syncInstant p s) :
    Answers (exec (.syncSend p) s) fun t => t.time = u.time ∧ ∃ f, t.outs = s.outs ++
      [.frame p (sendSd p (s.af (Reg.SYN_SS (8 * (p.val / 2) + p.val % 2)) 23 0) u).1 f] ∧ fType f = 3 ∧ fDir f = true ∧
        fSeq f = t.cyc % 65536 ∧
        fTime f = (sendSd p (s.af (Reg.SYN_SS (8 * (p.val / 2) + p.val % 2)) 23 0) u).1 * 4096 % 2 ^ 80 ∧
        fHcsOk f = true ∧ fCrcOk f = true := by
  have hpass : Passes s u := hu ▸ .advanceNs
  have houts : u.outs = s.outs := (congrArg State.outs hpass.rest :)
  have hcyc (v : State) : (settle v).cyc = v.cyc := cyc_congr (settle_time v) (settle_actv v)
  obtain ⟨k, hk⟩ := sendSd_only (s := u) (p := p) (d := s.af (Reg.SYN_SS (8 * (p.val / 2) + p.val % 2)) 23 0)
  rw [exec_syncSend hon hdue]
  generalize hsd : sendSd p (s.af (Reg.SYN_SS (8 * (p.val / 2) + p.val % 2)) 23 0) u = sent at hk ⊢
  obtain ⟨sd, w⟩ := sent
  dsimp only at hk ⊢
  have htime : w.time = u.time := by rw [hk]
  have hkept : w.outs = s.outs := by rw [hk, ← houts]
  obtain ⟨slot, cid, hi16, ws, hsend⟩ := syncSend_eq hu hsd
  rw [hsend]
  refine answers_done ⟨(settle_time _).trans htime, ?_⟩
  refine ⟨{ syncFrame p slot cid w.cyc sd hi16 ws with lead := w.leadSent p }, ?_, ?_⟩
  · exact (settle_outs _).trans (congrArg (· ++ _) hkept)
  · rw [hcyc]
    exact syncFrame_says

/-- Settles O33: the advance to the instant leaves what a beacon says and the start-up state; what follows sends the frame
and takes free values. -/
theorem beaconsAndSyncFramesLeave : Obligations.BeaconsAndSyncFramesLeave := by
  unfold Obligations.BeaconsAndSyncFramesLeave
  intro s hon
  exact ⟨fun r hb he hr ha => beaconSend_leaves hon hb he hr ha rfl, fun p hdue => syncSend_leaves hon hdue rfl⟩

end Sys2Proof.Machine
end

section
/-! The guardian: a frame that fails a check, and one that is admitted (R211, R213, R230, R250). -/

namespace Sys2Proof.Machine

variable {s t u : State} {p r b n sd : Nat} {f : Frame}

/-! What a report leaves of the rings. -/

theorem event_net {code cls inst x y : Nat} : (event code cls inst x y s).net = s.net := (congrArg State.net Logs.event.rest :)

theorem flagEvent_net {src reg cls inst a : Nat} : (flagEvent src reg b cls inst a s).net = s.net := event_net

/-- R219: a notice of a position in the register at a, with the places of the position, its valid bit and SEGOK. -/
def noticeAt (a vb hi lo sb pos : Nat) (seg : Bool) (s : State) : State :=
  let s := if !seg || !(s.rb a vb) then setRf a hi lo pos (setRb a vb true s) else s
  if seg then setRb a sb true s else s

theorem ringNotice_single {pos : Nat} {seg : Bool} (hr : s.role (p / 2) = 0) : ringNotice p pos seg s =
    if p % 2 = 0 then noticeAt (Reg.NET_RING_STAT (p / 2)) 15 14 8 6 pos seg s
    else noticeAt (Reg.NET_RING_STAT (p / 2)) 23 22 16 7 pos seg s := by
  unfold ringNotice
  dsimp only
  rw [if_neg (not_not.2 hr)]
  by_cases hp : p % 2 = 0
  · simp only [if_pos hp]
    rfl
  · simp only [if_neg hp]
    rfl

theorem ringNotice_shared {pos : Nat} {seg : Bool} (hr : s.role (p / 2) ≠ 0) : ringNotice p pos seg s = s := if_pos hr

theorem noticeAt_net {a vb hi lo sb pos : Nat} {seg : Bool} : (noticeAt a vb hi lo sb pos seg s).net = s.net := by
  unfold noticeAt
  dsimp only
  split <;> split <;> rfl

theorem ringNotice_net {pos : Nat} {seg : Bool} : (ringNotice p pos seg s).net = s.net := by
  by_cases hr : s.role (p / 2) = 0
  · rw [ringNotice_single hr]
    split <;> exact noticeAt_net
  · rw [ringNotice_shared hr]

/-- What a frame brings besides itself reaches registers alone. -/
theorem portFrame_net : (portFrame p f s).net = s.net := by
  have hring (pos : Nat) (seg : Bool) (t : State) : (ringNotice p pos seg t).net = t.net := ringNotice_net
  have hlead (t : State) : (leadNotice p f.lead t).net = t.net := by
    unfold leadNotice
    split
    · split
      · exact hring _ _ _
      · split
        · exact hring _ _ _
        · rfl
    · rfl
  exact (hlead _).trans rfl

/-- The state in which the guardian judges a frame at port p. -/
def frameInstant (p sd : Nat) (f : Frame) (s : State) : State :=
  portFrame p f (advanceNs (min (s.at16 sd) (s.time.nextNs - 1)) s)

theorem frameInstant_offEchoes : (frameInstant p sd f s).offEchoes = s.offEchoes :=
  (offEchoes_of_net portFrame_net).trans advanceNs_offEchoes

/-! A frame that fails (Table 7-8). -/

theorem netErr_net : (netErr r b s).net = s.net := by
  have hinc (a hi lo : Nat) : (incRf a hi lo (flagEvent 5 0 b clsWarn r (Reg.NET_ERR r) s)).net = s.net := flagEvent_net
  unfold netErr
  dsimp only
  split
  case h_7 => exact flagEvent_net
  all_goals exact hinc _ _ _

/-- The bit of a check that fails is set. -/
theorem netErr_sets (hr : r < 4) (hb : b < 32) : (netErr r b s).rb (Reg.NET_ERR r) b = true := by
  have hlost : Reg.NET_ERR r ≠ Reg.EVL_LOST := by unfold Reg.NET_ERR Reg.EVL_LOST; omega
  have hflag : (flagEvent 5 0 b clsWarn r (Reg.NET_ERR r) s).rb (Reg.NET_ERR r) b = true := flagEvent_sets hb hlost
  have hinc {a hi lo : Nat} (h : Reg.NET_ERR r ≠ a) :
      (incRf a hi lo (flagEvent 5 0 b clsWarn r (Reg.NET_ERR r) s)).rb (Reg.NET_ERR r) b = true :=
    (rb_of_reg (reg_incRf_other h)).trans hflag
  have hfrm : Reg.NET_ERR r ≠ Reg.NET_CNT_FRM r := by unfold Reg.NET_ERR Reg.NET_CNT_FRM; omega
  have hseq : Reg.NET_ERR r ≠ Reg.NET_CNT_SEQ r := by unfold Reg.NET_ERR Reg.NET_CNT_SEQ; omega
  unfold netErr
  dsimp only
  split
  · exact hinc hfrm
  · exact hinc hfrm
  · exact hinc hfrm
  · exact hinc hfrm
  · exact hinc hseq
  · exact hinc hseq
  · exact hflag

/-- An edge violation reaches two registers of its slot, the recorder and the mutes. -/
theorem edgeViolation_net : (edgeViolation n s).net = s.net := by
  have hmute (t : State) : (muteEvent n t).net = t.net := event_net
  unfold edgeViolation
  dsimp only
  split
  · rfl
  · split
    · rfl
    · split
      · rfl
      · exact (hmute _).trans rfl

theorem reg_edgeViolation {a : Nat} (hcnt : a ≠ Reg.SLT_ECNT n) (hstat : a ≠ Reg.SLT_SST n) (hlost : a ≠ Reg.EVL_LOST) :
    (edgeViolation n s).reg a = s.reg a := by
  have hmute (t : State) : (muteEvent n t).reg a = t.reg a := reg_event hlost
  have hinc (hi lo : Nat) (t : State) : (incRf (Reg.SLT_ECNT n) hi lo t).reg a = t.reg a := reg_incRf_other hcnt
  have hset (hi lo v : Nat) (t : State) : (setRf (Reg.SLT_SST n) hi lo v t).reg a = t.reg a := reg_setRf_other hstat
  unfold edgeViolation
  dsimp only
  split
  · rfl
  · split
    · exact hinc _ _ _
    · split
      · exact (hset _ _ _ _).trans (hinc _ _ _)
      · exact (hmute _).trans ((hinc _ _ _).trans ((hset _ _ _ _).trans (hinc _ _ s)))

/-- What follows a frame that fails check b: the report, and an edge violation of a slot or none. -/
theorem uplinkFrame_fails {w : Option Window} {edge : Bool} (hu : u = frameInstant p sd f s)
    (hg : guardFrame p sd f u = (w, .fail b edge)) : uplinkFrame p sd f s = netErr (p / 2) b u ∨
      ∃ x, w = some x ∧ uplinkFrame p sd f s = edgeViolation x.n (netErr (p / 2) b u) := by
  have hin : portFrame p f (advanceNs (min (s.at16 sd) (s.time.nextNs - 1)) s) = u := hu.symm
  unfold uplinkFrame
  dsimp only
  rw [hin, hg]
  rcases w with _ | x <;> cases edge
  case some.true => exact .inr ⟨x, rfl, rfl⟩
  all_goals exact .inl rfl

theorem uplinkFrame_admits {w : Window} (hu : u = frameInstant p sd f s) (hg : guardFrame p sd f u = (some w, .admits)) :
    uplinkFrame p sd f s = admitFrame p sd w f u := by
  have hin : portFrame p f (advanceNs (min (s.at16 sd) (s.time.nextNs - 1)) s) = u := hu.symm
  unfold uplinkFrame
  dsimp only
  rw [hin, hg]

/-- An edge violation of any slot leaves the errors of a ring. -/
theorem edgeViolation_keeps {r n : Nat} (hr : r < 4) : (edgeViolation n s).reg (Reg.NET_ERR r) = s.reg (Reg.NET_ERR r) := by
  by_cases hn : n < 324
  · exact reg_edgeViolation (by unfold Reg.NET_ERR Reg.SLT_ECNT; omega) (by unfold Reg.NET_ERR Reg.SLT_SST; omega)
      (by unfold Reg.NET_ERR Reg.EVL_LOST; omega)
  · have hsync : (decide (324 ≤ n) || s.muted n) = true := by rw [decide_eq_true (Nat.le_of_not_lt hn), Bool.true_or]
    have hsame : edgeViolation n s = s := if_pos hsync
    rw [hsame]

/-- R213: what an admitted frame leaves in a data slot: its window taken, its errors in a row forgotten, INTEG set, its
acceptance waited for. -/
theorem admitFrame_data {w : Window} (hn : w.n < 320) : ∃ due,
    (admitFrame p sd w f s).net = { s.net with
      got := s.net.got ++ [w.n], accepts := s.net.accepts ++ [⟨w.n, s.cyc, due, (List.range 7).map (fWord f), fAge f⟩] } ∧
    (admitFrame p sd w f s).rb (Reg.SLT_SST w.n) 31 = true ∧ (admitFrame p sd w f s).rf (Reg.SLT_SST w.n) 3 0 = 0 := by
  have hslot : w.n < 324 := by omega
  unfold admitFrame
  simp only [if_pos hslot, if_pos hn]
  refine ⟨_, rfl, ?_, ?_⟩
  · exact (rb_setRb (by decide)).trans (if_pos rfl)
  · refine (rf_setRf_apart (by decide) (by decide) (by decide) (by decide) (.inr (by decide))).trans ?_
    exact rf_setRf_self (s := s) (a := Reg.SLT_SST w.n) (by decide) (by decide) (by decide)

theorem exec_uplinkFrame {p : Fin 8} (hon : s.netOn = true) (he : s.ringEn (p / 2) = true) (hup : s.portUp p = true) :
    exec (.uplinkFrame p sd f) s = done (uplinkFrame p sd f s) := congrArg done (onlyIf_pos (by rw [hon, he, hup]; rfl))

/-- Settles O28: time and the frame's notices leave the windows taken and the acceptances; a failing frame sets its bit,
which an edge violation leaves, and an admitted one enters both lists. -/
theorem uplinkFramesAreGuarded : Obligations.UplinkFramesAreGuarded := by
  unfold Obligations.UplinkFramesAreGuarded
  intro p sd f s hon he hup
  dsimp only
  generalize hu : portFrame p f (advanceNs (min (s.at16 sd) (s.time.nextNs - 1)) s) = u
  have hr : p.val / 2 < 4 := by omega
  have hnet : u.offEchoes = s.offEchoes := hu ▸ frameInstant_offEchoes
  have hgot : u.net.got = s.net.got := (congrArg NetSt.got hnet :)
  have hacc : u.net.accepts = s.net.accepts := (congrArg NetSt.accepts hnet :)
  have herr (v : State) : (settle v).reg (Reg.NET_ERR (p.val / 2)) = v.reg (Reg.NET_ERR (p.val / 2)) := reg_settle_NET_ERR ⟨_, hr⟩
  refine ⟨fun w b edge hg hb => ?_, fun w hg hn => ?_⟩
  · have hset : (netErr (p.val / 2) b u).rb (Reg.NET_ERR (p.val / 2)) b = true := netErr_sets hr (by omega)
    rw [exec_uplinkFrame hon he hup]
    refine answers_done ?_
    rw [rb_of_reg (herr _), settle_net, ← hgot, ← hacc]
    obtain hfail | ⟨x, -, hfail⟩ := uplinkFrame_fails hu.symm hg
    · rw [hfail, netErr_net]
      exact ⟨hset, rfl, rfl⟩
    · rw [hfail, rb_of_reg (edgeViolation_keeps hr), edgeViolation_net, netErr_net]
      exact ⟨hset, rfl, rfl⟩
  · obtain ⟨due, hin, hinteg, hrow⟩ := admitFrame_data (p := p) (sd := sd) (f := f) (s := u) hn
    have hstat (v : State) : (settle v).reg (Reg.SLT_SST w.n) = v.reg (Reg.SLT_SST w.n) := by
      refine settle_reg ?_
      have hbelow : ¬ 0x400A0000 ≤ Reg.SLT_SST w.n := by unfold Reg.SLT_SST; omega
      rw [marrowReg, decide_eq_false hbelow, Bool.false_and]
    rw [exec_uplinkFrame hon he hup, uplinkFrame_admits hu.symm hg]
    refine answers_done ?_
    rw [rb_of_reg (hstat _), rf_of_reg (hstat _), settle_net, hin, ← hgot, ← hacc]
    exact ⟨rfl, hinteg, hrow, _, rfl, rfl, rfl, rfl⟩

end Sys2Proof.Machine
end

section
/-! A probe that is lost in a state where the register of its value is one of Marrow's. -/

namespace Sys2Proof.Machine

/-- A probe whose key stands for TAUB of ring 1280 has been lost three times in a row, and its fourth is on its way. The
register at that place is FIO_IN_CFG_3, for which Marrow holds bit 31 (R477). -/
def probePastRings : State :=
  let s := putRing 0 { pend := [⟨1, 0, keyT 1280, 0⟩] } poweredState
  { s with net := { s.net with lost := [(keyT 1280, 3)] }, fio := { s.fio with heldBits := [(Reg.FIO_IN_CFG 3, 2 ^ 31)] } }

theorem probePastRings_answers :
    exec (.probeLost 0 1) probePastRings = .next (settle (probeLost 0 1 probePastRings)) := by rfl

/-- The bit that the loss clears is set again when the logic die takes over what Marrow holds. -/
theorem probePastRings_valid : (settle (probeLost 0 1 probePastRings)).rb (keyReg (keyT 1280)) 31 = true := by decide +kernel

/-- Refutes O31: the statement bounds neither the key of a probe on its way nor what Marrow holds, so that the fourth loss may
clear the valid bit in a register of Marrow's, in which bits that Marrow holds are set in the same step. -/
theorem not_probesMeasureRoundTrips : ¬ Obligations.ProbesMeasureRoundTrips := by
  unfold Obligations.ProbesMeasureRoundTrips
  intro h
  obtain ⟨-, -, hlost⟩ := h 0 probePastRings (by decide)
  obtain ⟨t, ht, -, -, hfourth⟩ := hlost 1 ⟨1, 0, keyT 1280, 0⟩ (by decide) (fun hrun => absurd hrun (by decide))
  obtain rfl := Host.Outcome.next.inj (probePastRings_answers.symm.trans ht)
  obtain ⟨hvalid, -⟩ := hfourth (by decide)
  exact absurd (probePastRings_valid.symm.trans hvalid) (by decide)

end Sys2Proof.Machine
end

section
/-! Notices, probe rounds and restoration of a ring (R219, R222, R239). -/

namespace Sys2Proof.Machine

variable {s t : State} {p r : Nat}

/-! Fields of registers. -/

theorem settle_reg_below {a : Nat} (h : a < 0x400A0000) : (settle s).reg a = s.reg a :=
  settle_reg (by rw [marrowReg, decide_eq_false (Nat.not_le.2 h), Bool.false_and])

theorem rb_setRf {a hi lo v b : Nat} (h : lo ≤ hi) (hb : b < 32) :
    (setRf a hi lo v s).rb a b = if lo ≤ b ∧ b ≤ hi then v.testBit (b - lo) else s.rb a b := by
  unfold State.rb bit
  rw [reg_setRf_self, setFld_bit _ _ _ _ _ h hb]

theorem rf_setRb_apart {a hi lo b : Nat} {v : Bool} (h : lo ≤ hi) (hhi : hi < 32) (hb : b < 32) (hd : b < lo ∨ hi < b) :
    (setRb a b v s).rf a hi lo = s.rf a hi lo := rf_setRf_apart (Nat.le_refl b) hb h hhi hd

/-! Notices (R219). -/

/-- A LOOP notice shows its position as valid. -/
theorem noticeAt_loop {a vb hi lo sb pos : Nat} (h : lo ≤ hi) (hhi : hi < 32) (hvb : vb < 32) (hd : vb < lo ∨ hi < vb)
    (hpos : pos < 2 ^ (hi + 1 - lo)) : (noticeAt a vb hi lo sb pos false s).rb a vb = true ∧
      (noticeAt a vb hi lo sb pos false s).rf a hi lo = pos := by
  have hnotice : noticeAt a vb hi lo sb pos false s = setRf a hi lo pos (setRb a vb true s) := rfl
  rw [hnotice]
  refine ⟨?_, rf_setRf_self h hhi hpos⟩
  rw [rb_setRf h hvb, if_neg (by omega), rb_setRb hvb, if_pos rfl]

/-- A SEGOK notice shows, whether its position has to be taken or not. -/
theorem noticeAt_segok {a vb hi lo sb pos : Nat} (hsb : sb < 32) : (noticeAt a vb hi lo sb pos true s).rb a sb = true := by
  unfold noticeAt
  dsimp only
  rw [if_pos rfl, rb_setRb hsb, if_pos rfl]

theorem NET_RING_STAT_below (hr : r < 4) : Reg.NET_RING_STAT r < 0x400A0000 := by unfold Reg.NET_RING_STAT; omega

theorem exec_notices {p : Fin 8} {pos : Fin 80} (hon : s.netOn = true) (hr : s.role (p / 2) = 0) :
    exec (.loopNotice p pos) s = done (ringNotice p pos false s) ∧
      exec (.segokNotice p pos) s = done (ringNotice p pos true s) := by
  have h : (s.netOn && decide (s.role (p / 2) = 0)) = true := by rw [hon, decide_eq_true hr]; rfl
  exact ⟨congrArg done (onlyIf_pos h), congrArg done (onlyIf_pos h)⟩

theorem loopNotice_shows {p : Fin 8} {pos : Fin 80} (hon : s.netOn = true) (hr : s.role (p / 2) = 0) :
    Answers (exec (.loopNotice p pos) s) fun t => if p.val % 2 = 0
      then t.rb (Reg.NET_RING_STAT (p / 2)) 15 = true ∧ t.rf (Reg.NET_RING_STAT (p / 2)) 14 8 = pos
      else t.rb (Reg.NET_RING_STAT (p / 2)) 23 = true ∧ t.rf (Reg.NET_RING_STAT (p / 2)) 22 16 = pos := by
  have hstat (v : State) := settle_reg_below (s := v) (NET_RING_STAT_below (r := p.val / 2) (by omega))
  have hpos : pos.val < 2 ^ 7 := by omega
  rw [(exec_notices hon hr).1, ringNotice_single hr]
  refine answers_done ?_
  split
  · rw [rb_of_reg (hstat _), rf_of_reg (hstat _)]
    exact noticeAt_loop (by decide) (by decide) (by decide) (.inr (by decide)) hpos
  · rw [rb_of_reg (hstat _), rf_of_reg (hstat _)]
    exact noticeAt_loop (by decide) (by decide) (by decide) (.inr (by decide)) hpos

theorem segokNotice_shows {p : Fin 8} {pos : Fin 80} (hon : s.netOn = true) (hr : s.role (p / 2) = 0) :
    Answers (exec (.segokNotice p pos) s) fun t => t.rb (Reg.NET_RING_STAT (p / 2)) (6 + p.val % 2) = true := by
  have hstat (v : State) := settle_reg_below (s := v) (NET_RING_STAT_below (r := p.val / 2) (by omega))
  rw [(exec_notices hon hr).2, ringNotice_single hr]
  refine answers_done ((rb_of_reg (hstat _)).trans ?_)
  split
  · rename_i hp
    rw [hp]
    exact noticeAt_segok (by decide)
  · rename_i hp
    rw [Nat.mod_two_ne_zero.1 hp]
    exact noticeAt_segok (by decide)

/-! Probe rounds and restoration (R222, R239). -/

theorem ring_putRing {q : Nat} {v : RingSt} : (putRing r v s).ring q = if q = r then v else s.ring q := kvGet_kvPut

theorem ring_congr (h : t.net.rings = s.net.rings) (q : Nat) : t.ring q = s.ring q := congrArg (kvGet _ · q) h

theorem ring_settle {q : Nat} : (settle s).ring q = s.ring q := ring_congr (congrArg NetSt.rings (settle_net s)) q

theorem regWrite_NET_RING_CMD {f : State → State} (hr : r < 4) (hc : s.cpuOn = true) (hd : s.domOn 6 = true) :
    regWrite (Reg.NET_RING_CMD r) f s = f s := by
  have hblk : blkOf (Reg.NET_RING_CMD r) = 5 := by unfold blkOf Reg.NET_RING_CMD; omega
  exact regWrite_on hc (by rw [hblk]; exact hd)

theorem netProbe_starts {r : Fin 4} (hd : s.domOn 6 = true) (hc : s.cpuOn = true) (hins : (s.ring r).ins = [])
    (hrun : (s.ring r).insRun = false) : Answers (exec (.netProbe r) s) fun t =>
      t.ring r = { s.ring r with ins := s.integrated r } ∧ ∀ q, q ≠ r.val → t.ring q = s.ring q := by
  have hround : probeRound r s = putRing r { s.ring r with ins := s.integrated r } s := if_pos (by rw [hins, hrun]; rfl)
  have hexec : exec (.netProbe r) s = done (regWrite (Reg.NET_RING_CMD r) (probeRound r) s) := rfl
  rw [hexec, regWrite_NET_RING_CMD r.isLt hc hd, hround]
  refine answers_done ⟨?_, fun q hq => ?_⟩
  · rw [ring_settle, ring_putRing, if_pos rfl]
  · rw [ring_settle, ring_putRing, if_neg hq]

/-- R222: an order while a notice is held. -/
theorem restoreOrder_orders (h : s.rf (Reg.NET_RING_STAT r) 7 6 ≠ 0 ∨ s.rb (Reg.NET_RING_STAT r) 15 = true ∨
    s.rb (Reg.NET_RING_STAT r) 23 = true) : ((settle (restoreOrder r s)).ring r).restore = true := by
  have hheld : s.noticed r = true := by
    unfold State.noticed
    simp only [Bool.or_eq_true, decide_eq_true_eq]
    tauto
  unfold restoreOrder
  rw [if_pos hheld, ring_settle, ring_putRing, if_pos rfl]

theorem restoration_ordered {r : Fin 4} (hd : s.domOn 6 = true) (h : s.rf (Reg.NET_RING_STAT r) 7 6 ≠ 0 ∨
    s.rb (Reg.NET_RING_STAT r) 15 = true ∨ s.rb (Reg.NET_RING_STAT r) 23 = true) :
    (s.cpuOn = true → Answers (exec (.netRestore r) s) fun t => (t.ring r).restore = true) ∧
      (s.netOn = true → s.ab (Reg.NET_RING_CTL r) 3 = true → 1024 ≤ (s.ring r).segCnt → (s.ring r).unloop = [] →
        Answers (exec (.autoRestore r) s) fun t => (t.ring r).restore = true) := by
  refine ⟨fun hc => ?_, fun hon ha hseg hun => ?_⟩
  · have hexec : exec (.netRestore r) s = done (regWrite (Reg.NET_RING_CMD r) (restoreOrder r) s) := rfl
    rw [hexec, regWrite_NET_RING_CMD r.isLt hc hd]
    exact answers_done (restoreOrder_orders h)
  · have hexec : exec (.autoRestore r) s = done (restoreOrder r s) :=
      congrArg done (onlyIf_pos (by rw [hon, ha, decide_eq_true hseg, hun]; rfl))
    rw [hexec]
    exact answers_done (restoreOrder_orders h)

end Sys2Proof.Machine
end

section
/-! The links of the ring ports: what a receiver shows, its equaliser, and a loss (R200 to R202, R219). -/

namespace Sys2Proof.Machine

variable {s t : State} {p r a : Nat}

/-! Counters. -/

theorem satAdd_lt {w n k : Nat} : satAdd w n k < 2 ^ w := by
  have hpos := Nat.two_pow_pos w
  unfold satAdd
  omega

theorem rf_addRf_self {hi lo k : Nat} (h : lo ≤ hi) (hhi : hi < 32) :
    (addRf a hi lo k s).rf a hi lo = satAdd (hi + 1 - lo) (s.rf a hi lo) k := by
  have hset : (addRf a hi lo k s).reg a = setFld (s.reg a) hi lo (satAdd (hi + 1 - lo) (s.rf a hi lo) k) := reg_setReg_self
  exact (congrArg (fun w => fld w hi lo) hset).trans ((fld_setFld_self _ _ _ _ h hhi).trans (Nat.mod_eq_of_lt satAdd_lt))

theorem rf_addRf_apart {hi lo k hi' lo' : Nat} (h : lo ≤ hi) (hhi : hi < 32) (h' : lo' ≤ hi') (hhi' : hi' < 32)
    (hd : hi < lo' ∨ hi' < lo) : (addRf a hi lo k s).rf a hi' lo' = s.rf a hi' lo' := by
  have hset : (addRf a hi lo k s).reg a = setFld (s.reg a) hi lo (satAdd (hi + 1 - lo) (s.rf a hi lo) k) := reg_setReg_self
  exact (congrArg (fun w => fld w hi' lo') hset).trans (fld_setFld_apart _ _ _ _ _ _ h hhi h' hhi' hd)

/-! STATE of a ring follows its links (R219). -/

theorem ringState_congr (hactv : t.actv = s.actv) (hrings : t.net.rings = s.net.rings)
    (hport : ∀ q, q / 2 = r → t.portUp q = s.portUp q) : t.ringState r = s.ringState r := by
  have hab (a b : Nat) : t.ab a b = s.ab a b := congrArg (bit · b) (act_congr hactv a)
  unfold State.ringState State.ringEn State.role State.intactMap
  rw [hab, af_congr hactv, ring_congr hrings, hport (2 * r) (by omega), hport (2 * r + 1) (by omega)]

theorem ringState_lt : s.ringState r < 8 := by
  unfold State.ringState
  dsimp only
  repeat' split
  all_goals decide

theorem reg_showRing_other (h : a ≠ Reg.NET_RING_STAT r) : (showRing r s).reg a = s.reg a := by
  unfold showRing dropEchoes
  dsimp only
  split <;> exact reg_setRf_other h

theorem NET_PORT_STAT_ne {q : Nat} : Reg.NET_PORT_STAT q ≠ Reg.NET_RING_STAT r := by
  unfold Reg.NET_PORT_STAT Reg.NET_RING_STAT
  omega

/-- The ring shows the state that its links give it. -/
theorem showRing_shows (hr : r < 4) : (showRing r s).rf (Reg.NET_RING_STAT r) 2 0 = (showRing r s).ringState r := by
  have hdrop (u : State) : (dropEchoes r u).regs = u.regs ∧ (dropEchoes r u).actv = u.actv ∧
      (dropEchoes r u).net.rings = u.net.rings := by
    unfold dropEchoes
    split <;> exact ⟨rfl, rfl, rfl⟩
  obtain ⟨hregs, hactv, hrings⟩ := hdrop (setRf (Reg.NET_RING_STAT r) 2 0 (s.ringState r) s)
  have hstate : (showRing r s).ringState r = s.ringState r :=
    ringState_congr hactv hrings fun q _ => rb_of_reg (reg_showRing_other NET_PORT_STAT_ne)
  rw [hstate]
  exact (rf_of_reg (reg_congr hregs _)).trans (rf_setRf_self (by decide) (by decide) ringState_lt)

/-- After every command the rings stand as they did before it settled. -/
theorem settle_ringState (hr : r < 4) : (settle s).ringState r = s.ringState r :=
  ringState_congr (settle_actv s) (congrArg NetSt.rings (settle_net s)) fun q hq =>
    rb_of_reg (settle_reg_below (by unfold Reg.NET_PORT_STAT; omega))

/-! The equaliser (R200). -/

/-- R200: the codes by which a receiver may have moved since its last step. -/
def State.codesMoved (s : State) (p : Nat) : Nat := (s.mtick - kvGet (fun _ => 0) s.net.adapt p) * 25 / 2 ^ 18

/-- A receiver that adapts has not moved, or shows another eye; unless it is frozen its CTLE code and saturation move too. -/
theorem adaptPort_cases {freeze : Bool} : adaptPort p freeze s = s ∨ ∃ (w : State) (k x : Nat),
    w.rf (Reg.NET_PORT_STAT p) 23 20 = s.rf (Reg.NET_PORT_STAT p) 23 20 ∧
    w.rb (Reg.NET_PORT_STAT p) 4 = s.rb (Reg.NET_PORT_STAT p) 4 ∧ k ≤ 2 * s.codesMoved p ∧
    adaptPort p freeze s = if freeze then w else setRf (Reg.NET_PORT_STAT p) 23 20
      (clampInt 0 15 ((w.rf (Reg.NET_PORT_STAT p) 23 20 : Int) + (k : Nat) - s.codesMoved p)).toNat
      (setRf (Reg.NET_PORT_STAT p) 4 4 x w) := by
  have hnet (m : NetSt) : (useFree { s with net := m }).reg (Reg.NET_PORT_STAT p) = s.reg (Reg.NET_PORT_STAT p) := rfl
  unfold adaptPort
  extract_lets begun n net v x w ctle
  split
  · exact .inl rfl
  · have hreg : (useFree v).reg (Reg.NET_PORT_STAT p) = s.reg (Reg.NET_PORT_STAT p) := hnet _
    refine .inr ⟨w, x / 512 % (2 * n + 1), x / 256 % 2, ?_, ?_, ?_, rfl⟩
    · refine (rf_setRf_apart ?_ ?_ ?_ ?_ (.inr ?_)).trans (rf_of_reg hreg) <;> decide
    · exact (rb_setRf (by decide) (by decide)).trans ((if_neg (by decide)).trans (rb_of_reg hreg))
    · exact Nat.le_of_lt_succ (Nat.mod_lt _ (Nat.succ_pos _))

theorem adaptPort_held : (adaptPort p true s).rf (Reg.NET_PORT_STAT p) 23 20 = s.rf (Reg.NET_PORT_STAT p) 23 20 ∧
    (adaptPort p true s).rb (Reg.NET_PORT_STAT p) 4 = s.rb (Reg.NET_PORT_STAT p) 4 := by
  obtain h | ⟨w, k, x, hctle, hsat, -, h⟩ := adaptPort_cases (p := p) (s := s) (freeze := true)
  · rw [h]
    exact ⟨rfl, rfl⟩
  · rw [h, if_pos rfl]
    exact ⟨hctle, hsat⟩

theorem adaptPort_moves {freeze : Bool} :
    (adaptPort p freeze s).rf (Reg.NET_PORT_STAT p) 23 20 ≤ s.rf (Reg.NET_PORT_STAT p) 23 20 + s.codesMoved p ∧
    s.rf (Reg.NET_PORT_STAT p) 23 20 ≤ (adaptPort p freeze s).rf (Reg.NET_PORT_STAT p) 23 20 + s.codesMoved p := by
  have hold : s.rf (Reg.NET_PORT_STAT p) 23 20 < 16 := fld_lt _ 23 20
  obtain h | ⟨w, k, x, hctle, -, hk, h⟩ := adaptPort_cases (p := p) (s := s) (freeze := freeze)
  · rw [h]
    omega
  · rw [h]
    split
    · rw [hctle]
      omega
    · rw [hctle]
      generalize hnew : (clampInt 0 15 ((s.rf (Reg.NET_PORT_STAT p) 23 20 : Int) + (k : Nat) - s.codesMoved p)).toNat = new
      unfold clampInt at hnew
      rw [rf_setRf_self (by decide) (by decide) (by omega)]
      omega

theorem newEq_held {eq : RxEq} (hf : s.ab (Reg.NET_PORT_CTL p) 7 = true) : (newEq p eq s).regs = s.regs := by
  unfold newEq
  dsimp only
  rw [onlyIf_neg (by change (!(s.ab (Reg.NET_PORT_CTL p) 7)) = false; rw [hf]; rfl)]

theorem newEq_sets {eq : RxEq} (hf : s.ab (Reg.NET_PORT_CTL p) 7 = false) :
    (newEq p eq s).rf (Reg.NET_PORT_STAT p) 23 20 = eq.ctle ∧ (newEq p eq s).rb (Reg.NET_PORT_STAT p) 4 = eq.dfesat := by
  unfold newEq
  dsimp only
  rw [onlyIf_pos (by change (!(s.ab (Reg.NET_PORT_CTL p) 7)) = true; rw [hf]; rfl)]
  refine ⟨?_, ?_⟩
  · refine (rf_setRf_apart (by decide) (by decide) (by decide) (by decide) (.inl (by decide))).trans ?_
    exact rf_setRf_self (by decide) (by decide) eq.ctle.isLt
  · rw [rb_setRf (by decide) (by decide), if_pos (by decide)]
    cases eq.dfesat <;> rfl

end Sys2Proof.Machine
end

section
/-! LINK_UP and LINK_LOSS: what the receiver of a ring port has of its link, and when it has lost it (R200 to R202, R219). -/

namespace Sys2Proof.Machine

variable {s t : State} {p r a : Nat}

/-! LINK_UP (R201). -/

/-- The bits of a receiver: lock needs the signal, alignment the lock, and the link all three and 1,024 symbols. -/
theorem linkBits_bits {x : RxHas} {clean : Nat} : linkBits x clean < 16 ∧ (linkBits x clean).testBit 0 = x.signal ∧
    (linkBits x clean).testBit 1 = (x.signal && x.lock) ∧ (linkBits x clean).testBit 2 = (x.signal && x.lock && x.align) ∧
    (linkBits x clean).testBit 3 = (x.signal && x.lock && x.align && decide (1024 ≤ clean)) := by
  obtain ⟨signal, lock, align⟩ := x
  unfold linkBits
  dsimp only
  cases signal
  · simp
  cases lock
  · simp [Nat.testBit]
  cases align
  · simp [Nat.testBit]
  by_cases hclean : clean < 1024
  · rw [if_pos hclean, decide_eq_false (Nat.not_le.2 hclean)]
    decide
  · rw [if_neg hclean, decide_eq_true (Nat.not_lt.1 hclean)]
    decide

/-- R200: the receiver of port p with its equaliser, which one in lock adapts and one without lock has set anew. -/
def rxSettled (p : Nat) (eq : RxEq) (s : State) : State :=
  if s.rb (Reg.NET_PORT_STAT p) 1 then adaptPort p (s.ab (Reg.NET_PORT_CTL p) 7) s else newEq p eq s

/-- What the settings of a receiver have become: those that EQFRZ holds, those a few codes off, or those set anew. -/
theorem rxSettled_settings {eq : RxEq} : if s.ab (Reg.NET_PORT_CTL p) 7 = true then
      (rxSettled p eq s).rf (Reg.NET_PORT_STAT p) 23 20 = s.rf (Reg.NET_PORT_STAT p) 23 20 ∧
      (rxSettled p eq s).rb (Reg.NET_PORT_STAT p) 4 = s.rb (Reg.NET_PORT_STAT p) 4
    else if s.rb (Reg.NET_PORT_STAT p) 1 = true then
      (rxSettled p eq s).rf (Reg.NET_PORT_STAT p) 23 20 ≤ s.rf (Reg.NET_PORT_STAT p) 23 20 + s.codesMoved p ∧
      s.rf (Reg.NET_PORT_STAT p) 23 20 ≤ (rxSettled p eq s).rf (Reg.NET_PORT_STAT p) 23 20 + s.codesMoved p
    else (rxSettled p eq s).rf (Reg.NET_PORT_STAT p) 23 20 = eq.ctle ∧ (rxSettled p eq s).rb (Reg.NET_PORT_STAT p) 4 = eq.dfesat := by
  unfold rxSettled
  cases hf : s.ab (Reg.NET_PORT_CTL p) 7 <;> cases hl : s.rb (Reg.NET_PORT_STAT p) 1
  · exact newEq_sets hf
  · exact adaptPort_moves
  · exact ⟨rf_of_reg (reg_congr (newEq_held hf) _), rb_of_reg (reg_congr (newEq_held hf) _)⟩
  · exact adaptPort_held

/-- What the receiver shows besides its settings. -/
def rxShown (p eye : Nat) (eq : RxEq) (clean : Nat) (s : State) : State :=
  setRf (Reg.NET_PORT_STAT p) 3 0 (linkBits eq.has clean) (setRf (Reg.NET_PORT_STAT p) 31 24 eye (rxSettled p eq s))

theorem linkUp_down {eye clean : Nat} {eq : RxEq} (h : s.portUp p = false) :
    linkUp p eye eq clean s = showRing (p / 2) (rxShown p eye eq clean s) := if_neg (by rw [h]; decide)

theorem linkUp_up {eye clean : Nat} {eq : RxEq} (h : s.portUp p = true) : linkUp p eye eq clean s = s := if_pos h

theorem rxShown_rb {eye clean b : Nat} {eq : RxEq} (hb : b < 4) :
    (rxShown p eye eq clean s).rb (Reg.NET_PORT_STAT p) b = (linkBits eq.has clean).testBit b :=
  (rb_setRf (by decide) (by omega)).trans (if_pos (by omega))

theorem rxShown_eye {eye clean : Nat} {eq : RxEq} (h : eye < 256) : (rxShown p eye eq clean s).rf (Reg.NET_PORT_STAT p) 31 24 = eye :=
  (rf_setRf_apart (by decide) (by decide) (by decide) (by decide) (.inl (by decide))).trans
    (rf_setRf_self (by decide) (by decide) h)

theorem rxShown_settings {eye clean : Nat} {eq : RxEq} :
    (rxShown p eye eq clean s).rf (Reg.NET_PORT_STAT p) 23 20 = (rxSettled p eq s).rf (Reg.NET_PORT_STAT p) 23 20 ∧
    (rxShown p eye eq clean s).rb (Reg.NET_PORT_STAT p) 4 = (rxSettled p eq s).rb (Reg.NET_PORT_STAT p) 4 := by
  refine ⟨?_, ?_⟩
  · exact (rf_setRf_apart (by decide) (by decide) (by decide) (by decide) (.inl (by decide))).trans
      (rf_setRf_apart (by decide) (by decide) (by decide) (by decide) (.inr (by decide)))
  · exact (rb_setRf (by decide) (by decide)).trans ((if_neg (by decide)).trans
      ((rb_setRf (by decide) (by decide)).trans (if_neg (by decide))))

theorem NET_PORT_STAT_below (hp : p < 8) : Reg.NET_PORT_STAT p < 0x400A0000 := by unfold Reg.NET_PORT_STAT; omega

theorem linkUp_shows {p : Fin 8} {eye : Fin 256} {eq : RxEq} {clean : Nat} (hl : s.live 6 = true) :
    Answers (exec (.linkUp p eye eq clean) s) fun t =>
      if s.portUp p = true then t.reg (Reg.NET_PORT_STAT p) = s.reg (Reg.NET_PORT_STAT p)
      else t.rf (Reg.NET_PORT_STAT p) 31 24 = eye ∧ t.rb (Reg.NET_PORT_STAT p) 0 = eq.has.signal ∧
        t.rb (Reg.NET_PORT_STAT p) 1 = (eq.has.signal && eq.has.lock) ∧
        t.rb (Reg.NET_PORT_STAT p) 2 = (eq.has.signal && eq.has.lock && eq.has.align) ∧
        t.portUp p = (eq.has.signal && eq.has.lock && eq.has.align && decide (1024 ≤ clean)) ∧
        t.rf (Reg.NET_RING_STAT (p / 2)) 2 0 = t.ringState (p / 2) ∧
        if s.ab (Reg.NET_PORT_CTL p) 7 = true then
          t.rf (Reg.NET_PORT_STAT p) 23 20 = s.rf (Reg.NET_PORT_STAT p) 23 20 ∧
          t.rb (Reg.NET_PORT_STAT p) 4 = s.rb (Reg.NET_PORT_STAT p) 4
        else if s.rb (Reg.NET_PORT_STAT p) 1 = true then
          t.rf (Reg.NET_PORT_STAT p) 23 20 ≤ s.rf (Reg.NET_PORT_STAT p) 23 20 + s.codesMoved p ∧
          s.rf (Reg.NET_PORT_STAT p) 23 20 ≤ t.rf (Reg.NET_PORT_STAT p) 23 20 + s.codesMoved p
        else t.rf (Reg.NET_PORT_STAT p) 23 20 = eq.ctle ∧ t.rb (Reg.NET_PORT_STAT p) 4 = eq.dfesat := by
  have hr : p.val / 2 < 4 := by omega
  have hexec : exec (.linkUp p eye eq clean) s = done (linkUp p eye eq clean s) := congrArg done (onlyIf_pos hl)
  have hport (v : State) : (settle v).reg (Reg.NET_PORT_STAT p) = v.reg (Reg.NET_PORT_STAT p) :=
    settle_reg_below (NET_PORT_STAT_below p.isLt)
  rw [hexec]
  refine answers_done ?_
  split
  · rename_i hup
    rw [hport, linkUp_up hup]
  · rename_i hup
    rw [linkUp_down (Bool.not_eq_true _ ▸ hup)]
    generalize hv : rxShown p eye eq clean s = v
    have hstat : (settle (showRing (p / 2) v)).reg (Reg.NET_PORT_STAT p) = v.reg (Reg.NET_PORT_STAT p) :=
      (hport _).trans (reg_showRing_other NET_PORT_STAT_ne)
    obtain ⟨-, h0, h1, h2, h3⟩ := linkBits_bits (x := eq.has) (clean := clean)
    unfold State.portUp
    rw [rf_of_reg hstat, rb_of_reg hstat, rb_of_reg hstat, rb_of_reg hstat, rb_of_reg hstat, rb_of_reg hstat, rf_of_reg hstat,
      settle_ringState hr, rf_of_reg (settle_reg_below (NET_RING_STAT_below hr)), ← hv, rxShown_settings.1, rxShown_settings.2,
      rxShown_rb (by decide), rxShown_rb (by decide), rxShown_rb (by decide), rxShown_rb (by decide)]
    exact ⟨rxShown_eye eye.isLt, h0, h1, h2, h3, showRing_shows hr, rxSettled_settings⟩

/-! LINK_LOSS (R201, R202). -/

theorem lossSeen_iff {used : Bool} {rx : RxFail} : lossSeen used rx = true ↔ 64 ≤ rx.absent ∨ 256 ≤ rx.silent ∨
    4 ≤ (List.range 16).countP (fun i => rx.bad.getLsbD i) ∨ (4 ≤ rx.rfault ∧ used = true) := by
  unfold lossSeen
  simp only [Bool.or_eq_true, Bool.and_eq_true, decide_eq_true_eq, or_assoc]

/-- SIGDET, CDRLOCK and ALIGNED after a loss. -/
theorem afterLoss_bits {rx : RxFail} {old : Nat} (h : old < 8) : afterLoss rx old < 8 ∧
    (64 ≤ rx.absent → afterLoss rx old = 0) ∧ (rx.absent < 64 → rx.silent < 256 → afterLoss rx old = old) := by
  unfold afterLoss
  split
  · exact ⟨by decide, fun _ => rfl, fun h' => by omega⟩
  · split
    · exact ⟨by omega, fun h' => by omega, fun _ _ => Nat.mod_eq_of_lt h⟩
    · exact ⟨by omega, fun h' => by omega, fun _ h' => by omega⟩

/-- What a lost link shows in the register of its port. -/
def lossShown (a : Nat) (rx : RxFail) (s : State) : State := setRf a 3 0 (afterLoss rx (s.rf a 2 0)) s

theorem lossShown_bits {rx : RxFail} : (lossShown a rx s).rb a 3 = false ∧
    (64 ≤ rx.absent → (lossShown a rx s).rf a 3 0 = 0) ∧
    (rx.absent < 64 → rx.silent < 256 → (lossShown a rx s).rf a 2 0 = s.rf a 2 0) := by
  obtain ⟨hlt, hzero, hsame⟩ := afterLoss_bits (rx := rx) (old := s.rf a 2 0) (fld_lt _ 2 0)
  refine ⟨?_, fun h => ?_, fun h h' => ?_⟩
  · refine (rb_setRf (by decide) (by decide)).trans ((if_pos (by decide)).trans ?_)
    exact Nat.testBit_lt_two_pow hlt
  · exact (rf_setRf_self (by decide) (by decide) (by omega)).trans (hzero h)
  · refine fld_eq_of_bits (by decide) fun b _ hb => ?_
    have hset : (lossShown a rx s).rb a b = (afterLoss rx (s.rf a 2 0)).testBit b :=
      (rb_setRf (by decide) (by omega)).trans (if_pos (by omega))
    refine hset.trans ?_
    rw [hsame h h']
    exact (fld_testBit _ 2 0 b (by decide)).trans (by rw [decide_eq_true hb, Nat.zero_add]; rfl)

theorem NET_PORT_CNT_ne_STAT {q : Nat} : Reg.NET_PORT_CNT p ≠ Reg.NET_PORT_STAT q := by
  unfold Reg.NET_PORT_CNT Reg.NET_PORT_STAT
  omega

/-- R201, R202: what a loss does to a port before its ring follows; one that was up reports and counts it. -/
def portLost (p : Nat) (rx : RxFail) (s : State) : State :=
  onlyIf (s.portUp p) (fun t => observed (regEvent 5 1 16 clsWarn p (Reg.NET_PORT_CNT p) (incRf (Reg.NET_PORT_CNT p) 31 16 t)))
    (lossShown (Reg.NET_PORT_STAT p) rx (addRf (Reg.NET_PORT_CNT p) 15 0 rx.cv s))

theorem linkLoss_seen {rx : RxFail} (h : lossSeen (s.portUsed p) rx = true) :
    linkLoss p rx s = showRing (p / 2) (portLost p rx s) := if_neg (by
  have hlost : (addRf (Reg.NET_PORT_CNT p) 15 0 rx.cv s).linkLost p rx = lossSeen (s.portUsed p) rx := rfl
  rw [hlost, h]
  decide)

theorem linkLoss_unseen {rx : RxFail} (h : lossSeen (s.portUsed p) rx = false) :
    linkLoss p rx s = addRf (Reg.NET_PORT_CNT p) 15 0 rx.cv s := if_pos (by
  have hlost : (addRf (Reg.NET_PORT_CNT p) 15 0 rx.cv s).linkLost p rx = lossSeen (s.portUsed p) rx := rfl
  rw [hlost, h]
  rfl)

/-- A report reaches the recorder alone, by its register of losses. -/
theorem reg_report {src k b cls inst c : Nat} (h : a ≠ Reg.EVL_LOST) :
    (observed (regEvent src k b cls inst c t)).reg a = t.reg a :=
  ((observed_touches (ex := [Reg.EVL_LOST]) (.head _)).reg a (by simpa using h)).trans (reg_event h)

theorem NET_PORT_STAT_ne_LOST : Reg.NET_PORT_STAT p ≠ Reg.EVL_LOST := by unfold Reg.NET_PORT_STAT Reg.EVL_LOST; omega

theorem portLost_stat {rx : RxFail} : (portLost p rx s).reg (Reg.NET_PORT_STAT p) =
    (lossShown (Reg.NET_PORT_STAT p) rx (addRf (Reg.NET_PORT_CNT p) 15 0 rx.cv s)).reg (Reg.NET_PORT_STAT p) :=
  reg_onlyIf ((reg_report NET_PORT_STAT_ne_LOST).trans
    (reg_incRf_other NET_PORT_CNT_ne_STAT.symm))

theorem NET_PORT_CNT_ne_LOST (hp : p < 8) : Reg.NET_PORT_CNT p ≠ Reg.EVL_LOST := by unfold Reg.NET_PORT_CNT Reg.EVL_LOST; omega

/-- R202: the code violations stay counted, and a port that was up counts its loss. -/
theorem portLost_counts {rx : RxFail} (hp : p < 8) :
    (portLost p rx s).rf (Reg.NET_PORT_CNT p) 15 0 = satAdd 16 (s.rf (Reg.NET_PORT_CNT p) 15 0) rx.cv ∧
    (portLost p rx s).rf (Reg.NET_PORT_CNT p) 31 16 = if s.portUp p then satAdd 16 (s.rf (Reg.NET_PORT_CNT p) 31 16) 1
      else s.rf (Reg.NET_PORT_CNT p) 31 16 := by
  have hshown (hi lo : Nat) : (lossShown (Reg.NET_PORT_STAT p) rx (addRf (Reg.NET_PORT_CNT p) 15 0 rx.cv s)).rf (Reg.NET_PORT_CNT p) hi lo =
      (addRf (Reg.NET_PORT_CNT p) 15 0 rx.cv s).rf (Reg.NET_PORT_CNT p) hi lo :=
    rf_of_reg (reg_setRf_other NET_PORT_CNT_ne_STAT)
  have hcv := (hshown 15 0).trans (rf_addRf_self (by decide) (by decide))
  have hloss := (hshown 31 16).trans
    (rf_addRf_apart (by decide) (by decide) (by decide) (by decide) (.inl (by decide)))
  unfold portLost
  cases s.portUp p
  · exact ⟨hcv, hloss⟩
  · refine ⟨(rf_of_reg (reg_report (NET_PORT_CNT_ne_LOST hp))).trans ?_, (rf_of_reg (reg_report (NET_PORT_CNT_ne_LOST hp))).trans ?_⟩
    · exact (rf_addRf_apart (by decide) (by decide) (by decide) (by decide) (.inr (by decide))).trans hcv
    · exact (rf_addRf_self (by decide) (by decide)).trans (congrArg (satAdd 16 · 1) hloss)

theorem NET_PORT_CNT_below (hp : p < 8) : Reg.NET_PORT_CNT p < 0x400A0000 := by unfold Reg.NET_PORT_CNT; omega

theorem NET_PORT_CNT_ne_RING (hp : p < 8) (hr : r < 4) : Reg.NET_PORT_CNT p ≠ Reg.NET_RING_STAT r := by
  unfold Reg.NET_PORT_CNT Reg.NET_RING_STAT
  omega

theorem linkLoss_shows {p : Fin 8} {rx : RxFail} (hl : s.live 6 = true) : Answers (exec (.linkLoss p rx) s) fun t =>
    t.rf (Reg.NET_PORT_CNT p) 15 0 = satAdd 16 (s.rf (Reg.NET_PORT_CNT p) 15 0) rx.cv ∧
    if 64 ≤ rx.absent ∨ 256 ≤ rx.silent ∨ 4 ≤ (List.range 16).countP (fun i => rx.bad.getLsbD i) ∨
        (4 ≤ rx.rfault ∧ s.portUsed p = true) then
      t.portUp p = false ∧ (64 ≤ rx.absent → t.rf (Reg.NET_PORT_STAT p) 3 0 = 0) ∧
      (rx.absent < 64 → rx.silent < 256 → t.rf (Reg.NET_PORT_STAT p) 2 0 = s.rf (Reg.NET_PORT_STAT p) 2 0) ∧
      t.rf (Reg.NET_RING_STAT (p / 2)) 2 0 = t.ringState (p / 2) ∧ t.rf (Reg.NET_PORT_CNT p) 31 16 =
        if s.portUp p then satAdd 16 (s.rf (Reg.NET_PORT_CNT p) 31 16) 1 else s.rf (Reg.NET_PORT_CNT p) 31 16
    else t.reg (Reg.NET_PORT_STAT p) = s.reg (Reg.NET_PORT_STAT p) ∧
      t.rf (Reg.NET_PORT_CNT p) 31 16 = s.rf (Reg.NET_PORT_CNT p) 31 16 := by
  have hr : p.val / 2 < 4 := by omega
  have hexec : exec (.linkLoss p rx) s = done (linkLoss p rx s) := congrArg done (onlyIf_pos hl)
  have hcnt (v : State) (hi lo : Nat) : (settle v).rf (Reg.NET_PORT_CNT p) hi lo = v.rf (Reg.NET_PORT_CNT p) hi lo :=
    rf_of_reg (settle_reg_below (NET_PORT_CNT_below p.isLt))
  have hport (v : State) : (settle v).reg (Reg.NET_PORT_STAT p) = v.reg (Reg.NET_PORT_STAT p) :=
    settle_reg_below (NET_PORT_STAT_below p.isLt)
  rw [hexec]
  refine answers_done ?_
  rw [hcnt, hcnt]
  split
  · rename_i hseen
    rw [linkLoss_seen (lossSeen_iff.2 hseen)]
    have hring (hi lo : Nat) : (showRing (p / 2) (portLost p rx s)).rf (Reg.NET_PORT_CNT p) hi lo =
        (portLost p rx s).rf (Reg.NET_PORT_CNT p) hi lo := rf_of_reg (reg_showRing_other (NET_PORT_CNT_ne_RING p.isLt hr))
    have hstat := (hport (showRing (p / 2) (portLost p rx s))).trans ((reg_showRing_other NET_PORT_STAT_ne).trans portLost_stat)
    obtain ⟨hup, hzero, hkept⟩ := lossShown_bits (a := Reg.NET_PORT_STAT p) (rx := rx)
      (s := addRf (Reg.NET_PORT_CNT p) 15 0 rx.cv s)
    rw [hring, hring, settle_ringState hr, rf_of_reg (settle_reg_below (NET_RING_STAT_below hr)), rf_of_reg hstat, rf_of_reg hstat]
    refine ⟨(portLost_counts p.isLt).1, (rb_of_reg hstat).trans hup, hzero, fun h h' => (hkept h h').trans ?_, showRing_shows hr,
      (portLost_counts p.isLt).2⟩
    exact rf_of_reg (reg_setReg_other NET_PORT_CNT_ne_STAT.symm)
  · rename_i hunseen
    rw [linkLoss_unseen (Bool.eq_false_iff.2 fun h => hunseen (lossSeen_iff.1 h))]
    refine ⟨rf_addRf_self (by decide) (by decide), (hport _).trans (reg_setReg_other NET_PORT_CNT_ne_STAT.symm), ?_⟩
    exact rf_addRf_apart (by decide) (by decide) (by decide) (by decide) (.inl (by decide))

/-- Settles O32, from a lemma for each of its commands. -/
theorem linksNoticesAndRestoration : Obligations.LinksNoticesAndRestoration := by
  unfold Obligations.LinksNoticesAndRestoration
  intro p s
  refine ⟨fun hon hrole pos => ⟨loopNotice_shows hon hrole, segokNotice_shows hon hrole⟩, fun hl => ⟨?_, ?_⟩, fun r hd => ⟨?_, ?_⟩⟩
  · exact fun eye eq clean => linkUp_shows hl
  · exact fun rx => linkLoss_shows hl
  · exact fun hc hins hrun => netProbe_starts hd hc hins hrun
  · exact fun h => restoration_ordered hd h

end Sys2Proof.Machine
end

section
/-! A pending mode change is abandoned (R291, R292). -/

namespace Sys2Proof.Machine

variable {s t : State} {a b p : Nat}

/-! The held copies. -/

/-- R292: a discarded copy leaves DIRTY set. -/
def holdDirty (h : Staged) (t : State) : State :=
  onlyIf (t.domOn (blkDom h.blk)) (orReg (Reg.CMT_DIRTY h.blk) (2 ^ h.grp)) t

theorem CMT_DIRTY_offset {k : Nat} : Reg.CMT_DIRTY k % 0x10000 = 0xFF14 := by unfold Reg.CMT_DIRTY; omega

theorem reg_holdDirty {h : Staged} (ha : a % 0x10000 ≠ 0xFF14) : (holdDirty h s).reg a = s.reg a :=
  reg_onlyIf (reg_orReg_other fun heq => ha (heq ▸ CMT_DIRTY_offset))

theorem reg_heldDirty {hs : List Staged} (ha : a % 0x10000 ≠ 0xFF14) : (forAll hs holdDirty s).reg a = s.reg a :=
  forAll_keeps (P := fun t => t.reg a = s.reg a) (fun _ _ ht => (reg_holdDirty ha).trans ht) hs rfl

theorem rb_holdDirty_of {h : Staged} (hb : s.rb a b = true) : (holdDirty h s).rb a b = true := by
  unfold holdDirty
  cases s.domOn (blkDom h.blk)
  · exact hb
  · exact rb_orReg_of hb

theorem heldDirty_marks {hs : List Staged} {h : Staged} (hmem : h ∈ hs) (hgrp : h.grp < 32)
    (hd : s.domOn (blkDom h.blk) = true) : (forAll hs holdDirty s).rb (Reg.CMT_DIRTY h.blk) h.grp = true := by
  induction hs generalizing s with
  | nil => cases hmem
  | cons x hs ih =>
    rw [forAll_cons]
    obtain rfl | hmem := List.mem_cons.1 hmem
    · refine forAll_keeps (P := fun t => t.rb _ _ = true) (fun _ _ => rb_holdDirty_of) hs ?_
      unfold holdDirty
      rw [hd, onlyIf_true]
      exact rb_orReg_self hgrp
    · exact ih hmem ((domOn_of_reg (reg_holdDirty (by decide))).trans hd)

/-! What `abandon` does. -/

theorem casErr_cas {c inst : Nat} : (casErr c inst s).cas = s.cas := (congrArg State.cas Logs.event.rest :)

/-- R290, R291: the unit holds no change any more, and CAS_MC_STAT says why. -/
def changeGone (cause cid : Nat) (t : State) : State :=
  setRf Reg.CAS_MC_STAT 2 0 4 (mcCause cause cid { t with cas := { t.cas with
    held := [], mc := none, annIn := none, votes := [], abortUntil := some (t.cyc + 1), gone := t.cas.gone + 1 } })

/-- R291: a notice leaves each joined port. -/
def noticePort (p : Nat) (u : State) : State :=
  onlyIf (u.joined p) (emit (.casNotice p 0xA0)) (putCasPort p { u.casPort p with abandons := 4 } u)

theorem abandon_pending {cause cid : Nat} (h : s.cas.mc.isSome = true) : abandon cause cid s =
    forAll (List.range 3) noticePort (casErr 2 0 (changeGone cause cid (forAll s.cas.held holdDirty s))) :=
  if_neg (by rw [Option.isSome_iff_ne_none] at h; simpa using h)

theorem abandon_nothing {cause cid : Nat} (h : s.cas.mc.isSome = false) : abandon cause cid s = s :=
  if_pos (Option.isSome_eq_false_iff.1 h)

theorem noticePort_keeps : (noticePort p s).regs = s.regs ∧ (noticePort p s).cas.mc = s.cas.mc ∧
    (noticePort p s).cas.held = s.cas.held ∧ (noticePort p s).cas.votes = s.cas.votes := by
  unfold noticePort
  cases s.joined p <;> exact ⟨rfl, rfl, rfl, rfl⟩

theorem noticePorts_keep {ps : List Nat} : (forAll ps noticePort s).regs = s.regs ∧
    (forAll ps noticePort s).cas.mc = s.cas.mc ∧ (forAll ps noticePort s).cas.held = s.cas.held ∧
    (forAll ps noticePort s).cas.votes = s.cas.votes := by
  induction ps generalizing s with
  | nil => exact ⟨rfl, rfl, rfl, rfl⟩
  | cons q ps ih =>
    obtain ⟨hregs, hmc, hheld, hvotes⟩ := noticePort_keeps (s := s) (p := q)
    obtain ⟨hregs', hmc', hheld', hvotes'⟩ := ih (s := noticePort q s)
    exact ⟨hregs'.trans hregs, hmc'.trans hmc, hheld'.trans hheld, hvotes'.trans hvotes⟩

theorem reg_abandon_pending {cause cid : Nat} (h : s.cas.mc.isSome = true) : (abandon cause cid s).reg a =
    (casErr 2 0 (changeGone cause cid (forAll s.cas.held holdDirty s))).reg a := by
  rw [abandon_pending h]
  exact reg_congr noticePorts_keep.1 a

theorem abandon_cas {cause cid : Nat} (h : s.cas.mc.isSome = true) : (abandon cause cid s).cas.mc = none ∧
    (abandon cause cid s).cas.held = [] ∧ (abandon cause cid s).cas.votes = [] := by
  rw [abandon_pending h]
  generalize hw : forAll s.cas.held holdDirty s = w
  obtain ⟨-, hmc, hheld, hvotes⟩ := noticePorts_keep (ps := List.range 3) (s := casErr 2 0 (changeGone cause cid w))
  rw [hmc, hheld, hvotes, casErr_cas]
  exact ⟨rfl, rfl, rfl⟩

/-- A register that giving up a change, or a change of the pair, does not show in. -/
structure CasQuiet (a : Nat) : Prop where
  dirty : a % 0x10000 ≠ 0xFF14
  stat : a ≠ Reg.CAS_MC_STAT
  pair : a ≠ Reg.CAS_PSTAT
  err : a ≠ Reg.CAS_ERR
  lost : a ≠ Reg.EVL_LOST

theorem reg_changeGone {cause cid : Nat} (ha : a ≠ Reg.CAS_MC_STAT) : (changeGone cause cid s).reg a = s.reg a := by
  have hcas (c : CasSt) : ({ s with cas := c } : State).reg a = s.reg a := rfl
  exact (reg_setRf_other ha).trans ((reg_setRf_other ha).trans ((reg_setRf_other ha).trans (hcas _)))

theorem reg_abandon {cause cid : Nat} (ha : CasQuiet a) : (abandon cause cid s).reg a = s.reg a := by
  cases h : s.cas.mc.isSome
  · rw [abandon_nothing h]
  · rw [reg_abandon_pending h]
    exact (reg_flagEvent ha.err ha.lost).trans ((reg_changeGone ha.stat).trans (reg_heldDirty ha.dirty))

/-- No bit of CAS_ERR is lost when a change is given up. -/
theorem abandon_keeps_err {cause cid : Nat} (hb : s.rb Reg.CAS_ERR b = true) : (abandon cause cid s).rb Reg.CAS_ERR b = true := by
  cases h : s.cas.mc.isSome
  · rw [abandon_nothing h]
    exact hb
  · rw [rb_of_reg (reg_abandon_pending h)]
    exact flagEvent_keeps ((rb_of_reg ((reg_changeGone (by decide)).trans (reg_heldDirty (by decide)))).trans hb) (by decide)

/-- CAS_MC_STAT and CAS_ERR after a change that was given up (R290 to R292). -/
theorem abandon_shows {cause cid : Nat} (h : s.cas.mc.isSome = true) (hcause : cause < 16) (hcid : cid < 4) :
    (abandon cause cid s).rf Reg.CAS_MC_STAT 2 0 = 4 ∧ (abandon cause cid s).rf Reg.CAS_MC_STAT 11 8 = cause ∧
    (abandon cause cid s).rf Reg.CAS_MC_STAT 5 4 = cid ∧ (abandon cause cid s).rb Reg.CAS_ERR 2 = true := by
  have hstat (hi lo : Nat) : (abandon cause cid s).rf Reg.CAS_MC_STAT hi lo =
      (changeGone cause cid (forAll s.cas.held holdDirty s)).rf Reg.CAS_MC_STAT hi lo :=
    rf_of_reg ((reg_abandon_pending h).trans (reg_flagEvent (by decide) (by decide)))
  rw [hstat, hstat, hstat]
  refine ⟨rf_setRf_self (by decide) (by decide) (by decide), ?_, ?_, ?_⟩
  · exact (rf_setRf_apart (by decide) (by decide) (by decide) (by decide) (.inl (by decide))).trans
      (rf_setRf_self (by decide) (by decide) hcause)
  · exact (rf_setRf_apart (by decide) (by decide) (by decide) (by decide) (.inl (by decide))).trans
      ((rf_setRf_apart (by decide) (by decide) (by decide) (by decide) (.inr (by decide))).trans
        (rf_setRf_self (by decide) (by decide) hcid))
  · exact (rb_of_reg (reg_abandon_pending h)).trans (flagEvent_sets (by decide) (by decide))

/-- R292: the held copies leave DIRTY of their groups set. -/
theorem abandon_dirty {cause cid : Nat} {h : Staged} (hp : s.cas.mc.isSome = true) (hmem : h ∈ s.cas.held) (hgrp : h.grp < 32)
    (hd : s.domOn (blkDom h.blk) = true) : (abandon cause cid s).rb (Reg.CMT_DIRTY h.blk) h.grp = true := by
  have hne {c : Nat} (hc : c % 0x10000 ≠ 0xFF14) : Reg.CMT_DIRTY h.blk ≠ c := fun heq => hc (heq ▸ CMT_DIRTY_offset)
  refine (rb_of_reg ((reg_abandon_pending hp).trans ?_)).trans (heldDirty_marks hmem hgrp hd)
  exact (reg_flagEvent (hne (by decide)) (hne (by decide))).trans (reg_changeGone (hne (by decide)))

theorem abandon_actv {cause cid : Nat} : (abandon cause cid s).actv = s.actv := (Applied.abandon (k := 0) (b := 0)).actv

/-! CANCEL and MABORT. -/

/-- An answer that gives up a pending change: what the unit holds and shows of it then. -/
theorem settle_abandon {cause cid : Nat} (h : s.cas.mc.isSome = true) (hcause : cause < 16) (hcid : cid < 4) {t : State}
    (ht : t = settle (abandon cause cid s)) : (t.cas.mc = none ∧ t.cas.held = [] ∧ t.cas.votes = []) ∧
      (t.rf Reg.CAS_MC_STAT 2 0 = 4 ∧ t.rf Reg.CAS_MC_STAT 11 8 = cause ∧ t.rf Reg.CAS_MC_STAT 5 4 = cid ∧
        t.rb Reg.CAS_ERR 2 = true) ∧ t.actv = s.actv := by
  have hstat := settle_reg_below (s := abandon cause cid s) (a := Reg.CAS_MC_STAT) (by decide)
  have herr := settle_reg_below (s := abandon cause cid s) (a := Reg.CAS_ERR) (by decide)
  rw [ht, settle_cas, rf_of_reg hstat, rf_of_reg hstat, rf_of_reg hstat, rb_of_reg herr, settle_actv]
  exact ⟨abandon_cas h, abandon_shows h hcause hcid, abandon_actv⟩

theorem settle_dirty {k : Nat} (hk : k < 17) (h10 : k ≠ 10) (h11 : k ≠ 11) :
    (settle s).reg (Reg.CMT_DIRTY k) = s.reg (Reg.CMT_DIRTY k) := settle_reg (by
  unfold marrowReg Reg.CMT_DIRTY
  rw [Bool.and_eq_false_iff, decide_eq_false_iff_not, decide_eq_false_iff_not]
  omega)

theorem regWrite_CAS_MC_CMD {f : State → State} (hc : s.cpuOn = true) (hl : s.live 6 = true) :
    regWrite Reg.CAS_MC_CMD f s = f s := regWrite_on hc (by
  have hd : s.domOn 6 = true := (Bool.and_eq_true_iff.1 hl).1
  exact hd)

theorem mcCancel_abandons (hl : s.live 6 = true) (hon : s.casOn = true) (hc : s.cpuOn = true) (hp : s.cas.mc.isSome = true)
    (hheld : ∀ h ∈ s.cas.held, h.blk < 17 ∧ h.grp < 32) :
    Answers (exec .mcCancel s) fun t => t.cas.mc = none ∧ t.cas.held = [] ∧ t.cas.votes = [] ∧
      t.rf Reg.CAS_MC_STAT 2 0 = 4 ∧ t.rf Reg.CAS_MC_STAT 11 8 = 8 ∧ t.rb Reg.CAS_ERR 2 = true ∧ t.actv = s.actv ∧
      ∀ h ∈ s.cas.held, h.blk ≠ 10 → h.blk ≠ 11 → s.domOn (blkDom h.blk) = true → t.rb (Reg.CMT_DIRTY h.blk) h.grp = true := by
  have hexec : exec .mcCancel s = done (abandon 8 s.ownId s) :=
    congrArg done ((regWrite_CAS_MC_CMD hc hl).trans (onlyIf_pos hon))
  rw [hexec]
  refine answers_done ?_
  obtain ⟨⟨hmc, hno, hvotes⟩, ⟨hstate, hcause, -, herr⟩, hactv⟩ := settle_abandon (cause := 8) hp (by decide) s.pcr.cid.isLt rfl
  refine ⟨hmc, hno, hvotes, hstate, hcause, herr, hactv, fun h hmem h10 h11 hd => ?_⟩
  obtain ⟨hblk, hgrp⟩ := hheld h hmem
  exact (rb_of_reg (settle_dirty hblk h10 h11)).trans (abandon_dirty hp hmem hgrp hd)

theorem mabort_abandons {p : Fin 3} (hon : s.casOn = true) (hj : s.joined p = true) (hp : s.cas.mc.isSome = true) :
    Answers (exec (.mabort p) s) fun t => t.cas.mc = none ∧ t.cas.held = [] ∧
      t.rf Reg.CAS_MC_STAT 2 0 = 4 ∧ t.rf Reg.CAS_MC_STAT 11 8 = 6 ∧ t.rf Reg.CAS_MC_STAT 5 4 = s.peer p ∧
      t.actv = s.actv := by
  have hexec : exec (.mabort p) s = done (abandon 6 (s.peer p) s) := congrArg done (onlyIf_pos (by rw [hon, hj]; rfl))
  rw [hexec]
  refine answers_done ?_
  obtain ⟨⟨hmc, hno, -⟩, ⟨hstate, hcause, hcid, -⟩, hactv⟩ := settle_abandon (cause := 6) hp (by decide) (fld_lt _ 7 6) rfl
  exact ⟨hmc, hno, hstate, hcause, hcid, hactv⟩

/-! ANNOUNCE (R288). -/

theorem announceCause_bounds {cause cid : Nat} (hstate : s.csState ≠ 5)
    (h : s.announceCause = some (cause, cid)) : cause < 16 ∧ cid < 4 := by
  have hid : s.ownId < 4 := s.pcr.cid.isLt
  unfold State.announceCause at h
  dsimp only at h
  rw [if_pos hstate] at h
  split at h
  · cases h
    exact ⟨by decide, hid⟩
  · split at h
    · cases h
      exact ⟨by decide, hid⟩
    · cases h
      exact ⟨by decide, hid⟩

theorem announceCause_isSome (hstate : s.csState ≠ 5) : s.announceCause.isSome = true := by
  unfold State.announceCause
  dsimp only
  rw [if_pos hstate]
  split
  · rfl
  · split <;> rfl

theorem mcCause_shows {cause cid : Nat} (hcause : cause < 16) (hcid : cid < 4) :
    (mcCause cause cid s).rf Reg.CAS_MC_STAT 11 8 = cause ∧ (mcCause cause cid s).rf Reg.CAS_MC_STAT 5 4 = cid :=
  ⟨rf_setRf_self (by decide) (by decide) hcause,
    (rf_setRf_apart (by decide) (by decide) (by decide) (by decide) (.inr (by decide))).trans
      (rf_setRf_self (by decide) (by decide) hcid)⟩

/-- R288: the order to announce alone is another. -/
def withOrder (n : Option Nat) (s : State) : State := { s with cas := { s.cas with annReq := n } }

theorem announceCause_withOrder {n : Option Nat} : (withOrder n s).announceCause = s.announceCause := rfl

/-- R288: outside RUN an order to announce is refused with its cause. -/
theorem refuseAnnouncement_shows {n : Nat} (hreq : s.cas.annReq = some n) (hstate : s.csState ≠ 5) :
    (refuseAnnouncement s).cas = { s.cas with annReq := none } ∧
    some ((refuseAnnouncement s).rf Reg.CAS_MC_STAT 11 8, (refuseAnnouncement s).rf Reg.CAS_MC_STAT 5 4) = s.announceCause := by
  obtain ⟨⟨cause, cid⟩, hsome⟩ := Option.isSome_iff_exists.1 (announceCause_isSome hstate)
  obtain ⟨hc, hi⟩ := announceCause_bounds hstate hsome
  have hcause : ({ s with cas := { s.cas with annReq := none } } : State).announceCause = some (cause, cid) :=
    announceCause_withOrder.trans hsome
  have hrefuse : refuseAnnouncement s = mcCause cause cid (withOrder none s) := by
    unfold refuseAnnouncement
    simp only [hreq, Option.isNone_some, Bool.false_eq_true, if_false, hcause]
    rfl
  obtain ⟨h1, h2⟩ := mcCause_shows (s := withOrder none s) hc hi
  rw [hrefuse, h1, h2, hsome]
  exact ⟨rfl, rfl⟩

theorem running_state (h : s.running = false) : s.csState ≠ 5 := fun h5 => by
  unfold State.running at h
  rw [h5] at h
  cases h

theorem mcAnnounce_answers (hl : s.live 6 = true) (hc : s.cpuOn = true) (hon : s.casOn = true) (hco : s.ab Reg.CAS_CFG 4 = true) :
    (s.running = true → Answers (exec .mcAnnounce s) fun t => t.cas = { s.cas with annReq := some s.cyc }) ∧
    (s.running = false → Answers (exec .mcAnnounce s) fun t => t.cas = { s.cas with annReq := none } ∧
      some (t.rf Reg.CAS_MC_STAT 11 8, t.rf Reg.CAS_MC_STAT 5 4) = s.announceCause) := by
  have hexec : exec .mcAnnounce s = done (announce s) := congrArg done (regWrite_CAS_MC_CMD hc hl)
  have hann : announce s = if s.running then withOrder (some s.cyc) s else refuseAnnouncement (withOrder (some s.cyc) s) :=
    if_pos (by rw [hon, hco]; rfl)
  rw [hexec, hann]
  refine ⟨fun hrun => ?_, fun hrun => ?_⟩
  · rw [if_pos hrun]
    exact answers_done (settle_cas _)
  · rw [if_neg (by rw [hrun]; decide)]
    obtain ⟨hcas, hshown⟩ := refuseAnnouncement_shows (s := withOrder (some s.cyc) s) rfl (running_state (s := s) hrun)
    have hstat (v : State) := settle_reg_below (s := v) (a := Reg.CAS_MC_STAT) (by decide)
    refine answers_done ⟨(settle_cas _).trans hcas, ?_⟩
    rw [rf_of_reg (hstat _), rf_of_reg (hstat _)]
    exact hshown

end Sys2Proof.Machine
end

section
/-! Cascade links come and go, and the partner's silence (R201, R275, R279, R282, R287, R306). -/

namespace Sys2Proof.Machine

variable {s t : State} {a b p : Nat}

/-! CASCADE_LINK_UP (R279). -/

theorem CAS_PORT_STAT_below (hp : p < 3) : Reg.CAS_PORT_STAT p < 0x400A0000 := by unfold Reg.CAS_PORT_STAT; omega

/-- What the receiver of a port that is down shows. -/
def casShown (p : Nat) (rx : CasUp) (s : State) : State :=
  setRf (Reg.CAS_PORT_STAT p) 31 24 rx.eye (setRf (Reg.CAS_PORT_STAT p) 3 0 (linkBits rx.has rx.clean) s)

theorem casShown_rb {rx : CasUp} (hb : b < 24) : (casShown p rx s).rb (Reg.CAS_PORT_STAT p) b =
    if b < 4 then (linkBits rx.has rx.clean).testBit b else s.rb (Reg.CAS_PORT_STAT p) b := by
  refine (rb_setRf (by decide) (by omega)).trans ((if_neg (by omega)).trans ((rb_setRf (by decide) (by omega)).trans ?_))
  split
  · rw [if_pos (by omega), Nat.sub_zero]
  · rw [if_neg (by omega)]

theorem cascadeLinkUp_shows {p : Fin 3} {rx : CasUp} (hl : s.live 6 = true) :
    Answers (exec (.cascadeLinkUp p rx) s) fun t => t.joined p = s.joined p ∧
      if s.rb (Reg.CAS_PORT_STAT p) 3 = true then t.reg (Reg.CAS_PORT_STAT p) = s.reg (Reg.CAS_PORT_STAT p)
      else t.rb (Reg.CAS_PORT_STAT p) 0 = rx.has.signal ∧ t.rb (Reg.CAS_PORT_STAT p) 1 = (rx.has.signal && rx.has.lock) ∧
        t.rb (Reg.CAS_PORT_STAT p) 2 = (rx.has.signal && rx.has.lock && rx.has.align) ∧
        t.rb (Reg.CAS_PORT_STAT p) 3 = (rx.has.signal && rx.has.lock && rx.has.align && decide (1024 ≤ rx.clean)) ∧
        t.rf (Reg.CAS_PORT_STAT p) 31 24 = rx.eye := by
  have hexec : exec (.cascadeLinkUp p rx) s = done (casLinkUp p rx s) := congrArg done (onlyIf_pos hl)
  have hstat (v : State) : (settle v).reg (Reg.CAS_PORT_STAT p) = v.reg (Reg.CAS_PORT_STAT p) :=
    settle_reg_below (CAS_PORT_STAT_below p.isLt)
  rw [hexec]
  refine answers_done ?_
  unfold State.joined
  split
  · rename_i hup
    have hsame : casLinkUp p rx s = s := if_pos hup
    rw [hsame, rb_of_reg (hstat _)]
    exact ⟨rfl, hstat _⟩
  · rename_i hup
    have hshown : casLinkUp p rx s = casShown p rx s := if_neg hup
    obtain ⟨-, h0, h1, h2, h3⟩ := linkBits_bits (x := rx.has) (clean := rx.clean)
    rw [hshown, rb_of_reg (hstat _), rb_of_reg (hstat _), rb_of_reg (hstat _), rb_of_reg (hstat _), rb_of_reg (hstat _),
      rf_of_reg (hstat _)]
    exact ⟨casShown_rb (by decide), (casShown_rb (by decide)).trans h0, (casShown_rb (by decide)).trans h1,
      (casShown_rb (by decide)).trans h2, (casShown_rb (by decide)).trans h3, rf_setRf_self (by decide) (by decide) rx.eye.isLt⟩

/-! CASCADE_LINK_LOSS (R275, R287). -/

theorem reg_showPair (ha : CasQuiet a) : (showPair p s).reg a = s.reg a := by
  have hset (b : Nat) (v : Bool) (t : State) : (setRb Reg.CAS_PSTAT b v t).reg a = t.reg a := reg_setRb_other ha.pair
  unfold showPair
  extract_lets link lost u w
  have hw : w.reg a = s.reg a := (reg_ite (hset 1 false u) rfl).trans (hset 0 link s)
  exact reg_ite (reg_setRf_other ha.pair)
    (reg_ite ((reg_flagEvent ha.err ha.lost).trans ((hset 1 true w).trans hw)) hw)

/-- No bit of CAS_ERR is lost when the pair changes. -/
theorem showPair_keeps_err (hb : s.rb Reg.CAS_ERR b = true) : (showPair p s).rb Reg.CAS_ERR b = true := by
  have hset (c : Nat) (v : Bool) (t : State) : (setRb Reg.CAS_PSTAT c v t).reg Reg.CAS_ERR = t.reg Reg.CAS_ERR :=
    reg_setRb_other (by decide)
  unfold showPair
  extract_lets link lost u w
  have hw : w.reg Reg.CAS_ERR = s.reg Reg.CAS_ERR := (reg_ite (hset 1 false u) rfl).trans (hset 0 link s)
  split
  · exact (rb_of_reg (reg_setRf_other (by decide))).trans hb
  · split
    · exact flagEvent_keeps ((rb_of_reg ((hset 1 true w).trans hw)).trans hb) (by decide)
    · exact (rb_of_reg hw).trans hb

theorem casQuiet_STAT (hp : p < 3) : CasQuiet (Reg.CAS_PORT_STAT p) := by
  constructor <;> simp only [Reg.CAS_PORT_STAT, Reg.CAS_MC_STAT, Reg.CAS_PSTAT, Reg.CAS_ERR, Reg.EVL_LOST] <;> omega

theorem casQuiet_CNT (hp : p < 3) : CasQuiet (Reg.CAS_PORT_CNT p) := by
  constructor <;> simp only [Reg.CAS_PORT_CNT, Reg.CAS_MC_STAT, Reg.CAS_PSTAT, Reg.CAS_ERR, Reg.EVL_LOST] <;> omega

/-- R282: a port leaves the joined state before the change it took part in and the pair follow. -/
def portLeft (p : Nat) (s : State) : State :=
  setRb (Reg.CAS_PORT_STAT p) 4 false (putCasPort p { s.casPort p with good := 0, accepts := [], relays := [] } s)

theorem reg_portLeft_other (ha : a ≠ Reg.CAS_PORT_STAT p) : (portLeft p s).reg a = s.reg a := reg_setRb_other ha

theorem reg_leaveJoined (ha : CasQuiet a) : (leaveJoined p s).reg a = (portLeft p s).reg a :=
  (reg_showPair ha).trans (reg_onlyIf (reg_abandon ha))

theorem leaveJoined_keeps_err (hp : p < 3) (hb : s.rb Reg.CAS_ERR b = true) : (leaveJoined p s).rb Reg.CAS_ERR b = true := by
  have hleft : (portLeft p s).rb Reg.CAS_ERR b = true := (rb_of_reg (reg_portLeft_other (casQuiet_STAT hp).err.symm)).trans hb
  have hgone (c : Bool) (n : Nat) : (onlyIf c (abandon 7 n) (portLeft p s)).rb Reg.CAS_ERR b = true := by
    cases c
    · exact hleft
    · exact abandon_keeps_err hleft
  exact showPair_keeps_err (hgone _ _)

/-- R275: what was measured over a lost link no longer counts. -/
def forgetPort (p : Nat) (s : State) : State :=
  { s with syn := { s.syn with
    casDev := s.syn.casDev.filter (fun e => e.1 ≠ p)
    sent := s.syn.sent.filter (fun e => e.1 ≠ p)
    arrived := s.syn.arrived.filter (fun e => e.1 ≠ p) } }

/-- R287: the loss of an established link shows, counts and is reported before the port leaves the joined state. -/
def linkGone (p : Nat) (rx : RxFail) (s : State) : State :=
  observed (regEvent 8 1 24 clsWarn p (Reg.CAS_PORT_CNT p) (casErr 0 p (incRf (Reg.CAS_PORT_CNT p) 31 24
    (forgetPort p (lossShown (Reg.CAS_PORT_STAT p) rx s)))))

theorem casLinkLost_eq {rx : RxFail} : casLinkLost p rx s = leaveJoined p (linkGone p rx s) := rfl

theorem CAS_PORT_CNT_ne_STAT : Reg.CAS_PORT_CNT p ≠ Reg.CAS_PORT_STAT p := by
  unfold Reg.CAS_PORT_CNT Reg.CAS_PORT_STAT
  omega

theorem reg_linkGone {rx : RxFail} (ha : CasQuiet a) : (linkGone p rx s).reg a =
    (incRf (Reg.CAS_PORT_CNT p) 31 24 (forgetPort p (lossShown (Reg.CAS_PORT_STAT p) rx s))).reg a :=
  (reg_report ha.lost).trans (reg_flagEvent ha.err ha.lost)

theorem linkGone_stat {rx : RxFail} (hp : p < 3) : (linkGone p rx s).reg (Reg.CAS_PORT_STAT p) =
    (lossShown (Reg.CAS_PORT_STAT p) rx s).reg (Reg.CAS_PORT_STAT p) :=
  (reg_linkGone (casQuiet_STAT hp)).trans (reg_incRf_other CAS_PORT_CNT_ne_STAT.symm)

theorem linkGone_counts {rx : RxFail} (hp : p < 3) : (linkGone p rx s).rf (Reg.CAS_PORT_CNT p) 31 24 =
    satAdd 8 (s.rf (Reg.CAS_PORT_CNT p) 31 24) 1 := by
  have hold : (forgetPort p (lossShown (Reg.CAS_PORT_STAT p) rx s)).rf (Reg.CAS_PORT_CNT p) 31 24 = s.rf (Reg.CAS_PORT_CNT p) 31 24 :=
    rf_of_reg (reg_setRf_other CAS_PORT_CNT_ne_STAT)
  exact (rf_of_reg (reg_linkGone (casQuiet_CNT hp))).trans
    ((rf_incRf_self (by decide) (by decide)).trans (congrArg (satAdd 8 · 1) hold))

theorem linkGone_err {rx : RxFail} : (linkGone p rx s).rb Reg.CAS_ERR 0 = true :=
  (rb_of_reg (reg_report (by decide))).trans (flagEvent_sets (by decide) (by decide))

/-- R287: an established link that is lost. -/
theorem casLinkLost_shows {rx : RxFail} (hp : p < 3) : (casLinkLost p rx s).rb (Reg.CAS_PORT_STAT p) 3 = false ∧
    (64 ≤ rx.absent → (casLinkLost p rx s).rf (Reg.CAS_PORT_STAT p) 3 0 = 0) ∧
    (rx.absent < 64 → rx.silent < 256 → (casLinkLost p rx s).rf (Reg.CAS_PORT_STAT p) 2 0 = s.rf (Reg.CAS_PORT_STAT p) 2 0) ∧
    ((casLinkLost p rx s).rb (Reg.CAS_PORT_STAT p) 4 = false ∧ (casLinkLost p rx s).rb Reg.CAS_ERR 0 = true) ∧
    (casLinkLost p rx s).rf (Reg.CAS_PORT_CNT p) 31 24 = satAdd 8 (s.rf (Reg.CAS_PORT_CNT p) 31 24) 1 := by
  obtain ⟨hup, hzero, hkept⟩ := lossShown_bits (a := Reg.CAS_PORT_STAT p) (rx := rx) (s := s)
  rw [casLinkLost_eq]
  have hlow (hi lo : Nat) (h : lo ≤ hi) (hhi : hi < 4) : (leaveJoined p (linkGone p rx s)).rf (Reg.CAS_PORT_STAT p) hi lo =
      (lossShown (Reg.CAS_PORT_STAT p) rx s).rf (Reg.CAS_PORT_STAT p) hi lo :=
    (rf_of_reg (reg_leaveJoined (casQuiet_STAT hp))).trans
      ((rf_setRb_apart h (by omega) (by decide) (.inr hhi)).trans (rf_of_reg (linkGone_stat hp)))
  have hbit (c : Nat) (hc : c < 32) : (leaveJoined p (linkGone p rx s)).rb (Reg.CAS_PORT_STAT p) c =
      if c = 4 then false else (linkGone p rx s).rb (Reg.CAS_PORT_STAT p) c :=
    (rb_of_reg (reg_leaveJoined (casQuiet_STAT hp))).trans (rb_setRb hc)
  refine ⟨?_, fun h => (hlow 3 0 (by decide) (by decide)).trans (hzero h),
    fun h h' => (hlow 2 0 (by decide) (by decide)).trans (hkept h h'), ⟨(hbit 4 (by decide)).trans (if_pos rfl), ?_⟩, ?_⟩
  · exact ((hbit 3 (by decide)).trans (if_neg (by decide))).trans ((rb_of_reg (linkGone_stat hp)).trans hup)
  · exact leaveJoined_keeps_err hp linkGone_err
  · exact (rf_of_reg ((reg_leaveJoined (casQuiet_CNT hp)).trans (reg_portLeft_other CAS_PORT_CNT_ne_STAT))).trans (linkGone_counts hp)

theorem casLossSeen_iff {rx : RxFail} : lossSeen true rx = true ↔ 64 ≤ rx.absent ∨ 256 ≤ rx.silent ∨
    4 ≤ (List.range 16).countP (fun i => rx.bad.getLsbD i) ∨ 4 ≤ rx.rfault :=
  lossSeen_iff.trans (by rw [eq_self, and_true])

theorem satAdd_nothing {w n : Nat} (h : n < 2 ^ w) : satAdd w n 0 = n := by
  unfold satAdd
  omega

theorem cascadeLinkLoss_shows {p : Fin 3} {rx : RxFail} (hl : s.live 6 = true) :
    Answers (exec (.cascadeLinkLoss ⟨p, rx⟩) s) fun t =>
      if 64 ≤ rx.absent ∨ 256 ≤ rx.silent ∨ 4 ≤ (List.range 16).countP (fun i => rx.bad.getLsbD i) ∨ 4 ≤ rx.rfault then
        t.rb (Reg.CAS_PORT_STAT p) 3 = false ∧ (64 ≤ rx.absent → t.rf (Reg.CAS_PORT_STAT p) 3 0 = 0) ∧
        (rx.absent < 64 → rx.silent < 256 → t.rf (Reg.CAS_PORT_STAT p) 2 0 = s.rf (Reg.CAS_PORT_STAT p) 2 0) ∧
        (s.rb (Reg.CAS_PORT_STAT p) 3 = true → t.joined p = false ∧ t.rb Reg.CAS_ERR 0 = true) ∧
        t.rf (Reg.CAS_PORT_CNT p) 31 24 = satAdd 8 (s.rf (Reg.CAS_PORT_CNT p) 31 24) (b2n (s.rb (Reg.CAS_PORT_STAT p) 3))
      else t.reg (Reg.CAS_PORT_STAT p) = s.reg (Reg.CAS_PORT_STAT p) ∧
        t.reg (Reg.CAS_PORT_CNT p) = s.reg (Reg.CAS_PORT_CNT p) := by
  have hexec : exec (.cascadeLinkLoss ⟨p, rx⟩) s = done (casLinkLoss p rx s) := congrArg done (onlyIf_pos hl)
  have hstat (v : State) : (settle v).reg (Reg.CAS_PORT_STAT p) = v.reg (Reg.CAS_PORT_STAT p) :=
    settle_reg_below (CAS_PORT_STAT_below p.isLt)
  have hcnt (v : State) : (settle v).reg (Reg.CAS_PORT_CNT p) = v.reg (Reg.CAS_PORT_CNT p) :=
    settle_reg_below (by unfold Reg.CAS_PORT_CNT; omega)
  have herr (v : State) : (settle v).reg Reg.CAS_ERR = v.reg Reg.CAS_ERR := settle_reg_below (by decide)
  rw [hexec]
  refine answers_done ?_
  unfold State.joined
  rw [hstat, hcnt, rb_of_reg (hstat _), rb_of_reg (hstat _), rf_of_reg (hstat _), rf_of_reg (hstat _), rf_of_reg (hcnt _),
    rb_of_reg (herr _)]
  split
  · rename_i hseen
    have hloss : (!(lossSeen true rx)) ≠ true := by rw [casLossSeen_iff.2 hseen]; decide
    cases hup : s.rb (Reg.CAS_PORT_STAT p) 3
    · have hlost : casLinkLoss p rx s = lossShown (Reg.CAS_PORT_STAT p) rx s :=
        (if_neg hloss).trans (if_neg (by rw [hup]; decide))
      obtain ⟨hdown, hzero, hkept⟩ := lossShown_bits (a := Reg.CAS_PORT_STAT p) (rx := rx) (s := s)
      rw [hlost]
      refine ⟨hdown, hzero, hkept, fun h => absurd h (by decide), ?_⟩
      exact (rf_of_reg (reg_setRf_other CAS_PORT_CNT_ne_STAT)).trans (satAdd_nothing (fld_lt _ 31 24)).symm
    · have hlost : casLinkLoss p rx s = casLinkLost p rx s := (if_neg hloss).trans (if_pos hup)
      obtain ⟨hdown, hzero, hkept, hleft, hcounts⟩ := casLinkLost_shows (rx := rx) (s := s) p.isLt
      rw [hlost]
      exact ⟨hdown, hzero, hkept, fun _ => hleft, hcounts⟩
  · rename_i hunseen
    have hsame : casLinkLoss p rx s = s :=
      if_pos (by rw [Bool.eq_false_iff.2 fun h => hunseen (casLossSeen_iff.1 h)]; rfl)
    rw [hsame]
    exact ⟨rfl, rfl⟩

/-! PAIR_TIMEOUT (R306). -/

theorem pairTimeout_reports (hon : s.casOn = true) (hpair : s.paired = true) (hto : (s.portTo s.partner).isSome = true)
    (hgap : 8 ≤ s.cas.gap) : Answers (exec .pairTimeout s) fun t => t.rb Reg.CAS_ERR 6 = true ∧ t.cas = s.cas := by
  have hexec : exec .pairTimeout s = done (casErr 6 ((s.portTo s.partner).getD 0) s) :=
    congrArg done (onlyIf_pos (by rw [hon, hpair, hto, decide_eq_true hgap]; rfl))
  rw [hexec]
  refine answers_done ⟨?_, (settle_cas _).trans casErr_cas⟩
  exact (rb_of_reg (settle_reg_below (by decide))).trans (flagEvent_sets (by decide) (by decide))

/-- Settles O39, from a lemma for each of its commands. -/
theorem cascadeLinksAndModeChanges : Obligations.CascadeLinksAndModeChanges := by
  unfold Obligations.CascadeLinksAndModeChanges
  intro p s hl
  refine ⟨fun rx => cascadeLinkUp_shows hl, fun rx => cascadeLinkLoss_shows hl, fun hc hon hco => mcAnnounce_answers hl hc hon hco,
    fun hon hp hheld => ⟨fun hc => mcCancel_abandons hl hon hc hp hheld, fun hj => mabort_abandons hon hj hp⟩,
    fun hon hpair hto hgap => pairTimeout_reports hon hpair hto hgap⟩

end Sys2Proof.Machine
end
